-- ==== Sys2Proof/Word.lean ====
section
/-! DEFINITION. The word types of the LZ1242: 36-bit tagged words and their 28-bit DATA (00 R7), and the bit-field reader. -/

namespace Sys2Proof

/-- DATA of a tagged word, bits [27:0]. -/
abbrev D28 := BitVec 28

/-- A tagged word: CHK in [35:28], DATA in [27:0]. -/
abbrev W36 := BitVec 36

/-- One bit per segment of a channel; bit i is local segment i. -/
abbrev Mask42 := BitVec 42

/-- One bit per channel. -/
abbrev Mask12 := BitVec 12

/-- A byte, for the byte forms that the hashes and MACs read. -/
abbrev Byte := BitVec 8

end Sys2Proof
end

