-- ==== Sys2Proof/Syntax.lean ====
section
/-! DEFINITION. The commands of the LZ1242: one constructor of `Instr` per row of spec/opcode_table.json, with what the row's event brings from outside as operands. -/

namespace Sys2Proof

/-- The two host ports (10 R272). -/
inductive Port where
  | h0 | h1
  deriving DecidableEq, Repr

/-- The two banks (02 R52). -/
inductive Bank where
  | a | b
  deriving DecidableEq, Repr

/-- How a register write reaches the register file: a WRITE frame or a COMMIT frame of a port (11 R323, R327), or DBG_ACC (14 R371). -/
inductive Access where
  | write (h : Port)
  | commit (h : Port)
  | dbg
  deriving DecidableEq, Repr

/-- The reading paths of 14 R364; RDREG in recovery mode uses the H0 path. -/
inductive Path where
  | host (h : Port)
  | dbg
  deriving DecidableEq, Repr

/-- The two-word quantities of 14 R363. -/
inductive Quantity where
  | dtime | ftime
  deriving DecidableEq, Repr

/-- The supplies with a SUP_FAIL monitor (17 R429). -/
inductive Supply where
  | vddc | vddio | vdrv
  deriving DecidableEq, Repr

/-- The monitored clock domains (13 R353). -/
inductive Domain where
  | core | time | sense | guard
  deriving DecidableEq, Repr

/-- The five clock monitors of 13 R352. -/
inductive Monitor where
  | guardCore | guardTime | guardSense | coreSense | coreGuard
  deriving DecidableEq, Repr

/-- The four keep-alives of 13 R445. -/
inductive KeepAlive where
  | permit0 | permit1 | healthGuard | healthCore
  deriving DecidableEq, Repr

/-- What the collector's 50 µs check finds (07 R211): nothing, a corrupted word or a copy mismatch, or a corrupted matrix entry of a source. -/
inductive SelfCheck where
  | ok
  | word
  | entry (source : Fin 120)
  deriving DecidableEq, Repr

/-- What the flash port sees during detection (10 R291). -/
structure FlashProbe where
  /-- The SFDP signature reads back in 1S-1S-1S. -/
  sfdp1S : Bool
  /-- The basic table declares the 1S-4S-4S fast read. -/
  quadDeclared : Bool
  /-- Bytes 0 to 63 read alike in 1S-1S-1S and in 1S-4S-4S. -/
  quadMatch : Bool
  /-- The SFDP signature reads back in 8D-8D-8D. -/
  sfdp8D : Bool
  /-- log2 of the flash size in bytes. -/
  densLog : Nat
  /-- Command code, mode clocks and dummy clocks of the 1S-4S-4S read, from the basic table. -/
  codeQuad : BitVec 8
  modeQuad : Nat
  dummyQuad : Nat
  /-- Dummy clocks of the 8D-8D-8D read from the profile 1.0 table, when it is present. -/
  dummyOctal : Option Nat
  /-- The first F_DQS edge of Read SFDP in 8D-8D-8D did not arrive within 2 µs (10 R293). -/
  dqsTimeout : Bool
  /-- Bytes that the SFDP header, the parameter headers and the two tables at their pointers take. -/
  sfdpBytes : Nat
  deriving DecidableEq, Repr

/-- The words of a reel as the flash port reads them, and the padding nibble after the last word of an image of odd length (08 R222, R228); `failed` is set when a read command does not complete after them (08 R246 step 1), and `dqsTimeout` when its first F_DQS edge did not arrive (10 R293). -/
structure ReelRead where
  words : List W36
  nibble : BitVec 4
  failed : Bool
  dqsTimeout : Bool
  deriving DecidableEq, Repr

/-- An aperture page as read: its 2,048 words, or a failed read, with or without an F_DQS timeout (10 R299). -/
inductive PageRead where
  | words (ws : List W36)
  | failed (dqsTimeout : Bool)
  deriving DecidableEq, Repr

/-- What last rites meet outside: VHOLD in mV at the start of the map program and of the log program, and whether each program reads back (15 R399, R400, R395). -/
structure RitesEnv where
  vholdMap : Nat
  vholdLog : Nat
  mapReads : Bool
  logReads : Bool
  deriving DecidableEq, Repr

/-- How a select window ends (10 R277, R279, R282, R283): at the rise of select, or with select still low because BITS has been reached. -/
structure WindowEnd where
  /-- Bits clocked in the window, those beyond BITS included. -/
  bits : Nat
  /-- The last bits received, the latest in bit 0. -/
  tail : W36
  /-- A host frame had begun and its last word had not arrived. -/
  inFrame : Bool
  /-- Host edges came within the lead time. -/
  early : Bool
  /-- Select rose before the lag time. -/
  lagShort : Bool
  /-- Select has risen. -/
  rise : Bool
  deriving DecidableEq, Repr

/-- A recovery WRREG as received (10 R285, R287): the address, `none` when an address bit is missing; the data word, `none` when the data phase is not 36 bits. -/
structure RecoveryWrite where
  addr : Option (BitVec 12)
  word : Option W36
  deriving DecidableEq, Repr

/-- What a self-test that reached its full count has found (16 R406, R407): an analogue test's value at each step, in mA for currents, mV for BSTn − OUTn, µV for the secondary path, parts per million of full scale for a converter and 1/64 K off the reference for the diode chain, with whether the comparator's trip latch set and then released; or whether a digital test's signature matched. -/
inductive TestEnd where
  | steps (values : List (Int × Bool))
  | signature (matched : Bool)
  deriving DecidableEq, Repr

/-- Secondary conversions: what the channel did before the instant (05 R121, R130). -/
structure Quiet where
  /-- No high-side edge, engagement change or refresh pulse in the 500 ns before; with ENGAGED 0, that it has been 0 for those 500 ns. -/
  ns500 : Bool
  /-- The same for 4.5 µs. -/
  ns4500 : Bool
  deriving DecidableEq, Repr

/-- What a channel's current comparator sees at an instant: the channel and its primary current in mA (02 R47, 03 R65, 06 R149). -/
structure Sensed where
  n : Fin 12
  ma : Nat
  deriving DecidableEq, Repr

/-- A word that arrives at a port and that the session engine does not take (10 R273). -/
structure Arrival where
  port : Port
  word : W36
  deriving DecidableEq, Repr

/-- A word boundary of a port's output: `sent` words have been wholly sent in the window before it (10 R281). -/
structure Boundary where
  port : Port
  sent : Nat
  deriving DecidableEq, Repr

/-- The commands. Each docstring names the row of spec/opcode_table.json and its rule. -/
inductive Instr where
  /-- DESAT_TRIP (R24); `ns` is the nanosecond within the present microsecond. -/
  | desatTrip (n : Fin 12) (seg : Fin 42) (ns : Fin 1000)
  /-- DESAT_EVENT_CLOSE (R153). -/
  | desatEventClose (n : Fin 12)
  /-- GATE_LEAK_EVAL (R40); `above` is the monitor's verdict against 20 µA. -/
  | gateLeakEval (n : Fin 12) (seg : Fin 42) (above : Bool)
  /-- CH_RETIRE (R58): a committed CHn_RETIRE. -/
  | chRetire (h : Port) (n : Fin 12) (data : D28)
  /-- BST_READY (R29). -/
  | bstReady (n : Fin 12)
  /-- BSTWAIT_TIMEOUT (R29). -/
  | bstwaitTimeout (n : Fin 12)
  /-- STUCK_DETECT (R48). -/
  | stuckDetect (n : Fin 12)
  /-- VBAT_DIP (R53). -/
  | vbatDip (x : Bank)
  /-- VBAT_RETURN (R53). -/
  | vbatReturn (x : Bank)
  /-- FW_ZERO_CURRENT (R33). -/
  | fwZeroCurrent (n : Fin 12)
  /-- CTL_ON (R60). -/
  | ctlOn (a : Access) (n : Fin 12)
  /-- CTL_OFF (R60). -/
  | ctlOff (a : Access) (n : Fin 12)
  /-- BRCMD_WRITE (R85). -/
  | brcmdWrite (a : Access) (n : Fin 12) (cmd : BitVec 2)
  /-- LADDER_CHOP (R65). -/
  | ladderChop (c : Sensed)
  /-- OFFT_EXPIRY (R65). -/
  | offtExpiry (n : Fin 12)
  /-- ROTATION_TICK (R67). -/
  | rotationTick (n : Fin 12)
  /-- STEP_DWELL_END (R66). -/
  | stepDwellEnd (n : Fin 12)
  /-- STEP_EARLY_END (R66). -/
  | stepEarlyEnd (n : Fin 12)
  /-- REFRESH_PULSE (R81). -/
  | refreshPulse (n : Fin 12)
  /-- REFRESH_RECHECK (R82); `below` compares the supply with BST_LOW. -/
  | refreshRecheck (n : Fin 12) (below : Bool)
  /-- BST_UV_TURNOFF (R83). -/
  | bstUvTurnoff (n : Fin 12)
  /-- PERIOD_BOUNDARY (R92); `below` has bit n set when CHn's zero-current comparator reads below 0.2 A at the instant (R74), `near` has bit u set when a clapper reached timer u less than 4 TIME ticks before (R101). -/
  | periodBoundary (t : Fin 20) (below : Mask12) (near : BitVec 20 := 0)
  /-- REQUEST_FALL (R93); for the LIMP timer `chs` names the channels whose on-time ends now. -/
  | requestFall (t : Fin 20) (chs : Mask12)
  /-- DEAD_TIME_EXPIRY (R93). -/
  | deadTimeExpiry (n : Fin 12)
  /-- CLAPPER (R100). -/
  | clapper (a : Access) (mask : BitVec 20)
  /-- CLAP_UNR (R100). -/
  | clapUnr (a : Access)
  /-- TMR_PER_WRITE (R89). -/
  | tmrPerWrite (a : Access) (t : Fin 20) (data : D28)
  /-- TMR_EDGE_WRITE (R96). -/
  | tmrEdgeWrite (a : Access) (t : Fin 20) (data : D28)
  /-- SYNC_EDGE (R106): `interval` since the previous counted edge and `offset` e from the nearest boundary, in TIME ticks. -/
  | syncEdge (interval : Nat) (offset : Int)
  /-- SYNC_HOLDOVER (R106). -/
  | syncHoldover
  /-- MICROSECOND_TICK (R88). -/
  | microsecondTick
  /-- DEBUG_HALT (R112). -/
  | debugHalt
  /-- LOW_WORD_READ (R364). -/
  | lowWordRead (p : Path) (q : Quantity)
  /-- HIGH_WORD_READ (R364). -/
  | highWordRead (p : Path) (q : Quantity)
  /-- IPRI_CONVERSION (R118); `raw` is the window's mean before calibration, in mA; here and below, `diff` is how the check of the sample word that arrives differs from the one formed, 0 for an intact word (R134, R135). -/
  | ipriConversion (n : Fin 12) (raw : Int) (diff : BitVec 8 := 0)
  /-- SAR_CONVERSION (R123): `bankB` chooses SAR1; `raw` is Vds in 125 µV for ISEC, mV for VBAT and VOUT, 0.1 mV for VBST. -/
  | sarConversion (bankB : Bool) (slot : Fin 50) (raw : Int) (quiet : Quiet) (diff : BitVec 8 := 0)
  /-- DIODE_SLOT (R124); `raw` is the reading before trim in 1/64 K. -/
  | diodeSlot (j : Fin 518) (raw : Int) (diff : BitVec 8 := 0)
  /-- TRIG_CONVERSION (R125). -/
  | trigConversion (m : Fin 8) (raw : Int) (quiet : Quiet) (diff : BitVec 8 := 0)
  /-- MEAS_ZERO (R128): a committed MEAS_ZERO. -/
  | measZero (h : Port) (data : D28)
  /-- ZERO_WAIT_MET (R128). -/
  | zeroWaitMet (n : Fin 12)
  /-- ZERO_DONE (R128). -/
  | zeroDone (n : Fin 12)
  /-- ZERO_TIMEOUT (R128). -/
  | zeroTimeout (n : Fin 12)
  /-- MEAS_CALSEL (R129). -/
  | measCalsel (a : Access) (data : D28)
  /-- SNAPSHOT (R136); `seg` is GROUP 1. -/
  | snapshot (a : Access) (seg : Bool)
  /-- SNAPSHOT_RELEASE (R137). -/
  | snapshotRelease (a : Access)
  /-- SNAPSHOT_EXPIRY (R137). -/
  | snapshotExpiry (h : Port)
  /-- FRESH_COMMIT (R138). -/
  | freshCommit (h : Port) (k : Fin 8) (data : D28)
  /-- I2T_UPDATE (R144). -/
  | i2tUpdate (n : Fin 12)
  /-- CYCLE_LIMIT_CUT (R146). -/
  | cycleLimitCut (c : Sensed)
  /-- CHOP_RESTART (R147). -/
  | chopRestart (n : Fin 12)
  /-- CUT_MS_BOUNDARY (R148). -/
  | cutMsBoundary
  /-- SC_TRIP (R149); `ns` is the nanosecond within the present microsecond. -/
  | scTrip (c : Sensed) (ns : Fin 1000)
  /-- BLANK_WINDOW_CLOSE (R149); `ma` is the primary current at the close, in mA. -/
  | blankWindowClose (n : Fin 12) (ma : Nat) (ns : Fin 1000)
  /-- BLANK_CAP_EXPIRY (R150). -/
  | blankCapExpiry (n : Fin 12)
  /-- HS_TRIP (R151). -/
  | hsTrip (n : Fin 12) (ns : Fin 1000)
  /-- RETRY_WAIT_EXPIRY (R161). -/
  | retryWaitExpiry (n : Fin 12)
  /-- PROBE_RECOVERY (R165). -/
  | probeRecovery (n : Fin 12)
  /-- TRYCNT_CLEAR (R164). -/
  | trycntClear (n : Fin 12)
  /-- CUT_EXPIRY (R190). -/
  | cutExpiry (n : Fin 12)
  /-- TRIP_ASSERT (R167). -/
  | tripAssert (j : Fin 8)
  /-- TRIP_RELEASE (R166). -/
  | tripRelease (j : Fin 8)
  /-- LH_ASSERT (R169). -/
  | lhAssert
  /-- LH_RELEASE (R169). -/
  | lhRelease
  /-- LH_DISAGREE (R169). -/
  | lhDisagree
  /-- LIMP_EXIT (R174): a committed BANK_LIMPEXIT. -/
  | limpExit (h : Port) (data : D28)
  /-- ILIM_WRITE (R176). -/
  | ilimWrite (a : Access) (n : Fin 12) (data : D28)
  /-- SCTH_COMMIT (R177). -/
  | scthCommit (h : Port) (n : Fin 12) (data : D28)
  /-- I2T_COMMIT (R178). -/
  | i2tCommit (h : Port) (n : Fin 12) (data : D28)
  /-- SILLAGE_CLOSE (R205): the oldest window ends. -/
  | sillageClose
  /-- DRYDOWN_EXPIRY (R206). -/
  | drydownExpiry (src : Fin 120)
  /-- FLT_ACK (R208). -/
  | fltAck (h : Port) (data : D28)
  /-- INJ_UNLOCK (R214). -/
  | injUnlock (h : Port) (data : D28)
  /-- INJ_TIMEOUT (R214). -/
  | injTimeout
  /-- FLT_FORCE (R215). -/
  | fltForce (h : Port) (w : Fin 5) (data : D28)
  /-- COLLECTOR_SELF_CHECK (R211). -/
  | collectorSelfCheck (found : SelfCheck)
  /-- FIRST_PERMIT (R384). -/
  | firstPermit
  /-- RESET_RELEASE (R380). -/
  | resetRelease
  /-- POWER_ON_RESET (R381). -/
  | powerOnReset
  /-- RST_N_FALL (R381). -/
  | rstNFall (env : RitesEnv)
  /-- SUP_FAIL (R429). -/
  | supFail (sup : Supply) (env : RitesEnv)
  /-- PLL_LOCK (R343); `rbgOk` tells whether the generator's health tests pass (R260). -/
  | pllLock (rbgOk : Bool)
  /-- RBG_RETRY (R260). -/
  | rbgRetry (rbgOk : Bool)
  /-- PLL_LOCK_LOSS (R343). -/
  | pllLockLoss
  /-- PLL_LOCK_TIMEOUT (R343). -/
  | pllLockTimeout
  /-- SENSE_MONITOR_ARM (R354). -/
  | senseMonitorArm
  /-- CLOCK_MONITOR_WINDOW (R352). -/
  | clockMonitorWindow (m : Monitor) (count : Nat)
  /-- CLOCK_STOP_DETECT (R353); `late`: GUARD has had no microsecond strobe for 2 µs when it finds TIME stopped (R189). -/
  | clockStopDetect (d : Domain) (late : Bool := false)
  /-- HEARTBEAT_LOSS (R345). -/
  | heartbeatLoss
  /-- HEARTBEAT_RESTORE (R345). -/
  | heartbeatRestore
  /-- KEEPALIVE_LOSS (R445). -/
  | keepaliveLoss (k : KeepAlive)
  /-- FLASH_DETECT (R291). -/
  | flashDetect (f : FlashProbe)
  /-- REEL_LOAD_DONE (R246): the reel being tried, as read. -/
  | reelLoadDone (r : ReelRead)
  /-- START_CHARGE_END (R387). -/
  | startChargeEnd
  /-- CHARGE_TIMEOUT (R387). -/
  | chargeTimeout
  /-- FLACON_TEST_COMPLETE (R388): the sums of the two sets of 16 conversions, in converter codes of 2.5 mV. -/
  | flaconTestComplete (sum1 sum2 : Nat)
  /-- VHOLD_CONVERSION (R389): the code, LSB 2.5 mV. -/
  | vholdConversion (code : Nat)
  /-- PROGRAM_RETRY (R391). -/
  | programRetry
  /-- PAGE_PROGRAM_DONE (R395). -/
  | pageProgramDone (reads : Bool) (env : RitesEnv)
  /-- LOG_PROGRAM_DUE (R394). -/
  | logProgramDue
  /-- LOG_FETCH (R403). -/
  | logFetch (a : Access) (data : D28)
  /-- LOG_FETCH_DONE (R403). -/
  | logFetchDone
  /-- PROVISION (R255): a write of TRUST_PROV, with reel A as read. -/
  | provision (key : D28) (r : ReelRead)
  /-- PROVISION_DONE (R255). -/
  | provisionDone
  /-- ARB_ADVANCE (R257). -/
  | arbAdvance (h : Port) (data : D28)
  /-- FPAGE_SELECT (R296). -/
  | fpageSelect (a : Access) (data : D28)
  /-- APERTURE_VERIFY_DONE (R268). -/
  | apertureVerifyDone (p : PageRead)
  /-- PORT_LEN_COMMIT (R279): a commit from port `h` of PORT_HpLEN. -/
  | portLenCommit (h : Port) (p : Port) (data : D28)
  /-- EXTEST (R269): the levels on the pins at Capture-DR and the bits that enter at TDI, oldest first; no bit means no scan of the data register. -/
  | extest (pins : List Bool := []) (bits : List Bool := [])
  /-- SAMPLE_PRELOAD (R269), with the operands of EXTEST. -/
  | samplePreload (pins : List Bool := []) (bits : List Bool := [])
  /-- BYPASS (R269): its own opcode, or one of the others, which act as BYPASS, and the bits that enter at TDI. -/
  | bypass (opcode : BitVec 8 := 0xFF) (bits : List Bool := [])
  /-- DBG_CHAL (R269). -/
  | dbgChal
  /-- DBG_TOKEN (R270). -/
  | dbgToken (ws : List W36)
  /-- DBG_ACC (R372). -/
  | dbgAcc (w0 w1 : W36)
  /-- TRST_ASSERT (R270). -/
  | trstAssert
  /-- SELECT_FALL (R277); `gapKept` tells that the gap time had elapsed. -/
  | selectFall (h : Port) (gapKept : Bool)
  /-- SELECT_RISE (R282). -/
  | selectRise (h : Port) (w : WindowEnd)
  /-- RX_OVERRUN (R273). -/
  | rxOverrun (a : Arrival)
  /-- TX_UNDERRUN (R281). -/
  | txUnderrun (b : Boundary)
  /-- RDREG (R286): the start address and the number of words clocked out. -/
  | rdreg (addr : BitVec 12) (count : Nat)
  /-- WRREG (R287); the reel serves a write of TRUST_PROV. -/
  | wrreg (w : RecoveryWrite) (r : ReelRead)
  /-- RDSTAT (R287). -/
  | rdstat
  /-- RECOVERY_OTHER_COMMAND (R285). -/
  | recoveryOtherCommand (cmd : BitVec 8)
  /-- HELLO (R263): a frame's words as received. -/
  | hello (h : Port) (ws : List W36)
  /-- KEY (R264). -/
  | key (h : Port) (ws : List W36)
  /-- KEY_COMPLETE (R316). -/
  | keyComplete (h : Port)
  /-- EXCHANGE_TIMEOUT (R315). -/
  | exchangeTimeout (h : Port)
  /-- OLD_KEY_WINDOW_END (R316). -/
  | oldKeyWindowEnd (h : Port)
  /-- READ (R322). -/
  | read (h : Port) (ws : List W36)
  /-- WRITE (R323). -/
  | write (h : Port) (ws : List W36)
  /-- ARM (R326). -/
  | arm (h : Port) (ws : List W36)
  /-- COMMIT (R327). -/
  | commit (h : Port) (ws : List W36)
  /-- ARM_EXPIRY (R328). -/
  | armExpiry (h : Port) (tag : Fin 24)
  /-- RETIRE (R321). -/
  | retire (h : Port) (ws : List W36)
  /-- LEASE (R329). -/
  | lease (h : Port) (ws : List W36)
  /-- LEASE_EXPIRY (R330). -/
  | leaseExpiry (h : Port)
  /-- GIVE (R331). -/
  | give (h : Port) (ws : List W36)
  /-- TAKE (R331). -/
  | take (h : Port) (ws : List W36)
  /-- REQUEST (R331). -/
  | request (h : Port) (ws : List W36)
  /-- REFUSE (R331). -/
  | refuse (h : Port) (ws : List W36)
  /-- HANDOVER_LAPSE (R331). -/
  | handoverLapse
  /-- EVENT_SEND (R334): event tag 24 + i. -/
  | eventSend (h : Port) (i : Fin 6)
  /-- EVENT_RESEND (R334). -/
  | eventResend (h : Port) (i : Fin 6)
  /-- BIST_STARTUP (R421). -/
  | bistStartup (a : Access)
  /-- BIST_ABORT (R421). -/
  | bistAbort (a : Access)
  /-- BIST_RUN (R421). -/
  | bistRun (a : Access) (test : Fin 32)
  /-- BIST_TEST_START (R414). -/
  | bistTestStart (test : Fin 32)
  /-- BIST_TEST_DONE (R407). -/
  | bistTestDone (test : Fin 32) (r : TestEnd)
  /-- BIST_TEST_TIMEOUT (R407). -/
  | bistTestTimeout (test : Fin 32)
  /-- REGISTER_WRITE (R366). -/
  | registerWrite (a : Access) (addr : BitVec 12) (data : D28)
  /-- REFRESH_PULSE_END (R81). -/
  | refreshPulseEnd (n : Fin 12)
  /-- REFRESH_SPACING_EXPIRY (R82). -/
  | refreshSpacingExpiry (n : Fin 12)
  /-- DEBUG_HALT_RELEASE (R113). -/
  | debugHaltRelease
  /-- BST_UV_RECOVERY (R183). -/
  | bstUvRecovery (n : Fin 12)
  /-- LH_LINE_EDGE (R169): the sampled levels after the change. -/
  | lhLineEdge (lh0 lh1 : Bool)
  /-- HOST_EVENT_FRAME (R302). -/
  | hostEventFrame (h : Port) (ws : List W36)
  /-- ARB_FUSES_DONE (R257). -/
  | arbFusesDone
  deriving DecidableEq, Repr

end Sys2Proof
end

