-- ==== Sys2Proof/Decode.lean ====
section
/-! DEFINITION. Words that spell a command. No row of spec/opcode_table.json gives bits, so no word spells one; frames and register words are decoded where the device reads them (Machine/Session.lean, Machine/Registers.lean). -/

namespace Sys2Proof

/-- The command that a word of the table spells: none, since the table gives no row any bits. -/
def decodeTableWord (_nbits _w : Nat) : Option Instr := none

end Sys2Proof
end

