-- ==== Sys2Proof/Config.lean ====
section
/-! DEFINITION. What the spec leaves to the part: free values, constants with no body, so that no proof can rest on their values. -/

namespace Sys2Proof.Config

/-- FREE VALUE (log 10). The words the random-bit generator of R260 and the nonces of R263 draw, by count of draws. -/
opaque random : Nat → BitVec 384

/-- FREE VALUE (log 7). Which neighbour a converted value exactly half-way between two codes takes; the spec states no rule for it (05 R117). -/
opaque tieUp : Nat → Bool

end Sys2Proof.Config
end

