-- ==== Sys2Proof/Machine/Words.lean ====
section
/-! DEFINITION. Tagged words: bit fields, the CHK of 00 R7, the classes of 00 R11, and the byte form of 08 R222. -/

namespace Sys2Proof.Machine

/-- Bits [hi:lo] of a DATA field as a number. -/
def fld (d : D28) (hi lo : Nat) : Nat := d.toNat / 2 ^ lo % 2 ^ (hi + 1 - lo)

/-- Bit [i] of a DATA field. -/
def bitAt (d : D28) (i : Nat) : Bool := d.toNat.testBit i

/-- A DATA field from a number, modulo 2^28. -/
def d28 (x : Nat) : D28 := BitVec.ofNat 28 x

/-- A flag as the value of one bit. -/
def b2n (b : Bool) : Nat := if b then 1 else 0

/-- The value `x` placed at bit `lo`. -/
def at_ (lo x : Nat) : Nat := x * 2 ^ lo

/-- Saturation at a maximum. -/
def sat (m x : Nat) : Nat := min m x

/-- One bit of the CRC-8 of 00 R7. -/
def crcStep (crc : Nat) (b : Bool) : Nat :=
  let fb := xor (crc.testBit 7) b
  let sh := crc * 2 % 256
  if fb then sh ^^^ 0x2F else sh

/-- The CRC register after the low `k` bits of `x`, most significant first. -/
def crcBits : Nat → Nat → Nat → Nat
  | 0, _, crc => crc
  | k + 1, x, crc => crcBits k x (crcStep crc (x.testBit k))

/-- CHK over a 12-bit address or position and DATA (00 R7, R8). -/
def chk (addr : Nat) (d : D28) : Nat := crcBits 40 (addr % 4096 * 2 ^ 28 + d.toNat) 0xFF

/-- A data word at an address (00 R11). -/
def dataWord (addr : Nat) (d : D28) : W36 := BitVec.ofNat 36 (chk addr d * 2 ^ 28 + d.toNat)

/-- A void word at an address with a reason code (00 R10). -/
def voidWord (addr : Nat) (reason : BitVec 8) : W36 :=
  let d := d28 reason.toNat
  BitVec.ofNat 36 ((chk addr d ^^^ 0xA5) * 2 ^ 28 + d.toNat)

/-- DATA of a tagged word. -/
def wData (w : W36) : D28 := d28 w.toNat

/-- CHK of a tagged word. -/
def wChk (w : W36) : Nat := w.toNat / 2 ^ 28

/-- The word is data at the address (00 R11). -/
def isData (addr : Nat) (w : W36) : Bool := wChk w == chk addr (wData w)

/-- The word is void at the address: the inverted check, DATA[27:8] zero, and a reason that is not reserved (00 R10, R11). -/
def isVoid (addr : Nat) (w : W36) : Bool :=
  wChk w == chk addr (wData w) ^^^ 0xA5 && decide (1 ≤ (wData w).toNat) && decide ((wData w).toNat ≤ 9)

/-- Reason and status codes (00 R10, 11 R324). -/
def sOk : BitVec 8 := 0x00
def sNoReg : BitVec 8 := 0x01
def sStale : BitVec 8 := 0x02
def sDenied : BitVec 8 := 0x03
def sBusy : BitVec 8 := 0x04
def sIdle : BitVec 8 := 0x05
def sCtxFull : BitVec 8 := 0x06
def sTagBusy : BitVec 8 := 0x07
def sDeferred : BitVec 8 := 0x08
def sFormat : BitVec 8 := 0x09

/-- The `k` bytes of a number, most significant first. -/
def bytesBE (k x : Nat) : List Byte := (List.range k).map fun i => BitVec.ofNat 8 (x / 256 ^ (k - 1 - i))

/-- The number that bytes spell, most significant first. -/
def ofBytesBE (bs : List Byte) : Nat := bs.foldl (fun a b => a * 256 + b.toNat) 0

/-- The byte form of a run of words (08 R222): two words fill nine bytes, an odd last word is padded with a zero nibble. -/
def pack : List W36 → List Byte
  | a :: b :: r => bytesBE 9 (a.toNat * 2 ^ 36 + b.toNat) ++ pack r
  | [a] => bytesBE 5 (a.toNat * 16)
  | [] => []

/-- 28-bit DATA fields joined, most significant first, with 4 zero bits after an odd number of them (09 R261, R264). -/
def packData : List D28 → List Byte
  | a :: b :: r => bytesBE 7 (a.toNat * 2 ^ 28 + b.toNat) ++ packData r
  | [a] => bytesBE 4 (a.toNat * 16)
  | [] => []

/-- The 14 DATA fields of a 384-bit value (08 R225). -/
def split384 (x : Nat) : List D28 := (List.range 14).map fun i => d28 (x * 256 / 2 ^ (28 * (13 - i)))

/-- The value of 14 DATA fields (08 R225). -/
def join384 (ds : List D28) : Nat := ds.foldl (fun a d => a * 2 ^ 28 + d.toNat) 0 / 256

/-- The padding of a 14-word group is zero (08 R225). -/
def pad384 (ds : List D28) : Bool := ds.length == 14 && fld (ds.getD 13 0) 7 0 == 0

/-- The `i`-th group of 14 words after the first `from_` words. -/
def group14 (ds : List D28) (from_ i : Nat) : List D28 := (ds.drop (from_ + 14 * i)).take 14

end Sys2Proof.Machine
end

