-- ==== Sys2Proof/Machine/State.lean ====
section
/-! DEFINITION. The state of the LZ1242 as plain data, its value right after reset, and the reasons a step can stop. -/

namespace Sys2Proof.Machine

/-- Reasons for a fault. No rule of the spec stops the machine, so no meaning raises one; the type has one constructor and stays for the host's interface. -/
inductive Fault where
  /-- Raised by nobody: the spec gives every command an effect. Safe. -/
  | none
  deriving DecidableEq, Repr

/-- Reasons for a refusal. -/
inductive Refusal where
  /-- Raised by `exec`'s arms for a command that has no meaning yet. Safe. -/
  | notModelled (mnemonic : String)
  deriving DecidableEq, Repr

/-- A pair of like things, one per host port. -/
structure Two (α : Type) where
  h0 : α
  h1 : α
  deriving DecidableEq, Repr

/-- Start-up phases (14 R376). -/
inductive Phase where
  | reset | clocks | otp | flash | load | apply | arming | service | nostruct
  deriving DecidableEq, Repr

/-- A sample word of a result register: VALUE, QUAL and the full device time of the conversion instant (05 R116, R133), and how its check differs from the one formed over its DATA; 0 for a word that arrived intact (05 R134, R135). -/
structure Sample where
  value : BitVec 16
  qual : BitVec 2
  tc : Nat
  diff : BitVec 8
  deriving DecidableEq, Repr

/-- What drives a switching unit's high sides (03 R59). -/
inductive Drive where
  /-- Commanded off. -/
  | off
  /-- A turn-on held pending since the given microsecond (02 R29). -/
  | waiting (since : Nat)
  /-- A turn-on was cancelled or refused; off until a new turn-on (02 R29, R45). -/
  | barred
  /-- A ladder that starts at the next period start of timer `t` (06 R172). -/
  | ladderAt (t : Nat)
  /-- An inrush ladder runs (03 R63). -/
  | ladder
  /-- On without a timer. -/
  | steady
  /-- Follows timer `t`. -/
  | timed (t : Nat)
  deriving DecidableEq, Repr

/-- What a unit is asked to do by the governing row of 06 R158. -/
inductive Want where
  | off
  | on
  | timed (t : Nat)
  deriving DecidableEq, Repr

/-- Freewheel stage of a channel (02 R31, R33). -/
inductive Freewheel where
  | off
  /-- Driven on. -/
  | on
  /-- Diode emulation: on until the zero-current comparator trips. -/
  | diode
  deriving DecidableEq, Repr

/-- What waits for the end of a dead time (04 R93); `toLow` waits for the instant one dead time before a chop's turn-on, at which the freewheel stage goes off (03 R65). -/
inductive DeadTime where
  | none | toHigh | toFreewheel | toLow
  deriving DecidableEq, Repr

/-- The output decided for a period (04 R94). -/
inductive Pulse where
  | off | hold | pulse
  deriving DecidableEq, Repr

/-- Bridge states (03 R72). -/
inductive Bridge where
  | coast | fwd | rev | brake
  deriving DecidableEq, Repr

/-- Retry classes (06 R160). -/
inductive RetryClass where
  | ovl | sc | hs | bst | inrush
  deriving DecidableEq, Repr

/-- Retry states (06 R161). -/
inductive RetryState where
  | armed | wait | probe | lockout | safe
  deriving DecidableEq, Repr

/-- A segment's retirement monitors (02 R40): run of leakage evaluations, run of hot sweeps, times of solo desaturation events, and device time of the latest leakage evaluation. -/
structure SegMon where
  leak : Nat
  warm : Nat
  solo : List Nat
  evalAt : Option Nat
  deriving DecidableEq, Repr

/-- A desaturation event in progress (06 R152): instant of the first trip in ns, segments engaged at it, segments tripped, and whether it was classed a channel event. -/
structure DesatEvent where
  first : Nat
  engaged : Mask42
  trips : Mask42
  channel : Bool
  deriving DecidableEq, Repr

/-- A unit's running or latest ladder (03 R63 to R70), kept in the leader. -/
structure Ladder where
  /-- Step running, 1 to 8; 0 when none runs. -/
  step : Nat
  /-- Chops in the running or latest step. -/
  chops : Nat
  /-- Microseconds since the ladder began. -/
  ladUs : Nat
  /-- DWELL count of the step, in microseconds. -/
  stepUs : Nat
  /-- Microseconds since the step's latest rotation instant. -/
  rotUs : Nat
  /-- Device time at which the step began. -/
  stepAt : Nat
  /-- Device time of the latest chop's turn-off command. -/
  lastChop : Option Nat
  /-- A chop off-time runs. -/
  inOff : Bool
  /-- OFFT of the chop whose off-time runs, in units of 0.5 µs. -/
  offt : Nat
  /-- LADRES. -/
  res : BitVec 2
  deriving DecidableEq, Repr

/-- A channel's retry machine (06 R161). -/
structure Retry where
  state : RetryState
  /-- Class and cause of the latest retry. -/
  cls : Option RetryClass
  cause : BitVec 3
  /-- TRYCNT of OVL, SC, HS, BST, INRUSH. -/
  tryOvl : Nat
  trySc : Nat
  tryHs : Nat
  tryBst : Nat
  tryInrush : Nat
  /-- Device time at which the wait timer started. -/
  since : Nat
  /-- Source that started the retry. -/
  src : Nat
  /-- Sources the machine has taken up. -/
  taken : List Nat
  /-- Microseconds commanded on in PROBE. -/
  probeUs : Nat
  /-- Microseconds of on-time with no source. -/
  onUs : Nat
  deriving DecidableEq, Repr

/-- CHn_PROT's cause bits (06 R179), in register order from I2T up, and OTW. -/
structure Prot where
  bits : BitVec 9
  clact : Bool
  otwNow : Bool
  deriving DecidableEq, Repr

/-- Re-zero of the primary path (05 R128). -/
inductive Rezero where
  | idle
  /-- Waiting for 1 ms off: since when it waits. -/
  | wait (since : Nat)
  /-- Averaging: samples taken, their sum in 10 mA, and whether the channel has conducted. -/
  | average (count : Nat) (sum : Int) (conducted : Bool)
  deriving DecidableEq, Repr

/-- One channel: power stage, mode, protection and measurement state. -/
structure Chan where
  /-- TOPO word of the applied image (08 R230). -/
  topo : D28
  /-- On-request (03 R60). -/
  onReq : Bool
  /-- CHn_CTL.BRCMD: in force, shadow, commit latch. -/
  brcmd : BitVec 2
  brcmdSh : BitVec 2
  brcmdLatch : Option (BitVec 2)
  /-- CHn_ILIM: in force, shadow, commit latch. -/
  ilim : D28
  ilimSh : D28
  ilimLatch : Option D28
  scth : D28
  /-- CHn_I2T, and the value that its latest update took (06 R178). -/
  i2t : D28
  i2tUse : D28
  pcfg : D28
  rpolA : D28
  rpolB : D28
  rpolC : D28
  /-- LIMP word (08 R237). -/
  limp : D28
  /-- High-side segments commanded on now. -/
  hs : Mask42
  /-- The segments that are on, by the device time at which they turned on (02 R40). -/
  lit : List (Mask42 × Nat)
  /-- GUARD's time since which every high side has been off; none while one is on (02 R48). -/
  darkAt : Option Nat
  /-- Segments whose desaturation comparator tripped in the present on-interval (02 R23). -/
  tripped : Mask42
  fw : Freewheel
  /-- The stage current has fallen below 0.2 A since the latest high-side turn-off. -/
  zeroI : Bool
  /-- Trip latches (06 R142). -/
  scLatch : Bool
  hsLatch : Bool
  dsLatch : Bool
  /-- Nanosecond time of the latest setting of SC or HS, for the bus fault (06 R154). -/
  latchAt : Option Nat
  /-- Held off at BST_UV (03 R83). -/
  uvHold : Bool
  /-- Gate supply below BST_LOW, below BST_UV (02 R27). -/
  bstLow : Bool
  bstUv : Bool
  desat : Option DesatEvent
  /-- Enable latches: retired segments. -/
  retired : Mask42
  retPend : Bool
  /-- Candidate: local index and CANDWHY (02 R42). -/
  cand : Option (Nat × BitVec 2)
  stuck : Bool
  segs : List SegMon
  /-- The present sweep of the channel qualifies for the temperature criterion so far (02 R40). -/
  sweepOk : Bool
  /-- Unit state, kept in the leader. -/
  drive : Drive
  want : Want
  /-- The want came from the limp-home map. -/
  byLimp : Bool
  /-- A pending turn-on of the unit has been cancelled after 20 ms: it stays off until a new turn-on of 02 R29. -/
  cancelled : Bool
  /-- The channel is half of a bridge and a hold of rank 3 keeps it off (06 R158). -/
  half : Bool
  pulse : Pulse
  dt : DeadTime
  /-- Off for a static chop (06 R147), a CUT reaction of 20 µs, or the rest of the period (06 R146, 07 R190). -/
  chopOff : Bool
  cutOff : Bool
  cutPeriod : Bool
  /-- Device time of the latest static chop or CUT of 20 µs. -/
  chopAt : Nat
  /-- Refresh pulse under way; one due at the next period start; device time of the latest start; COUNT. -/
  refreshing : Bool
  refreshDue : Bool
  refreshAt : Option Nat
  refreshes : Nat
  bridge : Bridge
  /-- Direction a reversal waits for (03 R74). -/
  revTo : Option Bridge
  lad : Ladder
  /-- Chop threshold loaded in the channel's comparator for the running ladder step, in 0.25 A (03 R65, R68). -/
  limit : Nat
  /-- The ladder of the present limp-home has ended with its check passed (06 R172). -/
  limpLad : Bool
  /-- The exit from limp-home left the unit on with its on-request clear: it stays as the map had it until its routed timer's next period start (06 R174). -/
  lingers : Bool
  /-- Position in the rotation order of the engaged set's first entry (03 R67). -/
  ring : Nat
  /-- INRUSH is present (07 R182). -/
  inrush : Bool
  /-- Blanking window open; the power die ignores the mask (04 R109, 06 R150). -/
  blank : Bool
  blankCap : Bool
  retry : Retry
  prot : Prot
  clcuts : Nat
  dssolo : Nat
  /-- A cut, a ladder chop, fell in the present millisecond; run of cut milliseconds (06 R148). -/
  cutMs : Bool
  chopMs : Bool
  cutRun : Nat
  /-- I²t model e in A², exact (06 R144), and device time of its latest update. -/
  e : Rat
  eAt : Nat
  /-- e stood at or above the trip level at the latest update. -/
  atTrip : Bool
  /-- Latest intact IPRI values in 10 mA with QUAL, newest first, at most 16 (05 R119, R134). -/
  ipris : List (Int × BitVec 2)
  /-- Values of the ten latest samples in the I²t mean, newest first, in 10 mA: IPRI, or the latest ISEC in place of a sample whose check fails (06 R144). -/
  squares : List Int
  /-- Consecutive failed comparisons (05 R131). -/
  xRun : Nat
  suspect : Bool
  /-- Device time of the latest comparison (05 R130). -/
  comparedAt : Option Nat
  /-- Run of freewheel readings at 175 °C or more. -/
  fwHot : Nat
  rezero : Rezero
  /-- Device time since which no gate of the channel has been on (05 R128). -/
  offAt : Option Nat
  zfail : Bool
  /-- PRI_TRIM, mA. -/
  trim : Int
  deriving DecidableEq, Repr

/-- One timer (04). -/
structure Timer where
  cfg : D28
  per : D28
  duty : D28
  phase : D28
  perSh : D28
  dutySh : D28
  phaseSh : D28
  /-- Commit latch: PER, DUTY, PHASE. -/
  latch : Option (D28 × D28 × D28)
  edge : D28
  run : Bool
  /-- The timer has not begun its first period since it started. -/
  fresh : Bool
  claprepl : Bool
  loadReject : Bool
  frozen : Bool
  dith : Nat
  holds : Nat
  skips : Nat
  /-- TIME ticks into the present period, at microsecond resolution. -/
  pos : Nat
  /-- A group member has had its period of the present group period, or started past its phase point (04 R98, R105). -/
  begun : Bool
  /-- Trigger B of the present period has been emitted (04 R110). -/
  trigB : Bool
  /-- Device time at which the latest clapper reached the timer (04 R101). -/
  latchAt : Nat
  deriving DecidableEq, Repr

/-- SYNC_IN tracking (04 R106). -/
inductive SyncState where
  | acquire | track | holdover
  deriving DecidableEq, Repr

/-- Timebase words. -/
structure TBase where
  groups : List D28
  routes : List D28
  syncOut : D28
  sync : SyncState
  lock : Bool
  lost : Bool
  rej : Nat
  /-- Period in force and period taken at the next boundary, in ticks. -/
  syncPer : Nat
  syncNext : Option Nat
  /-- P of 04 R106's table from P := I until the next boundary brings it into force. -/
  syncP : Option Nat
  /-- Consecutive counted edges with |e| ≤ 4. -/
  good : Nat
  /-- Device time of the latest counted edge. -/
  edgeAt : Option Nat
  /-- Microseconds of tracking since that edge; a freeze stops them (04 R112). -/
  edgeUs : Nat
  /-- SYNC_OUT pulses emitted. -/
  pulses : Nat
  frozen : Bool
  /-- Device time of the millisecond boundary judged last (06 R148). -/
  msAt : Nat
  deriving DecidableEq, Repr

/-- Records of the collector (07 R206). -/
inductive RecState where
  | clear | held | lifted
  | drying (until_ : Nat)
  deriving DecidableEq, Repr

/-- A source's record: state, reaction last applied and its PERM, and whether it is retry-held. -/
structure Record where
  state : RecState
  react : BitVec 3
  perm : Bool
  retryHeld : Bool
  deriving DecidableEq, Repr

/-- A hold in force (07 R193): its source, the channel whose retry machine runs it, the channels it holds off, the LIMP and PERM parts. -/
structure Hold where
  src : Nat
  owner : Nat
  scope : Mask12
  limp : Bool
  perm : Bool
  retryHeld : Bool
  deriving DecidableEq, Repr

/-- An event that reaches the collector: source, cause, FORCED, and for BST_UV the channels concerned (07 R186). -/
structure Ev where
  src : Nat
  cause : BitVec 3
  forced : Bool
  chs : Mask12
  deriving DecidableEq, Repr

/-- A sillage window (07 R202): kind 0 to 5, channels in scope, close time, the latest consequential event of each source seen in it. -/
structure Window where
  kind : Nat
  scope : Mask12
  closeAt : Nat
  seen : List Ev
  deriving DecidableEq, Repr

/-- First-fault latch (07 R188). -/
structure First where
  valid : Bool
  ovf : Bool
  forced : Bool
  tsusp : Bool
  cls : BitVec 2
  cause : BitVec 3
  react : BitVec 3
  src : Nat
  time : Nat
  deriving DecidableEq, Repr

/-- The fault collector (07). -/
structure Flt where
  safe : Bool
  health : Bool
  inj : Bool
  /-- Unlocking port and time. -/
  injBy : Option (Port × Nat)
  fsrc : Nat
  ovfcnt : Nat
  first : First
  recovSrc : Nat
  recov : Nat
  cfg : D28
  safefw : D28
  sticky : BitVec 120
  conseq : BitVec 120
  force : BitVec 120
  /-- Sources present from their event until the next start. -/
  lasting : BitVec 120
  /-- The PRESENT bits as GUARD's last words left their mirror, once GUARD has stopped (14 R356, log 172). -/
  presHeld : BitVec 120
  records : List Record
  holds : List Hold
  windows : List Window
  cqgl : List D28
  cqch : List D28
  rx : List D28
  /-- LEASE_LOST was present after the latest command. -/
  leaseLost : Bool
  deriving DecidableEq, Repr

/-- Limp-home and the inputs (06 R166 to R175). -/
structure Limp where
  active : Bool
  permKeep : Bool
  lh0 : Bool
  lh1 : Bool
  /-- Filtered level pair: asserted, and filtered single levels. -/
  asserted : Bool
  released : Bool
  disagree : Bool
  /-- Device time since which the sampled pair has been as it is. -/
  lhSince : Nat
  /-- Device time since which each line has its sampled level, and its filtered level at that time. -/
  since0 : Nat
  since1 : Nat
  old0 : Bool
  old1 : Bool
  /-- Device time since which exactly one line has been high. -/
  oddSince : Option Nat
  tripCfg : D28
  trips : BitVec 8
  deriving DecidableEq, Repr

/-- Calibration words in use (05 R127): value and VALID, by KIND and INDEX order. -/
structure Cal where
  value : Int
  valid : Bool
  deriving DecidableEq, Repr

/-- A word of a snapshot buffer or sample register. -/
abbrev SampleOpt := Option Sample

/-- A port's snapshot (05 R136). -/
structure Snap where
  seg : Bool
  taken : Nat
  words : List SampleOpt
  deriving DecidableEq, Repr

/-- Measurement (05). -/
structure Meas where
  /-- SEG_TEMP0 to SEG_TEMP503. -/
  seg : List SampleOpt
  /-- RUSHES words 0x600 to 0x663. -/
  rushes : List SampleOpt
  /-- Runs of readings at 175 °C or more, per segment. -/
  hot : List Nat
  fresh : List D28
  trig : List D28
  /-- Pending triggers in order of arrival, by entry (05 R125). -/
  trigs : List Nat
  /-- Device time of each entry's latest trigger. -/
  trigAt : List Nat
  /-- Calibration tables by KIND 0x0 to 0xB. -/
  cal : List (List Cal)
  calKind : Nat
  calIndex : Nat
  calVal : Int
  calValid : Bool
  snaps : Two (Option Snap)
  /-- Device time at structure application. -/
  since : Nat
  deriving DecidableEq, Repr

/-- One context (11 R319). -/
inductive CtxState where
  | free | done
  /-- The armed pairs, D, and the microseconds since the header of the ARM's answer entered the transmit queue (11 R328). -/
  | armed (pairs : List (BitVec 12 × W36)) (digest : BitVec 56) (us : Nat)
  deriving DecidableEq, Repr

/-- A context with its last generation L. -/
structure Ctx where
  state : CtxState
  gen : BitVec 3
  deriving DecidableEq, Repr

/-- An event tag (11 R334). -/
structure EvTag where
  gen : BitVec 3
  /-- Unretired. -/
  out : Bool
  /-- A cause awaits its first sending. -/
  due : Bool
  /-- A further cause while unretired. -/
  pend : Bool
  /-- Device time of the latest sending. -/
  sentAt : Nat
  deriving DecidableEq, Repr

/-- A pending exchange (09 R263): payloads of M1 and M2, the shared secret, the time of M2, and after KEY the certificate's payload. -/
structure Exchange where
  m1 : List D28
  m2 : List D28
  z : BitVec 384
  nh : BitVec 384
  nd : BitVec 384
  at_ : Nat
  cert : Option (List D28)
  deriving DecidableEq, Repr

/-- Keys of a session (09 R265). -/
structure Keys where
  khd : BitVec 128
  kdh : BitVec 128
  deriving DecidableEq, Repr

/-- One port's session (11). -/
structure Ses where
  established : Bool
  keys : Option Keys
  /-- Old KHD and the end of its window (11 R316). -/
  oldKhd : Option (BitVec 128 × Nat)
  xch : Option Exchange
  fail : BitVec 4
  hostid : BitVec 20
  auth : Bool
  inj : Bool
  /-- H and the marks of H down to H − 31 (bit i is H − i). -/
  rxseq : Nat
  marks : BitVec 32
  txseq : Nat
  /-- The receive and the send direction's SEQ has passed 0xF0_0000 (11 R311). -/
  rxWarn : Bool
  txWarn : Bool
  ctxs : List Ctx
  evs : List EvTag
  /-- Arms discarded since the ARMEXP event was last formed, and those it names (11 R328, R333). -/
  armexp : BitVec 24
  armsent : BitVec 24
  /-- A lease is valid; device time of the latest renewal or M4 (11 R329, R330). -/
  leaseValid : Bool
  leaseAt : Nat
  /-- The LEASE event of the present lease has had its cause (11 R333). -/
  leaseWarn : Bool
  beat : BitVec 24
  /-- A LEASE has been accepted since M4 of the present numbering; since the session was established (12 R337). -/
  beatSeen : Bool
  leaseSeen : Bool
  errs : List Nat
  tearcnt : Nat
  authfail : Nat
  fmterr : Nat
  oow : Nat
  partialCnt : Nat
  ctxRefused : Nat
  tagRefused : Nat
  stalegen : Nat
  dup : Nat
  deriving DecidableEq, Repr

/-- Write authority (11 R331). -/
structure Auth where
  holder : Option Port
  granted : Bool
  /-- Open offer or request: device time of its opening. -/
  offer : Option Nat
  request : Option Nat
  lastAct : BitVec 2
  moves : Nat
  cfg : D28
  deriving DecidableEq, Repr

/-- One host port's serial engine (10). -/
structure PortSt where
  cfg : D28
  dly : D28
  len : D28
  /-- Committed BITS not yet in effect (10 R279). -/
  lenNext : Option D28
  sel : Bool
  /-- The open window is ignored for its gap. -/
  ignored : Bool
  /-- Normal service has begun (10 R288). -/
  normal : Bool
  stat : BitVec 8
  undercnt : Nat
  trunccnt : Nat
  txlost : Nat
  /-- BITS ended the open window, and select is still low (10 R282). -/
  ended : Bool
  /-- The receive queue: words that the session engine has not taken, eight at the most (10 R272). -/
  rxq : List W36
  /-- The transmit queue: eight words at the most. -/
  txq : List W36
  /-- What the session engine has formed and not yet queued: the rest of the frame whose first words have been queued, and the frames behind it (11 R301). -/
  rest : List W36
  tx : List (List W36)
  /-- Last word sent. -/
  last : W36
  /-- Words wholly sent in the open or latest window. -/
  line : List W36
  /-- Host words that commands have brought in the open or latest window (10 R272). -/
  heard : Nat
  /-- The truncated word handed to the session engine at the latest cut (10 R282). -/
  cutWord : Option W36
  deriving DecidableEq, Repr

/-- H0's recovery mode (10 R284 to R287). -/
structure Recovery where
  /-- Last command received. -/
  cmd : BitVec 8
  /-- Status of the last WRREG; 0x00 before any (log 155). -/
  status : BitVec 8
  /-- Words that the latest transfer clocked out. -/
  out : List W36
  /-- The open window has had its transfer (10 R284). -/
  taken : Bool
  deriving DecidableEq, Repr

/-- Anti-rollback advance under way (09 R257): programming the shadow, then blowing fuses to the level. -/
inductive Advance where
  | idle
  | shadow (level : Nat)
  | fuses (level : Nat)
  deriving DecidableEq, Repr

/-- Trust (09). -/
structure Trust where
  /-- Start key: private value and public point. -/
  key : Option (Nat × (Nat × Nat))
  /-- Device time of the latest attempt to generate it (09 R260). -/
  rbgAt : Nat
  /-- Owner key in use, as X and Y. -/
  owner : Option (Nat × Nat)
  prov : BitVec 2
  provKey : Option (BitVec 384)
  advance : Advance
  token : Option (BitVec 3)
  apState : BitVec 2
  apPage : Nat
  apWords : List W36
  digests : List (Nat × BitVec 384)
  deriving DecidableEq, Repr

/-- The TAP (09 R269, 14 R371). -/
inductive TapInstr where
  | extest | samplePreload | bypass | dbgChal | dbgToken | dbgAcc
  deriving DecidableEq, Repr

/-- The boundary-scan cells, one for each digital signal land but the TAP's own (09 R269, 17 R424, log 170). -/
inductive ScanCell where
  | trip (j : Fin 8)
  | rstN | fSck | fSel
  | fIo (i : Fin 8)
  | fDqs | permit0 | permit1 | health | lh0 | lh1 | syncIn | syncOut
  | sck (h : Port)
  | sel (h : Port)
  | din (h : Port)
  | dout (h : Port)
  deriving DecidableEq, Repr

/-- The order of the cells from TDI to TDO (DESIGN CHOICE, log 170): that of the lands by column and row. -/
def scanOrder : List ScanCell :=
  [.trip 0, .trip 1, .trip 2, .trip 3, .trip 4, .trip 5, .trip 6, .trip 7, .rstN, .fSck, .fSel,
   .fIo 0, .fIo 1, .fIo 2, .fIo 3, .fIo 4, .fIo 5, .fIo 6, .fIo 7, .fDqs, .permit0, .permit1, .health, .lh0, .lh1, .syncIn, .syncOut,
   .sck .h0, .sel .h0, .din .h0, .dout .h0, .sck .h1, .sel .h1, .din .h1, .dout .h1]

/-- Debug: the instruction register, captured words or shifted-out challenge, halt, and the registers of boundary scan. -/
structure Tap where
  /-- Opcode in the instruction register. -/
  opcode : BitVec 8
  out : List W36
  halt : Bool
  /-- The 1-bit bypass register (09 R269). -/
  bypass : Bool
  /-- The boundary-scan register as its latest Update-DR left it, in `scanOrder` (09 R269). -/
  cells : List Bool
  /-- Bits that the latest scan of the bypass or the boundary-scan register gave at TDO, oldest first. -/
  tdo : List Bool
  deriving DecidableEq, Repr

/-- OTP (09 R254). -/
structure Otp where
  okh : BitVec 384
  okhlock : Bool
  arbfuse : Nat
  deriving DecidableEq, Repr

/-- A log record: REC0 to REC3 (15 R398). -/
structure Rec where
  r0 : D28
  r1 : D28
  r2 : D28
  r3 : D28
  deriving DecidableEq, Repr

/-- A log page (15 R394) as stored, each word with CHK over its store word address (15 R393): the four words of its header, and its record words, four to a record. A torn page is one that a program left without completing: its words are corrupted (15 R392). -/
structure LogPage where
  page : Nat
  header : List W36
  words : List W36
  torn : Bool
  deriving DecidableEq, Repr

/-- A page of a rotated area (15 R392, R393): never programmed, left corrupted by a program that did not complete, or the words of a copy, its generation first, each with CHK over its store word address (log 21). -/
inductive Slot where
  | blank
  | torn
  | copy (words : List W36)
  deriving DecidableEq, Repr

/-- The newest valid copy of a rotated area: its page, generation and value. -/
structure Copy (α : Type) where
  page : Nat
  gen : Nat
  val : α
  deriving DecidableEq, Repr

/-- The nonvolatile store (15 R392): what survives reset. -/
structure Store where
  /-- Pages 0 to 31: the words of each KIND by INDEX, from store word 0 on, each with CHK over its store word address (05 R127, 15 R393, log 21). -/
  cal : List (List W36)
  /-- Pages 64 to 79, 80 to 95 and 96 to 103. -/
  map : List Slot
  counters : List Slot
  shadow : List Slot
  /-- Log pages that hold words, in page order. -/
  log : List LogPage
  head : Nat
  deriving DecidableEq, Repr

/-- Page programs (15 R391). -/
inductive Program where
  | map | counters | log | shadow
  deriving DecidableEq, Repr

/-- What a read answers (14 R362): DATA, a void reason, or an aperture word whose stored check fails, with its CHK's difference from the normal one (05 R135, 10 R297). -/
inductive ReadWord where
  | data (d : D28)
  | void (reason : BitVec 8)
  | corrupt (d : D28) (diff : BitVec 8)
  deriving DecidableEq, Repr

/-- The store's controller: running program, waiting ones, open image, queue (15 R390 to R395). -/
structure Nvs where
  running : Option Program
  /-- Page that the running program writes. -/
  page : Nat
  /-- A map record awaits its program (15 R391, R400); `mapRest`: the latest try found no good page, and the next comes with the check's repeat (02 R43, 15 R391, R395). -/
  mapPend : Bool
  mapRest : Bool
  cntPend : Bool
  logDue : Bool
  shadowPend : Bool
  loss : Bool
  fail : Bool
  defer : Bool
  defcnt : Nat
  /-- Device time of the latest flacon check that failed (15 R391). -/
  triedAt : Nat
  bad : List Nat
  /-- Records of the open page image, oldest first, and how many of them are programmed. -/
  image : List Rec
  programmed : Nat
  /-- Records of the image the running log program carries; the map the running map program carries. -/
  inflight : Nat
  mapImage : List Mask42
  queue : List Rec
  dropped : Nat
  seq : Nat
  pass : Nat
  /-- Device time of the latest log program. -/
  lastLog : Option Nat
  /-- The scan of LOAD has established what the NVS registers show (15 R397). -/
  scanned : Bool
  sel : Option D28
  fetching : Bool
  /-- The four words of the record fetched, as the store or the image holds them (15 R393). -/
  fetched : Option (List ReadWord)
  deriving DecidableEq, Repr

/-- HOLD_STAT.STATE (15 R387). -/
inductive HoldState where
  | off | charging | ready | fault
  deriving DecidableEq, Repr

/-- Hold-up (15 R387 to R389). -/
structure HoldUp where
  state : HoldState
  /-- The start charge has ended at 23.5 V. -/
  charged : Bool
  low : Bool
  tested : Bool
  chgto : Bool
  caprange : Bool
  /-- HOLD_LOW is judged (after the test, or after a timed-out charge). -/
  judged : Bool
  capValid : Bool
  cap : Nat
  vhold : SampleOpt
  eav : Nat
  deriving DecidableEq, Repr

/-- Supplies (15 R404, 17 R429). -/
structure Sup where
  vddc : Bool
  vddio : Bool
  vdrv : Bool
  vbatA : Bool
  vbatB : Bool
  dipA : Bool
  dipB : Bool
  starts : Nat
  cause : BitVec 3
  rites : BitVec 2
  isNew : Bool
  /-- Last rites wait for the running program, with the RSTCAUSE of their trigger (15 R399). -/
  ritesWait : Option (BitVec 3)
  deriving DecidableEq, Repr

/-- Clocks (13). -/
structure Clk where
  locked : Bool
  armed : Bool
  senseArmed : Bool
  /-- CLK_STAT K bits [9:1] in register order. -/
  flags : BitVec 9
  timeCnt : Nat
  coreCnt : Nat
  senseCntG : Nat
  guardCnt : Nat
  senseCntC : Nat
  coreStop : Bool
  timeStop : Bool
  senseStop : Bool
  guardStop : Bool
  /-- Device times at which SENSE and GUARD stopped: what they count stands there (13 R344). -/
  senseAt : Nat
  guardAt : Nat
  /-- Microseconds that GUARD has counted by its own clock while TIME did not run: before PLL lock, and since TIME stopped (13 R344). -/
  guardUs : Nat
  deriving DecidableEq, Repr

/-- A self-test's result word (16 R405). -/
structure TestRes where
  res : BitVec 2
  origin : BitVec 2
  item : BitVec 6
  detail : BitVec 2
  deriving DecidableEq, Repr

/-- A running test: ID, ORIGIN, start time. -/
structure Running where
  test : Nat
  origin : BitVec 2
  at_ : Nat
  deriving DecidableEq, Repr

/-- SUPHASE (16). -/
inductive SetPhase where
  | notStarted | running | passed | failed
  deriving DecidableEq, Repr

/-- The self-test controller (16). -/
structure Bist where
  setPhase : SetPhase
  /-- Tests of the start-up set without PASS or FAIL yet, and whether one failed. -/
  setLeft : List Nat
  setFail : Bool
  laneA : Option Running
  laneB : Option Running
  laneD : Option Running
  /-- Command queue. -/
  queue : List Nat
  res : List (Option TestRes)
  /-- Full time of the latest PASS or FAIL per test. -/
  when_ : List (Option Nat)
  /-- Latest complete result is FAIL, per test. -/
  fails : BitVec 32
  newfail : Bool
  count : Nat
  /-- TLOGIC slices completed in this run, and the slice under test. -/
  slices : Mask12
  slice : Option Nat
  /-- First slice of this run whose signature did not match. -/
  sliceBad : Option Nat
  /-- CRYPTO may rerun from this time, and MARCH from this; each waits, while its flag is set, for the request that took its unit (16 R419). -/
  again : Nat
  againMarch : Nat
  yieldCrypto : Bool
  yieldMarch : Bool
  /-- Microseconds that the finished slices of the TLOGIC run under way took (16 R407). -/
  sliceUs : Nat
  /-- Per channel: device time since which it has been off under R414, none while not off. -/
  offSince : List (Option Nat)
  deriving DecidableEq, Repr

/-- DEV words and start-up. -/
structure Dev where
  phase : Phase
  /-- Reel being tried or applied: 0 none, 1 A, 2 B. -/
  reel : BitVec 2
  struct : Bool
  fpermit : Bool
  stok : Bool
  loadA : D28
  loadB : D28
  sect : BitVec 11
  opts : BitVec 3
  image : D28
  imglen : D28
  last : Two D28
  /-- Register class overrides: address and NEW (08 R240). -/
  overrides : List (BitVec 12 × Bool)
  /-- INRUSH ladders: words per ladder index, header first (08 R235). -/
  ladders : List (List D28)
  deriving DecidableEq, Repr

/-- What the device does with a pin: leaves it at high impedance, takes it as an input, drives a level, drives a transfer's or a pulse train's levels, or places the levels of its boundary-scan cells, one for each pin that the field stands for (15 R385). -/
inductive Pad where
  | highZ | input | low | high | active
  | scan (levels : List Bool)
  deriving DecidableEq, Repr

/-- The output pins by the rows of 15 R385. -/
structure Pads where
  permit0 : Pad
  permit1 : Pad
  health : Pad
  dout0 : Pad
  dout1 : Pad
  sck0 : Pad
  sck1 : Pad
  fSel : Pad
  fSck : Pad
  fIo : Pad
  syncOut : Pad
  deriving DecidableEq, Repr

/-- Output pins and the guards of the pads. -/
structure Pins where
  permit0 : Bool
  permit1 : Bool
  rstN : Bool
  /-- Keep-alives lost (13 R445). -/
  lost0 : Bool
  lost1 : Bool
  lostHG : Bool
  lostHC : Bool
  /-- Microseconds that each lost keep-alive has run again. -/
  back0 : Nat
  back1 : Nat
  backHG : Nat
  backHC : Nat
  /-- The power die's heartbeat watch holds the high-side gates off (13 R345), since this device time. -/
  heart : Bool
  heartAt : Nat
  pads : Pads
  deriving DecidableEq, Repr

/-- A read command of the flash port, phase by phase (10 R292): its code, the extension byte that follows it in 8D-8D-8D, address bits, lanes of the command, of the address and of the data, both edges or one, mode clocks driven all zero, dummy clocks, F_SCK in kHz, and the most bytes that it fetches in all, where it is bounded (R293). -/
structure FlashRead where
  code : BitVec 8
  ext : Option (BitVec 8)
  addrBits : Nat
  cmdLanes : Nat
  addrLanes : Nat
  dataLanes : Nat
  ddr : Bool
  modeClocks : Nat
  dummyClocks : Nat
  khz : Nat
  bound : Option Nat
  deriving DecidableEq, Repr

/-- Flash port (10 R291, R292, R300). -/
structure Flash where
  /-- The command that reads the array, once detection has chosen a mode. -/
  read : Option FlashRead
  /-- The Read SFDP command whose signature read back (10 R291). -/
  sfdp : Option FlashRead
  /-- Bytes that Read SFDP has fetched (10 R293). -/
  sfdpBytes : Nat
  mode : BitVec 2
  dummy : Nat
  densLog : Nat
  rdfail : Bool
  dqsto : Bool
  lastPg : Nat
  deriving DecidableEq, Repr

/-- A two-word latch of each reading path (14 R364): H0, H1, DBG_ACC. -/
structure Latches where
  h0 : Option (BitVec 20)
  h1 : Option (BitVec 20)
  dbg : Option (BitVec 20)
  deriving DecidableEq, Repr

/-- The machine. `pending` is the command queue, first in, first out. -/
structure State where
  pending : List Instr
  /-- Microseconds since the PLL locked; DTIME is this modulo 2^48 (04 R88). -/
  now : Nat
  /-- MODEL'S OWN: how many free values have been drawn (log 10). -/
  free : Nat
  /-- MODEL'S OWN: status of the latest register-write row (log 28). -/
  status : BitVec 8
  /-- MODEL'S OWN: answer of the latest register-read row (log 28). -/
  lastRead : Option ReadWord
  dev : Dev
  pins : Pins
  chans : List Chan
  timers : List Timer
  tbase : TBase
  flt : Flt
  limp : Limp
  meas : Meas
  ses : Two Ses
  auth : Auth
  ports : Two PortSt
  recovery : Recovery
  flash : Flash
  dlatch : Latches
  flatch : Latches
  trust : Trust
  tap : Tap
  otp : Otp
  /-- OTP as this start has read it (15 R383 step 5); what is programmed later takes effect at the next start (09 R255). -/
  otpRead : Otp
  /-- Words that wait for a stopped GUARD or TIME, by register address, for as long as it stays stopped (13 R348). -/
  heldWords : List (Nat × D28)
  store : Store
  nvs : Nvs
  hold : HoldUp
  sup : Sup
  clk : Clk
  bist : Bist
  deriving DecidableEq, Repr

/-! ### The state right after reset -/

def SegMon.reset : SegMon := ⟨0, 0, [], none⟩

def Ladder.reset : Ladder := ⟨0, 0, 0, 0, 0, 0, none, false, 0, 0⟩

def Retry.reset : Retry := ⟨.armed, none, 0, 0, 0, 0, 0, 0, 0, 0, [], 0, 0⟩

/-- A channel in reset: gates off and clamped (01 R18), registers at their reset values. The gate supply reads below both thresholds and the zero-current comparator below 0.2 A (log 6). -/
def Chan.reset : Chan where
  topo := 0
  onReq := false
  brcmd := 0
  brcmdSh := 0
  brcmdLatch := none
  ilim := 0
  ilimSh := 0
  ilimLatch := none
  scth := 0
  i2t := 0
  i2tUse := 0
  pcfg := 0x1F
  rpolA := 0
  rpolB := 0
  rpolC := 0
  limp := 0
  hs := 0
  lit := []
  darkAt := some 0
  tripped := 0
  fw := .off
  zeroI := true
  scLatch := false
  hsLatch := false
  dsLatch := false
  latchAt := none
  uvHold := false
  bstLow := true
  bstUv := true
  desat := none
  retired := 0
  retPend := false
  cand := none
  stuck := false
  segs := List.replicate 42 SegMon.reset
  sweepOk := false
  drive := .off
  want := .off
  byLimp := false
  cancelled := false
  half := false
  pulse := .off
  dt := .none
  chopOff := false
  cutOff := false
  cutPeriod := false
  chopAt := 0
  refreshing := false
  refreshDue := false
  refreshAt := none
  refreshes := 0
  bridge := .coast
  revTo := none
  lad := Ladder.reset
  limit := 0
  limpLad := false
  lingers := false
  ring := 0
  inrush := false
  blank := false
  blankCap := false
  retry := Retry.reset
  prot := ⟨0, false, false⟩
  clcuts := 0
  dssolo := 0
  cutMs := false
  chopMs := false
  cutRun := 0
  e := 0
  eAt := 0
  atTrip := false
  ipris := []
  squares := []
  xRun := 0
  suspect := false
  comparedAt := none
  fwHot := 0
  rezero := .idle
  offAt := some 0
  zfail := false
  trim := 0

def Timer.reset : Timer where
  cfg := 0
  per := 0
  duty := 0
  phase := 0
  perSh := 0
  dutySh := 0
  phaseSh := 0
  latch := none
  edge := 0
  run := false
  fresh := false
  claprepl := false
  loadReject := false
  frozen := false
  dith := 0
  holds := 0
  skips := 0
  pos := 0
  begun := false
  trigB := false
  latchAt := 0

def TBase.reset : TBase where
  groups := List.replicate 4 0
  routes := List.replicate 3 0x1FFFFFF
  syncOut := 0x1F
  sync := .acquire
  lock := false
  lost := false
  rej := 0
  syncPer := 0
  syncNext := none
  syncP := none
  good := 0
  edgeAt := none
  edgeUs := 0
  pulses := 0
  frozen := false
  msAt := 0

def Record.reset : Record := ⟨.clear, 0, false, false⟩

def First.reset : First := ⟨false, false, false, false, 0, 0, 0, 0x7F, 0⟩

/-- REACT of a source's default entry (07 R182, R183): CHOFF for HS, SC, OVL, INRUSH, XCHK and BST_UV, SAFE for class F and TRIP, LIMP for LEASE_LOST, REPORT otherwise. -/
def defaultReact (src : Nat) : Nat :=
  if src < 96 then
    match src % 8 with
    | 0 | 1 | 2 | 3 | 4 => 2
    | 7 => 6
    | _ => 0
  else match src with
    | 96 | 97 => 6
    | 98 => 2
    | 99 | 100 | 101 | 102 | 103 | 104 | 105 | 106 => 6
    | 107 => 5
    | 111 | 112 | 113 | 114 | 115 | 116 => 6
    | _ => 0

/-- A default entry: REACT in [13:11], PERM and DRY zero (07 R182). -/
def defaultEntry (src : Nat) : Nat := defaultReact src * 2048

/-- FLT_RXm at reset (07 R220): the default entries of sources 2m + 1 and 2m. -/
def defaultRx (m : Nat) : D28 := BitVec.ofNat 28 (defaultEntry (2 * m + 1) * 16384 + defaultEntry (2 * m))

def Flt.reset : Flt where
  safe := false
  health := false
  inj := false
  injBy := none
  fsrc := 0x7F
  ovfcnt := 0
  first := First.reset
  recovSrc := 0x7F
  recov := 0
  cfg := 5
  safefw := 0
  sticky := 0
  conseq := 0
  force := 0
  lasting := 0
  presHeld := 0
  records := List.replicate 120 Record.reset
  holds := []
  windows := []
  cqgl := List.replicate 6 0
  cqch := List.replicate 6 0
  rx := (List.range 60).map defaultRx
  leaseLost := false

/-- LH0 and LH1 are sensed low (log 6). -/
def Limp.reset : Limp where
  active := false
  permKeep := false
  lh0 := false
  lh1 := false
  asserted := false
  released := true
  disagree := false
  lhSince := 0
  since0 := 0
  since1 := 0
  old0 := false
  old1 := false
  oddSince := none
  tripCfg := 0
  trips := 0

/-- Nominal calibration values by KIND (05 R127): the table's Nominal column, one entry per index. -/
def nominalCal : List (List Cal) :=
  [ List.replicate 12 ⟨32768, true⟩, List.replicate 12 ⟨0, true⟩, List.replicate 12 ⟨24000, true⟩,
    List.replicate 12 ⟨444, true⟩, List.replicate 12 ⟨3112, true⟩, List.replicate 12 ⟨32768, true⟩,
    List.replicate 12 ⟨0, true⟩, List.replicate 12 ⟨32768, true⟩, List.replicate 12 ⟨0, true⟩,
    List.replicate 2 ⟨32768, true⟩, List.replicate 2 ⟨0, true⟩, List.replicate 518 ⟨0, true⟩ ]

/-- Freshness limits (05 R132). -/
def defaultFresh : List D28 := [0x14, 0x14, 0x32, 0x32, 0x32, 0x1F4, 0x1F4, 0x1F4]

def Meas.reset : Meas where
  seg := List.replicate 504 none
  rushes := List.replicate 100 none
  hot := List.replicate 504 0
  fresh := defaultFresh
  trig := List.replicate 8 0
  trigs := []
  trigAt := List.replicate 8 0
  cal := nominalCal
  calKind := 0
  calIndex := 0
  calVal := 0
  calValid := false
  snaps := ⟨none, none⟩
  since := 0

def Ctx.reset : Ctx := ⟨.free, 7⟩

def EvTag.reset : EvTag := ⟨7, false, false, false, 0⟩

def Ses.reset : Ses where
  established := false
  keys := none
  oldKhd := none
  xch := none
  fail := 0
  hostid := 0
  auth := false
  inj := false
  rxseq := 0
  marks := 0
  txseq := 0
  rxWarn := false
  txWarn := false
  ctxs := List.replicate 24 Ctx.reset
  evs := List.replicate 6 EvTag.reset
  armexp := 0
  armsent := 0
  leaseValid := false
  leaseAt := 0
  leaseWarn := false
  beat := 0
  beatSeen := false
  leaseSeen := false
  errs := []
  tearcnt := 0
  authfail := 0
  fmterr := 0
  oow := 0
  partialCnt := 0
  ctxRefused := 0
  tagRefused := 0
  stalegen := 0
  dup := 0

def Auth.reset : Auth := ⟨none, false, none, none, 0, 0, 0⟩

/-- PORT words at reset; before any word has been sent the port repeats 0x0_0000_0000 (10 R281). -/
def PortSt.reset : PortSt where
  cfg := 0
  dly := 0x002850A
  len := 0xE10
  lenNext := none
  sel := false
  ignored := false
  normal := false
  stat := 0
  undercnt := 0
  trunccnt := 0
  txlost := 0
  ended := false
  rxq := []
  txq := []
  rest := []
  tx := []
  last := 0
  line := []
  heard := 0
  cutWord := none

def Trust.reset : Trust where
  key := none
  rbgAt := 0
  owner := none
  prov := 0
  provKey := none
  advance := .idle
  token := none
  apState := 0
  apPage := 0
  apWords := []
  digests := []

/-- Calibration words of the store from word `base` on: DATA[15:0] holds the value (log 21). -/
def calStore (base : Nat) : List (List Cal) → List (List W36)
  | [] => []
  | k :: ks => (k.mapIdx fun i c => dataWord (base + i) (BitVec.ofInt 28 (c.value % 65536))) :: calStore (base + k.length) ks

/-- The store as delivered (log 5): nominal calibration, every rotated area and the log empty. -/
def Store.reset : Store := ⟨calStore 0 nominalCal, List.replicate 16 .blank, List.replicate 16 .blank, List.replicate 8 .blank, [], 0⟩

def Nvs.reset : Nvs where
  running := none
  page := 0
  mapPend := false
  mapRest := false
  cntPend := false
  logDue := false
  shadowPend := false
  loss := false
  fail := false
  defer := false
  defcnt := 0
  triedAt := 0
  bad := []
  image := []
  programmed := 0
  inflight := 0
  mapImage := []
  queue := []
  dropped := 0
  seq := 0
  pass := 0
  lastLog := none
  scanned := false
  sel := none
  fetching := false
  fetched := none

def HoldUp.reset : HoldUp := ⟨.off, false, false, false, false, false, false, false, 0, none, 0⟩

/-- Supply bits read 0 at reset (15 SUP_STAT). -/
def Sup.reset : Sup := ⟨false, false, false, false, false, false, false, 0, 0, 0, false, none⟩

def Clk.reset : Clk := ⟨false, false, false, 0, 0, 0, 0, 0, 0, false, false, false, false, 0, 0, 0⟩

def Bist.reset : Bist where
  setPhase := .notStarted
  setLeft := []
  setFail := false
  laneA := none
  laneB := none
  laneD := none
  queue := []
  res := List.replicate 32 none
  when_ := List.replicate 32 none
  fails := 0
  newfail := false
  count := 0
  slices := 0
  slice := none
  sliceBad := none
  again := 0
  againMarch := 0
  yieldCrypto := false
  yieldMarch := false
  sliceUs := 0
  offSince := List.replicate 12 (some 0)

/-- DEV_LOADA and DEV_LOADB read NOTRIED (14 R377). -/
def Dev.reset : Dev where
  phase := .reset
  reel := 0
  struct := false
  fpermit := false
  stok := false
  loadA := 0x0140000
  loadB := 0x0140000
  sect := 0
  opts := 0
  image := 0
  imglen := 0
  last := ⟨0, 0⟩
  overrides := []
  ladders := List.replicate 12 []

/-- The pins in reset (01 R18, 15 R385). -/
def Pads.reset : Pads := ⟨.highZ, .highZ, .highZ, .highZ, .highZ, .input, .input, .highZ, .highZ, .highZ, .highZ⟩

/-- RST_N is sensed low (log 6). -/
def Pins.reset : Pins := ⟨false, false, false, false, false, false, false, 0, 0, 0, 0, false, 0, Pads.reset⟩

/-- The state right after reset of a unit whose OTP, store and log are those given: only they survive a reset (09 R254, 15 R392). -/
def State.start (otp : Otp) (store : Store) : State where
  pending := []
  now := 0
  free := 0
  status := 0
  lastRead := none
  dev := Dev.reset
  pins := Pins.reset
  chans := List.replicate 12 Chan.reset
  timers := List.replicate 20 Timer.reset
  tbase := TBase.reset
  flt := Flt.reset
  limp := Limp.reset
  meas := Meas.reset
  ses := ⟨Ses.reset, Ses.reset⟩
  auth := Auth.reset
  ports := ⟨PortSt.reset, PortSt.reset⟩
  recovery := ⟨0, 0, [], false⟩
  flash := ⟨none, none, 0, 0, 0, 0, false, false, 0⟩
  dlatch := ⟨none, none, none⟩
  flatch := ⟨none, none, none⟩
  trust := Trust.reset
  tap := ⟨0xFF, [], false, false, scanOrder.map fun _ => false, []⟩
  otp := otp
  otpRead := ⟨0, false, 0⟩
  heldWords := []
  store := store
  nvs := Nvs.reset
  hold := HoldUp.reset
  sup := Sup.reset
  clk := Clk.reset
  bist := Bist.reset

/-- An unprogrammed OTP (09 R254). -/
def Otp.blank : Otp := ⟨0, false, 0⟩

/-- The machine right after reset: a unit as delivered, OTP unprogrammed. -/
def State.reset : State := State.start Otp.blank Store.reset

end Sys2Proof.Machine
end

