-- ==== Sys2Proof/Machine/Ops.lean ====
section
/-! DEFINITION. Named operations over the state: channels, timers, ports, masks, the device clock, host events, fault-log records and the page programs of the store. -/

namespace Sys2Proof.Machine

/-! ### Pairs and lists -/

def Two.get {α : Type} (t : Two α) : Port → α
  | .h0 => t.h0
  | .h1 => t.h1

def Two.set {α : Type} (t : Two α) (p : Port) (v : α) : Two α :=
  match p with
  | .h0 => { t with h0 := v }
  | .h1 => { t with h1 := v }

def Two.modify {α : Type} (t : Two α) (p : Port) (f : α → α) : Two α := t.set p (f (t.get p))

/-- The number of a port. -/
def portIx : Port → Nat
  | .h0 => 0
  | .h1 => 1

def otherPort : Port → Port
  | .h0 => .h1
  | .h1 => .h0

def bothPorts : List Port := [.h0, .h1]

/-- Applies `f` for each element, first to last. -/
def forEach {α : Type} (l : List α) (f : α → State → State) (s : State) : State := l.foldl (fun s a => f a s) s

/-- `f` when the condition holds. -/
def when_ (b : Bool) (f : State → State) (s : State) : State := if b then f s else s

/-! ### Masks -/

/-- The mask of `w` bits whose bit i is `p i`. -/
def maskOf (w : Nat) (p : Nat → Bool) : BitVec w :=
  BitVec.ofNat w ((List.range w).foldl (fun a i => if p i then a + 2 ^ i else a) 0)

def popcount {w : Nat} (m : BitVec w) : Nat := ((List.range w).filter m.getLsbD).length

def setBit {w : Nat} (m : BitVec w) (i : Nat) : BitVec w := m ||| BitVec.ofNat w (2 ^ i)

def clearBit {w : Nat} (m : BitVec w) (i : Nat) : BitVec w := m &&& ~~~(BitVec.ofNat w (2 ^ i))

def putBit {w : Nat} (m : BitVec w) (i : Nat) (b : Bool) : BitVec w := if b then setBit m i else clearBit m i

/-! ### Parts of the state -/

def State.ch (s : State) (n : Nat) : Chan := s.chans.getD n Chan.reset

def State.onCh (s : State) (n : Nat) (f : Chan → Chan) : State := { s with chans := s.chans.modify n f }

def State.onChans (s : State) (f : Chan → Chan) : State := { s with chans := s.chans.map f }

def State.tm (s : State) (t : Nat) : Timer := s.timers.getD t Timer.reset

def State.onTm (s : State) (t : Nat) (f : Timer → Timer) : State := { s with timers := s.timers.modify t f }

def State.onSes (s : State) (p : Port) (f : Ses → Ses) : State := { s with ses := s.ses.modify p f }

def State.onPort (s : State) (p : Port) (f : PortSt → PortSt) : State := { s with ports := s.ports.modify p f }

def State.onFlt (s : State) (f : Flt → Flt) : State := { s with flt := f s.flt }

def State.onNvs (s : State) (f : Nvs → Nvs) : State := { s with nvs := f s.nvs }

/-! ### Device time (04 R88) -/

/-- DTIME, 48 bits. -/
def State.dtime (s : State) : Nat := s.now % 2 ^ 48

/-- `us` microseconds have passed since the device time `t` (log 3); with TIME stopped nothing counts them and the command's own assertion stands (log 25). -/
def State.since (s : State) (t us : Nat) : Bool := decide (t + us ≤ s.now) || s.clk.timeStop

/-- The PLL has locked in this start, so that CORE and TIME have clocks; a later loss of lock raises its sources and stops no clock by itself (13 R342, R343, log 25). -/
def State.clocked (s : State) : Bool := s.dev.phase != .reset && s.dev.phase != .clocks

/-- The time that GUARD's timing has reached, of windows, drydown, retries, leases, lines, stuck channels, bus faults and the heartbeat: the device time until GUARD stops, with the microseconds that GUARD itself counts while TIME does not run (13 R344, log 134). -/
def guardNow (s : State) : Nat := (if s.clk.guardStop then s.clk.guardAt else s.now) + s.clk.guardUs

/-- `us` microseconds have passed since `t` by GUARD's own clock (13 R344, log 134). -/
def guardSince (s : State) (t us : Nat) : Bool := decide (t + us ≤ guardNow s)

/-- The register file, sessions and store are alive: CORE has clocks and has not stopped (13 R342, R353). -/
def State.coreRuns (s : State) : Bool := s.clocked && !s.clk.coreStop

/-- Structure is applied and TIME runs. -/
def State.timeRuns (s : State) : Bool := s.dev.struct && !s.clk.timeStop

/-! ### Free values -/

/-- Draws a free value (log 10). -/
def State.draw (s : State) : BitVec 384 × State := (Config.random s.free, { s with free := s.free + 1 })

/-- The lowest `k` bits of DATA of a word at position `pos`, which its status names. A void or corrupted word is used as no value (00 R12), and the spec says of no other value there: it is free (log 85). -/
def namedBits (k pos : Nat) (w : W36) (s : State) : Nat × State :=
  if isData pos w then ((wData w).toNat % 2 ^ k, s)
  else
    let (x, s) := s.draw
    (x.toNat % 2 ^ k, s)

/-- The address in DATA[11:0] of a word at position `pos`. -/
def namedAddr (pos : Nat) (w : W36) (s : State) : Nat × State := namedBits 12 pos w s

/-! ### Host events (11 R333, R334) -/

/-- A cause of an event tag, 24 to 29, for one port. A port without a session takes none. -/
def eventAt (p : Port) (tag : Nat) (s : State) : State :=
  if (s.ses.get p).established then
    s.onSes p fun e => { e with evs := e.evs.modify (tag - 24) fun t => if t.out then { t with pend := true } else { t with due := true } }
  else s

/-- A cause of an event tag for both ports. -/
def event (tag : Nat) (s : State) : State := eventAt .h1 tag (eventAt .h0 tag s)

/-! ### Fault-log records (15 R394, R398) -/

/-- The store word address, modulo 4,096, of word k of record i on a log page: the page's header fills its first four words (15 R393, R394). -/
def recAddr (pg i k : Nat) : Nat := (64 * pg + 4 + 4 * i + k) % 4096

/-- The stored words of a page's records, oldest first, each with CHK over its store word address (15 R393). -/
def recWords (pg : Nat) (rs : List Rec) : List W36 :=
  (rs.mapIdx fun i r => [dataWord (recAddr pg i 0) r.r0, dataWord (recAddr pg i 1) r.r1, dataWord (recAddr pg i 2) r.r2,
                         dataWord (recAddr pg i 3) r.r3]).flatten

/-- A stored word as it is shown elsewhere: its check, rebased, keeps what it says (00 R11, 15 R393, 05 R135). -/
def shownWord (addr : Nat) (w : W36) : ReadWord :=
  if isData addr w then .data (wData w)
  else if isVoid addr w then .void (BitVec.ofNat 8 (wData w).toNat)
  else .corrupt (wData w) (BitVec.ofNat 8 (wChk w ^^^ chk addr (wData w)))

/-- The store word address, modulo 4,096, of word k of a page (15 R393). -/
def pageAddr (pg k : Nat) : Nat := (64 * pg + k) % 4096

/-- The words of a page as stored, each with CHK over its store word address (15 R393). -/
def pageWords (pg : Nat) (ds : List D28) : List W36 := ds.mapIdx fun k d => dataWord (pageAddr pg k) d

/-- What the words of a page hold, when all of them are data: a void or corrupted word is no value (00 R11, R12, 15 R393). -/
def pageData (pg : Nat) (ws : List W36) : Option (List D28) :=
  let ok := ws.mapIdx fun k w => isData (pageAddr pg k) w
  if ok.all id then some (ws.map wData) else none

/-- Word k of a log page's header as a number; 0 where it is no data, and in a torn page (00 R12, log 21). -/
def LogPage.head (p : LogPage) (k : Nat) : Nat :=
  match p.header[k]? with
  | some w => if !p.torn && isData (pageAddr p.page k) w then (wData w).toNat else 0
  | none => 0

/-- PASS and the program-cycle count: words 0 and 1 of the header (15 R394, log 21). -/
def LogPage.pass (p : LogPage) : Nat := p.head 0

def LogPage.cycles (p : LogPage) : Nat := p.head 1

/-- The header of a log page: PASS, the program-cycle count, and two words of zeros (15 R394, log 21). -/
def headerWords (pg pass cycles : Nat) : List W36 := pageWords pg [d28 pass, d28 (sat 0xFFFFFFF cycles), 0, 0]

/-- Word k of record i of a log page; the words of a torn page are corrupted. -/
def LogPage.word (p : LogPage) (i k : Nat) : W36 := p.words.getD (4 * i + k) 0

/-- Record i of a page, when its four words are data. -/
def LogPage.rec? (p : LogPage) (i : Nat) : Option Rec :=
  if !p.torn && (List.range 4).all fun k => isData (recAddr p.page i k) (p.word i k) then
    some ⟨wData (p.word i 0), wData (p.word i 1), wData (p.word i 2), wData (p.word i 3)⟩
  else none

/-- The records of a page that are intact. -/
def LogPage.recs (p : LogPage) : List Rec := (List.range (p.words.length / 4)).filterMap p.rec?

/-- SEQ of the newest record stored; 0 when the log is empty (15 NVS_LOG). -/
def storedSeq (st : Store) : Nat := (st.log.map fun p => (p.recs.map fun r => r.r1.toNat).foldl max 0).foldl max 0

/-- SEQ of the next record: one above every record there is (15 R398). -/
def nextSeq (s : State) : Nat := 1 + max s.nvs.seq (storedSeq s.store)

/-- A record with its SEQ, device time and start count (15 R398). -/
def mkRec (s : State) (r0 : Nat) : Rec :=
  ⟨d28 r0, d28 (nextSeq s), d28 s.dtime, d28 (at_ 20 (s.sup.starts % 256) + s.dtime / 2 ^ 28)⟩

/-- Device time at a record's cause. -/
def Rec.time (r : Rec) : Nat := r.r2.toNat + fld r.r3 19 0 * 2 ^ 28

/-- Places a record in the open image, or behind it in the queue; drops it when both are full (15 R394). -/
def logStore (r : Rec) (s : State) : State :=
  if s.nvs.image.length < 15 then
    s.onNvs fun v => { v with image := v.image ++ [r], seq := r.r1.toNat }
  else if s.nvs.queue.length < 32 then
    s.onNvs fun v => { v with queue := v.queue ++ [r], seq := r.r1.toNat }
  else s.onNvs fun v => { v with dropped := v.dropped + 1, loss := true }

/-- The image and the queue are full. -/
def logFull (s : State) : Bool := decide (15 ≤ s.nvs.image.length) && decide (32 ≤ s.nvs.queue.length)

/-- Writes a record; after dropped records the first one stored is a LOST record with their count (15 R394). -/
def logPut (r0 : Nat) (s : State) : State :=
  let s := if s.nvs.dropped ≠ 0 && !logFull s then
      (logStore (mkRec s (at_ 24 4 + at_ 8 (sat 65535 s.nvs.dropped))) s).onNvs fun v => { v with dropped := 0 }
    else s
  logStore (mkRec s r0) s

/-! ### Page programs (15 R390 to R392) -/

/-- Pages of an area: first page and number (15 R392). -/
def area : Program → Nat × Nat
  | .map => (64, 16)
  | .counters => (80, 16)
  | .shadow => (96, 8)
  | .log => (512, 1536)

/-- The first page from `cur` on, around the area, that is not on the bad-page list (15 R395). -/
def goodPage (p : Program) (cur : Nat) (bad : List Nat) : Option Nat :=
  let (base, cnt) := area p
  (List.range cnt).findSome? fun i =>
    let pg := base + (cur - base + i) % cnt
    if bad.contains pg then none else some pg

/-- What a copy's words hold behind its generation, by area (15 R392). The spec gives the words no layout (log 21). -/
structure Layout (α : Type) where
  put : α → List D28
  get : List D28 → α

/-- Digits of `w` bits joined, the lowest first. -/
def joinBits (w : Nat) : List Nat → Nat
  | [] => 0
  | d :: r => d + 2 ^ w * joinBits w r

/-- The `n` lowest digits of `w` bits, the lowest first. -/
def splitBits (w : Nat) : Nat → Nat → List Nat
  | 0, _ => []
  | n + 1, x => x % 2 ^ w :: splitBits w n (x / 2 ^ w)

/-- The retirement map: the masks of CH0 to CH11 joined, CH0's lowest, in 18 words, the lowest first. -/
def mapLayout : Layout (List Mask42) where
  put m := (splitBits 28 18 (joinBits 42 (m.map BitVec.toNat))).map d28
  get ds := (splitBits 42 12 (joinBits 28 (ds.map BitVec.toNat))).map (BitVec.ofNat 42)

/-- Place of a page in the bad-page list's bits: pages 64 to 103, then the log's. -/
def badIx (pg : Nat) : Nat := if pg < 104 then pg - 64 else pg - 472

def badPg (i : Nat) : Nat := if i < 40 then 64 + i else 472 + i

/-- The bad-page list as bits, 28 to a word, up to the last word that has one. -/
def badWords (bad : List Nat) : List D28 :=
  (List.range ((bad.map fun pg => badIx pg / 28 + 1).foldl max 0)).map fun k =>
    d28 ((bad.filter fun pg => badIx pg / 28 == k).foldl (fun m pg => m ||| 2 ^ (badIx pg % 28)) 0)

/-- The pages that such words list, in rising order. -/
def badOf (ds : List D28) : List Nat :=
  (ds.mapIdx fun k d => ((List.range 28).filter (bitAt d)).map fun j => badPg (28 * k + j)).flatten

/-- STARTS and the bad-page list. -/
def counterLayout : Layout (Nat × List Nat) where
  put c := d28 c.1 :: badWords c.2
  get ds := ((ds.getD 0 0).toNat, badOf (ds.drop 1))

/-- The anti-rollback level. -/
def shadowLayout : Layout Nat where
  put l := [d28 l]
  get ds := (ds.getD 0 0).toNat

/-- The words of a copy: its 28-bit generation and what it holds (15 R392, R393). -/
def copyWords {α : Type} (f : Layout α) (pg gen : Nat) (v : α) : List W36 := pageWords pg (d28 gen :: f.put v)

/-- A copy that is valid: every word of it is data (15 R392). -/
def readCopy {α : Type} (f : Layout α) (pg : Nat) : Slot → Option (Copy α)
  | .copy ws => match pageData pg ws with
    | some (g :: ds) => some ⟨pg, g.toNat, f.get ds⟩
    | _ => none
  | _ => none

/-- The later of two copies: the one with the higher generation. -/
def laterCopy {α : Type} (best x : Option (Copy α)) : Option (Copy α) :=
  match x, best with
  | some c, some b => if b.gen < c.gen then some c else some b
  | some c, none => some c
  | none, b => b

/-- The newest valid copy of a rotated area whose first page is `base`: the one with the highest generation (15 R392). -/
def newest {α : Type} (f : Layout α) (base : Nat) (l : List Slot) : Option (Copy α) :=
  (l.mapIdx fun i x => readCopy f (base + i) x).foldl laterCopy none

def newestMap (st : Store) : Option (Copy (List Mask42)) := newest mapLayout 64 st.map

def newestCounters (st : Store) : Option (Copy (Nat × List Nat)) := newest counterLayout 80 st.counters

def newestShadow (st : Store) : Option (Copy Nat) := newest shadowLayout 96 st.shadow

/-- The page after the newest valid copy of an area; for the log, the page under the head (15 R392, R394). -/
def targetPage (s : State) (p : Program) : Option Nat :=
  let after (x : Option Nat) : Nat := match x with
    | some pg => (area p).1 + (pg - (area p).1 + 1) % (area p).2
    | none => (area p).1
  let cur := match p with
    | .map => after ((newestMap s.store).map Copy.page)
    | .counters => after ((newestCounters s.store).map Copy.page)
    | .shadow => after ((newestShadow s.store).map Copy.page)
    | .log => 512 + s.store.head
  goodPage p cur s.nvs.bad

/-- A program takes its page; a log program sets the head there, and counts a wrap when that page lies before the head (15 R394). Page 0 stands for an area with no good page left. -/
def choosePage (p : Program) (page : Option Nat) (s : State) : State :=
  let pg := page.getD 0
  let wraps := p == .log && 512 ≤ pg && pg < 512 + s.store.head
  { s with nvs := { s.nvs with page := pg, pass := if wraps then s.nvs.pass + 1 else s.nvs.pass },
           store := { s.store with head := if p == .log && 512 ≤ pg then pg - 512 else s.store.head } }

/-- The flacon check: Eav covers the program and the reserve, on a conversion no more than 50 µs old (15 R390). -/
def flaconOk (s : State) : Bool :=
  decide (2620 ≤ s.hold.eav) && match s.hold.vhold with
    | some v => decide (s.now ≤ v.tc + 50)
    | none => false

/-- Waiting programs in the order of 15 R391; the anti-rollback shadow, which only a commit starts, comes first. -/
def waiting (v : Nvs) : Option Program :=
  if v.shadowPend then some .shadow else if v.mapPend && !v.mapRest then some .map else if v.cntPend then some .counters
  else if v.logDue then some .log else none

/-- Takes a program off the waiting list. -/
def Nvs.unwait (v : Nvs) : Program → Nvs
  | .map => { v with mapPend := false }
  | .counters => { v with cntPend := false }
  | .log => { v with logDue := false }
  | .shadow => { v with shadowPend := false }

/-- A program is deferred: its flacon check fails (15 R390). -/
def deferProgram (s : State) : State := s.onNvs fun v => { v with defer := true, defcnt := sat 255 (v.defcnt + 1), triedAt := s.now }

/-- Runs the flacon check for the first waiting program and starts it, or defers it (15 R390, R391), an anti-rollback advance that waited among them (log 125). A running program, or one that last rites wait for, holds the others back; the control of the store stops with CORE (13 R344). -/
def tryProgram (s : State) : State :=
  if s.nvs.running.isSome || s.sup.ritesWait.isSome || s.clk.coreStop then s else
    match waiting s.nvs with
    | none => s
    | some p =>
      if flaconOk s then
        choosePage p (targetPage s p) (s.onNvs fun v =>
          { v.unwait p with
                   running := some p, inflight := v.image.length,
                   mapImage := s.chans.map Chan.retired,
                   lastLog := if p == .log then some s.now else v.lastLog })
      else deferProgram s

/-! ### Self-test results (16 R407) -/

/-- The three lanes. -/
inductive Lane where
  | a | b | d
  deriving DecidableEq, Repr

def Bist.lane (b : Bist) : Lane → Option Running
  | .a => b.laneA
  | .b => b.laneB
  | .d => b.laneD

def Bist.setLane (b : Bist) (l : Lane) (r : Option Running) : Bist :=
  match l with
  | .a => { b with laneA := r }
  | .b => { b with laneB := r }
  | .d => { b with laneD := r }

/-- Ends the test of a lane with INCOMPLETE and its detail: the bit of BIST_FAILS and the time of the latest PASS or FAIL stay (16 R407, R408). A pre-empted command test is queued again, a pre-empted TLOGIC keeps its completed slices, and a pre-empted CRYPTO or MARCH runs no sooner than 10 ms after this request (16 R419); any other end of TLOGIC ends its run. -/
def bistIncomplete (l : Lane) (detail : BitVec 2) (s : State) : State :=
  match s.bist.lane l with
  | none => s
  | some r =>
    let b := { s.bist with res := s.bist.res.set r.test (some ⟨3, r.origin, 0, detail⟩) }
    let b := if detail == 1 && r.origin == 2 then { b with queue := r.test :: b.queue } else b
    let b := if r.test == 29 then { b with slice := none } else b
    let b := if r.test == 29 && detail ≠ 1 then { b with slices := 0, sliceBad := none, sliceUs := 0 } else b
    let b := if detail == 1 && r.test == 30 then { b with again := s.now + 10000 } else b
    let b := if detail == 1 && r.test == 31 then { b with againMarch := s.now + 10000 } else b
    { s with bist := b.setLane l none }

/-- Ends every running test with INCOMPLETE. -/
def bistAbortAll (detail : BitVec 2) (s : State) : State :=
  forEach [.a, .b, .d] (fun l => bistIncomplete l detail) s

/-- The channel that a running test borrows (16 R405, R409). -/
def testChannel (b : Bist) (r : Running) : Option Nat :=
  if r.test < 12 then some r.test else if r.test < 24 then some (r.test - 12)
  else if r.test == 29 then b.slice else none

/-- Service pre-empts the running tests that `hit` names (16 R417, R418). -/
def bistPreempt (hit : Running → Bool) (s : State) : State :=
  forEach [.a, .b, .d] (fun l s => match s.bist.lane l with
    | some r => if hit r then bistIncomplete l 1 s else s
    | none => s) s

/-- A test holds channel n (16 R409). -/
def underTest (s : State) (n : Nat) : Bool :=
  [Lane.a, .b, .d].any fun l => match s.bist.lane l with
    | some r => testChannel s.bist r == some n
    | none => false

end Sys2Proof.Machine
end

