-- ==== Sys2Proof/Machine/Operands.lean ====
section
/-! DEFINITION. Operands that the applied structure gives a command: fields of the TOPO, TBASE, TMR, CH, FLT and ladder words, units, groups and bridges, and the rotation order of segments. -/

namespace Sys2Proof.Machine

/-! ### TOPO words (08 R230, R231) -/

/-- 0 static, 1 PWM, 2 bridge half, 3 parallel member. -/
def Chan.baseMode (c : Chan) : Nat := fld c.topo 27 25

/-- 0 NONE, 1 SYNC, 2 BRIDGE (02 R31). -/
def Chan.fwOpt (c : Chan) : Nat := fld c.topo 24 23

def Chan.refEn (c : Chan) : Bool := bitAt c.topo 22

/-- Ladder index, 0xF for none. -/
def Chan.ladderIx (c : Chan) : Nat := fld c.topo 13 10

def Chan.group (c : Chan) : Nat := fld c.topo 9 8

/-- The lead channel of CHn's unit: its group's lowest, CH(2p) of a bridge, or CHn itself (03 R76). -/
def leader (s : State) (n : Nat) : Nat :=
  let c := s.ch n
  if c.baseMode == 2 then n - n % 2
  else if c.baseMode == 3 then (if c.group == 2 then n - n % 6 else n - n % 2) else n

/-- Channels of the unit led by `u`. -/
def members (s : State) (u : Nat) : List Nat := (List.range 12).filter fun n => leader s n == u

/-- Lead channels. -/
def leaders (s : State) : List Nat := (List.range 12).filter fun n => leader s n == n

def isBridge (s : State) (u : Nat) : Bool := (s.ch u).baseMode == 2

/-- The channel whose own values CHn_MSTAT shows: the leader's in a parallel group (03 R86). -/
def shownBy (s : State) (n : Nat) : Nat := if (s.ch n).baseMode == 3 then leader s n else n

/-- A mask of channels with the other members of their parallel groups (07 R191). -/
def extend (s : State) (m : Mask12) : Mask12 :=
  maskOf 12 fun n => (List.range 12).any fun k => m.getLsbD k && (k == n || (s.ch n).baseMode == 3 && leader s k == leader s n)

/-- All 12 channels. -/
def allChans : Mask12 := 0xFFF

def chanMask (n : Nat) : Mask12 := maskOf 12 fun k => k == n

def pairMask (n : Nat) : Mask12 := maskOf 12 fun k => k / 2 == n / 2

def bankMask (n : Nat) : Mask12 := maskOf 12 fun k => k / 6 == n / 6

/-! ### Timers (04) -/

def Timer.func (t : Timer) : Nat := fld t.cfg 27 25

def Timer.group (t : Timer) : Nat := fld t.cfg 24 22

/-- Tick mode. -/
def Timer.tick (t : Timer) : Bool := bitAt t.cfg 21

def Timer.master (t : Timer) : Bool := bitAt t.cfg 20

/-- Dead time in units of 5 ns (04 R93). -/
def Timer.deadT (t : Timer) : Nat := fld t.edge 7 0

/-- Routed timer of CHn (04 R114). -/
def routeOf (s : State) (n : Nat) : Option Nat :=
  let t := fld (s.tbase.routes.getD (n / 4) 0x1FFFFFF) (5 * (n % 4) + 4) (5 * (n % 4))
  if t < 20 then some t else none

/-- The timer that CHn's gates follow in its base mode; a static channel follows none (03 R59, 08 R233). -/
def chTimer (s : State) (n : Nat) : Option Nat := if (s.ch n).baseMode == 0 then none else routeOf s n

/-- The master of timer t's group; t itself when it is ungrouped (04 R104). -/
def masterOf (s : State) (t : Nat) : Nat :=
  let g := (s.tm t).group
  if g == 0 then t else ((List.range 20).find? fun m => (s.tm m).group == g && (s.tm m).master).getD t

/-- A group member that is not the master. -/
def isMember (s : State) (t : Nat) : Bool := (s.tm t).group ≠ 0 && !(s.tm t).master

/-- The LIMP timer (04 R111). -/
def limpTimer (s : State) : Option Nat := (List.range 20).find? fun t => (s.tm t).func == 4

/-- The SYNC timer (04 R106). -/
def syncTimer (s : State) : Option Nat := (List.range 20).find? fun t => (s.tm t).func == 5

/-- PSC and PER in force of a timer: a group member runs its master's (04 R104). -/
def perWord (s : State) (t : Nat) : D28 := (s.tm (masterOf s t)).per

/-- Period in TIME ticks of a PER word (04 R89). -/
def perTicks (d : D28) : Nat := fld d 19 0 * 2 ^ fld d 22 20

/-- The period in force in TIME ticks; the SYNC timer's group runs on the tracked period once it has one (04 R106). -/
def periodOf (s : State) (t : Nat) : Nat :=
  if (s.tm (masterOf s t)).func == 5 && s.tbase.syncPer ≠ 0 then s.tbase.syncPer else perTicks (perWord s t)

/-- P of 04 R106's table: the period in force, or what P := I has set for the next boundary (log 127). -/
def trackedP (s : State) (t : Nat) : Nat := s.tbase.syncP.getD (periodOf s t)

/-- Counts of a timer's period in force; a SYNC period that is no multiple of 2^PSC ticks is rounded down (log 141). -/
def perCounts (s : State) (t : Nat) : Nat := periodOf s t / 2 ^ fld (perWord s t) 22 20

/-- Counter position in the present period, in counts (04 TMRt_CNT, log 18). -/
def countOf (s : State) (t : Nat) : Nat :=
  let tm := s.tm t
  if tm.run then min (tm.pos / 2 ^ fld (perWord s t) 22 20) (perCounts s t - 1) else 0

/-- Dead time of a unit in units of 5 ns (08 R231). -/
def unitDead (s : State) (u : Nat) : Nat :=
  match routeOf s u with
  | some t => (s.tm t).deadT
  | none => fld (s.ch u).topo 7 0

/-- Channels whose staged fields follow timer t (04 R101). -/
def routedTo (s : State) (t : Nat) : List Nat := (List.range 12).filter fun n => routeOf s n == some t

/-! ### Segments and ladders (03 R63 to R68) -/

/-- The rotation order: position j is local segment 13 j mod 42. -/
def rotation (j : Nat) : Nat := 13 * j % 42

/-- The ring of non-retired segments from the set's present position. -/
def ringFrom (c : Chan) : List Nat :=
  ((List.range 42).map fun i => rotation ((c.ring + i) % 42)).filter fun g => !c.retired.getLsbD g

/-- The first `k` entries of the ring. -/
def engagedSet (c : Chan) (k : Nat) : Mask42 :=
  let l := (ringFrom c).take k
  maskOf 42 fun i => l.contains i

/-- The set advances by `k` entries around the ring (03 R67). A segment's position is 13 times its index, since 13 × 13 = 4 × 42 + 1. -/
def advance (c : Chan) (k : Nat) : Chan :=
  let l := ringFrom c
  if l.isEmpty then c else { c with ring := rotation (l.getD (k % l.length) 0) }

/-- Count of non-retired segments. -/
def Chan.alive (c : Chan) : Nat := 42 - popcount c.retired

def Chan.hasLadder (c : Chan) : Bool := c.ladderIx < 12

/-- Words of a unit's ladder, header first. -/
def ladderOf (s : State) (u : Nat) : List D28 := s.dev.ladders.getD (s.ch u).ladderIx []

def ladderKind (l : List D28) : Nat := fld (l.getD 0 0) 23 22

def ladderSteps (l : List D28) : Nat := fld (l.getD 0 0) 21 18

/-- First and second word of step k. -/
def stepA (l : List D28) (k : Nat) : D28 := l.getD (2 * k - 1) 0
def stepB (l : List D28) (k : Nat) : D28 := l.getD (2 * k) 0

def stepSegs (l : List D28) (k : Nat) : Nat := fld (stepA l k) 27 22
def stepIlim (l : List D28) (k : Nat) : Nat := fld (stepA l k) 21 13
/-- DWELL in microseconds. -/
def stepDwell (l : List D28) (k : Nat) : Nat := fld (stepA l k) 12 1 * 100
def stepEarly (l : List D28) (k : Nat) : Bool := bitAt (stepA l k) 0
def stepRot (l : List D28) (k : Nat) : Nat := fld (stepB l k) 27 26
/-- OFFT in units of 0.5 µs. -/
def stepOfft (l : List D28) (k : Nat) : Nat := fld (stepB l k) 25 19

/-- A member's chop threshold in a step, in 0.25 A: scaled down when fewer segments remain than the step asks for (03 R68). -/
def chopThreshold (c : Chan) (l : List D28) (k : Nat) : Nat :=
  if c.alive < stepSegs l k then stepIlim l k * c.alive / stepSegs l k else stepIlim l k

/-- The effective cycle limit in 0.25 A, capped at 80 A × (42 − r) ÷ 42 (02 R47). -/
def Chan.ilimEff (c : Chan) : Nat := min (fld c.ilim 8 0) (320 * c.alive / 42)

/-- iref_eff in A, of the CHn_I2T that the model uses (06 R144, R178). -/
def Chan.irefEff (c : Chan) : Rat := (fld c.i2tUse 8 0 : Rat) / 4 * (c.alive : Rat) / 42

/-- The I²t trip level in A² (06 R144). -/
def Chan.tripLevel (c : Chan) : Rat := (11 / 10 * c.irefEff) * (11 / 10 * c.irefEff)

/-! ### Limp-home map, retry policies, reaction entries -/

/-- 0 OFF, 1 ON, 2 DUTY (08 R237). -/
def Chan.limpAct (c : Chan) : Nat := fld c.limp 27 26

/-- UNLIM, TRIES and WAIT of a class (06 R160). -/
def policy (c : Chan) : RetryClass → Bool × Nat × Nat
  | .ovl => (bitAt c.rpolA 9, fld c.rpolA 8 5, fld c.rpolA 4 0)
  | .sc => (bitAt c.rpolA 19, fld c.rpolA 18 15, fld c.rpolA 14 10)
  | .hs => (bitAt c.rpolB 9, fld c.rpolB 8 5, fld c.rpolB 4 0)
  | .bst => (bitAt c.rpolB 19, fld c.rpolB 18 15, fld c.rpolB 14 10)
  | .inrush => (bitAt c.rpolC 9, fld c.rpolC 8 5, fld c.rpolC 4 0)

/-- Nominal wait of a code in microseconds, 100 µs × 10^(WAIT ÷ 4), as the table of 06 R160 gives it. -/
def waitUs (code : Nat) : Nat :=
  [100, 178, 316, 562, 1000, 1780, 3160, 5620, 10000, 17800, 31600, 56200, 100000, 178000, 316000, 562000,
   1000000, 1780000, 3160000, 5620000, 10000000].getD code 10000000

/-- The reaction entry of a source, 14 bits (07 FLT_RXm). -/
def entryOf (s : State) (src : Nat) : Nat :=
  let w := s.flt.rx.getD (src / 2) 0
  if src % 2 == 0 then fld w 13 0 else fld w 27 14

def entryReact (e : Nat) : Nat := e / 2048 % 8
def entryPerm (e : Nat) : Bool := e.testBit 10
def entryDry (e : Nat) : Nat := e / 64 % 16
def entryCh (e : Nat) : Nat := e / 4 % 16

/-- Retry class of a source (07 R182, R183). -/
def retryClass (src : Nat) : Option RetryClass :=
  if src < 96 then
    match src % 8 with
    | 0 => some .hs
    | 1 => some .sc
    | 2 => some .ovl
    | 3 => some .inrush
    | _ => none
  else if src == 98 then some .bst else none

/-- BLANK timer's window length in ticks for a channel; 0 when it has none (04 R108, R109). -/
def blankLen (s : State) (c : Chan) : Nat :=
  let t := fld c.pcfg 4 0
  if t < 20 then fld (s.tm t).duty 23 4 else 0

end Sys2Proof.Machine
end

