-- ==== Sys2Proof/Machine/Flags.lean ====
section
/-! DEFINITION. Status conditions computed from the state: PRESENT bits, holds, permits, HEALTH, the lease and limp-home conditions. -/

namespace Sys2Proof.Machine

/-- Sillage kinds with every channel in scope (07 R202, R203). -/
def kindLimp : Nat := 4
def kindPerm : Nat := 5

/-- A port holds a valid lease (11 R330). -/
def leaseValid (s : State) (p : Port) : Bool := (s.ses.get p).leaseValid

/-- The holder of write authority holds a valid lease. -/
def holderLeased (s : State) : Bool :=
  match s.auth.holder with
  | some p => leaseValid s p
  | none => false

/-- The condition of LEASE_LOST (07 R183). -/
def leaseLost (s : State) : Bool := s.auth.granted && !holderLeased s

/-- DEV_STAT.LEASEOK: a LEASE from the holder has been accepted since its session was established (12 R337). -/
def leaseOk (s : State) : Bool :=
  match s.auth.holder with
  | some p => (s.ses.get p).leaseSeen
  | none => false

/-- Cause I2T of CHn_OVL holds (07 R182). -/
def i2tPresent (c : Chan) : Bool := decide (c.irefEff * c.irefEff < c.e) && c.alive ≠ 0

/-- Cause OTS holds: the latest reading of a non-retired segment is 175 °C or more. -/
def otsPresent (s : State) (n : Nat) : Bool :=
  (List.range 42).any fun i => !(s.ch n).retired.getLsbD i && s.meas.hot.getD (42 * n + i) 0 ≠ 0

/-- PRESENT of channel source j, without force (07 R182). -/
def chanPresent (s : State) (n j : Nat) : Bool :=
  let c := s.ch n
  match j with
  | 0 => c.hsLatch || c.dsLatch
  | 1 => c.scLatch
  | 2 => i2tPresent c || c.prot.clact || otsPresent s n || c.fwHot ≠ 0
  | 3 => c.inrush
  | 4 => c.suspect
  | 6 => c.cand.isSome
  | 7 => c.stuck
  | _ => false

/-- PRESENT of a global source, without force and without sources that last until the next start (07 R183). -/
def globalPresent (s : State) (src : Nat) : Bool :=
  if 99 ≤ src && src ≤ 106 then s.limp.trips.getLsbD (src - 99)
  else match src with
    | 98 => (List.range 12).any fun n => (s.ch (leader s n)).onReq && (s.ch n).bstUv
    | 107 => leaseLost s
    | 108 => s.limp.disagree
    | 109 => s.tbase.sync == .holdover
    | 117 => s.hold.low
    | 119 => s.bist.fails ≠ 0
    | _ => false

/-- The PRESENT bit of a source (07 R182, R183, R215). -/
def present (s : State) (src : Nat) : Bool :=
  s.flt.force.getLsbD src || s.flt.lasting.getLsbD src ||
    (if src < 96 then chanPresent s (src / 8) (src % 8) else globalPresent s src)

/-- PRESENT as CORE's mirror shows it: GUARD sends no word once it has stopped (14 R356, log 172). -/
def shownPresent (s : State) (src : Nat) : Bool := if s.clk.guardStop then s.flt.presHeld.getLsbD src else present s src

/-- The source's record is not CLEAR (07 R187). -/
def outstanding (f : Flt) (src : Nat) : Bool := (f.records.getD src Record.reset).state ≠ .clear

def noneOutstanding (f : Flt) : Bool := f.records.all fun r => r.state == .clear

/-- A PERM hold is in force (07 R191). -/
def permHold (f : Flt) : Bool := f.holds.any Hold.perm

/-- A reaction of limp-home scope is in force (06 R174). -/
def limpHold (f : Flt) : Bool := f.holds.any Hold.limp

/-- The conditions of 07 R200. -/
def permitsAllowed (s : State) : Bool :=
  s.dev.fpermit && !s.flt.safe && !permHold s.flt && !(s.limp.active && !s.limp.permKeep)

/-- The conditions of 07 R201. -/
def healthAllowed (s : State) : Bool := s.dev.fpermit && !s.flt.safe && noneOutstanding s.flt

/-- The conditions of 06 R174 for leaving limp-home. -/
def exitOk (s : State) : Bool := s.limp.released && holderLeased s && !limpHold s.flt

/-- The VBATx comparator of CHn's bank reads OK (17 R430). -/
def vbatOk (s : State) (n : Nat) : Bool := if n < 6 then s.sup.vbatA else s.sup.vbatB

/-- Trip latches and the BST_UV hold of rank 2 (06 R158). -/
def rank2 (c : Chan) : Bool := c.scLatch || c.hsLatch || c.dsLatch || c.uvHold

/-- Reaction holds and retry states of rank 3 (06 R158). -/
def rank3 (s : State) (n : Nat) : Bool :=
  (s.flt.holds.any fun h => h.scope.getLsbD n) ||
    (match (s.ch n).retry.state with
      | .wait | .lockout | .safe => true
      | _ => false)

/-- A half of a bridge that a hold of rank 3 keeps off, out of the safe state; R191 and 03 R78 carry such a hold to the other half only where its scope holds both (06 R158, log 128). -/
def halfHeld (s : State) (n : Nat) : Bool := (s.ch n).baseMode == 2 && !s.flt.safe && rank3 s n

/-- Rank 3 holds a unit: any channel of a single channel or a parallel group, both halves of a bridge (06 R158, 07 R191, log 128). -/
def unitHeld (s : State) (u : Nat) : Bool :=
  (members s u).any (rank3 s) && (!isBridge s u || (members s u).all (rank3 s))

/-- The class of a source: 0 C, 1 U, 2 F (07 R182 to R184, R213). -/
def classOf (s : State) (src : Nat) : BitVec 2 :=
  if src < 96 then (if src % 8 == 7 then 2 else if src % 8 == 6 then 0 else 1)
  else if 99 ≤ src && src ≤ 106 then
    let e := entryOf s src
    if entryReact e == 6 then 2 else if entryReact e == 0 && !entryPerm e then 0 else 1
  else match src with
    | 96 | 97 | 111 | 112 | 113 | 114 | 116 => 2
    | 115 => if bitAt s.flt.cfg 27 then 1 else 2
    | 108 | 109 => 0
    | _ => 1

/-- Sources whose events GUARD or the power die detects; with GUARD stopped nobody records them (07 R198, 13 R344). -/
def guardSource (src : Nat) : Bool :=
  if src < 96 then src % 8 == 0 || src % 8 == 1 || src % 8 == 7
  else src ≤ 108 || src == 112 || src == 113 || src == 115 || src == 116

/-- The kind-k window lists a source (07 R203). -/
def lists (f : Flt) (w : Window) (src : Nat) : Bool :=
  if src < 96 then bitAt (f.cqch.getD w.kind 0) (src % 8) && w.scope.getLsbD (src / 8)
  else bitAt (f.cqgl.getD w.kind 0) (src - 96)

/-- Drydown applies to a record, by the reaction it shows: one that an escalation has raised to SAFE dries only with PERM (07 R206, R207, log 75). -/
def dryApplies (s : State) (src : Nat) (r : Record) : Bool :=
  entryDry (entryOf s src) ≠ 0 && !r.retryHeld && ((2 ≤ r.react.toNat && r.react.toNat ≤ 5) || r.perm)

/-- Drydown time in microseconds (07 R207). -/
def dryUs (s : State) (src : Nat) : Nat := 100 * 2 ^ (entryDry (entryOf s src) - 1)

/-- Number of outstanding sources (07 FLT_STAT.OUTCNT). -/
def outCount (f : Flt) : Nat := (f.records.filter fun r => r.state ≠ .clear).length

end Sys2Proof.Machine
end

