-- ==== Sys2Proof/Machine/Gates.lean ====
section
/-! DEFINITION. Gate operations on switching units: turn-on and turn-off, ladders, bridges, and what a timer's period start does to the units it drives (02, 03, 04). -/

namespace Sys2Proof.Machine

/-! ### Legs and freewheel stages -/

/-- The channels of a list that no hold of rank 3 keeps off as a half of a bridge. -/
def unheld (s : State) (l : List Nat) : List Nat := l.filter fun n => !halfHeld s n

/-- Channels of a unit whose high sides switch now: all members, or the switching leg of a bridge unless it is held off (03 R72, 06 R158). -/
def legs (s : State) (u : Nat) : List Nat :=
  if isBridge s u then
    match (s.ch u).bridge with
    | .fwd => unheld s [u]
    | .rev => unheld s [u + 1]
    | _ => []
  else members s u

/-- Channels whose freewheel stage turns on after a dead time. -/
def fwLegs (s : State) (u : Nat) : List Nat :=
  if isBridge s u && (s.ch u).bridge == .brake then unheld s [u, u + 1] else legs s u

/-- The freewheel stage of a channel whose unit is off: option NONE and a stuck channel hold it off at all times, the safe state follows FLT_SAFEFW, and SYNC runs to zero current (02 R31, R33, R49, 03 R70, 07 R195, log 89). -/
def restFw (s : State) (n : Nat) : Freewheel :=
  let c := s.ch n
  let toZero : Freewheel := if c.zeroI then .off else .diode
  if c.stuck || c.fwOpt == 0 then .off
  else if s.flt.safe then
    match fld s.flt.safefw (2 * n + 1) (2 * n) with
    | 1 => toZero
    | 2 => .on
    | _ => .off
  else if c.fwOpt == 1 then toZero else .off

/-- The freewheel stage after a dead time: diode emulation under SYNC until its current has fallen below 0.2 A, driven under BRIDGE (02 R31, R33, 04 R93). -/
def driveFw (c : Chan) : Freewheel :=
  if c.stuck then .off else if c.fwOpt == 1 then (if c.zeroI then .off else .diode) else if c.fwOpt == 2 then .on else .off

/-! ### High sides -/

/-- A turn-on opens or restarts the channel's blanking window (04 R109); a window already open keeps its cap (06 R150). -/
def openBlank (s : State) (c : Chan) : Chan :=
  if blankLen s c == 0 then c else { c with blank := true, blankCap := c.blank && c.blankCap }

/-- Segments a member engages while on: the step's set in a ladder, else all that are not retired (03 R59, R67). -/
def onSet (s : State) (u : Nat) (c : Chan) : Mask42 :=
  if (s.ch u).drive == .ladder then engagedSet c (stepSegs (ladderOf s u) (s.ch u).lad.step) else ~~~c.retired

/-- The chop threshold that a turn-on loads in a member's comparator, in 0.25 A: the step's in a ladder, scaled to the segments that remain (03 R65, R68). -/
def loadedLimit (s : State) (u : Nat) (c : Chan) : Nat :=
  if (s.ch u).drive == .ladder then chopThreshold c (ladderOf s u) (s.ch u).lad.step else c.limit

/-- A unit under test is taken back before a gate of it rises (16 R417, R418). -/
def returnUnit (u : Nat) (s : State) : State :=
  bistPreempt (fun r => match testChannel s.bist r with
    | some n => (members s u).contains n
    | none => false) s

/-- A channel's turn-on: a new on-interval, freewheel gates off first (02 R23, R32). -/
def chanOn (s : State) (blank : Bool) (u : Nat) (c : Chan) : Chan :=
  let c := { c with hs := onSet s u c, tripped := 0, fw := .off, zeroI := false, limit := loadedLimit s u c }
  if blank then openBlank s c else c

/-- Turns the unit's high sides on. -/
def gatesOn (blank : Bool) (u : Nat) (s : State) : State :=
  forEach (legs s u) (fun n s => s.onCh n (chanOn s blank u)) (returnUnit u s)

/-- An off-interval of the unit is under way. -/
def blocked (c : Chan) : Bool := c.chopOff || c.cutOff || c.cutPeriod || c.refreshing || c.lad.inOff

/-- The unit's drive asks for its high sides: on without a timer, in a ladder, or in the pulse of a period. -/
def driveAsks (c : Chan) : Bool :=
  match c.drive with
  | .steady | .ladder => true
  | .timed _ => c.pulse ≠ .off
  | _ => false

/-- The unit's high sides are on, or they would be if the power die did not force them off for want of the heartbeat, which acts on the high sides alone (13 R345). -/
def lit (s : State) (u : Nat) : Bool :=
  let c := s.ch u
  (legs s u).any (fun n => (s.ch n).hs ≠ 0) || (s.pins.heart && driveAsks c && !blocked c && c.dt ≠ .toHigh)

/-- Turns the unit's high sides off; the freewheel stage follows one dead time later where it is fitted (04 R93), also while the power die forces the high sides off (13 R345). A unit whose high sides are off already keeps what its freewheel stage waits for, but a turn-on that waited does not come. -/
def gatesOff (u : Nat) (s : State) : State :=
  let was := lit s u
  let s := forEach (legs s u) (fun n s => s.onCh n fun c => { c with hs := 0 }) s
  s.onCh u fun c => { c with dt := if c.fwOpt == 0 then .none else if was || c.dt == .toHigh then .toFreewheel else c.dt }

/-- The end of an off-interval: the high sides turn on unless another one runs or the timer asks for no pulse. -/
def resume (blank : Bool) (u : Nat) (s : State) : State :=
  let c := s.ch u
  if driveAsks c && !blocked c then (gatesOn blank u s).onCh u fun c => { c with dt := .none } else s

/-! ### Ladders (03 R63 to R70) -/

/-- A running ladder is aborted (03 R70). -/
def abortLadder (l : Ladder) : Ladder :=
  if l.step = 0 then { l with inOff := false } else { l with step := 0, inOff := false, res := 3 }

/-- Starts the unit's ladder at step 1, with the first entries of the ring (03 R67); a cut of a period before it is over. -/
def startLadder (u : Nat) (s : State) : State :=
  let s := forEach (members s u) (fun n s => s.onCh n fun c => { c with ring := 0 }) s
  let s := s.onCh u fun c =>
    { c with drive := .ladder, inrush := false, cutPeriod := false,
             lad := { Ladder.reset with step := 1, stepAt := s.now, res := c.lad.res } }
  gatesOn true u s

/-- One chop of the running step: engaged segments off for the step's OFFT from now, and under ROT = 1 the set advances. With OFFT above 2 × DT the freewheel stage comes one dead time later (03 R65, R67); a cut within an off-time is one more chop and starts OFFT again (07 R190). -/
def ladderChop (u : Nat) (s : State) : State :=
  let l := ladderOf s u
  let k := (s.ch u).lad.step
  let s := gatesOff u s
  let s := if stepRot l k == 1 then
      forEach (legs s u) (fun n s => s.onCh n fun c => advance c (stepSegs l k)) s
    else s
  s.onCh u fun c =>
    { c with lad := { c.lad with inOff := true, chops := sat 0xFFF (c.lad.chops + 1), lastChop := some s.now, offt := stepOfft l k },
             dt := if stepOfft l k * 100 ≤ 2 * unitDead s u then .none
               else if c.fwOpt ≠ 0 && c.dt == .none then .toFreewheel else c.dt }

/-! ### Turn-off and turn-on of a unit -/

/-- The unit's gates go off whichever way it was driven (03 R60, R70, 06 R158). A ladder that this cuts short reads LADRES 0b11, whoever turned the unit off (log 104). -/
def unitOff (u : Nat) (s : State) : State :=
  let s := forEach (members s u) (fun n s => s.onCh n fun c => { c with hs := 0, fw := restFw s n }) s
  s.onCh u fun c =>
    { c with drive := .off, pulse := .off, dt := .none, chopOff := false, cutOff := false, cutPeriod := false,
             refreshing := false, refreshDue := false, lingers := false, bridge := .coast, revTo := none, lad := abortLadder c.lad }

/-- Mode-specific start of a turn-on that nothing holds or refuses (03 R59, R60). A unit that a timer drives turns on at that timer's next period start, with its ladder if it has one: a parallel group with its own timer (02 R53, 03 R80, 06 R174, log 118), and under limp-home a DUTY unit with the LIMP timer, until one ladder has ended with its check passed (06 R172). -/
def beginUnit (u : Nat) (s : State) : State :=
  let c := s.ch u
  if isBridge s u then
    match c.want with
    | .timed t => s.onCh u fun c => { c with drive := .timed t, pulse := .off }
    | _ => s
  else if c.hasLadder then
    match c.want with
    | .timed t => s.onCh u fun c =>
        if c.byLimp && c.limpLad then { c with drive := .timed t, pulse := .off } else { c with drive := .ladderAt t }
    | .on => startLadder u s
    | .off => s
  else
    match c.want with
    | .timed t => s.onCh u fun c => { c with drive := .timed t, pulse := .off }
    | .on => gatesOn true u (s.onCh u fun c => { c with drive := .steady })
    | .off => s

/-- A turn-on past the hold of R29: refused when a member has every segment retired (02 R45, 03 R79) or the bank's battery is not OK (02 R52). A bridge is refused as a whole as a parallel group is (log 90). -/
def proceed (u : Nat) (s : State) : State :=
  if (members s u).any (fun n => (s.ch n).alive == 0) || !vbatOk s u then
    s.onCh u fun c => { c with drive := .barred }
  else beginUnit u s

/-- A turn-on: a unit under test is taken back first (16 R417), then R29, R45 and R52 are judged in that order (03 R61). -/
def attempt (u : Nat) (s : State) : State :=
  let s := returnUnit u s
  if (members s u).any fun n => (s.ch n).bstLow then s.onCh u fun c => { c with drive := .waiting s.now }
  else proceed u s

/-- What the governing row of 06 R158 asks of a unit, and whether it is the limp-home map that asks. A hold on any member holds the unit (03 R78); one of rank 3 on a half of a bridge holds that half alone (`halfHeld`). A unit that lingers after limp-home stays as it was (R174). -/
def wantOf (s : State) (u : Nat) : Want × Bool :=
  if !s.dev.struct || s.flt.safe || (members s u).any (fun n => rank2 (s.ch n)) || unitHeld s u then (.off, false)
  else if s.limp.active then
    match (s.ch u).limpAct, limpTimer s with
    | 1, _ => (.on, true)
    | 2, some t => (.timed t, true)
    | _, _ => (.off, true)
  else if (s.ch u).onReq then
    match chTimer s u with
    | some t => (.timed t, false)
    | none => (.on, false)
  else if (s.ch u).lingers then ((s.ch u).want, true)
  else (.off, false)

/-- A drive that has begun, past any hold of the turn-on: a bridge's that is live. -/
def bridgeLive (c : Chan) : Bool :=
  match c.drive with
  | .timed _ | .ladder | .steady => true
  | _ => false

/-- The timer's pulses in place of what a bridge does now. -/
def timedDrive (c : Chan) : Drive :=
  match c.want with
  | .timed t => .timed t
  | _ => c.drive

/-- The switching leg of a bridge is held off: its ladder is aborted (03 R70) and no refresh is due; the timer goes on, and the opposite leg with it (log 128). -/
def legHeld (u : Nat) (s : State) : State :=
  s.onCh u fun c =>
    { c with pulse := if c.drive == .ladder then .off else c.pulse, refreshDue := false, refreshing := false, lad := abortLadder c.lad,
             drive := if c.drive == .ladder then timedDrive c else c.drive }

/-- The halves of a bridge follow rank 3 each (06 R158). When a half's hold ends, the bridge that is asked for turns on anew from COAST, as after a retry (R163, log 128). -/
def settleHalves (u : Nat) (s : State) : State :=
  if !isBridge s u then s
  else
    let ended := (members s u).any fun n => (s.ch n).half && !rank3 s n
    let s := forEach (members s u) (fun n s => s.onCh n fun c => { c with half := rank3 s n }) s
    let c := s.ch u
    let waits := match c.drive with
      | .waiting _ => true
      | _ => false
    if (wantOf s u).1 == .off || c.want == .off then s
    else if ended && !waits && !c.cancelled then attempt u (unitOff u s)
    else if (c.bridge == .fwd || c.bridge == .rev) && (legs s u).isEmpty then legHeld u s
    else s

/-- Brings a unit into line with what is asked of it (06 R158). A turn-on that was cancelled after 20 ms comes again only with a new turn-on of 02 R29 (`Chan.cancelled`). When the limp-home map's ON takes over a unit that a timer drove, a cut of the period in progress ends at once (DESIGN CHOICE, log 152). -/
def settleUnit (u : Nat) (s : State) : State :=
  let (w, lp) := wantOf s u
  let c := s.ch u
  let s' := s.onCh u fun c => { c with want := w, byLimp := lp }
  if w == .off then (if c.want == .off && c.drive == .off then s' else unitOff u s')
  else if c.want == .off then (if c.cancelled then s'.onCh u fun c => { c with drive := .barred } else attempt u s')
  else if c.want == w && c.byLimp == lp then s
  else
    match c.drive, w with
    | .barred, _ => if lp && !c.byLimp then attempt u s' else s'
    | .ladderAt _, .on => startLadder u s'
    | .ladderAt _, .timed t => s'.onCh u fun c => { c with drive := .ladderAt t }
    | .timed _, .on =>
      let s' := s'.onCh u fun c => { c with drive := .steady, pulse := .off, cutPeriod := false, dt := .none }
      if (legs s' u).any fun n => (s'.ch n).hs ≠ 0 then s' else resume true u s'
    | _, _ => s'

/-! ### Pulses (04 R90 to R95) -/

/-- i with its four bits in reverse order. -/
def rev4 (i : Nat) : Nat := i % 2 * 8 + i / 2 % 2 * 4 + i / 4 % 2 * 2 + i / 8 % 2

/-- On-time in sixteenths of a count; `ratio` is the limp-home map's when it drives (04 R90, R111). -/
def onSixteenths (s : State) (t : Nat) (ratio : Option Nat) : Nat :=
  let d := (s.tm t).duty
  match ratio with
  | some r => r * perCounts s t / 4096
  | none => if (s.tm t).tick then 16 * fld d 23 4 + fld d 3 0 else fld d 15 0 * perCounts s t / 4096

/-- Dithered on-time of the present period in TIME ticks (04 R91, R92). -/
def onTicks (s : State) (t : Nat) (ratio : Option Nat) : Nat :=
  let w := onSixteenths s t ratio
  (w / 16 + if rev4 (s.tm t).dith < w % 16 then 1 else 0) * 2 ^ fld (perWord s t) 22 20

/-- RATIO = 0xFFFF in ratio mode. -/
def fullRatio (s : State) (t : Nat) (ratio : Option Nat) : Bool :=
  match ratio with
  | some r => r == 0xFFFF
  | none => !(s.tm t).tick && fld (s.tm t).duty 15 0 == 0xFFFF

/-- Row of 04 R94 that a period meets: the output, and which counter it adds to: 0 none, 1 MINPULSE_SKIP, 2 MINOFF_HOLD. -/
def decide94 (s : State) (t : Nat) (ratio : Option Nat) : Pulse × Nat :=
  let on := onTicks s t ratio
  let e := (s.tm t).edge
  let dt := 2 * fld e 7 0
  let minOn := 16 + 4 * fld e 13 8
  let minOff := 16 + 4 * fld e 19 14
  if on = 0 then (.off, 0)
  else if fullRatio s t ratio then (.hold, 0)
  else if on < dt + minOn then (.off, 1)
  else if periodOf s t < on + dt + minOff then (.hold, 2)
  else (.pulse, 0)

/-- The limp-home map's ratio for a unit that the LIMP timer drives; another timer's own duty stands (04 R111). -/
def unitRatio (s : State) (t : Nat) (c : Chan) : Option Nat := if (s.tm t).func == 4 then some (fld c.limp 15 0) else none

/-- A refresh pulse starts: the unit's high sides are off for its width (03 R81, R82, R84). One that begins within a chop's off-time leaves the freewheel stage as the chop has it (log 118). The unit keeps it in its lead channel; COUNT is the switching leg's in a bridge. -/
def startRefresh (u : Nat) (s : State) : State :=
  let n := if isBridge s u then (legs s u).getD 0 u else u
  let s := (gatesOff u s).onCh n fun c => { c with refreshes := sat 0xFFFF (c.refreshes + 1) }
  s.onCh u fun c => { c with refreshing := true, refreshDue := false, refreshAt := some s.now }

/-- The freewheel stages of an off unit whose option drives them through the off-interval (02 R31, 03 R72); a stage that still waits for its dead time is left to it. -/
def offInterval (u : Nat) (s : State) : State :=
  if (s.ch u).dt ≠ .none then s
  else forEach (legs s u) (fun n s => s.onCh n fun c => if c.fwOpt == 2 then { c with fw := driveFw c } else c) s

/-- One period of a unit that follows timer t (04 R93 to R95); a refresh that is due replaces its start (03 R81). A pulse after a held-on period begins without an edge (log 94). -/
def timedPeriod (t u : Nat) (s : State) : State :=
  let p := (decide94 s t (unitRatio s t (s.ch u))).1
  let on := lit s u
  let s := if p == .off && on then gatesOff u s else s
  let s := s.onCh u fun c => { c with drive := .timed t, cutPeriod := false, pulse := p }
  if p == .off then
    if on then s
    else offInterval u (s.onCh u fun c => { c with dt := if c.dt == .toHigh then .none else c.dt })
  else if (s.ch u).refreshDue then
    startRefresh u s
  else if on then s
  else
    let s := forEach (legs s u) (fun n s => s.onCh n fun c => { c with fw := .off }) (returnUnit u s)
    s.onCh u fun c => { c with dt := .toHigh }

/-! ### Bridges (03 R72 to R75) -/

def bridgeOf (cmd : BitVec 2) : Bridge :=
  if cmd = 0 then .coast else if cmd = 1 then .fwd else if cmd = 2 then .rev else .brake

/-- COAST: every gate of the pair off (03 R72); a cut of the period is over with it, as at BRAKE. -/
def coastUnit (u : Nat) (s : State) : State :=
  let s := forEach [u, u + 1] (fun n s => s.onCh n fun c => { c with hs := 0, fw := .off }) s
  s.onCh u fun c => { c with bridge := .coast, revTo := none, pulse := .off, cutPeriod := false, refreshing := false, refreshDue := false, dt := .none,
                             lad := abortLadder c.lad, drive := timedDrive c }

/-- BRAKE: both freewheel stages on, one dead time after the switching leg turned off (03 R72, R74). A ladder that it cuts short is aborted as by COAST (log 93). -/
def brakeUnit (rev : Option Bridge) (u : Nat) (s : State) : State :=
  let hot := lit s u
  let sw := legs s u
  let was := hot || [u, u + 1].any fun n => (s.ch n).hs ≠ 0
  let s := forEach [u, u + 1] (fun n s => s.onCh n fun c =>
    if c.hs ≠ 0 || (hot && sw.contains n) then { c with hs := 0 } else { c with fw := driveFw c }) s
  s.onCh u fun c => { c with bridge := .brake, revTo := rev, pulse := .off, cutPeriod := false, refreshing := false, refreshDue := false,
                             dt := if was then .toFreewheel else .none, lad := abortLadder c.lad, drive := timedDrive c }

/-- A BRCMD that comes into force (03 R73, R74). -/
def bridgeCommand (u : Nat) (s : State) : State :=
  let c := s.ch u
  if !isBridge s u || !bridgeLive c then s
  else
    match bridgeOf c.brcmd, c.bridge with
    | .coast, .coast => s
    | .coast, _ => coastUnit u s
    | .brake, .brake => s.onCh u fun c => { c with revTo := none }
    | .brake, _ => brakeUnit none u s
    | .fwd, .rev => brakeUnit (some .fwd) u s
    | .rev, .fwd => brakeUnit (some .rev) u s
    | d, .brake => if c.revTo.isSome && c.revTo ≠ some d then s.onCh u fun c => { c with revTo := none } else s
    | _, _ => s

/-- Entry into FWD or REV: the opposite leg's freewheel stage on, then the ladder or the timer's pulses (03 R73, R75). It is no turn-on that 02 R29 holds (log 90); no ladder runs on a switching leg that is held off. -/
def bridgeEnter (t : Nat) (d : Bridge) (u : Nat) (s : State) : State :=
  let opp := if d == .fwd then u + 1 else u
  let s := forEach [u, u + 1] (fun n s => s.onCh n fun c =>
    { c with zeroI := false, fw := if n == opp then driveFw c else c.fw }) (returnUnit u s)
  let s := s.onCh u fun c => { c with bridge := d, revTo := none }
  if (s.ch u).hasLadder && !(legs s u).isEmpty then startLadder u s else timedPeriod t u s

/-- A period start of a bridge: a reversal ends when both stages read below 0.2 A (03 R74); `ready` says so for a wait that began earlier. On a member of a synchronisation group COAST, BRAKE and the start of a reversal have acted at the group boundary, and FWD or REV with its ladder is entered here, at the member's own period start (log 102). -/
def bridgePeriod (t : Nat) (ready : Bool) (u : Nat) (s : State) : State :=
  let c := s.ch u
  match c.revTo with
  | some d => if ready then bridgeEnter t d u s else s
  | none =>
    let d := bridgeOf c.brcmd
    if d == .coast then s
    else if d == .brake then (if c.bridge == .brake then s else brakeUnit none u s)
    else if c.bridge == d then timedPeriod t u s else bridgeEnter t d u s

/-! ### Period starts (04 R92, R98, R101, R102, R107, R110) -/

/-- Staged channel fields routed to timer t come into force (04 R101). -/
def applyStaged (c : Chan) : Chan :=
  { c with brcmd := c.brcmdLatch.getD c.brcmd, brcmdLatch := none, ilim := c.ilimLatch.getD c.ilim, ilimLatch := none }

/-- A committed set that R102 refuses: in tick mode W does not lie below the period in counts, or a member's PHASE does not lie below the group's; PHASE of a BLANK timer is not judged (log 145). -/
def latchBad (s : State) (t : Nat) (per duty phase : D28) : Bool :=
  let tm := s.tm t
  let mem := isMember s t
  let cnt := if mem then perCounts s t else fld per 19 0
  tm.func ≠ 2 && ((tm.tick && cnt ≤ fld duty 23 4) || (mem && cnt ≤ fld phase 19 0))

/-- The timer's commit latch is applied whole or refused (04 R102). -/
def applyTimerLatch (t : Nat) (s : State) : State :=
  match (s.tm t).latch with
  | none => s
  | some (per, duty, phase) =>
    s.onTm t fun tm =>
      if latchBad s t per duty phase then { tm with latch := none, loadReject := true }
      else { tm with latch := none, per := if isMember s t then tm.per else per, duty := duty, phase := phase }

/-- A boundary of timer t applies its latch, and the staged fields of its channels with it (04 R101, R102, 03 R73). -/
def applyLatch (t : Nat) (s : State) : State :=
  let s := forEach (routedTo s t) (fun n s => s.onCh n applyStaged) (applyTimerLatch t s)
  forEach (leaders s) (fun u s => if routeOf s u == some t then bridgeCommand u s else s) s

/-- Triggers of an edge join the pending ones in order of arrival, each with its time; one not yet converted is replaced (05 R125). -/
def trigger (t : Nat) (edgeB : Bool) (s : State) : State :=
  forEach (List.range 8) (fun m s =>
    let e := s.meas.trig.getD m 0
    if bitAt e 27 && fld e 26 22 == t && bitAt e 21 == edgeB then
      { s with meas := { s.meas with trigs := (s.meas.trigs.filter (· ≠ m)) ++ [m], trigAt := s.meas.trigAt.set m s.now } }
    else s) s

/-- A unit that lingers after limp-home goes by its on-request from its routed timer's next period start: one without goes off as the units settle (06 R174). -/
def endLinger (u : Nat) (s : State) : State := s.onCh u fun c => { c with lingers := false }

/-- What a period start of timer t does to one unit. A unit that goes over to another timer follows t until the other's next period start (04 R111). A cut for the period of a unit that is held on steady, as by the limp-home map, ends with that period of its routed timer, which runs until then (`awaits`, log 45). -/
def unitPeriod (t : Nat) (ready : List Nat) (u : Nat) (s : State) : State :=
  let c := s.ch u
  if c.lingers && !c.onReq && routeOf s u == some t then endLinger u s
  else if c.want == .timed t || c.drive == .timed t then
    match c.drive with
    | .ladderAt _ => startLadder u s
    | .steady | .timed _ => if isBridge s u then bridgePeriod t (ready.contains u) u s else timedPeriod t u s
    | _ => s
  else if c.cutPeriod && c.drive == .steady && routeOf s u == some t then
    resume true u (s.onCh u fun c => { c with cutPeriod := false })
  else s

/-- One suppressed or held pulse is counted (04 R94, R115). -/
def countSkip (t k : Nat) (s : State) : State :=
  match k with
  | 1 => s.onTm t fun tm => { tm with skips := sat 0xFFFF (tm.skips + 1) }
  | 2 => s.onTm t fun tm => { tm with holds := sat 0xFFF (tm.holds + 1) }
  | _ => s

/-- The counters of 04 R94, R115 for a period: a PWM timer's own pulse, and the LIMP timer's pulse of each unit that it drives (06 R172). -/
def countSkips (t : Nat) (s : State) : State :=
  match (s.tm t).func with
  | 1 => countSkip t (decide94 s t none).2 s
  | 4 => forEach ((leaders s).filter fun u => (s.ch u).drive == .timed t)
      (fun u s => countSkip t (decide94 s t (unitRatio s t (s.ch u))).2 s) s
  | _ => s

/-- Timers whose latches a boundary of timer t applies, the master first so that its members are judged on the period that begins: those that a clapper has not reached within the last 4 ticks, between which and the boundary a tick of the microsecond clock may lie (04 R101, R102). -/
def latchTimers (s : State) (t : Nat) (near : BitVec 20) : List Nat :=
  ((t :: (List.range 20).filter fun m => m ≠ t && masterOf s m == t && (s.tm m).run && !(s.tm m).fresh)).filter fun m =>
    !(near.getLsbD m && decide (s.now ≤ (s.tm m).latchAt + 1))

/-- A period that SYNC_IN has set begins (04 R106). -/
def applySync (t : Nat) (s : State) : State :=
  match s.tbase.syncNext, syncTimer s == some t with
  | some p, true => { s with tbase := { s.tbase with syncPer := p, syncNext := none, syncP := none } }
  | _, _ => s

/-- The timer's count and dither index at a period start; a member takes its master's index, and a master's boundary opens its members' next phase points (04 R92, R105). -/
def startCount (t : Nat) (s : State) : State :=
  let tm := s.tm t
  if isMember s t then s.onTm t fun tm => { tm with dith := (s.tm (masterOf s t)).dith, pos := 0, begun := true, trigB := false }
  else
    let s := { s with timers := s.timers.mapIdx fun m (x : Timer) =>
                        if m ≠ t && masterOf s m == t && x.run then { x with begun := false } else x }
    s.onTm t fun x => { x with dith := if tm.fresh then 0 else (tm.dith + 1) % 16, pos := 0, trigB := false }

/-- A period of timer t starts; `below` has the comparators that read below 0.2 A at the instant (03 R74), `near` the timers that a clapper has just reached (04 R101). -/
def beginPeriod (t : Nat) (below : Mask12) (near : BitVec 20) (s : State) : State :=
  let fresh := (s.tm t).fresh
  let ready := (leaders s).filter fun u =>
    (s.ch u).revTo.isSome && below.getLsbD u && below.getLsbD (u + 1)
  let s := applySync t (startCount t s)
  let s := if isMember s t then (if fresh then applyLatch t s else s) else forEach (latchTimers s t near) applyLatch s
  let s := s.onTm t fun tm => { tm with fresh := false }
  let s := if fld s.tbase.syncOut 4 0 == t then { s with tbase := { s.tbase with pulses := s.tbase.pulses + 1 } } else s
  let s := if (s.tm t).func == 3 then trigger t false s else s
  countSkips t (forEach (leaders s) (unitPeriod t ready) s)

/-- A unit waits for the next period start of its routed timer t: one held on steady that a cut holds off for the rest of the period, or one that the exit from limp-home left on (06 R146, R174, 07 R190). -/
def awaits (s : State) (t u : Nat) : Bool :=
  let c := s.ch u
  routeOf s u == some t && (c.lingers || (c.cutPeriod && c.drive == .steady))

/-- A PWM timer is needed: a channel routed to it has its on-request set, or a unit is driven from it by a reaction or by limp-home: until the LIMP timer's next period start, or until its own that ends a cut or follows the exit, so that no host OFF acts on the gates (04 R98, R111, 06 R171, log 45, log 129); other functions run from structure application. -/
def timerNeeded (s : State) (t : Nat) : Bool :=
  match (s.tm t).func with
  | 0 => false
  | 1 => ((routedTo s t).any fun n => (s.ch n).onReq) || (leaders s).any fun u => (s.ch u).drive == .timed t || awaits s t u
  | _ => true

/-- The timer is needed itself or, as a master, by a member (04 R98). -/
def timerRuns (s : State) (t : Nat) : Bool :=
  timerNeeded s t || ((s.tm t).master && (s.tm t).group ≠ 0 &&
    (List.range 20).any fun m => masterOf s m == t && timerNeeded s m)

/-- The place of a member's period in the group period, in TIME ticks (04 R105). -/
def phaseTicks (s : State) (t : Nat) : Nat := fld (s.tm t).phase 19 0 * 2 ^ fld (perWord s t) 22 20

/-- The zero-current readings as State knows them. -/
def zeroMask (s : State) : Mask12 := maskOf 12 fun n => (s.ch n).zeroI

/-- Starts or stops a timer (04 R98). A stopped ungrouped timer, or a master, begins its first period at once; a member waits for its first phase point after it starts. A timer that becomes needed in a freeze stays stopped until the freeze ends; one that is needed no longer stops and clears its count at once (log 103). -/
def settleTimer (t : Nat) (s : State) : State :=
  let tm := s.tm t
  if timerRuns s t then
    if tm.run || s.tbase.frozen then s
    else
      let m := s.tm (masterOf s t)
      let s := s.onTm t fun tm =>
        { tm with run := true, fresh := true, dith := 0, pos := 0, holds := 0, skips := 0, trigB := false,
                  begun := m.run && !m.fresh && phaseTicks s t < m.pos }
      if isMember s t then s else beginPeriod t (zeroMask s) 0 s
  else if tm.run then s.onTm t fun tm => { tm with run := false, fresh := false, pos := 0 } else s

end Sys2Proof.Machine
end

