-- ==== Sys2Proof/Machine/Collect.lean ====
section
/-! DEFINITION. The fault collector: recording an event, issuing its reaction, the safe state, limp-home entry and the retry machines (06, 07). -/

namespace Sys2Proof.Machine

/-- An event of a global source. -/
def ev (src : Nat) : Ev := ⟨src, 0, false, 0⟩

/-- An event of channel source j with a cause. -/
def evCh (n j : Nat) (cause : BitVec 3) : Ev := ⟨8 * n + j, cause, false, 0⟩

/-- Causes of FLT_FIRST. -/
def causeI2t : BitVec 3 := 1
def causeClp : BitVec 3 := 2
def causeOts : BitVec 3 := 3
def causeOtf : BitVec 3 := 4
def causeHst : BitVec 3 := 5
def causeDesat : BitVec 3 := 6

/-! ### Safe state and limp-home -/

/-- Entry into the safe state or limp-home ends the freeze of every timer (04 R113). -/
def endFreeze (s : State) : State :=
  { s with tbase := { s.tbase with frozen := false }, timers := s.timers.map fun t => { t with frozen := false } }

/-- A unit in the safe state: off, with a bridge whose two channels both choose ON held in BRAKE (07 R195). -/
def safeUnit (u : Nat) (s : State) : State :=
  let braked := isBridge s u && fld s.flt.safefw (2 * u + 1) (2 * u) == 2 && fld s.flt.safefw (2 * u + 3) (2 * u + 2) == 2
  (unitOff u s).onCh u fun c => { c with want := .off, bridge := if braked then .brake else .coast }

/-- The safe state (07 R195, R197): every unit off, freewheel stages as FLT_SAFEFW chooses, retries in SAFE, freeze ended, self-tests aborted (16 R420). -/
def enterSafe (s : State) : State :=
  if s.flt.safe then s
  else
    let s := s.onFlt fun f => { f with safe := true }
    let s := bistAbortAll 3 (endFreeze s)
    let s := s.onChans fun c => { c with retry := { c.retry with state := .safe } }
    forEach (leaders s) safeUnit s

/-- A channel at limp-home entry: no ladder of this limp-home has passed yet (06 R172), none lingers from an earlier one, and a map action that turns the channel on is a new turn-on for a turn-on that was cancelled (02 R29). -/
def limpChan (c : Chan) : Chan := { c with limpLad := false, lingers := false, cancelled := c.cancelled && !(c.limpAct == 1 || c.limpAct == 2) }

/-- Limp-home entry (06 R168, R175); the map acts when the units settle. -/
def enterLimp (s : State) : State :=
  if s.limp.active || !s.dev.struct then s
  else event 25 (endFreeze { s.onChans limpChan with limp := { s.limp with active := true } })

/-! ### Sillage windows (07 R202) -/

def openWindow (kind : Nat) (scope : Mask12) (s : State) : State :=
  s.onFlt fun f => { f with windows := f.windows ++ [⟨kind, scope, guardNow s + 10 * fld f.cfg 9 0, []⟩] }

/-! ### Retry machines (06 R161) -/

/-- TRYCNT of a class. -/
def Retry.count (r : Retry) : RetryClass → Nat
  | .ovl => r.tryOvl
  | .sc => r.trySc
  | .hs => r.tryHs
  | .bst => r.tryBst
  | .inrush => r.tryInrush

def Retry.bump (r : Retry) : RetryClass → Retry
  | .ovl => { r with tryOvl := r.tryOvl + 1 }
  | .sc => { r with trySc := r.trySc + 1 }
  | .hs => { r with tryHs := r.tryHs + 1 }
  | .bst => { r with tryBst := r.tryBst + 1 }
  | .inrush => { r with tryInrush := r.tryInrush + 1 }

/-- A source in a retry class occurs on channel n (06 R161). -/
def retryTake (n : Nat) (cls : RetryClass) (src : Nat) (cause : BitVec 3) (s : State) : State :=
  s.onCh n fun c =>
    let r := { c.retry with taken := if c.retry.taken.contains src then c.retry.taken else c.retry.taken ++ [src], onUs := 0 }
    match r.state with
    | .safe => c
    | .lockout => { c with retry := r }
    | _ =>
      let (unlim, tries, _) := policy c cls
      let st : RetryState := if !unlim && (tries = 0 || tries ≤ r.count cls) then .lockout else .wait
      { c with retry := { r with state := st, cls := some cls, cause := cause, since := guardNow s, src := src, probeUs := 0 } }

/-- The retry-held holds of channel n's machine end together (06 R161). -/
def releaseRetry (n : Nat) (s : State) : State :=
  s.onFlt fun f => { f with holds := f.holds.filter fun h => !(h.owner == n && h.retryHeld) }

/-- The non-retry holds of a source are lifted (07 R193, R206). -/
def liftHolds (src : Nat) (s : State) : State :=
  s.onFlt fun f => { f with holds := f.holds.filter fun h => h.src ≠ src || h.retryHeld }

/-! ### Reactions (07 R190, R191) -/

/-- CUT: one chop of a running ladder step, else off for the rest of the timer's period, else off for 20 µs (07 R190). On a unit that the LIMP timer drives it ends at that timer's next period start (DESIGN CHOICE, log 45). -/
def cutUnit (u : Nat) (s : State) : State :=
  let c := s.ch u
  match c.drive with
  | .ladder => ladderChop u s
  | .timed _ => (gatesOff u s).onCh u fun c => { c with cutPeriod := true }
  | .steady =>
    let running := match routeOf s u with
      | some t => (s.tm t).run
      | none => false
    (gatesOff u s).onCh u fun c => if running then { c with cutPeriod := true } else { c with cutOff := true, chopAt := s.now }
  | _ => s

/-- The units that a CUT of these channels cuts, each once: those of which one of them switches (07 R190, 03 R78). The idle half of a bridge has no high side to cut. -/
def cutUnits (s : State) (chs : List Nat) : List Nat := (leaders s).filter fun u => chs.any fun n => (legs s u).contains n

/-- The channels that a reaction holds off; a reaction reaches the other members of a parallel group, and no other half of a bridge (R191). An entry with REPORT whose CH is 12 to 15, and which COMPAT_ESCALATE raises, names no channel, so that its scope is empty (R213, log 144). -/
def reactScope (s : State) (react owner : Nat) : Mask12 :=
  match react with
  | 1 | 2 => extend s (chanMask owner)
  | 3 => extend s (pairMask owner)
  | 4 => extend s (bankMask owner)
  | _ => 0

/-- A source for which a retry is run: one of a retry class with a reaction of channel off, pair off or bank off (06 R159). -/
def startsRetry (src react : Nat) : Bool := (retryClass src).isSome && 2 ≤ react && react ≤ 4

/-- Issues a reaction for one channel: its hold, its windows, its retry (07 R190, R193, R202); what a CUT does to the gates is `cutUnits`'. A hold that the source already has for the scope is not taken again; the hold names its channel, so that BST_UV of a second channel of one group, pair or bank takes its own and opens its own window (log 143). Under COMPAT_ESCALATE a retry is run by the reaction applied, not by the entry's (DESIGN CHOICE, log 164). -/
def reactOn (src : Nat) (cause : BitVec 3) (react : Nat) (perm : Bool) (owner : Nat) (s : State) : State :=
  let scope := reactScope s react owner
  let holds := 2 ≤ react && react ≤ 5
  let cls := if startsRetry src react then retryClass src else none
  let h : Hold := ⟨src, owner, if holds then scope else 0, react == 5, perm, cls.isSome⟩
  let s := if react == 1 then openWindow 0 scope s else s
  let s := if !(holds || perm) || s.flt.holds.contains h then s
    else
      let s := s.onFlt fun f => { f with holds := f.holds ++ [h] }
      let s := if holds then openWindow (react - 1) (if react == 5 then allChans else scope) s else s
      if perm then openWindow kindPerm allChans s else s
  let s := if react == 5 then enterLimp s else s
  match cls with
  | some c => retryTake owner c src cause s
  | none => s

/-- The channels on which a source's reaction acts (07 R191). -/
def owners (s : State) (e : Ev) (react : Nat) : List Nat :=
  if e.src < 96 then [e.src / 8]
  else if e.src == 98 && 1 ≤ react && react ≤ 4 then (List.range 12).filter fun n => e.chs.getLsbD n
  else [entryCh (entryOf s e.src)]

def issue (e : Ev) (react : Nat) (perm : Bool) (s : State) : State :=
  let os := owners s e react
  if react == 6 then enterSafe s
  else forEach os (reactOn e.src e.cause react perm) (if react == 1 then forEach (cutUnits s os) cutUnit s else s)

/-! ### Recording (07 R187, R188, R199, R213) -/

/-- The reaction applied for a source now: none in the safe state, CLK_GUARD's included (log 122), SAFE for class F, REPORT for class C, else the entry's, one level up under COMPAT_ESCALATE for a record that is not CLEAR; an event handled in PROBE takes the entry's own (log 75). -/
def appliedReact (s : State) (e : Ev) : Nat :=
  let cls := classOf s e.src
  if s.flt.safe then 0
  else if cls == 2 then 6
  else if cls == 0 then 0
  else
    let r := s.flt.records.getD e.src Record.reset
    let base := entryReact (entryOf s e.src)
    let probing := startsRetry e.src base && (owners s e base).any fun n => (s.ch n).retry.state == .probe
    if bitAt s.flt.cfg 27 && r.state ≠ .clear && !probing then min 6 (r.react.toNat + 1) else base

/-- GUARD has no microsecond strobe: TIME has stopped, or has not started (07 R189). -/
def noStrobe (s : State) : Bool := s.clk.timeStop || !s.clocked

/-- The latch takes the first U or F event; later ones count as overflow (07 R188, R189). -/
def latchEvent (e : Ev) (cls : BitVec 2) (react : Nat) (s : State) : State :=
  s.onFlt fun f =>
    let f := if f.first.valid then { f with first := { f.first with ovf := true }, ovfcnt := sat 255 (f.ovfcnt + 1) }
      else { f with first := ⟨true, f.first.ovf, e.forced, noStrobe s, cls, e.cause, BitVec.ofNat 3 react, e.src, s.dtime⟩ }
    if cls == 2 && f.fsrc == 0x7F then { f with fsrc := e.src } else f

/-- REC0 of an EVENT record (15 R398). -/
def eventRec (e : Ev) (tsusp : Bool) (cls : BitVec 2) (react : Nat) : Nat :=
  at_ 24 1 + at_ 23 (b2n e.forced) + at_ 22 (b2n tsusp) + at_ 20 cls.toNat + at_ 17 e.cause.toNat + at_ 14 react + at_ 7 e.src

/-- The record's reaction is still in force: neither acknowledged nor lifted (07 R206). -/
def inForce (r : Record) : Bool :=
  match r.state with
  | .held | .drying _ => true
  | _ => false

/-- Records a non-consequential event (07 R187) and issues its reaction; in the safe state the reaction applied is REPORT, and nothing is issued (07 R196), so that a hold from before it keeps its place in the record (R206, log 126). An event of the cycle that enters the safe state is taken in its turn, after the entry (log 130). LEASE_LOST enters limp-home by its reaction alone, and so not when it is consequential or falls in the safe state (DESIGN CHOICE, log 153). -/
def recordEvent (e : Ev) (s : State) : State :=
  let cls := classOf s e.src
  let react := appliedReact s e
  let safe := s.flt.safe
  let perm := cls ≠ 0 && !safe && entryPerm (entryOf s e.src)
  let s := s.onFlt fun f => { f with sticky := setBit f.sticky e.src }
  if cls == 0 then s
  else
    let cls := if react == 6 then 2 else cls
    let s := s.onFlt fun f => { f with records := f.records.modify e.src fun r =>
      if safe then (if inForce r then { r with state := .held } else ⟨.held, 0, false, false⟩)
      else ⟨.held, BitVec.ofNat 3 react, perm, startsRetry e.src react⟩ }
    let s := latchEvent e cls react s
    let s := event 24 (logPut (eventRec e (noStrobe s) cls react) s)
    if safe then s else issue e react perm s

/-- A window keeps a source's latest consequential event; for BST_UV it concerns every channel that an event of the window has named (07 R205). -/
def Window.note (w : Window) (e : Ev) : Window :=
  let chs := (w.seen.filter fun x => x.src == e.src).foldl (fun m x => m ||| x.chs) e.chs
  { w with seen := (w.seen.filter fun x => x.src ≠ e.src) ++ [{ e with chs := chs }] }

/-- A consequential event (07 R204). -/
def conseqEvent (e : Ev) (s : State) : State :=
  s.onFlt fun f =>
    { f with conseq := setBit f.conseq e.src,
             windows := f.windows.map fun w => if lists f w e.src then w.note e else w }

/-- Sources present from their event until the next start (07 R183). -/
def lastingSource (src : Nat) : Bool := src == 96 || src == 97 || (111 ≤ src && src ≤ 116)

/-- Events of one GUARD cycle in the order in which the collector takes them: F before U, lower index first, one event per source (07 R186, R188). -/
def ranked (s : State) (evs : List Ev) : List Ev :=
  let fatal (e : Ev) : Bool := classOf s e.src == 2 || appliedReact s e == 6
  let pick (f : Bool) : List Ev := (List.range 120).filterMap fun i => evs.find? fun e => e.src == i && fatal e == f
  pick true ++ pick false

/-- GUARD and CORE have stopped together: nothing is recorded, and no trigger of last rites is detected (13 R445). -/
def lightsOut (s : State) : Bool := s.clk.guardStop && s.clk.coreStop

/-- Nobody records an event of this source: GUARD's own with GUARD stopped, and every one with GUARD and CORE stopped (07 R198, 13 R445). -/
def unrecorded (s : State) (src : Nat) : Bool := (s.clk.guardStop && guardSource src) || lightsOut s

/-- The windows that make an event consequential: those open, while GUARD, which keeps them, runs (07 R198, R202, 13 R344). -/
def openWindows (s : State) : List Window := if s.clk.guardStop then [] else s.flt.windows

/-- The events of one GUARD cycle; only windows that earlier cycles opened make one consequential (07 R202). With GUARD stopped the shadow collector records every event that is left (R198). -/
def raise (evs : List Ev) (s : State) : State :=
  let ws := openWindows s
  forEach (ranked s (evs.filter fun e => !unrecorded s e.src)) (fun e s =>
    let s := if lastingSource e.src then s.onFlt fun f => { f with lasting := setBit f.lasting e.src } else s
    if ws.any fun w => lists s.flt w e.src then conseqEvent e s else recordEvent e s) s

/-- PROBE to ARMED: the sources taken up recover (06 R165, 07 R206); BST_UV with the first of its machines (log 131). -/
def retryRecover (n : Nat) (s : State) : State :=
  let r := (s.ch n).retry
  let s := s.onFlt fun f =>
    { f with recovSrc := r.src, recov := sat 0xFFFF (f.recov + 1),
             records := r.taken.foldl (fun rs src => rs.modify src fun x =>
               if x.state == .held then { x with state := .lifted } else x) f.records }
  s.onCh n fun c => { c with retry := { c.retry with state := .armed, taken := [] } }

/-- The on-request is cleared: every TRYCNT and the machine return to rest (06 R161, R164). -/
def retryRest (n : Nat) (s : State) : State :=
  match (s.ch n).retry.state with
  | .safe => s
  | _ => (releaseRetry n s).onCh n fun c =>
      { c with retry := { c.retry with state := .armed, tryOvl := 0, trySc := 0, tryHs := 0, tryBst := 0, tryInrush := 0,
                                       taken := [], probeUs := 0 } }

end Sys2Proof.Machine
end

