-- ==== Sys2Proof/Machine/Pads.lean ====
section
/-! DEFINITION. Who is served on the host ports, and what the device does with its pins in each phase (10 R280, R284, R288, 15 R385). -/

namespace Sys2Proof.Machine

/-! ### Service on a port (10 R278, R280, R284, R288) -/

/-- Host clocking: DEVCLK 0, or recovery mode. -/
def hostClocked (q : PortSt) : Bool := !q.normal || !bitAt q.cfg 26

/-- A controller is fitted on the port (10 PORT_HhCFG.PRESENT). -/
def fitted (q : PortSt) : Bool := bitAt q.cfg 27

/-- The port sees its pins: out of reset, and not absent after structure application (10 R280); a window of H0 that is open at the application completes first (R288). PORT_H1STAT.SEL of an absent H1 keeps its value of that instant (log 88). -/
def portSeen (s : State) (h : Port) : Bool :=
  let q := s.ports.get h
  s.dev.phase ≠ .reset && (!s.dev.struct || fitted q || (h == .h0 && q.sel && !q.normal))

/-- H0 is served in recovery mode: in an open window that is not ignored, from PLL lock until normal service, so that after structure application only that window is completed (10 R277, R284, R288); sessions and ports stop in last rites (15 R399). -/
def recoveryServed (s : State) : Bool :=
  s.coreRuns && !s.ports.h0.normal && s.ports.h0.sel && !s.ports.h0.ignored && s.sup.ritesWait.isNone

/-- The port transfers words in normal service: an open window that is not ignored and that BITS has not ended (10 R277, R279, R282). -/
def transferring (q : PortSt) : Bool := q.normal && q.sel && !q.ignored && !q.ended

/-- Frames reach the session engine: CORE runs, and no last rites have stopped the sessions (10 R273, 15 R399). -/
def receiving (s : State) (h : Port) : Bool := s.coreRuns && s.sup.ritesWait.isNone && transferring (s.ports.get h)

/-- The transfers of recovery mode by their 8-bit command (10 R285). -/
inductive RecoveryKind where
  | rdreg | wrreg | rdstat | other
  deriving DecidableEq, Repr

def recoveryKind (cmd : BitVec 8) : RecoveryKind :=
  if cmd = 0x0B then .rdreg else if cmd = 0x02 then .wrreg else if cmd = 0x05 then .rdstat else .other

/-! ### Pins (10 R280, 15 R385) -/

/-- The open window's recovery transfer sends the host its data: a RDREG or a RDSTAT (10 R285). -/
def recoverySends (r : Recovery) : Bool := r.taken && (recoveryKind r.cmd == .rdreg || recoveryKind r.cmd == .rdstat)

/-- Hh_DOUT: driven in a served window alone, high once BITS bits are out, for whatever is left of the window (10 R279, R280; DESIGN CHOICE, log 165). In recovery mode it stays at high impedance until a command has come that sends data (R285, log 124). -/
def doutPad (s : State) (h : Port) : Pad :=
  let q := s.ports.get h
  if s.sup.ritesWait.isSome then .highZ
  else if q.normal then (if !q.sel || q.ignored then .highZ else if q.ended then .high else .active)
  else if h == .h0 && recoveryServed s && recoverySends s.recovery then .active
  else .highZ

/-- Hh_SCK: with DEVCLK = 1 an output from structure application on, at the CPOL level between windows; an absent port ignores it (10 R274, R280). Also while a recovery window of H0 that was open at the application completes, host-clocked (10 R288; DESIGN CHOICE, log 157). -/
def sckPad (s : State) (h : Port) : Pad :=
  let q := s.ports.get h
  if !s.dev.struct || !fitted q || !bitAt q.cfg 26 then .input
  else if transferring q && s.sup.ritesWait.isNone then .active
  else if bitAt q.cfg 19 then .high else .low

/-- The flash port runs commands: detection, loads and aperture reads. -/
def flashBusy (s : State) : Bool :=
  s.sup.ritesWait.isNone && (s.dev.phase == .flash || s.dev.phase == .load || s.trust.apState == 1)

/-- SYNC_OUT: pulses at the period starts of its timer, low until structure application and while that timer is stopped or frozen (04 R107). -/
def syncPad (s : State) : Pad :=
  let t := s.tm (fld s.tbase.syncOut 4 0)
  if s.timeRuns && s.sup.ritesWait.isNone && fld s.tbase.syncOut 4 0 < 20 && t.run && !t.frozen then .active else .low

def levelPad (b : Bool) : Pad := if b then .high else .low

/-- The instruction that an opcode selects; every opcode of no other instruction is BYPASS (09 R269). -/
def tapInstr (opcode : BitVec 8) : TapInstr :=
  if opcode = 0x00 then .extest else if opcode = 0x01 then .samplePreload else if opcode = 0x10 then .dbgChal
  else if opcode = 0x11 then .dbgToken else if opcode = 0x12 then .dbgAcc else .bypass

/-- Boundary scan acts only while RST_N is low and every channel is off. -/
def scanAllowed (s : State) : Bool := !s.pins.rstN && s.chans.all fun c => c.hs == 0 && c.fw == .off

/-- An opcode of boundary scan. -/
def scanOpcode (opcode : BitVec 8) : Bool := tapInstr opcode == .extest || tapInstr opcode == .samplePreload

/-- The instruction that acts now: an opcode of boundary scan acts as BYPASS where it is not allowed (09 R269). -/
def tapActs (s : State) : TapInstr := if scanOpcode s.tap.opcode && !scanAllowed s then .bypass else tapInstr s.tap.opcode

/-- The boundary-scan register is selected. -/
def scanActs (s : State) : Bool := scanOpcode s.tap.opcode && scanAllowed s

/-- The level in a boundary-scan cell. -/
def cellLevel (cells : List Bool) (c : ScanCell) : Bool := cells.getD (scanOrder.idxOf c) false

/-- Every pad placed at its cells' levels (09 R269, 15 R385). -/
def scanPads (cells : List Bool) : Pads :=
  let lv (c : ScanCell) : Pad := .scan [cellLevel cells c]
  { permit0 := lv .permit0, permit1 := lv .permit1, health := lv .health, dout0 := lv (.dout .h0), dout1 := lv (.dout .h1),
    sck0 := lv (.sck .h0), sck1 := lv (.sck .h1), fSel := lv .fSel, fSck := lv .fSck,
    fIo := .scan ([0, 1, 2, 3, 4, 5, 6, 7].map fun i => cellLevel cells (.fIo i)), syncOut := lv .syncOut }

/-- The pins by the rows of 15 R385; in RESET the boundary-scan cells may be placed on them (09 R269). -/
def padsOf (s : State) : Pads :=
  if s.dev.phase == .reset then
    if scanActs s then scanPads s.tap.cells else Pads.reset
  else
    { permit0 := levelPad s.pins.permit0, permit1 := levelPad s.pins.permit1, health := levelPad s.flt.health,
      dout0 := doutPad s .h0, dout1 := doutPad s .h1, sck0 := sckPad s .h0, sck1 := sckPad s .h1,
      fSel := if flashBusy s then .active else .high, fSck := if flashBusy s then .active else .low,
      fIo := if flashBusy s then .active else .highZ, syncOut := syncPad s }

def drivePads (s : State) : State := { s with pins := { s.pins with pads := padsOf s } }

end Sys2Proof.Machine
end

