-- ==== Sys2Proof/Machine/Settle.lean ====
section
/-! DEFINITION. What the block does of itself after every command: the lease source, drydown levels, units and timers brought into line, the gate clamps of the power die, and the permit and HEALTH pins. -/

namespace Sys2Proof.Machine

/-- LEASE_LOST is raised when its condition arises (07 R183, 11 R330); in last rites the sessions have been stopped, and no lease is judged. -/
def settleLease (s : State) : State :=
  let lost := leaseLost s
  let s := if lost && !s.flt.leaseLost && s.sup.ritesWait.isNone then raise [ev 107] s else s
  s.onFlt fun f => { f with leaseLost := lost }

/-- HELD passes to DRYING when the source is no longer present and drydown applies, and back when it is present again (07 R206); both are GUARD's (13 R344). -/
def settleRecords (s : State) : State :=
  s.onFlt fun f => { f with records := f.records.mapIdx fun src r =>
    if s.clk.guardStop then r else match r.state with
    | .held => if !present s src && dryApplies s src r then { r with state := .drying (guardNow s + dryUs s src) } else r
    | .drying _ => if present s src then { r with state := .held } else r
    | _ => r }

def settleUnits (s : State) : State := forEach (leaders s) (fun u s => settleUnit u (settleHalves u s)) s

/-- Timers start and stop under 04 R98 while TIME runs. -/
def settleTimers (s : State) : State :=
  if s.timeRuns then forEach (List.range 20) settleTimer s else s

/-- The gate clamps and the interlock of the power die: no structure, the safe state, a lost heartbeat or a trip latch holds every high side of the channel off, a self-test every gate; rank 3 every gate of a half of a bridge; a retired or tripped segment stays off; no freewheel gate is on beside a high side, nor on a stuck channel (02 R23, R32, R44, R49, 06 R142, 07 R195, 13 R345, 16 R409). -/
def clampChan (off held : Bool) (c : Chan) : Chan :=
  let hs : Mask42 := if off || held || c.scLatch || c.hsLatch || c.dsLatch then 0 else c.hs &&& ~~~c.retired &&& ~~~c.tripped
  { c with hs := hs, fw := if hs ≠ 0 || c.stuck || held then .off else c.fw }

/-- High sides that the power die holds off whatever a unit is asked (07 R195, 13 R345). -/
def gatesBarred (s : State) : Bool := !s.dev.struct || s.flt.safe || s.pins.heart

/-- Every gate of the channel is held off: by a self-test, or as a half of a bridge at rank 3 (16 R409, 06 R158). -/
def gatesHeld (s : State) (n : Nat) : Bool := underTest s n || halfHeld s n

def clampGates (s : State) : State :=
  { s with chans := s.chans.mapIdx fun n c => clampChan (gatesBarred s) (gatesHeld s n) c }

/-- An average of a re-zero that sees the channel conduct, at whatever instant, is spoilt (05 R128): a high-side segment is on, as CHn_MSTAT.CONDUCT has it; a freewheel gate spoils nothing (log 132). -/
def rezeroWatch (c : Chan) : Rezero :=
  match c.rezero with
  | .average k sum cond => .average k sum (cond || c.hs ≠ 0)
  | r => r

/-- Since when no gate of the channel has been on; a re-zero's wait counts it from before its commit (05 R128). -/
def offSince (now : Nat) (c : Chan) : Option Nat := if c.hs == 0 && c.fw == .off then some (c.offAt.getD now) else none

/-- The segments that are on, by the time at which they turned on: those of an earlier time that are on still, and those that have turned on since (02 R40). -/
def litNow (now : Nat) (c : Chan) : List (Mask42 × Nat) :=
  let old := (c.lit.map fun p => (p.1 &&& c.hs, p.2)).filter fun p => p.1 ≠ 0
  let new := c.hs &&& ~~~(old.foldl (fun m p => m ||| p.1) 0)
  if new = 0 then old else old ++ [(new, now)]

/-- Since when every high side of the channel has been off, by GUARD's clock (02 R48). -/
def darkSince (now : Nat) (c : Chan) : Option Nat := if c.hs == 0 then some (c.darkAt.getD now) else none

/-- What a channel's gates have come to is noted with its time. -/
def noteGates (s : State) : State :=
  s.onChans fun c => { c with rezero := rezeroWatch c, offAt := offSince s.now c, lit := litNow s.now c, darkAt := darkSince (guardNow s) c }

/-- CHn and the other members of its unit are off as 16 R414 asks before a test. -/
def quietCh (s : State) (n : Nat) : Bool :=
  let u := leader s n
  !(s.ch u).onReq && (s.ch u).lad.step == 0 && (members s u).all fun m => (s.ch m).hs == 0 && (s.ch m).fw == .off

/-- Since when each channel has been off for its self-tests (16 R414). -/
def noteQuiet (s : State) : State :=
  { s with bist := { s.bist with offSince := (List.range 12).map fun n =>
                                   if quietCh s n then some (((s.bist.offSince.getD n none)).getD s.now) else none } }

/-- Lease period in microseconds (11 SES_CFG.LEASE). -/
def leaseUs (s : State) : Nat := 1000 * fld s.auth.cfg 27 17

/-- The LEASE event's cause: less than a quarter of the period is left (11 R333). GUARD times the lease, so that no cause arises once it has stopped (R330, 13 R344). -/
def warnLease (p : Port) (s : State) : State :=
  let e := s.ses.get p
  if !s.clk.guardStop && e.leaseValid && !e.leaseWarn && 4 * (e.leaseAt + leaseUs s) < leaseUs s + 4 * guardNow s then
    eventAt p 27 (s.onSes p fun e => { e with leaseWarn := true })
  else s

/-- HEALTH follows its conditions and its keep-alives; a change of level is the HEALTH event (07 R201, 11 R333, 13 R445). -/
def driveHealth (s : State) : State :=
  let h := healthAllowed s && !s.pins.lostHG && !s.pins.lostHC
  if h == s.flt.health then s else event 29 (s.onFlt fun f => { f with health := h })

/-- PERMIT0 and PERMIT1 follow their conditions and their keep-alives (07 R200, 13 R445). -/
def drivePermits (s : State) : State :=
  let p := permitsAllowed s
  { s with pins := { s.pins with permit0 := p && !s.pins.lost0, permit1 := p && !s.pins.lost1 } }

/-- Everything that follows a command within the bounds of its rules. -/
def settle (s : State) : State :=
  drivePads (drivePermits (driveHealth (noteQuiet (noteGates (clampGates (settleTimers (settleUnits (settleRecords (settleLease
    (warnLease .h1 (warnLease .h0 s)))))))))))

/-- The outcome of a command whose own effect leaves `s`. -/
def done (s : State) : Host.Outcome State Fault Refusal := .next (settle s)

end Sys2Proof.Machine
end

