-- ==== Sys2Proof/Machine/Power.lean ====
section
/-! DEFINITION. The power stage: segments and their retirement, gate supply, banks, stuck channels (02), and the power die's trips that desaturation sets (06 R152 to R154). -/

namespace Sys2Proof.Machine

/-! ### Retirement (02 R40 to R45, R57, R79) -/

/-- Requests the map program; RETPEND marks a retirement that still awaits it (02 R41, R43). Its flacon check is made at once, also while another program runs and holds it back (15 R390, R391). -/
def requestMap (n : Nat) (s : State) : State :=
  let s := s.onNvs fun v => { v with mapPend := true, mapRest := false }
  let s := if s.nvs.running.isSome && !flaconOk s && !s.clk.coreStop then deferProgram s else tryProgram s
  if s.nvs.mapPend then s.onCh n fun c => { c with retPend := true } else s

/-- A unit one of whose members has no segment left stays off (02 R45, 03 R79); a bridge is judged as a whole (log 90). A ladder that this cuts short reads LADRES 0b11, as one cut short by a turn-off that 03 R70 names (log 104). A turn-on that 02 R29 still holds is refused here and raises no BST_UV later (log 138). -/
def barIfDead (n : Nat) (s : State) : State :=
  let u := leader s n
  if (s.ch n).alive == 0 && (s.ch u).drive ≠ .off then (unitOff u s).onCh u fun c => { c with drive := .barred } else s

/-- Takes a segment out of service: its gate clamp closes, and a candidate that it was clears (02 R41, R57). -/
def retire (n i : Nat) (s : State) : State :=
  let s := s.onCh n fun c =>
    { c with retired := setBit c.retired i, hs := clearBit c.hs i,
             cand := match c.cand with
               | some (j, _) => if j = i then none else c.cand
               | none => none }
  requestMap n (barIfDead n s)

/-- How a retirement is reported: CHn_DEGRADED for the fifth, else CHn_SEGRET (02 R41). -/
def retireEvent (s : State) (n : Nat) : Ev := evCh n (if popcount (s.ch n).retired == 5 then 5 else 6) 0

/-- A segment meets a criterion (02 R40): retired under RETIRE_AUTO (R41), else the channel's candidate (R42). -/
def criterion (n i : Nat) (why : BitVec 2) (s : State) : State :=
  if (s.ch n).retired.getLsbD i then s
  else if s.dev.opts.getLsbD 0 then
    let s := retire n i s
    raise [retireEvent s n] s
  else raise [evCh n 6 0] (s.onCh n fun c => { c with cand := some (i, why) })

def onSeg (n i : Nat) (f : SegMon → SegMon) (s : State) : State :=
  s.onCh n fun c => { c with segs := c.segs.modify i f }

/-- Device time since which segment i of the channel has been on; none while it is off. -/
def litAt (c : Chan) (i : Nat) : Option Nat :=
  if c.hs.getLsbD i then (c.lit.find? fun p => p.1.getLsbD i).map Prod.snd else none

/-- An evaluation of a segment's gate current falls due: 20 µs after it is fully on, and 500 µs after the latest one of the same on-interval (02 R40, log 147). -/
def leakDue (s : State) (n i : Nat) : Bool :=
  match litAt (s.ch n) i, ((s.ch n).segs.getD i SegMon.reset).evalAt with
  | some t, some e => if t + 20 ≤ e then s.since e 500 else s.since t 20
  | some t, none => s.since t 20
  | none, _ => false

/-- An evaluation of the gate-current monitor: the second running one above 20 µA meets the criterion (02 R40). -/
def leakEval (n i : Nat) (above : Bool) (s : State) : State :=
  let run := ((s.ch n).segs.getD i SegMon.reset).leak
  let s := onSeg n i (fun m => { m with leak := if above && run = 0 then 1 else 0, evalAt := some s.now }) s
  if above && run ≠ 0 then criterion n i 1 s else s

def execGateLeakEval (n : Fin 12) (seg : Fin 42) (above : Bool) (s : State) : Host.Outcome State Fault Refusal :=
  done (if leakDue s n seg then leakEval n seg above s else s)

/-! ### Trips in one bank within 1 µs (06 R154) -/

/-- The instant in nanoseconds: device time, and the microseconds that GUARD counts on by its own clock while TIME is stopped (13 R344, log 134). -/
def nsTime (s : State) (ns : Nat) : Nat := (s.now + s.clk.guardUs) * 1000 + ns

/-- The bus fault that a latch set at `t` makes with another channel of the bank: GUARD samples each latch every 50 ns, and members of one parallel group count as one channel. -/
def busEvent (s : State) (n t : Nat) : List Ev :=
  let other := (List.range 12).any fun k =>
    k ≠ n && k / 6 == n / 6 && !((s.ch n).baseMode == 3 && leader s k == leader s n) &&
      match (s.ch k).latchAt with
      | some t' => t / 50 - t' / 50 ≤ 20 && t' / 50 - t / 50 ≤ 20
      | none => false
  if other then [ev (if n < 6 then 96 else 97)] else []

/-- Sets a bit of CHn_PROT's causes, counted from I2T (06 R179). -/
def setProt (n i : Nat) (s : State) : State :=
  s.onCh n fun c => { c with prot := { c.prot with bits := setBit c.prot.bits i } }

/-! ### Desaturation (06 R152, R153) -/

/-- A solo event ends: its trips are counted and feed the solo criterion (02 R40, 06 R153). -/
def soloClose (n : Nat) (e : DesatEvent) (s : State) : State :=
  let s := s.onCh n fun c => { c with desat := none, dssolo := sat 0xFFF (c.dssolo + popcount e.trips) }
  forEach ((List.range 42).filter fun i => e.trips.getLsbD i) (fun i s =>
    let times := (((s.ch n).segs.getD i SegMon.reset).solo ++ [s.now]).filter fun t => s.now ≤ t + 60000000
    if times.length < 3 then onSeg n i (fun m => { m with solo := times }) s
    else criterion n i 3 (onSeg n i (fun m => { m with solo := [] }) s)) s

/-- A desaturation event ends; a channel event feeds nothing. -/
def desatClose (n : Nat) (s : State) : State :=
  match (s.ch n).desat with
  | none => s
  | some e => if e.channel then s.onCh n fun c => { c with desat := none } else soloClose n e s

def execDesatEventClose (n : Fin 12) (s : State) : Host.Outcome State Fault Refusal :=
  done (desatClose n s)

/-- The comparator of an engaged segment trips: the segment is off for the rest of the on-interval (02 R23, R24). -/
def desatTrip (n i ns : Nat) (s : State) : State :=
  let t := nsTime s ns
  let s := match (s.ch n).desat with
    | some e => if t ≤ e.first + 1000 then s else desatClose n s
    | none => s
  let c := s.ch n
  let e := c.desat.getD ⟨t, c.hs, 0, false⟩
  let e := { e with trips := setBit e.trips i }
  let chan := !e.channel && (4 ≤ popcount e.trips || e.engaged &&& ~~~e.trips == 0)
  let s := s.onCh n fun c => { c with tripped := setBit c.tripped i, hs := clearBit c.hs i,
                                      desat := some { e with channel := e.channel || chan } }
  if chan then
    let bus := busEvent s n t
    let s := s.onCh n fun c => { c with dsLatch := true, latchAt := some t }
    raise (evCh n 0 causeDesat :: bus) (setProt n 6 s)
  else s

def execDesatTrip (n : Fin 12) (seg : Fin 42) (ns : Fin 1000) (s : State) : Host.Outcome State Fault Refusal :=
  done (if (s.ch n).hs.getLsbD seg then desatTrip n seg ns s else s)

/-! ### Gate supply (02 R27, R29) -/

def execBstReady (n : Fin 12) (s : State) : Host.Outcome State Fault Refusal :=
  let s := s.onCh n fun c => { c with bstLow := false, bstUv := false }
  let u := leader s n
  done <| match (s.ch u).drive with
    | .waiting _ => if (members s u).any fun m => (s.ch m).bstLow then s else proceed u s
    | _ => s

/-- BST_UV is raised for channels (06 R157). -/
def raiseBstUv (chs : List Nat) (s : State) : State :=
  raise [⟨98, 0, false, maskOf 12 fun k => chs.contains k⟩] (forEach chs (fun n => setProt n 7) s)

def execBstwaitTimeout (n : Fin 12) (s : State) : Host.Outcome State Fault Refusal :=
  let u := leader s n
  done <| match (s.ch u).drive with
    | .waiting t =>
      if s.since t 20000 then
        raiseBstUv ((members s u).filter fun m => (s.ch m).bstLow) (s.onCh u fun c => { c with drive := .barred, cancelled := true })
      else s
    | _ => s

def execBstUvRecovery (n : Fin 12) (s : State) : Host.Outcome State Fault Refusal :=
  done (s.onCh n fun c => { c with bstUv := false })

/-! ### Stuck channels (02 R48, R49) -/

/-- Every high side of the channel has been off for `us` microseconds, which GUARD times. -/
def dark (us : Nat) (s : State) (n : Nat) : Bool :=
  match (s.ch n).darkAt with
  | some t => (s.ch n).hs == 0 && guardSince s t us
  | none => false

/-- CHn, the other channel of its pair and those of its parallel group. -/
def beside (s : State) (n k : Nat) : Bool := k == n || k / 2 == n / 2 || leader s k == leader s n

/-- The channel's high sides, off for 20 µs, have been so for 20 µs more, and those of its pair and group have been off for these 20 µs; that the battery and the output's voltage have stood as R48 asks for as long is the command's word (log 148). -/
def execStuckDetect (n : Fin 12) (s : State) : Host.Outcome State Fault Refusal :=
  let quiet := ((List.range 12).filter (beside s n)).all fun k => dark (if k = n.val then 40 else 20) s k
  done <|
    if quiet && !(s.ch n).stuck && !s.clk.guardStop && s.dev.phase ≠ .reset then
      raise [evCh n 7 0] (s.onCh n fun c => { c with stuck := true, fw := .off })
    else s

/-! ### Banks (02 R52, R53) -/

def bankIx : Bank → Nat
  | .a => 0
  | .b => 1

def bankOk (s : State) : Bank → Bool
  | .a => s.sup.vbatA
  | .b => s.sup.vbatB

def setBank (s : State) (x : Bank) (ok : Bool) : State :=
  match x with
  | .a => { s with sup := { s.sup with vbatA := ok, dipA := s.sup.dipA || !ok } }
  | .b => { s with sup := { s.sup with vbatB := ok, dipB := s.sup.dipB || !ok } }

/-- A unit in use turns off with its bank; ladder results stay (02 R53). -/
def dipUnit (u : Nat) (s : State) : State :=
  match (s.ch u).drive with
  | .off | .barred | .waiting _ => s
  | _ =>
    let res := (s.ch u).lad.res
    (unitOff u s).onCh u fun c => { c with drive := .barred, lad := { c.lad with res := res } }

def bankUnits (s : State) (x : Bank) : List Nat := (leaders s).filter fun u => u / 6 == bankIx x

def execVbatDip (x : Bank) (s : State) : Host.Outcome State Fault Refusal :=
  done (if bankOk s x then forEach (bankUnits s x) dipUnit (setBank s x false) else s)

/-- A unit whose battery is back: a new turn-on, which the BST_UV hold and a cancelled turn-on do not outlast (02 R29, R53, 06 R158). One that was pending under R29 at the dip stays pending through dip and return, with its 20 ms counted from its own start (log 137). -/
def batteryBack (u : Nat) (s : State) : State :=
  let s := forEach (members s u) (fun m s => s.onCh m fun c => { c with uvHold := false }) s
  let s := s.onCh u fun c => { c with cancelled := false }
  if (s.ch u).drive == .barred && (s.ch u).want ≠ .off then attempt u s else s

/-- The battery is back: each unit that is asked for turns on again as a new turn-on (02 R53). -/
def execVbatReturn (x : Bank) (s : State) : Host.Outcome State Fault Refusal :=
  done <|
    if bankOk s x then s
    else
      let s := match x with
        | .a => { s with sup := { s.sup with vbatA := true } }
        | .b => { s with sup := { s.sup with vbatB := true } }
      forEach (bankUnits s x) batteryBack s

/-! ### Freewheel stage (02 R33) -/

/-- The current of a stage whose high side is off falls below 0.2 A: a stage in diode emulation goes off. -/
def execFwZeroCurrent (n : Fin 12) (s : State) : Host.Outcome State Fault Refusal :=
  done (s.onCh n fun c => if c.hs == 0 then { c with zeroI := true, fw := if c.fw == .diode then .off else c.fw } else c)

end Sys2Proof.Machine
end

