-- ==== Sys2Proof/Machine/Modes.lean ====
section
/-! DEFINITION. Switching modes: on-requests, inrush ladders and bootstrap refresh (03). -/

namespace Sys2Proof.Machine

/-! ### On-requests (03 R60, R76) -/

/-- The on-request is set: a new turn-on releases the trip latches and the BST_UV hold of the unit (06 R142), and a turn-on that was cancelled or refused is tried again, in limp-home too (02 R29, log 13). -/
def requestOn (n : Nat) (s : State) : State :=
  if (s.ch n).onReq then s
  else
    let s := s.onCh n fun c =>
      { c with onReq := true, cancelled := false, want := if c.drive == .barred then .off else c.want,
               drive := if c.drive == .barred then .off else c.drive }
    forEach (members s n) (fun m s => s.onCh m fun c =>
      { c with scLatch := false, hsLatch := false, dsLatch := false, uvHold := false }) s

/-- The on-request is cleared: retries return to rest (06 R161), and INRUSH is no longer present (07 R182). An OFF that finds it clear changes nothing (log 121). -/
def requestOff (n : Nat) (s : State) : State :=
  if !(s.ch n).onReq then s
  else
    let s := s.onCh n fun c => { c with onReq := false, inrush := false, lingers := false }
    forEach (members s n) retryRest s

/-- A write of CHn_CTL (03 R60, R76, R85): the status and the effect; ON and OFF are served even where BRCMD is refused. -/
def writeCtl (n : Nat) (d : D28) (s : State) : BitVec 8 × State :=
  let lead := leader s n == n
  let br := fld d 3 2
  let brStatus : BitVec 8 :=
    if br = 0 then sOk else if !lead then sDenied else if (s.ch n).baseMode ≠ 2 then sFormat else sOk
  let act := bitAt d 0 || bitAt d 1
  let s := if (s.ch n).baseMode == 2 && lead && brStatus == sOk then
      s.onCh n fun c => { c with brcmdSh := BitVec.ofNat 2 br }
    else s
  let s := if !lead then s else if bitAt d 1 then requestOff n s else if bitAt d 0 then requestOn n s else s
  (if brStatus ≠ sOk then brStatus else if act && !lead then sDenied else sOk, s)

/-! ### Ladders (03 R65 to R70) -/

/-- The unit's ladder runs. -/
def inLadder (s : State) (u : Nat) : Bool := (s.ch u).drive == .ladder && (s.ch u).lad.step ≠ 0

def countCut (n : Nat) (s : State) : State := s.onCh n fun c => { c with clcuts := sat 0xFFFF (c.clcuts + 1) }

/-- The primary current reaches a threshold of `q` quarter amperes. -/
def reaches (ma q : Nat) : Bool := 250 * q ≤ ma

/-- The comparator of a member in a ladder finds the current at the threshold that its latest turn-on loaded; no blanking window masks it (03 R65, R68, R70). -/
def execLadderChop (c : Sensed) (s : State) : Host.Outcome State Fault Refusal :=
  let u := leader s c.n
  done (if inLadder s u && !(s.ch u).lad.inOff && (s.ch c.n).hs ≠ 0 && reaches c.ma (s.ch c.n).limit then
      (countCut c.n (ladderChop u s)).onCh c.n fun c => { c with chopMs := true }
    else s)

/-- The off-time of a chop ends: OFFT is that of the step in which the chop fell, and an off-time that the ladder's end overtakes runs out as it stands (log 91). -/
def execOfftExpiry (n : Fin 12) (s : State) : Host.Outcome State Fault Refusal :=
  let u := leader s n
  let l := (s.ch u).lad
  let due := match l.lastChop with
    | some t => s.since t (l.offt / 2)
    | none => false
  done (if l.inOff && due then
      resume false u (s.onCh u fun c => { c with lad := { c.lad with inOff := false } })
    else s)

/-- The unit's high sides are asked on and nothing holds them off, so that a member without one on has lost its whole engaged set to retirement. -/
def asksOn (s : State) (u : Nat) : Bool := driveAsks (s.ch u) && (s.ch u).dt ≠ .toHigh && !s.pins.heart

/-- A member's engaged set follows the step; no new on-interval begins. Segments that join a set with none left on turn on with the freewheel gates off (log 135). A rotation instant of ROT = 2 loads the scaled chop threshold anew as a chop does (03 R68, log 139). -/
def reengageChan (s : State) (u : Nat) (c : Chan) : Chan :=
  if c.hs ≠ 0 then { c with hs := onSet s u c &&& ~~~c.tripped, limit := loadedLimit s u c }
  else if asksOn s u then { c with hs := onSet s u c &&& ~~~c.tripped, limit := loadedLimit s u c, fw := .off, zeroI := false }
  else c

/-- The engaged sets of a unit whose gates are on follow its step (03 R66, R67). -/
def reengage (u : Nat) (s : State) : State :=
  if blocked (s.ch u) then s else forEach (legs s u) (fun n s => s.onCh n (reengageChan s u)) s

def execRotationTick (n : Fin 12) (s : State) : Host.Outcome State Fault Refusal :=
  let u := leader s n
  let l := ladderOf s u
  let k := (s.ch u).lad.step
  done (if inLadder s u && stepRot l k == 2 && 1000 ≤ (s.ch u).lad.rotUs then
      let s := s.onCh u fun c => { c with lad := { c.lad with rotUs := c.lad.rotUs - 1000 } }
      reengage u (forEach (legs s u) (fun m s => s.onCh m fun c => advance c (stepSegs l k)) s)
    else s)

/-- Quiet time for an early end, and the window of the end check, by profile (03 R66). -/
def quietUs : Nat → Nat
  | 0 => 500
  | 1 => 2000
  | _ => 200

def checkUs (kind : Nat) : Nat := if kind = 1 then 10000 else 1000

/-- The end check of the last step; its window includes both ends (03 R66). A channel without an IPRI yet passes the check of its current (log 92). -/
def endCheck (s : State) (u : Nat) : Bool :=
  let l := ladderOf s u
  let quiet := match (s.ch u).lad.lastChop with
    | some t => decide (checkUs (ladderKind l) < s.now - t)
    | none => true
  let low := (legs s u).all fun n => match (s.ch n).ipris with
    | (i, _) :: _ => decide (2 * i ≤ 25 * (stepIlim l (ladderSteps l) : Int))
    | [] => true
  quiet && (ladderKind l ≠ 2 || low)

/-- The unit enters its base mode after a ladder, with every segment that is not retired; a timed one keeps its gates until the timer's next period start, and an off-time that runs is run out (03 R59, R69, R75). -/
def enterBase (u : Nat) (s : State) : State :=
  reengage u (s.onCh u fun c =>
    { c with lad := { c.lad with step := 0 }, pulse := if isBridge s u then .hold else c.pulse,
             drive := match c.want with
               | .timed t => if isBridge s u then .timed t else .steady
               | _ => .steady })

/-- The ladder ends: complete, or CHn_INRUSH is raised (03 R69). One that passes in limp-home is the unit's only one there (06 R172). -/
def ladderEnd (u : Nat) (s : State) : State :=
  let ok := endCheck s u
  let s := enterBase u s
  if ok then s.onCh u fun c => { c with limpLad := c.limpLad || s.limp.active, lad := { c.lad with res := 1 } }
  else raise [evCh u 3 0] (s.onCh u fun c => { c with inrush := true, lad := { c.lad with res := 2 } })

/-- A step ends: the next begins at once, or the ladder ends (03 R66). -/
def stepEnd (u : Nat) (s : State) : State :=
  let k := (s.ch u).lad.step
  if k < ladderSteps (ladderOf s u) then
    reengage u (s.onCh u fun c =>
      { c with lad := { c.lad with step := k + 1, chops := 0, stepUs := 0, rotUs := 0, stepAt := s.now } })
  else ladderEnd u s

def execStepDwellEnd (n : Fin 12) (s : State) : Host.Outcome State Fault Refusal :=
  let u := leader s n
  let l := (s.ch u).lad
  done (if inLadder s u && stepDwell (ladderOf s u) l.step ≤ l.stepUs then stepEnd u s else s)

def execStepEarlyEnd (n : Fin 12) (s : State) : Host.Outcome State Fault Refusal :=
  let u := leader s n
  let l := (s.ch u).lad
  let w := ladderOf s u
  let quiet := quietUs (ladderKind w)
  let noChop := match l.lastChop with
    | some t => s.since t quiet
    | none => true
  done (if inLadder s u && stepEarly w l.step && quiet ≤ l.stepUs && noChop then stepEnd u s else s)

/-! ### Refresh and BST_UV (03 R81 to R84) -/

/-- The spacing of 100 µs since the start of the previous pulse is kept (03 R82): of a bridge, since that of the pair's on either leg (log 140). -/
def spaced (s : State) (u : Nat) : Bool :=
  match (s.ch u).refreshAt with
  | some t => s.since t 100
  | none => true

/-- A refresh pulse of CHn's unit takes its place where refresh is enabled: at once in static, parallel-member and inrush operation, at the next period start of a unit that follows a timer, of a parallel group when its timer asks for no pulse now (03 R81). A unit that the limp-home map drives takes the place of its drive, not of its base mode (log 118). -/
def placeRefresh (n : Nat) (s : State) : State :=
  let u := leader s n
  let c := s.ch u
  let lit := (s.ch n).hs ≠ 0
  if !c.refEn || c.refreshing || !(lit || (legs s u).contains n) then s
  else match c.drive with
    | .timed _ =>
      if c.baseMode == 3 && (lit || driveAsks c) then startRefresh u s else s.onCh u fun c => { c with refreshDue := true }
    | .steady | .ladder => startRefresh u s
    | _ => s

/-- A crossing inserts a refresh pulse while the channel conducts and the spacing allows it (03 R81). A channel whose leg is in a ladder chop's off-time counts as conducting, one in the 20 µs of a static cycle-limit chop (06 R147) does not (DESIGN CHOICE, log 149). -/
def refresh (n : Nat) (s : State) : State :=
  let u := leader s n
  let live := (s.ch n).hs ≠ 0 || ((s.ch u).lad.inOff && (legs s u).contains n)
  if live && spaced s u then placeRefresh n s else s

def execRefreshPulse (n : Fin 12) (s : State) : Host.Outcome State Fault Refusal :=
  done (refresh n (s.onCh n fun c => { c with bstLow := true }))

def execRefreshPulseEnd (n : Fin 12) (s : State) : Host.Outcome State Fault Refusal :=
  let u := leader s n
  done (if (s.ch u).refreshing then resume true u (s.onCh u fun c => { c with refreshing := false }) else s)

def execRefreshRecheck (n : Fin 12) (below : Bool) (s : State) : Host.Outcome State Fault Refusal :=
  let due := match (s.ch (leader s n)).refreshAt with
    | some t => s.since t 10
    | none => false
  let s' := s.onCh n fun c => { c with bstLow := below }
  done (if !due then s else if below then refresh n s' else s')

/-- The spacing ends with the supply still below BST_LOW: the pulse that is owed takes its place, also in an off-interval, which it overlaps (03 R82, log 117). -/
def execRefreshSpacingExpiry (n : Fin 12) (s : State) : Host.Outcome State Fault Refusal :=
  done (if (s.ch n).bstLow && spaced s (leader s n) then placeRefresh n s else s)

/-- The supply reaches BST_UV: the channel is held off and the source raised (03 R83); the comparator of a channel under test drives the test controller (16 R409). -/
def execBstUvTurnoff (n : Fin 12) (s : State) : Host.Outcome State Fault Refusal :=
  let s := s.onCh n fun c => { c with bstLow := true, bstUv := true }
  done <| match (s.ch (leader s n)).drive with
    | .off | .barred | .waiting _ => s
    | _ => if underTest s n then s else raiseBstUv [n.val] (s.onCh n fun c => { c with uvHold := true })

end Sys2Proof.Machine
end

