-- ==== Sys2Proof/Machine/Timers.lean ====
section
/-! DEFINITION. The timebase, timers and the clapper (04). -/

namespace Sys2Proof.Machine

/-! ### Period starts and edges -/

/-- The boundary of timer t can fall now, at the resolution of a microsecond (log 3): it runs unfrozen, and its period has passed; a member's phase point has been reached in the present group period, in which it has not begun yet (04 R98, R105). The PHASE in force places it, also a started member's first period while a latch is pending, and a PHASE that no longer lies below a group period that shrank starts no period (log 105). A BLANK timer counts periods of its PER and PSC (log 106). -/
def boundaryDue (s : State) (t : Nat) : Bool :=
  let tm := s.tm t
  let m := s.tm (masterOf s t)
  s.timeRuns && tm.run && !tm.frozen &&
    if isMember s t then !tm.begun && m.run && !m.fresh && phaseTicks s t < m.pos + 400
    else tm.fresh || periodOf s t < tm.pos + 400

def execPeriodBoundary (t : Fin 20) (below : Mask12) (s : State) (near : BitVec 20 := 0) : Host.Outcome State Fault Refusal :=
  done (if boundaryDue s t then beginPeriod t below near s else s)

/-- The request of a unit falls: high sides off, freewheel gates one dead time later (04 R93). A refresh that is due still replaces the next period's start (03 R81). -/
def requestFall (u : Nat) (s : State) : State :=
  if blocked (s.ch u) then s.onCh u fun c => { c with pulse := .off, refreshing := false }
  else (gatesOff u s).onCh u fun c => { c with pulse := .off }

/-- The units of timer t whose pulse ends now: all of them, or of the LIMP timer those that `chs` names. A duty that its group's boundary has applied ends the pulse of a member's period in progress too (log 119). -/
def fallingUnits (s : State) (t : Nat) (chs : Mask12) : List Nat :=
  (leaders s).filter fun u =>
    let c := s.ch u
    c.drive == .timed t && c.pulse == .pulse && ((s.tm t).func ≠ 4 || chs.getLsbD u) &&
      onTicks s t (unitRatio s t c) < (s.tm t).pos + 400

/-- Trigger B of a TRIG timer: once in a period, at the end of its dithered on-time, and not with W = 0 (04 R110). -/
def triggerB (t : Nat) (s : State) : State :=
  if (s.tm t).func == 3 && onSixteenths s t none ≠ 0 && !(s.tm t).trigB && onTicks s t none < (s.tm t).pos + 400 then
    trigger t true (s.onTm t fun tm => { tm with trigB := true })
  else s

def execRequestFall (t : Fin 20) (chs : Mask12) (s : State) : Host.Outcome State Fault Refusal :=
  done (if s.timeRuns && (s.tm t).run && !(s.tm t).frozen && !(s.tm t).fresh then
      let s := triggerB t s
      forEach (fallingUnits s t chs) requestFall s
    else s)

/-- The freewheel stages of a unit turn on after their dead time; within a chop they go off again one dead time before its turn-on (03 R65). -/
def freewheelOn (u : Nat) (s : State) : State :=
  let s := s.onCh u fun c => { c with dt := if c.lad.inOff then .toLow else .none }
  forEach (fwLegs s u) (fun m s => s.onCh m fun c => { c with fw := driveFw c }) s

/-- The instant one dead time before a chop's turn-on, at the resolution of a microsecond (03 R65, log 16). -/
def lowDue (s : State) (u : Nat) : Bool :=
  match (s.ch u).lad.lastChop with
  | some t => s.since t ((100 * (s.ch u).lad.offt - unitDead s u) / 200)
  | none => false

/-- The dead time of CHn's unit ends: the high sides rise, the freewheel stage does, or it goes off for the turn-on that follows (04 R93, 03 R65). -/
def execDeadTimeExpiry (n : Fin 12) (s : State) : Host.Outcome State Fault Refusal :=
  let u := leader s n
  done <| match (s.ch u).dt with
    | .none => s
    | .toHigh =>
      let s := s.onCh u fun c => { c with dt := .none }
      if blocked (s.ch u) then s else gatesOn true u s
    | .toFreewheel => freewheelOn u s
    | .toLow =>
      if lowDue s u then
        forEach (legs s u) (fun m s => s.onCh m fun c => { c with fw := .off }) (s.onCh u fun c => { c with dt := .none })
      else s

/-! ### The clapper (04 R100, R101, R103) -/

/-- Stages a channel's shadows for the boundary. -/
def stageChan (c : Chan) : Chan := { c with brcmdLatch := some c.brcmdSh, ilimLatch := some c.ilimSh }

/-- The clapper reaches timer t: shadow to commit latch. A BLANK timer applies it at once (04 R108), in a freeze too (log 107); a timer with function OFF ignores it. -/
def clapTimer (t : Nat) (s : State) : State :=
  let tm := s.tm t
  if tm.func = 0 then s
  else
    let s := s.onTm t fun tm =>
      { tm with latch := some (tm.perSh, tm.dutySh, tm.phaseSh), claprepl := tm.claprepl || tm.latch.isSome, latchAt := s.now }
    let s := forEach (routedTo s t) (fun n s => s.onCh n stageChan) s
    if tm.func == 2 then applyLatch t s else s

/-- Commits the staged fields of every channel that has no routed timer (04 R100), in a freeze too (log 107). -/
def clapUnrouted (s : State) : State :=
  forEach ((List.range 12).filter fun n => (routeOf s n).isNone) (fun n s => s.onCh n fun c => applyStaged (stageChan c)) s

/-- A write of TBASE_CLAP. -/
def writeClap (d : D28) (s : State) : State :=
  let s := forEach ((List.range 20).filter (bitAt d)) clapTimer s
  if bitAt d 20 then clapUnrouted s else s

/-! ### Timer words (04 R89, R96, R97, R104, R108) -/

/-- The period of a PER word lies within the bounds of 04 R89. -/
def perOk (d : D28) : Bool := 16 ≤ fld d 19 0 && 1600 ≤ perTicks d && perTicks d ≤ 4000000

def writePer (t : Nat) (d : D28) (s : State) : BitVec 8 × State :=
  if (s.tm t).func = 0 || isMember s t then (sDenied, s)
  else if !perOk d then (sFormat, s)
  else (sOk, s.onTm t fun tm => { tm with perSh := d })

def writeDuty (t : Nat) (d : D28) (s : State) : BitVec 8 × State :=
  if (s.tm t).func = 0 then (sDenied, s)
  else if (s.tm t).func == 2 && 800 < fld d 23 4 then (sFormat, s)
  else (sOk, s.onTm t fun tm => { tm with dutySh := d })

def writePhase (t : Nat) (d : D28) (s : State) : BitVec 8 × State :=
  if (s.tm t).func = 0 then (sDenied, s) else (sOk, s.onTm t fun tm => { tm with phaseSh := d })

/-- DEADT, MINON and MINOFF lie within the bounds of 04 R96. -/
def edgeOk (d : D28) : Bool := fld d 7 0 ≠ 0 && fld d 13 8 ≤ 60 && fld d 19 14 ≤ 60

def writeEdge (t : Nat) (d : D28) (s : State) : BitVec 8 × State :=
  if !edgeOk d then (sFormat, s) else (sOk, s.onTm t fun tm => { tm with edge := d })

/-! ### SYNC_IN (04 R106) -/

def onTBase (f : TBase → TBase) (s : State) : State := { s with tbase := f s.tbase }

/-- A counted edge of SYNC_IN; `interval` I and `offset` e in ticks. One that TRACK ignores is no counted edge: neither the interval nor the 2P of holdover begins anew at it (log 108). The run of 4 edges for LOCK is counted from the entry into TRACK (log 109), and P is I from there, though the period changes at a boundary alone (log 127). The bound P/64 of e is rounded down to whole ticks (DESIGN CHOICE, log 150). In last rites SYNC_IN has no effect (15 R385). -/
def execSyncEdge (interval : Nat) (offset : Int) (s : State) : Host.Outcome State Fault Refusal :=
  let b := s.tbase
  let inRange := 1600 ≤ interval && interval ≤ 4000000
  let p := match syncTimer s with
    | some t => trackedP s t
    | none => 0
  done <|
    if !s.timeRuns || b.frozen || (syncTimer s).isNone || s.sup.ritesWait.isSome then s
    else match b.sync with
      | .track =>
        if p < 2 * interval + 1 && interval ≤ 2 * p then
          let lim : Int := (p : Int) / 64
          let e := max (-lim) (min lim offset)
          let good := if offset.natAbs ≤ 4 then b.good + 1 else 0
          onTBase (fun b => { b with syncNext := some ((interval : Int) + e).toNat, good := good, edgeAt := some s.now, edgeUs := 0,
                                     lock := (b.lock || 4 ≤ good) && offset.natAbs ≤ 16 }) s
        else onTBase (fun b => { b with rej := sat 63 (b.rej + 1) }) s
      | _ =>
        if inRange && b.edgeAt.isSome then
          onTBase (fun b => { b with sync := .track, syncNext := some interval, syncP := some interval, good := 0, edgeAt := some s.now, edgeUs := 0 }) s
        else onTBase (fun b => { b with edgeAt := some s.now, edgeUs := 0 }) s

/-- 2P of tracking without a counted edge: HOLDOVER, and TB_SYNC is raised (04 R106); a freeze stops the count (R112). LOCK stays as it is, and the run of 4 edges begins anew (log 109). -/
def execSyncHoldover (s : State) : Host.Outcome State Fault Refusal :=
  let due := match syncTimer s with
    | some tm => 2 * trackedP s tm / 400 ≤ s.tbase.edgeUs
    | none => false
  done (if s.timeRuns && !s.tbase.frozen && s.tbase.sync == .track && due then
      raise [ev 109] (onTBase (fun b => { b with sync := .holdover, lost := true, good := 0 }) s)
    else s)

/-! ### The microsecond clock (04 R88) -/

/-- A ladder's times; DWELL counts stop in a freeze (04 R112). -/
def tickLadder (frozen : Bool) (l : Ladder) : Ladder :=
  if l.step = 0 then l
  else if frozen then { l with ladUs := l.ladUs + 1 }
  else { l with ladUs := l.ladUs + 1, stepUs := l.stepUs + 1, rotUs := l.rotUs + 1 }

/-- The unit is commanded on, for the 100 ms of PROBE and the 10 s of R164: its drive runs, off-intervals of a period and a bridge in BRAKE included (06 R161, R164, log 121). -/
def drivenOn : Drive → Bool
  | .steady | .timed _ | .ladder => true
  | _ => false

/-- A retry machine's times while commanded on (06 R161, R164), which add across breaks (log 121). -/
def tickRetry (on : Bool) (r : Retry) : Retry :=
  if on then { r with probeUs := if r.state == .probe then r.probeUs + 1 else r.probeUs, onUs := r.onUs + 1 } else r

def tickTimer (t : Timer) : Timer := if t.run && !t.fresh && !t.frozen then { t with pos := t.pos + 400 } else t

/-- A lost keep-alive that runs again: after 10 µs its pad or enable may be driven high (13 R445). The pair is its loss and the microseconds since. -/
def tickKeep (runs : Bool) (k : Bool × Nat) : Bool × Nat :=
  if k.1 && runs then (if 10 ≤ k.2 + 1 then (false, 0) else (true, k.2 + 1)) else k

/-- A keep-alive runs again while its domain does (13 R445). -/
def tickPins (s : State) : Pins :=
  let p := s.pins
  let g := !s.clk.guardStop
  let c := s.coreRuns
  let k0 := tickKeep g (p.lost0, p.back0)
  let k1 := tickKeep c (p.lost1, p.back1)
  let kg := tickKeep g (p.lostHG, p.backHG)
  let kc := tickKeep c (p.lostHC, p.backHC)
  { p with lost0 := k0.1, lost1 := k1.1, lostHG := kg.1, lostHC := kc.1, back0 := k0.2, back1 := k1.2, backHG := kg.2, backHC := kc.2 }

/-- A frame is the ARM answer that arms tag t in generation g: its header names them, and its COUNT is no refusal's (11 R305, R306, R326). -/
def armAnswer (t : Nat) (g : BitVec 3) (ws : List W36) : Bool :=
  let d := wData (ws.getD 0 0)
  fld d 27 22 == 0x32 && fld d 14 10 == t && fld d 9 7 == g.toNat && 1 < fld d 6 0

/-- The microseconds of each arm are counted from the instant at which its answer's header has entered the transmit queue: no frame behind that queue is the answer (11 R328). -/
def tickArms (q : PortSt) (e : Ses) : Ses :=
  { e with ctxs := e.ctxs.mapIdx fun t c => match c.state with
    | .armed ps dig us => if q.tx.any (armAnswer t c.gen) then c else { c with state := .armed ps dig (us + 1) }
    | _ => c }

/-- PHASE within a start: detection follows the reading of the OTP and an advance that R258 completes, and ARMING follows the application of the structure (15 R383, log 55). -/
def tickPhase (s : State) : Phase :=
  match s.dev.phase with
  | .otp => if s.trust.advance == .idle then .flash else .otp
  | .apply => .arming
  | p => p

/-- The retry machine of CHn counts a microsecond, while GUARD, whose it is, runs (13 R344). -/
def tickRetryOf (s : State) (n : Nat) (r : Retry) : Retry :=
  if s.clk.guardStop then r else tickRetry (drivenOn (s.ch (leader s n)).drive) r

/-- The microsecond clock advances; every count in microseconds goes with it. It runs from PLL lock while TIME runs. -/
def tick (s : State) : State :=
  { s with now := s.now + 1,
           dev := { s.dev with phase := tickPhase s },
           pins := tickPins s,
           ses := ⟨tickArms s.ports.h0 s.ses.h0, tickArms s.ports.h1 s.ses.h1⟩,
           tbase := { s.tbase with edgeUs := if s.tbase.frozen then s.tbase.edgeUs else s.tbase.edgeUs + 1 },
           timers := s.timers.map tickTimer,
           chans := s.chans.mapIdx fun n c =>
             { c with lad := tickLadder s.tbase.frozen c.lad, retry := tickRetryOf s n c.retry } }

/-- A microsecond while TIME does not run, before PLL lock, in last rites or stopped otherwise: GUARD counts it by its own clock, for its times and its retry machines, and the keep-alives, which GUARD and CORE give, go on (13 R344, R445, log 134). -/
def guardTick (s : State) : State :=
  { s with pins := tickPins s, clk := { s.clk with guardUs := if s.clk.guardStop then s.clk.guardUs else s.clk.guardUs + 1 },
           chans := s.chans.mapIdx fun n c => { c with retry := tickRetryOf s n c.retry } }

/-- A microsecond passes; GUARD, the oscillator's domain, counts it in every phase out of reset (13 R342, R344). -/
def execMicrosecondTick (s : State) : Host.Outcome State Fault Refusal :=
  done (if s.dev.phase == .reset then s
    else if s.clocked && !s.clk.timeStop then tick s
    else guardTick s)

/-! ### Debug freeze (04 R112, R113) -/

/-- The halt needs an accepted token with HALT and the option FREEZE_ALLOWED (09 R271). One that is commanded while the safe state holds has no effect, one while limp-home holds is taken (DESIGN CHOICE, log 160). -/
def execDebugHalt (s : State) : Host.Outcome State Fault Refusal :=
  let right := match s.trust.token with
    | some r => r.getLsbD 0
    | none => false
  done (if right && s.dev.opts.getLsbD 2 && s.timeRuns && !s.flt.safe then
      { s with tap := { s.tap with halt := true }, tbase := { s.tbase with frozen := true },
               timers := s.timers.map fun t => { t with frozen := true } }
    else s)

/-- The halt is released: the freeze ends. -/
def releaseHalt (s : State) : State := endFreeze { s with tap := { s.tap with halt := false } }

def execDebugHaltRelease (s : State) : Host.Outcome State Fault Refusal :=
  done (if s.tap.halt then releaseHalt s else s)

end Sys2Proof.Machine
end

