-- ==== Sys2Proof/Machine/Measure.lean ====
section
/-! DEFINITION. Measurement: conversions, calibration, the cross-check, re-zero and snapshots (05). -/

namespace Sys2Proof.Machine

/-! ### Rounding and calibration (05 R116, R117, R127) -/

/-- The nearest whole number; a value half-way between two takes a free choice (log 7). -/
def nearest (q : Rat) (s : State) : Int × State :=
  let f := q.floor
  let r := q - f
  if r < 1 / 2 then (f, s)
  else if 1 / 2 < r then (f + 1, s)
  else (if Config.tieUp s.free then f + 1 else f, { s with free := s.free + 1 })

/-- A value clamped to the converter range `lo` to `hi` (in LSB), with saturation noted. -/
def clampTo (lo hi : Int) (q : Rat) (s : State) : Int × Bool × State :=
  if q < lo then (lo, true, s) else if (hi : Rat) < q then (hi, true, s)
  else
    let (v, s) := nearest q s
    (v, false, s)

def calWord (s : State) (kind i : Nat) : Cal := (s.meas.cal.getD kind []).getD i ⟨0, true⟩

/-- A reading after gain and offset. -/
def calibrated (s : State) (gain offs i : Nat) (raw : Int) : Rat :=
  (raw : Rat) * (calWord s gain i).value / 32768 + (calWord s offs i).value

/-- QUAL: saturated before suspect before normal (05 R116, R127, R131). -/
def qualOf (saturated suspect : Bool) : BitVec 2 := if saturated then 1 else if suspect then 2 else 0

def mkSample (s : State) (v : Int) (q : BitVec 2) : Sample := ⟨BitVec.ofInt 16 v, q, s.now, 0⟩

/-- A sample word as it arrives, its check off by `diff` (05 R135). -/
def arrived (s : State) (v : Int) (q : BitVec 2) (diff : BitVec 8) : SampleOpt := some { mkSample s v q with diff := diff }

/-- What a consumer inside the device uses of a sample word: nothing of one whose check fails (05 R134). -/
def usable (w : SampleOpt) : SampleOpt :=
  match w with
  | some x => if x.diff = 0 then w else none
  | none => none

/-- Writes a word of RUSHES, by its place above 0x600. -/
def putRushes (i : Nat) (w : SampleOpt) (s : State) : State :=
  { s with meas := { s.meas with rushes := s.meas.rushes.set i w } }

/-- SENSE converts and CORE takes samples. -/
def sensing (s : State) : Bool := s.dev.struct && !s.clk.senseStop && !s.clk.coreStop

/-! ### Primary path (05 R118, R119, R128) -/

/-- IMEAN, from the 16 latest IPRI once there are that many (05 R119). -/
def imean (n : Nat) (s : State) : State :=
  let c := s.ch n
  if c.ipris.length < 16 then s
  else
    let (v, s) := nearest (((c.ipris.map Prod.fst).foldl (· + ·) 0 : Int) / 16) s
    let q := qualOf (c.ipris.any fun p => p.2 == 1) (c.suspect || c.ipris.any fun p => p.2 == 2)
    putRushes (8 * n + 4) (some (mkSample s v q)) s

/-- A re-zero takes one more sample (05 R128). -/
def rezeroSample (v : Int) (c : Chan) : Chan :=
  match c.rezero with
  | .average k sum cond => if k < 64 then { c with rezero := .average (k + 1) (sum + v) cond } else c
  | _ => c

/-- The I²t mean takes a value as its newest (06 R144). -/
def noteSquare (v : Int) (c : Chan) : Chan := { c with squares := (v :: c.squares).take 10 }

/-- The latest ISEC of a channel, in 10 mA. -/
def latestIsec (s : State) (n : Nat) : Option Int :=
  (usable (s.meas.rushes.getD (8 * n + 1) none)).map fun w => w.value.toInt

/-- An IPRI sample whose check fails: it is used for nothing, and the I²t mean takes the latest ISEC in its place, when there is one (05 R134, 06 R144). -/
def lostIpri (n : Nat) (s : State) : State :=
  match latestIsec s n with
  | some v => s.onCh n (noteSquare v)
  | none => s

/-- A sample of a channel that COMPn, CURRn or a slice holds goes nowhere, and a re-zero does not count it among its 64 (16 R409; DESIGN CHOICE, log 161). -/
def execIpriConversion (n : Fin 12) (raw : Int) (s : State) (diff : BitVec 8 := 0) : Host.Outcome State Fault Refusal :=
  done <|
    if !sensing s || underTest s n then s
    else
      let (v, o, s) := clampTo (-30000) 30000 ((calibrated s 0 1 n raw + (s.ch n).trim) / 10) s
      let bad := !(calWord s 0 n).valid || !(calWord s 1 n).valid
      let q := qualOf o ((s.ch n).suspect || bad)
      let s := putRushes (8 * n) (arrived s v q diff) s
      if diff ≠ 0 then lostIpri n s
      else imean n (s.onCh n fun c => rezeroSample v (noteSquare v { c with ipris := ((v, q) :: c.ipris).take 16 }))

/-! ### Secondary path (05 R120, R121) and cross-check (05 R130, R131) -/

/-- Latest readings of the engaged segments. -/
def engagedTemps (s : State) (n : Nat) : List SampleOpt :=
  ((List.range 42).filter fun i => (s.ch n).hs.getLsbD i).map fun i => usable (s.meas.seg.getD (42 * n + i) none)

/-- Modelled on-resistance in units of 0.1 µΩ (05 R120); none when the latest reading of an engaged segment is missing or fails its check (05 R134): the mean of the others alone is not the tj that R120 names (log 17). -/
def modelRon (s : State) (n : Nat) : Option Rat :=
  let ts := engagedTemps s n
  if ts.isEmpty || ts.any fun t => t.isNone then none
  else
    let sum : Int := (ts.filterMap id).foldl (fun a w => a + w.value.toInt) 0
    let x : Rat := (sum : Rat) / (64 * ts.length) - 25
    let r : Rat := (calWord s 2 n).value * (1 + (calWord s 3 n).value * x / 1000000 + (calWord s 4 n).value * x * x / 100000000)
    if r = 0 then none else some r

/-- ISEC in 10 mA from a code of 125 µV, with CHn_MSTAT.ENGAGED, a parallel group's shared value, and the temperature of the channel's own engaged segments (03 R86, log 110). Where the model of R120 has no value, the result is a free one (log 17). -/
def isecValue (s : State) (n : Nat) (raw : Int) : Int × Bool × State :=
  match modelRon s n with
  | some r =>
    clampTo (-30000) 30000 ((raw : Rat) * 125000 * popcount (s.ch (shownBy s n)).hs / (42 * r)) s
  | none =>
    let (x, s) := s.draw
    (x.toNat % 30001, false, s)

/-- Compares a recorded ISEC with the latest IPRI by R130's formula, which an off channel fails above 1 A ÷ 0.92, not above 1 A as the rule's next sentence has it (05 R130, R131; DESIGN CHOICE, log 162). -/
def crossCheck (n : Nat) (isec : Int) (q : BitVec 2) (quiet : Bool) (s : State) : State :=
  let c := s.ch n
  match c.ipris with
  | [] => s
  | (i, qi) :: _ =>
    let lad := (s.ch (leader s n)).lad
    if lad.step ≠ 0 || !quiet || q == 1 || qi == 1 || underTest s n then s
    else if 8 * max i.natAbs isec.natAbs + 10000 < 100 * (i - isec).natAbs then
      let run := c.xRun + 1
      let s := s.onCh n fun c => { c with suspect := true, xRun := run, comparedAt := some s.now }
      if run = 8 then raise [evCh n 4 0] s else s
    else s.onCh n fun c => { c with suspect := false, xRun := 0, comparedAt := some s.now }

/-- Records a secondary conversion, clamps it or discards it (05 R121); a word whose check fails is compared with nothing (R134). ENGAGED is here the channel's own engaged set, of a parallel member too (log 142). The word compared carries the SUSPECT from before its own comparison (DESIGN CHOICE, log 151). Only a reading with QUAL 0b10 marks the word as derived from such samples (05 R127, log 120). -/
def recordIsec (n : Nat) (raw : Int) (quiet : Quiet) (diff : BitVec 8) (s : State) : State :=
  let c := s.ch n
  let bad := [2, 3, 4].any fun k => !(calWord s k n).valid
  let put (v : Int) (q : BitVec 2) (s : State) : State :=
    let s := putRushes (8 * n + 1) (arrived s v q diff) s
    if diff ≠ 0 then s else crossCheck n v q quiet.ns4500 s
  if c.hs == 0 then
    if quiet.ns500 then put 0 (qualOf false (c.suspect || bad)) s else s
  else if 16384 < raw then put 30000 1 s
  else if raw < 0 then put 0 1 s
  else if quiet.ns500 then
    let (v, o, s') := isecValue s n raw
    let derived := (engagedTemps s n).any fun t => match t with
      | some w => w.qual == 2
      | none => false
    put v (qualOf o (c.suspect || bad || derived)) s'
  else s

/-! ### Voltages (05 R117, R123) -/

/-- VOUT, VBST or VBAT: gain and offset kinds, index, LSB in raw units, top of the range in LSB, place in RUSHES. -/
def recordVolt (gain offs i : Nat) (lsb : Rat) (top : Int) (place : Nat) (raw : Int) (diff : BitVec 8) (s : State) : State :=
  let (v, o, s) := clampTo 0 top (calibrated s gain offs i raw / lsb) s
  let bad := !(calWord s gain i).valid || !(calWord s offs i).valid
  putRushes place (arrived s v (qualOf o bad) diff) s

def recordVout (n : Nat) : Int → BitVec 8 → State → State := recordVolt 5 6 n 5 40960 (8 * n + 2)

def recordVbst (n : Nat) : Int → BitVec 8 → State → State := recordVolt 7 8 n (5 / 2) 32768 (8 * n + 3)

def recordVbat (x : Nat) : Int → BitVec 8 → State → State := recordVolt 9 10 x 5 40960 (96 + x)

/-- A trigger entry in use names ISEC of CHn, whose fixed slots then stay idle (05 R125). -/
def isecTriggered (s : State) (n : Nat) : Bool :=
  s.meas.trig.any fun e => bitAt e 27 && fld e 20 19 == 0 && fld e 18 15 == n

/-- A slot of the cycle of 05 R123. -/
def sarSlot (b slot : Nat) (raw : Int) (quiet : Quiet) (diff : BitVec 8) (s : State) : State :=
  if slot < 6 || (25 ≤ slot && slot < 31) then
    let n := 6 * b + (if slot < 6 then slot else slot - 25)
    if isecTriggered s n then s else recordIsec n raw quiet diff s
  else if slot = 6 || slot = 31 then recordVbat b raw diff s
  else if 7 ≤ slot && slot < 13 then recordVout (6 * b + slot - 7) raw diff s
  else if 32 ≤ slot && slot < 38 then recordVbst (6 * b + slot - 32) raw diff s
  else s

/-- Slot s ends 200 ns × (s + 1) after a cycle start, which falls on each multiple of 10 µs of device time (05 R123). -/
def sarSlotNow (s : State) (slot : Nat) : Bool := s.dtime % 10 == (slot + 1) / 5 % 10 || s.clk.timeStop

def execSarConversion (bankB : Bool) (slot : Fin 50) (raw : Int) (quiet : Quiet) (s : State) (diff : BitVec 8 := 0) :
    Host.Outcome State Fault Refusal :=
  done (if sensing s && sarSlotNow s slot then sarSlot (if bankB then 1 else 0) slot raw quiet diff s else s)

/-- An entry's delay in nanoseconds: DELAY × 25 ns (05 R125). -/
def trigDelay (s : State) (m : Nat) : Nat := 25 * fld (s.meas.trig.getD m 0) 8 0

/-- The earliest instant of an entry's conversion in nanoseconds, its delay after the microsecond in which its trigger fell (05 R125). -/
def trigNs (s : State) (m : Nat) : Nat := s.meas.trigAt.getD m 0 * 1000 + trigDelay s m

/-- Entry k's conversion certainly comes before entry m's: a microsecond parts them, or its trigger arrived first and its delay is no longer (05 R125, log 96). -/
def trigBefore (s : State) (k m : Nat) : Bool :=
  decide (trigNs s k + 1000 ≤ trigNs s m) || (decide (s.meas.trigs.idxOf k < s.meas.trigs.idxOf m) && decide (trigDelay s k ≤ trigDelay s m))

/-- A pending entry whose conversion can come next: no other pending one certainly comes before it (log 96). -/
def trigNext (s : State) (m : Nat) : Bool := s.meas.trigs.contains m && s.meas.trigs.all fun k => !trigBefore s k m

/-- A triggered conversion, once its delay has passed (05 R125). -/
def execTrigConversion (m : Fin 8) (raw : Int) (quiet : Quiet) (s : State) (diff : BitVec 8 := 0) : Host.Outcome State Fault Refusal :=
  let e := s.meas.trig.getD m 0
  let n := fld e 18 15
  done (if sensing s && trigNext s m && (trigNs s m < (s.now + 1) * 1000 || s.clk.timeStop) then
      let s := { s with meas := { s.meas with trigs := s.meas.trigs.filter (· ≠ m.val) } }
      match fld e 20 19 with
      | 0 => recordIsec n raw quiet diff s
      | 1 => recordVout n raw diff s
      | _ => recordVbst n raw diff s
    else s)

/-! ### Diode sweep (05 R124, 06 R155, R156, 02 R40) -/

/-- The middle of a list of readings: the middle value, or the mean of the two in the middle (log 17). -/
def median (l : List Int) : Rat :=
  let l := l.mergeSort
  let k := l.length
  if k % 2 = 1 then l.getD (k / 2) 0 else ((l.getD (k / 2 - 1) 0 : Rat) + l.getD (k / 2) 0) / 2

/-- Latest readings of the channel's non-retired segments, by local index. -/
def temps (s : State) (n : Nat) : List (Nat × Sample) :=
  (List.range 42).filterMap fun i =>
    if (s.ch n).retired.getLsbD i then none else (usable (s.meas.seg.getD (42 * n + i) none)).map fun w => (i, w)

/-- TSMAX and TSMED after the channel's last slot, over the segments that have a reading; with every segment retired, or none that has one yet, both read void IDLE, also when the last segment is retired within a sweep, from this slot on (05 R124, R127, log 111). Either carries 0b01 where a reading equal to it is saturated (log 120). OTW follows TSMAX, and no reading of it reaches 150 °C while there is none (06 R156). -/
def sweepEnd (n : Nat) (s : State) : State :=
  let ts := temps s n
  if ts.isEmpty then
    (putRushes (8 * n + 5) none (putRushes (8 * n + 6) none s)).onCh n fun c => { c with prot := { c.prot with otwNow := false } }
  else
    let vs := ts.map fun t => t.2.value.toInt
    let bad := (List.range 42).any fun i => !(s.ch n).retired.getLsbD i && !(calWord s 11 (42 * n + i)).valid
    let top := vs.foldl max (vs.getD 0 0)
    let m := median vs
    let satAt (f : Int → Bool) : Bool := ts.any fun t => f t.2.value.toInt && t.2.qual == 1
    let s := putRushes (8 * n + 5) (some (mkSample s top (qualOf (satAt (· == top)) bad))) s
    let (v, s) := nearest m s
    let s := putRushes (8 * n + 6) (some (mkSample s v (qualOf (satAt fun t => (t : Rat) == m) bad))) s
    let hotNow := decide (9600 ≤ top)
    s.onCh n fun c =>
      { c with prot := { c.prot with otwNow := hotNow,
                                     bits := if hotNow && !c.prot.otwNow then setBit c.prot.bits 8 else c.prot.bits } }

/-- The temperature criterion on a sweep that counts: 20 K above the median of the others on 8 such sweeps (02 R40). -/
def warmCheck (n : Nat) (s : State) : State :=
  if !(s.ch n).sweepOk then s
  else
    let ts := temps s n
    forEach ts (fun (i, w) s =>
      let others := (ts.filter fun t => t.1 ≠ i).map fun t => t.2.value.toInt
      if !others.isEmpty && median others + 1280 ≤ (w.value.toInt : Rat) then
        if ((s.ch n).segs.getD i SegMon.reset).warm = 7 then criterion n i 2 (onSeg n i (fun m => { m with warm := 0 }) s)
        else onSeg n i (fun m => { m with warm := m.warm + 1 }) s
      else onSeg n i (fun m => { m with warm := 0 }) s) s

/-- The sweep counts so far: all non-retired segments on, and at least 10 A (02 R40). It is judged at the channel's own 42 slots, on the magnitude of the latest IPRI (log 116). -/
def sweepCounts (s : State) (n : Nat) : Bool :=
  let c := s.ch n
  c.hs == ~~~c.retired && c.hs ≠ 0 && match c.ipris with
    | (i, _) :: _ => decide (1000 ≤ i.natAbs)
    | [] => false

/-- A slot of the channel enters the sweep's claim to the temperature criterion, whatever its word; the first slot starts it anew (02 R40). -/
def noteSweep (k : Nat) (s : State) : State :=
  s.onCh (k / 42) fun c => { c with sweepOk := (k % 42 = 0 || c.sweepOk) && sweepCounts s (k / 42) }

/-- A segment's reading is judged: its run at 175 °C or more. -/
def hotSeg (k : Nat) (v : Int) (s : State) : State :=
  let n := k / 42
  let run := if 11200 ≤ v then s.meas.hot.getD k 0 + 1 else 0
  let s := { s with meas := { s.meas with hot := s.meas.hot.set k run } }
  if run = 2 && !(s.ch n).retired.getLsbD (k % 42) then raise [evCh n 2 causeOts] (setProt n 2 s) else s

/-- An intact word's reading is judged, with the sweep's claim to the temperature criterion. -/
def judgeSeg (k : Nat) (v : Int) (s : State) : State := hotSeg k v (noteSweep k s)

/-- The slot of a segment: its word, its judgement, and after the channel's last slot TSMAX, TSMED and the temperature criterion. -/
def diodeSeg (k : Nat) (v : Int) (o : Bool) (diff : BitVec 8) (s : State) : State :=
  let q := qualOf o (!(calWord s 11 k).valid)
  let s := { s with meas := { s.meas with seg := s.meas.seg.set k (arrived s v q diff) } }
  let s := if diff ≠ 0 then noteSweep k s else judgeSeg k v s
  if k % 42 = 41 then warmCheck (k / 42) (sweepEnd (k / 42) s) else s

/-- The slot of a channel's freewheel diode. -/
def diodeFw (n : Nat) (v : Int) (o : Bool) (diff : BitVec 8) (s : State) : State :=
  let s := putRushes (8 * n + 7) (arrived s v (qualOf o (!(calWord s 11 (504 + n)).valid)) diff) s
  if diff ≠ 0 then s
  else
    let run := if 11200 ≤ v then (s.ch n).fwHot + 1 else 0
    let s := s.onCh n fun c => { c with fwHot := run }
    if run = 2 then raise [evCh n 2 causeOtf] (setProt n 3 s) else s

/-- Slot j ends 2.5 µs × (j + 1) after a sweep start, which falls on each multiple of 2,000 µs of device time (05 R124). -/
def diodeSlotNow (s : State) (j : Nat) : Bool := s.dtime % 2000 == 5 * (j + 1) / 2 % 2000 || s.clk.timeStop

def execDiodeSlot (j : Fin 518) (raw : Int) (s : State) (diff : BitVec 8 := 0) : Host.Outcome State Fault Refusal :=
  done <|
    if !sensing s || !diodeSlotNow s j then s
    else
      let (v, o, s) := clampTo (-3520) 12800 (raw + (calWord s 11 j).value) s
      if j.val < 504 then diodeSeg j v o diff s
      else if j.val < 516 then diodeFw (j.val - 504) v o diff s
      else putRushes (98 + (j.val - 516)) (arrived s v (qualOf o (!(calWord s 11 j).valid)) diff) s

/-! ### Re-zero (05 R128) -/

/-- A committed MEAS_ZERO; a self-test of the current path gives way (16 R417). One that names a channel whose re-zero still waits or averages starts it anew (log 112). -/
def writeZero (d : D28) (s : State) : State :=
  let s := bistPreempt (fun r => 12 ≤ r.test && r.test < 24 && bitAt d (r.test - 12)) s
  forEach ((List.range 12).filter (bitAt d)) (fun n s => s.onCh n fun c => { c with rezero := .wait s.now }) s

/-- The channel's own segments and freewheel gates have been off for 1 ms, those of a parallel member whatever the others' are (05 R128, log 142). -/
def execZeroWaitMet (n : Fin 12) (s : State) : Host.Outcome State Fault Refusal :=
  done <| s.onCh n fun c =>
    match c.rezero, c.offAt with
    | .wait _, some o => if c.hs == 0 && c.fw == .off && s.since o 1000 && !s.clk.coreStop then { c with rezero := .average 0 0 false } else c
    | _, _ => c

/-- 64 samples taken: PRI_TRIM takes minus their mean, or the re-zero fails (05 R128). A re-zero, whose words the register file holds, stops with CORE (13 R344). -/
def execZeroDone (n : Fin 12) (s : State) : Host.Outcome State Fault Refusal :=
  done <| match (s.ch n).rezero with
    | .average k sum cond =>
      if k < 64 || s.clk.coreStop then s
      else if cond || 500 * 64 < (10 * sum).natAbs then s.onCh n fun c => { c with rezero := .idle, zfail := true }
      else
        let (m, s) := nearest ((-10 * sum : Int) / 64 : Rat) s
        s.onCh n fun c => { c with rezero := .idle, trim := m }
    | _ => s

def execZeroTimeout (n : Fin 12) (s : State) : Host.Outcome State Fault Refusal :=
  done <| match (s.ch n).rezero with
    | .wait t => if s.since t 100000 && !s.clk.coreStop then s.onCh n fun c => { c with rezero := .idle, zfail := true } else s
    | _ => s

/-! ### Calibration select, freshness, snapshots (05 R129, R136 to R138) -/

/-- Number of indices of a calibration kind (05 R127). -/
def calCount (kind : Nat) : Nat :=
  if kind < 9 then 12 else if kind < 11 then 2 else if kind = 11 then 518 else if kind = 12 then 12 else 0

def writeCalsel (d : D28) (s : State) : BitVec 8 × State :=
  let k := fld d 15 12
  let i := fld d 9 0
  if calCount k ≤ i then (sFormat, s)
  else
    let w : Cal := if k = 12 then ⟨(s.ch i).trim, false⟩ else calWord s k i
    (sOk, { s with meas := { s.meas with calKind := k, calIndex := i, calVal := w.value, calValid := w.valid } })

def writeFresh (k : Nat) (d : D28) (s : State) : BitVec 8 × State :=
  if 16 ≤ fld d 8 0 && fld d 8 0 ≤ 500 then (sOk, { s with meas := { s.meas with fresh := s.meas.fresh.set k d } })
  else (sFormat, s)

def setSnap (p : Port) (x : Option Snap) (s : State) : State :=
  { s with meas := { s.meas with snaps := s.meas.snaps.set p x } }

/-- A write of MEAS_CTL from a port: RELEASE before SNAPSHOT (05 R137). A snapshot takes the buffers from MARCH (16 R417). -/
def writeMeasCtl (p : Port) (d : D28) (s : State) : State :=
  if bitAt d 1 then setSnap p none s
  else if bitAt d 0 then
    let s := bistPreempt (fun r => r.test == 31) s
    let seg := bitAt d 2
    setSnap p (some ⟨seg, s.now, if seg then s.meas.seg else s.meas.rushes⟩) s
  else s

/-- A snapshot ends 2 ms after it was taken (05 R137), in the register file, which stops with CORE (13 R344). -/
def execSnapshotExpiry (h : Port) (s : State) : Host.Outcome State Fault Refusal :=
  done <| match s.meas.snaps.get h with
    | some x => if s.since x.taken 2000 && !s.clk.coreStop then setSnap h none s else s
    | none => s

end Sys2Proof.Machine
end

