-- ==== Sys2Proof/Machine/Protect.lean ====
section
/-! DEFINITION. Protection: the I²t model, the cycle limit, short circuit and hard short, retries, trip inputs and the limp-home inputs (06). -/

namespace Sys2Proof.Machine

/-! ### I²t (06 R144, R145) -/

/-- The mean square of the ten latest samples in A², in which the latest ISEC stands for an IPRI whose check failed; zero before the first sample and while a self-test borrows the channel (16 R409). -/
def meanSquare (s : State) (n : Nat) : Rat :=
  let l := (s.ch n).squares
  if l.isEmpty || underTest s n then 0
  else ((l.foldl (fun a i => a + i * i) 0 : Int) : Rat) / (10000 * l.length)

/-- One update of e by 10 µs. -/
def i2tStep (c : Chan) (m : Rat) : Rat := c.e + (m - c.e) / (1000 * 2 ^ fld c.i2tUse 12 9)

/-- An update of the model, which takes a committed CHn_I2T (06 R178); reaching the trip level raises CHn_OVL with cause I2T. -/
def i2tUpdate (n : Nat) (s : State) : State :=
  let c := { s.ch n with i2tUse := (s.ch n).i2t }
  let c := { c with e := i2tStep c (meanSquare s n), eAt := s.now }
  let trip := c.tripLevel ≤ c.e && c.alive ≠ 0
  let s := s.onCh n fun _ => { c with atTrip := trip }
  if trip && !c.atTrip then raise [evCh n 2 causeI2t] (setProt n 0 s) else s

def execI2tUpdate (n : Fin 12) (s : State) : Host.Outcome State Fault Refusal :=
  done (if s.dev.struct && !s.clk.coreStop && s.since (s.ch n).eAt 10 then i2tUpdate n s else s)

/-! ### Cycle limit (06 R146 to R148) -/

/-- The mask that TIME presents holds at the power die (06 R150). -/
def masked (c : Chan) : Bool := c.blank && !c.blankCap

/-- A timer runs that ends the cut of a PWM or bridge unit. -/
def cutTimer (s : State) (u : Nat) : Bool :=
  match (s.ch u).drive with
  | .timed _ => true
  | _ => match routeOf s u with
    | some t => (s.tm t).run
    | none => false

/-- Cut of a unit: in PWM and bridge modes for the rest of the period, in static and parallel-member modes for 20 µs (06 R146, R147). -/
def cycleCut (n u : Nat) (s : State) : State :=
  let s := countCut n (gatesOff u s)
  let s := s.onCh n fun c => { c with cutMs := true }
  let m := (s.ch u).baseMode
  s.onCh u fun c =>
    if (m == 1 || m == 2) && cutTimer s u then { c with cutPeriod := true } else { c with chopOff := true, chopAt := s.now }

/-- The comparator finds the current at the effective cycle limit (02 R47, 06 R146). -/
def execCycleLimitCut (c : Sensed) (s : State) : Host.Outcome State Fault Refusal :=
  let u := leader s c.n
  done (if (s.ch c.n).hs ≠ 0 && !masked (s.ch c.n) && !inLadder s u && reaches c.ma (s.ch c.n).ilimEff then cycleCut c.n u s else s)

/-- The off-time of a chop or a CUT ends; a CUT opens the blanking window as every turn-on does, a chop opens none (06 R147, 07 R190). -/
def execChopRestart (n : Fin 12) (s : State) : Host.Outcome State Fault Refusal :=
  let u := leader s n
  done (if (s.ch u).chopOff && s.since (s.ch u).chopAt 20 then
      resume false u (s.onCh u fun c => { c with chopOff := false })
    else s)

def execCutExpiry (n : Fin 12) (s : State) : Host.Outcome State Fault Refusal :=
  let u := leader s n
  done (if (s.ch u).cutOff && s.since (s.ch u).chopAt 20 then
      resume true u (s.onCh u fun c => { c with cutOff := false })
    else s)

/-- The run of cut milliseconds after one more: a millisecond with ladder chops alone neither adds to it nor breaks it (06 R148). -/
def cutRunNext (c : Chan) : Nat := if c.cutMs then c.cutRun + 1 else if c.chopMs then c.cutRun else 0

/-- The run reaches CLPERS. -/
def clpDue (c : Chan) : Bool := c.cutMs && cutRunNext c == 2 ^ fld c.pcfg 8 5

/-- A millisecond of device time ends for every channel. -/
def cutMsBoundary (s : State) : State :=
  let due := (List.range 12).filter fun n => clpDue (s.ch n)
  let s := onTBase (fun b => { b with msAt := s.now / 1000 * 1000 }) (s.onChans fun c =>
    { c with prot := { c.prot with clact := c.cutMs }, cutRun := if clpDue c then 0 else cutRunNext c,
             cutMs := false, chopMs := false })
  raise (due.map fun n => evCh n 2 causeClp) (forEach due (fun n => setProt n 1) s)

def execCutMsBoundary (s : State) : Host.Outcome State Fault Refusal :=
  done (if s.timeRuns && s.tbase.msAt < s.now / 1000 * 1000 then cutMsBoundary s else s)

/-! ### Short circuit and hard short (06 R149 to R151) -/

/-- The SC latch sets. -/
def scTrip (n ns : Nat) (s : State) : State :=
  let t := nsTime s ns
  let bus := busEvent s n t
  let s := s.onCh n fun c => { c with scLatch := true, latchAt := some t }
  raise (evCh n 1 0 :: bus) (setProt n 4 s)

/-- The current stands above CHn_SCTH, a whole number of amperes (06 R149). -/
def aboveScth (c : Chan) (ma : Nat) : Bool := 1000 * fld c.scth 7 0 < ma

def execScTrip (c : Sensed) (ns : Fin 1000) (s : State) : Host.Outcome State Fault Refusal :=
  let x := s.ch c.n
  done (if x.hs ≠ 0 && !masked x && !x.scLatch && aboveScth x c.ma then scTrip c.n ns s else s)

def execBlankWindowClose (n : Fin 12) (ma : Nat) (ns : Fin 1000) (s : State) : Host.Outcome State Fault Refusal :=
  done <|
    if !(s.ch n).blank then s
    else
      let s := s.onCh n fun c => { c with blank := false, blankCap := false }
      if aboveScth (s.ch n) ma && (s.ch n).hs ≠ 0 && !(s.ch n).scLatch then scTrip n ns s else s

def execBlankCapExpiry (n : Fin 12) (s : State) : Host.Outcome State Fault Refusal :=
  done (s.onCh n fun c => if c.blank then { c with blankCap := true } else c)

/-- The HS latch sets. -/
def hsTrip (n ns : Nat) (s : State) : State :=
  let t := nsTime s ns
  let bus := busEvent s n t
  let s := s.onCh n fun c => { c with hsLatch := true, latchAt := some t }
  raise (evCh n 0 causeHst :: bus) (setProt n 5 s)

/-- The comparator acts in every phase out of reset, but drives the test controller while a self-test holds the channel (16 R409). -/
def execHsTrip (n : Fin 12) (ns : Fin 1000) (s : State) : Host.Outcome State Fault Refusal :=
  done (if !(s.ch n).hsLatch && s.dev.phase ≠ .reset && !underTest s n then hsTrip n ns s else s)

/-! ### Retries (06 R161 to R165) -/

/-- A latest reading below 145 °C. A word without a usable reading, none yet, void or failing its check, reads below nothing and holds the retry (00 R12, 06 R162, log 46). -/
def cool (w : SampleOpt) : Bool :=
  match usable w with
  | some x => decide (x.value.toInt < 9280)
  | none => false

/-- The class condition (06 R162). -/
def retryCondition (s : State) (n : Nat) : Bool :=
  let c := s.ch n
  if c.retry.cls ≠ some .ovl then true
  else if c.retry.cause == causeI2t then decide (c.e ≤ c.irefEff * c.irefEff)
  else if c.retry.cause == causeOts || c.retry.cause == causeOtf then
    cool (s.meas.rushes.getD (8 * n + 5) none) && cool (s.meas.rushes.getD (8 * n + 7) none)
  else true

/-- A retry in class BST is a new turn-on for a unit whose turn-on was cancelled; so is one of a machine that has taken BST_UV up (02 R29, log 13). -/
def retryUncancels (cls : RetryClass) (r : Retry) : Bool := cls == .bst || r.taken.contains 98

/-- The retry turn-on: the holds that the machine runs end, and the channel's latches with them (06 R142, R159, R163). -/
def retryTurnOn (n : Nat) (cls : RetryClass) (s : State) : State :=
  let s := if retryUncancels cls (s.ch n).retry then s.onCh (leader s n) fun c => { c with cancelled := false } else s
  (releaseRetry n s).onCh n fun c =>
    { c with scLatch := false, hsLatch := false, dsLatch := false, uvHold := false,
             retry := { c.retry.bump cls with state := .probe, probeUs := 0 } }

/-- The wait has elapsed at the least when 90 % of its nominal time has (06 R160). -/
def execRetryWaitExpiry (n : Fin 12) (s : State) : Host.Outcome State Fault Refusal :=
  let c := s.ch n
  done <| match c.retry.state, c.retry.cls with
    | .wait, some cls =>
      if guardSince s c.retry.since (waitUs (policy c cls).2.2 * 9 / 10) && retryCondition s n && (s.ch (leader s n)).onReq
        && !s.clk.guardStop then retryTurnOn n cls s else s
    | _, _ => s

def execProbeRecovery (n : Fin 12) (s : State) : Host.Outcome State Fault Refusal :=
  let r := (s.ch n).retry
  done (if r.state == .probe && 100000 ≤ r.probeUs && !s.clk.guardStop then retryRecover n s else s)

/-- The retry machines are GUARD's (13 R344). -/
def execTrycntClear (n : Fin 12) (s : State) : Host.Outcome State Fault Refusal :=
  done (s.onCh n fun c => if 10000000 ≤ c.retry.onUs && !s.clk.guardStop then
      { c with retry := { c.retry with tryOvl := 0, tryBst := 0, tryInrush := 0, onUs := 0 } }
    else c)

/-! ### Trip inputs (06 R166, R167, R180) -/

def setTrip (j : Nat) (b : Bool) (s : State) : State :=
  { s with limp := { s.limp with trips := putBit s.limp.trips j b } }

/-- GUARD filters the inputs from structure application on, and not in last rites (15 R385). -/
def guardInputs (s : State) : Bool := s.dev.struct && !s.clk.guardStop && s.sup.ritesWait.isNone

def execTripAssert (j : Fin 8) (s : State) : Host.Outcome State Fault Refusal :=
  done (if guardInputs s && bitAt s.limp.tripCfg (4 + j) && !s.limp.trips.getLsbD j then
      raise [ev (99 + j)] (setTrip j true s)
    else s)

def execTripRelease (j : Fin 8) (s : State) : Host.Outcome State Fault Refusal :=
  done (if guardInputs s then setTrip j false s else s)

/-! ### Limp-home inputs (06 R168, R169) -/

def onLimp (f : Limp → Limp) (s : State) : State := { s with limp := f s.limp }

/-- A line's level after the 1 ms filter, which GUARD times: its sampled level once that has stood for 1 ms, the filtered level before it until then (06 R169, 13 R344). -/
def filteredLh (s : State) (level old : Bool) (since : Nat) : Bool := if since + 1000 ≤ guardNow s then level else old

def lh0Level (s : State) : Bool := filteredLh s s.limp.lh0 s.limp.old0 s.limp.since0

def lh1Level (s : State) : Bool := filteredLh s s.limp.lh1 s.limp.old1 s.limp.since1

/-- A change of the sampled levels restarts the filter; equal levels restart the disagreement time and end LH_DISAGREE. -/
def lhEdge (a b : Bool) (s : State) : State :=
  if a == s.limp.lh0 && b == s.limp.lh1 then s
  else onLimp (fun l =>
    { l with lh0 := a, lh1 := b, lhSince := guardNow s,
             since0 := if a == l.lh0 then l.since0 else guardNow s, old0 := if a == l.lh0 then l.old0 else lh0Level s,
             since1 := if b == l.lh1 then l.since1 else guardNow s, old1 := if b == l.lh1 then l.old1 else lh1Level s,
             oddSince := if a == b then none else some (l.oddSince.getD (guardNow s)),
             disagree := l.disagree && a != b }) s

def execLhLineEdge (lh0 lh1 : Bool) (s : State) : Host.Outcome State Fault Refusal :=
  done (if s.clk.guardStop || s.sup.ritesWait.isSome then s else lhEdge lh0 lh1 s)

def execLhAssert (s : State) : Host.Outcome State Fault Refusal :=
  done (if s.limp.lh0 && s.limp.lh1 && !s.limp.asserted && s.limp.lhSince + 1000 ≤ guardNow s && !s.clk.guardStop
      && s.sup.ritesWait.isNone then
      enterLimp (onLimp (fun l => { l with asserted := true, released := false }) s)
    else s)

def execLhRelease (s : State) : Host.Outcome State Fault Refusal :=
  done (if !s.limp.lh0 && !s.limp.lh1 && s.limp.lhSince + 1000 ≤ guardNow s && !s.clk.guardStop
      && s.sup.ritesWait.isNone then
      onLimp (fun l => { l with asserted := false, released := true }) s
    else s)

def execLhDisagree (s : State) : Host.Outcome State Fault Refusal :=
  let due := match s.limp.oddSince with
    | some t => decide (t + 100000 ≤ guardNow s)
    | none => false
  done (if guardInputs s && due && !s.limp.disagree then
      raise [ev 108] (onLimp (fun l => { l with disagree := true }) s)
    else s)

end Sys2Proof.Machine
end

