-- ==== Sys2Proof/Machine/Collector.lean ====
section
/-! DEFINITION. The collector's own steps: the close of a sillage window, drydown, acknowledgement, fault injection and its self-check (07), and the exit from limp-home (06 R174). -/

namespace Sys2Proof.Machine

/-! ### Sillage windows (07 R205) -/

/-- A source seen in a closed window is left to the last open window that lists it too. -/
def defer (e : Ev) (s : State) : State :=
  s.onFlt fun f =>
    let k := ((List.range f.windows.length).filter fun i => match f.windows[i]? with
      | some w => lists f w e.src
      | none => false).getLast?
    match k with
    | none => f
    | some k => { f with windows := f.windows.modify k fun w => w.note e }

/-- The oldest window closes: what is still present and no other open window lists is raised (07 R205). -/
def closeWindow (w : Window) (s : State) : State :=
  let s := s.onFlt fun f => { f with windows := f.windows.drop 1 }
  let listed (e : Ev) : Bool := s.flt.windows.any fun w' => lists s.flt w' e.src
  let late := w.seen.filter listed
  let due := w.seen.filter fun e => !listed e && present s e.src
  forEach (ranked s due) recordEvent (forEach late defer s)

def execSillageClose (s : State) : Host.Outcome State Fault Refusal :=
  done <| match s.flt.windows with
    | w :: _ => if w.closeAt ≤ guardNow s && !s.clk.guardStop then closeWindow w s else s
    | [] => s

/-! ### Drydown (07 R206, R207) -/

def setRecState (src : Nat) (x : RecState) (s : State) : State :=
  s.onFlt fun f => { f with records := f.records.modify src fun r => { r with state := x } }

/-- The drydown time has elapsed: the reaction and its PERM hold are lifted and a recovery is counted. -/
def dried (src : Nat) (s : State) : State :=
  (setRecState src .lifted (liftHolds src s)).onFlt fun f => { f with recovSrc := src, recov := sat 0xFFFF (f.recov + 1) }

def execDrydownExpiry (src : Fin 120) (s : State) : Host.Outcome State Fault Refusal :=
  done <| match (s.flt.records.getD src Record.reset).state with
    | .drying t => if t ≤ guardNow s && !s.clk.guardStop then dried src s else s
    | _ => s

/-! ### Acknowledgement (07 R208) -/

/-- One source of an acknowledgement: CLEAR when it is outstanding and not present. -/
def ackSource (src : Nat) (s : State) : State :=
  if outstanding s.flt src && !present s src then setRecState src .clear (liftHolds src s) else s

/-- A committed FLT_ACK. -/
def writeAck (d : D28) (s : State) : BitVec 8 × State :=
  if !bitAt d 0 then (sOk, s)
  else if fld d 7 1 ≠ s.flt.first.src then (sDenied, s)
  else
    let s := s.onFlt fun f =>
      { f with first := { f.first with valid := false, ovf := false, forced := false, tsusp := false, src := 0x7F }, ovfcnt := 0 }
    (sOk, forEach (List.range 120) ackSource s)

/-! ### Fault injection (07 R214 to R216) -/

/-- INJ clears, and every force bit with it, in a cycle of GUARD, whose they are: with GUARD stopped they stand (07 R214, 14 R356, log 172). -/
def injEnd (s : State) : State := if s.clk.guardStop then s else s.onFlt fun f => { f with inj := false, injBy := none, force := 0 }

/-- A committed FLT_INJEN from port `h`. -/
def writeInjen (h : Port) (d : D28) (s : State) : State :=
  if d.toNat = 0xA5C1242 then s.onFlt fun f => { f with inj := true, injBy := some (h, guardNow s) } else injEnd s

/-- The unlocking port loses its session, or write authority passes to the other port. -/
def injLeave (h : Port) (s : State) : State :=
  match s.flt.injBy with
  | some (p, _) => if p = h then injEnd s else s
  | none => s

def execInjTimeout (s : State) : Host.Outcome State Fault Refusal :=
  done <| match s.flt.injBy with
    | some (_, t) => if guardSince s t 60000000 then injEnd s else s
    | none => s

/-- The latch that a forced HS or SC event sets; it counts for a bus fault as its comparator's would (07 R215, 06 R154). -/
def forceLatch (src : Nat) (acc : List Ev × State) : List Ev × State :=
  let (bus, s) := acc
  let n := src / 8
  let t := nsTime s 0
  if src < 96 && src % 8 ≤ 1 then
    (bus ++ busEvent s n t, s.onCh n fun c =>
      if src % 8 = 0 then { c with hsLatch := true, latchAt := some t } else { c with scLatch := true, latchAt := some t })
  else acc

/-- The channels that a forced BST_UV event concerns: those whose on-request is set, or all of them when none is (log 87). -/
def forcedChs (s : State) : Mask12 :=
  let m : Mask12 := maskOf 12 fun n => (s.ch (leader s n)).onReq
  if m = 0 then allChans else m

/-- A committed FLT_FORCEw. -/
def writeForce (w : Nat) (d : D28) (s : State) : BitVec 8 × State :=
  if !s.flt.inj then (sDenied, s)
  else
    let old := s.flt.force
    let new : BitVec 120 := maskOf 120 fun i => if i / 24 = w then bitAt d (i % 24) else old.getLsbD i
    let rise := (List.range 120).filter fun i => new.getLsbD i && !old.getLsbD i
    let s := s.onFlt fun f => { f with force := new }
    let (bus, s) := rise.foldl (fun acc i => forceLatch i acc) ([], s)
    (sOk, raise (rise.map (fun i => ⟨i, 0, true, if i = 98 then forcedChs s else 0⟩) ++ bus) s)

/-! ### Self-check (07 R211 to R213) -/

/-- A corrupted matrix entry is replaced by its default entry under COMPAT_ESCALATE. -/
def defaultEntryOf (src : Nat) (s : State) : State :=
  let put (w : D28) : D28 :=
    if src % 2 = 0 then d28 (fld w 27 14 * 16384 + defaultEntry src) else d28 (defaultEntry src * 16384 + fld w 13 0)
  s.onFlt fun f => { f with rx := f.rx.modify (src / 2) put }

/-- Under COMPAT_ESCALATE a corrupted tagged word that is no matrix entry keeps what it held (DESIGN CHOICE, log 163). -/
def execCollectorSelfCheck (found : SelfCheck) (s : State) : Host.Outcome State Fault Refusal :=
  done <|
    if s.clk.guardStop || s.dev.phase == .reset then s
    else match found with
      | .ok => s
      | .word => raise [ev 115] s
      | .entry src => raise [ev 115] (if bitAt s.flt.cfg 27 then defaultEntryOf src s else s)

/-! ### Write one to clear (14 R366) -/

/-- The 24 bits of a source word. -/
def clearWord (m : BitVec 120) (w : Nat) (d : D28) : BitVec 120 :=
  maskOf 120 fun i => m.getLsbD i && !(i / 24 == w && bitAt d (i % 24))

/-! ### Leaving limp-home (06 R174) -/

/-- A channel as limp-home ends: one that the map has on and whose on-request is clear stays as it is until the next period start of its timer, while that runs (06 R174, log 129). -/
def leaveChan (s : State) (n : Nat) (c : Chan) : Chan :=
  let runs := match chTimer s n with
    | some t => (s.tm t).run
    | none => false
  { c with limpLad := false, lingers := c.byLimp && drivenOn c.drive && !c.onReq && runs }

/-- Limp-home ends (06 R174); the units follow as they settle. -/
def leaveLimp (s : State) : State :=
  event 25 (onLimp (fun l => { l with active := false }) { s with chans := s.chans.mapIdx (leaveChan s) })

/-- A committed BANK_LIMPEXIT. -/
def writeLimpExit (d : D28) (s : State) : BitVec 8 × State :=
  if !bitAt d 0 || !s.limp.active then (sOk, s)
  else if !exitOk s then (sDenied, s)
  else (sOk, leaveLimp s)

end Sys2Proof.Machine
end

