-- ==== Sys2Proof/Machine/Crypto.lean ====
section
/-! DEFINITION. The cryptographic functions that the spec names by their standards (09 R263 to R266, 08 R229): CRC-32, SHA-384, HMAC and HKDF, AES-128 and CMAC, P-384 and ECDSA. Written from those standards (log 9). -/

namespace Sys2Proof.Machine

/-! ### CRC-32 of IEEE 802.3 (09 R266) -/

def crc32Bit (c : Nat) : Nat := if c % 2 = 1 then (c / 2) ^^^ 0xEDB88320 else c / 2

def crc32Byte (c : Nat) (x : Byte) : Nat := Nat.repeat crc32Bit 8 (c ^^^ x.toNat)

/-- CRC-32, reflected, initial value and final XOR 0xFFFF_FFFF. -/
def crc32 (bs : List Byte) : Nat := bs.foldl crc32Byte 0xFFFFFFFF ^^^ 0xFFFFFFFF

/-! ### SHA-384 (FIPS 180-4) -/

/-- The largest number with the low `k` bits free above `r` whose `n`-th power is at most `x`. -/
def rootFrom (n x : Nat) : Nat → Nat → Nat
  | 0, r => r
  | k + 1, r => rootFrom n x k (if (r + 2 ^ k) ^ n ≤ x then r + 2 ^ k else r)

/-- The first 64 bits of the fractional part of the `n`-th root of `p`, which the standard takes as its constants. -/
def rootWord (n p : Nat) : Nat := rootFrom n (p * 2 ^ (64 * n)) 68 0 % 2 ^ 64

/-- The primes below 410: the first eighty. -/
def primes80 : List Nat := (List.range 410).filter fun p => 2 ≤ p && (List.range p).all fun q => q < 2 || p % q ≠ 0

/-- Round constants, from the cube roots of the first eighty primes. -/
def shaK : List Nat := primes80.map (rootWord 3)

/-- Initial hash value of SHA-384, from the square roots of the ninth to the sixteenth prime. -/
def shaIV : List Nat := ((primes80.drop 8).take 8).map (rootWord 2)

/-- A 64-bit word rotated right by `r`. -/
def rotr (r x : Nat) : Nat := x / 2 ^ r + x % 2 ^ r * 2 ^ (64 - r)

/-- Exclusive or of rotations by the amounts of a list, and of a shift: the Σ and σ functions of the standard. -/
def mixRot (rs : List Nat) (shift x : Nat) : Nat := (rs.map fun r => rotr r x).foldl Nat.xor (x / 2 ^ shift)

/-- Word t of the message schedule from the sixteen before it, oldest first. -/
def schedNext (ws : List Nat) : Nat :=
  (mixRot [19, 61] 6 (ws.getD 14 0) + ws.getD 9 0 + mixRot [1, 8] 7 (ws.getD 1 0) + ws.getD 0 0) % 2 ^ 64

/-- One round on the variables a to h, with the schedule word in front of `ws` and the constant `k`. -/
def shaStep (vs ws : List Nat) (k : Nat) : List Nat :=
  let v (i : Nat) : Nat := vs.getD i 0
  let ch := Nat.xor (v 6) (Nat.land (v 4) (Nat.xor (v 5) (v 6)))
  let maj := Nat.lor (Nat.land (v 0) (v 1)) (Nat.land (v 2) (Nat.lor (v 0) (v 1)))
  let t := v 7 + mixRot [14, 18, 41] 64 (v 4) + ch + k + ws.getD 0 0
  (t + mixRot [28, 34, 39] 64 (v 0) + maj) % 2 ^ 64 :: v 0 :: v 1 :: v 2 :: (v 3 + t) % 2 ^ 64 :: (vs.drop 4).take 3

/-- The rounds of a block, one for each constant. -/
def shaRounds : List Nat → List Nat → List Nat → List Nat
  | [], vs, _ => vs
  | k :: ks, vs, ws => shaRounds ks (shaStep vs ws k) (ws.drop 1 ++ [schedNext ws])

/-- The hash value after a block of 128 bytes. -/
def shaBlock (hv : List Nat) (blk : List Byte) : List Nat :=
  let ws := (List.range 16).map fun i => ofBytesBE ((blk.drop (8 * i)).take 8)
  List.zipWith (fun x y => (x + y) % 2 ^ 64) hv (shaRounds shaK hv ws)

/-- Successive blocks of `k` bytes; `fuel` bounds their number. -/
def chunks (k : Nat) : Nat → List Byte → List (List Byte)
  | 0, _ => []
  | _ + 1, [] => []
  | fuel + 1, bs => bs.take k :: chunks k fuel (bs.drop k)

/-- The padded message: a one bit, zeros, and the length in bits, in whole blocks. -/
def shaPad (bs : List Byte) : List Byte :=
  bs ++ [0x80] ++ List.replicate ((239 - bs.length % 128) % 128) 0 ++ bytesBE 16 (8 * bs.length)

/-- SHA-384 of a byte string: the first six words of the last hash value. -/
def sha384 (bs : List Byte) : BitVec 384 :=
  let m := shaPad bs
  let hv := (chunks 128 (m.length / 128) m).foldl shaBlock shaIV
  BitVec.ofNat 384 ((hv.take 6).foldl (fun acc w => acc * 2 ^ 64 + w) 0)

/-! ### HMAC and HKDF with SHA-384 (RFC 5869) -/

def xorPad (key : List Byte) (p : Byte) : List Byte :=
  (key ++ List.replicate (128 - key.length) 0).map (fun x => x ^^^ p)

/-- HMAC with a key of at most 128 bytes, which is every key HKDF uses here. -/
def hmac (key msg : List Byte) : BitVec 384 :=
  sha384 (xorPad key 0x5c ++ bytesBE 48 (sha384 (xorPad key 0x36 ++ msg)).toNat)

/-- HKDF with an output of 32 bytes, one block of the expansion (09 R265). -/
def hkdf32 (salt ikm info : List Byte) : List Byte :=
  let prk := bytesBE 48 (hmac salt ikm).toNat
  (bytesBE 48 (hmac prk (info ++ [1])).toNat).take 32

/-! ### AES-128 (FIPS 197) and CMAC (SP 800-38B) -/

def sbox0 : List Nat :=
  [0x63, 0x7c, 0x77, 0x7b, 0xf2, 0x6b, 0x6f, 0xc5, 0x30, 0x01, 0x67, 0x2b, 0xfe, 0xd7, 0xab, 0x76,
   0xca, 0x82, 0xc9, 0x7d, 0xfa, 0x59, 0x47, 0xf0, 0xad, 0xd4, 0xa2, 0xaf, 0x9c, 0xa4, 0x72, 0xc0,
   0xb7, 0xfd, 0x93, 0x26, 0x36, 0x3f, 0xf7, 0xcc, 0x34, 0xa5, 0xe5, 0xf1, 0x71, 0xd8, 0x31, 0x15,
   0x04, 0xc7, 0x23, 0xc3, 0x18, 0x96, 0x05, 0x9a, 0x07, 0x12, 0x80, 0xe2, 0xeb, 0x27, 0xb2, 0x75]

def sbox1 : List Nat :=
  [0x09, 0x83, 0x2c, 0x1a, 0x1b, 0x6e, 0x5a, 0xa0, 0x52, 0x3b, 0xd6, 0xb3, 0x29, 0xe3, 0x2f, 0x84,
   0x53, 0xd1, 0x00, 0xed, 0x20, 0xfc, 0xb1, 0x5b, 0x6a, 0xcb, 0xbe, 0x39, 0x4a, 0x4c, 0x58, 0xcf,
   0xd0, 0xef, 0xaa, 0xfb, 0x43, 0x4d, 0x33, 0x85, 0x45, 0xf9, 0x02, 0x7f, 0x50, 0x3c, 0x9f, 0xa8,
   0x51, 0xa3, 0x40, 0x8f, 0x92, 0x9d, 0x38, 0xf5, 0xbc, 0xb6, 0xda, 0x21, 0x10, 0xff, 0xf3, 0xd2]

def sbox2 : List Nat :=
  [0xcd, 0x0c, 0x13, 0xec, 0x5f, 0x97, 0x44, 0x17, 0xc4, 0xa7, 0x7e, 0x3d, 0x64, 0x5d, 0x19, 0x73,
   0x60, 0x81, 0x4f, 0xdc, 0x22, 0x2a, 0x90, 0x88, 0x46, 0xee, 0xb8, 0x14, 0xde, 0x5e, 0x0b, 0xdb,
   0xe0, 0x32, 0x3a, 0x0a, 0x49, 0x06, 0x24, 0x5c, 0xc2, 0xd3, 0xac, 0x62, 0x91, 0x95, 0xe4, 0x79,
   0xe7, 0xc8, 0x37, 0x6d, 0x8d, 0xd5, 0x4e, 0xa9, 0x6c, 0x56, 0xf4, 0xea, 0x65, 0x7a, 0xae, 0x08]

def sbox3 : List Nat :=
  [0xba, 0x78, 0x25, 0x2e, 0x1c, 0xa6, 0xb4, 0xc6, 0xe8, 0xdd, 0x74, 0x1f, 0x4b, 0xbd, 0x8b, 0x8a,
   0x70, 0x3e, 0xb5, 0x66, 0x48, 0x03, 0xf6, 0x0e, 0x61, 0x35, 0x57, 0xb9, 0x86, 0xc1, 0x1d, 0x9e,
   0xe1, 0xf8, 0x98, 0x11, 0x69, 0xd9, 0x8e, 0x94, 0x9b, 0x1e, 0x87, 0xe9, 0xce, 0x55, 0x28, 0xdf,
   0x8c, 0xa1, 0x89, 0x0d, 0xbf, 0xe6, 0x42, 0x68, 0x41, 0x99, 0x2d, 0x0f, 0xb0, 0x54, 0xbb, 0x16]

def sbox : List Nat := sbox0 ++ sbox1 ++ sbox2 ++ sbox3

def subByte (x : Nat) : Nat := sbox.getD x 0

def xtime (x : Nat) : Nat := (x * 2 % 256) ^^^ (if x ≥ 128 then 0x1B else 0)

/-- The next round key, as 16 numbers, from the present one and the round constant. -/
def nextKey (k : List Nat) (rcon : Nat) : List Nat :=
  let g (i : Nat) := k.getD i 0
  let w0 := [g 0 ^^^ subByte (g 13) ^^^ rcon, g 1 ^^^ subByte (g 14), g 2 ^^^ subByte (g 15), g 3 ^^^ subByte (g 12)]
  let w1 := (List.range 4).map fun i => g (4 + i) ^^^ w0.getD i 0
  let w2 := (List.range 4).map fun i => g (8 + i) ^^^ w1.getD i 0
  let w3 := (List.range 4).map fun i => g (12 + i) ^^^ w2.getD i 0
  w0 ++ w1 ++ w2 ++ w3

def xorList (a b : List Nat) : List Nat := List.zipWith (fun x y => x ^^^ y) a b

/-- SubBytes and ShiftRows. -/
def subShift (s : List Nat) : List Nat := (List.range 16).map fun i => subByte (s.getD ((i + 4 * (i % 4)) % 16) 0)

/-- MixColumns of one column. -/
def mixCol (a b c d : Nat) : List Nat :=
  [xtime a ^^^ xtime b ^^^ b ^^^ c ^^^ d, a ^^^ xtime b ^^^ xtime c ^^^ c ^^^ d,
   a ^^^ b ^^^ xtime c ^^^ xtime d ^^^ d, xtime a ^^^ a ^^^ b ^^^ c ^^^ xtime d]

def mixCols : List Nat → List Nat
  | a :: b :: c :: d :: r => mixCol a b c d ++ mixCols r
  | _ => []

def aesRounds : List Nat → List Nat → List Nat → List Nat
  | [], _, s => s
  | [rc], k, s => xorList (subShift s) (nextKey k rc)
  | rc :: rcs, k, s =>
    let k' := nextKey k rc
    aesRounds rcs k' (xorList (mixCols (subShift s)) k')

def aesRcon : List Nat := [0x01, 0x02, 0x04, 0x08, 0x10, 0x20, 0x40, 0x80, 0x1B, 0x36]

/-- AES-128 encryption of one block. -/
def aes128 (key block : List Nat) : List Nat := aesRounds aesRcon key (xorList block key)

def nats (k x : Nat) : List Nat := (bytesBE k x).map BitVec.toNat

def ofNats (xs : List Nat) : Nat := xs.foldl (fun a x => a * 256 + x) 0

/-- Doubling in GF(2^128), for the CMAC subkeys. -/
def dbl128 (x : Nat) : Nat := (x * 2 % 2 ^ 128) ^^^ (if x ≥ 2 ^ 127 then 0x87 else 0)

/-- AES-128-CMAC of a byte string. -/
def cmac (key : BitVec 128) (msg : List Byte) : BitVec 128 :=
  let k := nats 16 key.toNat
  let k1 := dbl128 (ofNats (aes128 k (nats 16 0)))
  let k2 := dbl128 k1
  let nblk := max 1 ((msg.length + 15) / 16)
  let body := msg.take (16 * (nblk - 1))
  let last := msg.drop (16 * (nblk - 1))
  let lastN := if last.length = 16 then ofBytesBE last ^^^ k1
    else ofBytesBE (last ++ [0x80] ++ List.replicate (15 - last.length) 0) ^^^ k2
  let c := (chunks 16 (nblk - 1) body).foldl (fun acc blk => aes128 k (nats 16 (ofNats acc ^^^ ofBytesBE blk))) (nats 16 0)
  BitVec.ofNat 128 (ofNats (aes128 k (nats 16 (ofNats c ^^^ lastN))))

/-- The leftmost 56 bits of a CMAC (09 R266). -/
def mac56 (key : BitVec 128) (msg : List Byte) : BitVec 56 := BitVec.ofNat 56 ((cmac key msg).toNat / 2 ^ 72)

/-! ### P-384 -/

def p384 : Nat := 0xfffffffffffffffffffffffffffffffffffffffffffffffffffffffffffffffeffffffff0000000000000000ffffffff
def p384b : Nat := 0xb3312fa7e23ee7e4988e056be3f82d19181d9c6efe8141120314088f5013875ac656398d8a2ed19d2a85c8edd3ec2aef
def p384n : Nat := 0xffffffffffffffffffffffffffffffffffffffffffffffffc7634d81f4372ddf581a0db248b0a77aecec196accc52973
def p384G : Nat × Nat := (0xaa87ca22be8b05378eb1c71ef320ad746e1d3b628ba79b9859f741e082542a385502f25dbf55296c3a545e3872760ab7,
  0x3617de4a96262c6f5d9e98bf9292dc29f8f41dbd289a147ce9da3113b5f0b8c00a60b1ce1d7e819d7a431d7c90ea0e5f)

/-- A difference modulo the field prime. -/
def fsub (a b : Nat) : Nat := (a + (p384 - b % p384)) % p384

/-- b^e modulo m, over the low `k` bits of e. -/
def powMod (m b : Nat) : Nat → Nat → Nat
  | 0, _ => 1 % m
  | k + 1, e =>
    let r := powMod m b k (e / 2)
    if e % 2 = 1 then r * r % m * b % m else r * r % m

/-- Inverse modulo a 384-bit prime. -/
def invMod (m a : Nat) : Nat := powMod m (a % m) 384 (m - 2)

/-- (x, y) is a point of P-384 other than the point at infinity. -/
def onCurve (q : Nat × Nat) : Bool :=
  decide (q.1 < p384) && decide (q.2 < p384) &&
    q.2 * q.2 % p384 == (q.1 * q.1 * q.1 + 3 * (p384 - q.1) + p384b) % p384

/-- A point in Jacobian coordinates; Z = 0 is the point at infinity. -/
structure Jac where
  x : Nat
  y : Nat
  z : Nat
  deriving DecidableEq, Repr

def Jac.inf : Jac := ⟨1, 1, 0⟩

def Jac.double (q : Jac) : Jac :=
  let d := q.z * q.z % p384
  let g := q.y * q.y % p384
  let b := q.x * g % p384
  let a := 3 * (fsub q.x d * (q.x + d) % p384) % p384
  let x3 := fsub (a * a) (8 * b)
  ⟨x3, fsub (a * fsub (4 * b) x3) (8 * (g * g % p384)), 2 * q.y * q.z % p384⟩

def Jac.add (q r : Jac) : Jac :=
  if q.z = 0 then r else if r.z = 0 then q else
  let z1 := q.z * q.z % p384
  let z2 := r.z * r.z % p384
  let u1 := q.x * z2 % p384
  let u2 := r.x * z1 % p384
  let s1 := q.y * r.z * z2 % p384
  let s2 := r.y * q.z * z1 % p384
  if u1 = u2 then (if s1 = s2 then q.double else Jac.inf) else
  let h := fsub u2 u1
  let t := fsub s2 s1
  let h2 := h * h % p384
  let h3 := h * h2 % p384
  let v := u1 * h2 % p384
  let x3 := fsub (t * t) (h3 + 2 * v)
  ⟨x3, fsub (t * fsub v x3) (s1 * h3), q.z * r.z * h % p384⟩

/-- k·q over the low `n` bits of k. -/
def Jac.mul (q : Jac) : Nat → Nat → Jac
  | 0, _ => Jac.inf
  | n + 1, k =>
    let r := (q.mul n (k / 2)).double
    if k % 2 = 1 then r.add q else r

def Jac.affine (q : Jac) : Option (Nat × Nat) :=
  if q.z = 0 then none else
  let i := invMod p384 q.z
  let i2 := i * i % p384
  some (q.x * i2 % p384, q.y * i2 % p384 * i % p384)

/-- k·Q in affine coordinates. -/
def ecMul (k : Nat) (q : Nat × Nat) : Option (Nat × Nat) := ((⟨q.1, q.2, 1⟩ : Jac).mul 384 k).affine

/-- The x-coordinate of d·Q, the shared secret of ECDH (09 R263). -/
def ecdh (d : Nat) (q : Nat × Nat) : BitVec 384 := BitVec.ofNat 384 (((ecMul d q).map Prod.fst).getD 0)

/-- ECDSA verification of FIPS 186-5 with SHA-384. -/
def ecdsaVerify (key : Nat × Nat) (msg : List Byte) (r s : Nat) : Bool :=
  if r = 0 ∨ p384n ≤ r ∨ s = 0 ∨ p384n ≤ s then false else
  let e := (sha384 msg).toNat
  let w := invMod p384n s
  let pt := ((⟨p384G.1, p384G.2, 1⟩ : Jac).mul 384 (e * w % p384n)).add ((⟨key.1, key.2, 1⟩ : Jac).mul 384 (r * w % p384n))
  match pt.affine with
  | none => false
  | some q => q.1 % p384n == r

/-- The 97-byte form 0x04 ‖ X ‖ Y of a point (08 R229). -/
def pointBytes (q : Nat × Nat) : List Byte := [0x04] ++ bytesBE 48 q.1 ++ bytesBE 48 q.2

end Sys2Proof.Machine
end

