-- ==== Sys2Proof/Machine/Image.lean ====
section
/-! DEFINITION. The configuration bitstream: layout, defaults and the checks of 08 R246 and R247 with the positions of R248 and R449. -/

namespace Sys2Proof.Machine

/-- What a reel's sections hold, with the defaults of absent ones (08 R233, R236 to R238, R243). -/
structure Plan where
  topo : List D28
  route : List D28
  prot : List D28
  ladders : List (List D28)
  react : List D28
  limp : List D28
  meas : List D28
  session : List D28
  classes : List D28
  opts : D28
  digests : List (Nat × BitVec 384)
  deriving DecidableEq, Repr

/-- A directory entry: TYPE, OFFSET, SLEN (08 R226). -/
structure DirEntry where
  typ : Nat
  off : Nat
  slen : Nat
  deriving DecidableEq, Repr

/-- Outcome of a reel: code and POS (08 R248), the key once step 3 passed, and the plan of an image that passed every check. -/
structure Verdict where
  code : Nat
  pos : Nat
  key : Option (Nat × Nat)
  plan : Option Plan
  deriving DecidableEq, Repr

def dw (l : List D28) (i : Nat) : D28 := l.getD i 0

/-- A bit of a reserved mask is set. -/
def resv (mask : Nat) (d : D28) : Bool := d.toNat &&& mask ≠ 0

/-- The lowest failing position, if any (08 R246). -/
def lowest : List Nat → Option Nat
  | [] => none
  | p :: ps => some (ps.foldl min p)

/-- Positions of the words that fail, from a base position. -/
def failing (base cnt : Nat) (bad : Nat → Bool) : List Nat := ((List.range cnt).filter bad).map fun i => base + i

/-! ### Operands of a plan -/

/-- The timer that a route names for CHn; 20 to 30 count as none, so that TOPO refuses a channel that needs a timer before ROUTE names the route (08 R247, log 146). -/
def Plan.routed (p : Plan) (n : Nat) : Option Nat :=
  let t := fld (dw p.route (100 + n / 4)) (5 * (n % 4) + 4) (5 * (n % 4))
  if t < 20 then some t else none

def Plan.cfg (p : Plan) (t : Nat) : D28 := dw p.route (5 * t)

/-- FUNC of a timer; none for a number above 19. -/
def Plan.func (p : Plan) (t : Nat) : Option Nat := if t < 20 then some (fld (p.cfg t) 27 25) else none

def Plan.grp (p : Plan) (t : Nat) : Nat := fld (p.cfg t) 24 22

def Plan.mode (p : Plan) (n : Nat) : Nat := fld (dw p.topo n) 27 25

/-- The channels of CHn's group or bridge (08 R230, R231). -/
def Plan.members (p : Plan) (n : Nat) : List Nat :=
  if p.mode n = 2 then [n - n % 2, n - n % 2 + 1]
  else if p.mode n = 3 then
    if fld (dw p.topo n) 9 8 = 2 then (List.range 6).map fun i => n - n % 6 + i else [n - n % 2, n - n % 2 + 1]
  else [n]

/-- DT of CHn in units of 5 ns (08 R231). -/
def Plan.dead (p : Plan) (n : Nat) : Nat :=
  match p.routed n with
  | some t => fld (dw p.route (5 * t + 4)) 7 0
  | none => fld (dw p.topo n) 7 0

/-- Words of CHn's ladder, header first; none when it names none, or an absent one. -/
def Plan.ladder (p : Plan) (n : Nat) : List D28 := p.ladders.getD (fld (dw p.topo n) 13 10) []

/-- First words of a ladder's steps. -/
def stepWords (l : List D28) : List D28 := (List.range (fld (dw l 0) 21 18)).map fun i => dw l (1 + 2 * i)

/-- Highest ILIM of a ladder, in units of 0.25 A. -/
def topIlim (l : List D28) : Nat := ((stepWords l).map fun d => fld d 21 13).foldl max 0

def Plan.hasLimpTimer (p : Plan) : Bool := (List.range 20).any fun t => p.func t == some 4

def Plan.anyDuty (p : Plan) : Bool := (List.range 12).any fun n => fld (dw p.limp (1 + n)) 27 26 == 2

/-- Entry of a source in the reaction words (07 FLT_RXm). -/
def Plan.entry (p : Plan) (src : Nat) : Nat :=
  if src % 2 = 0 then fld (dw p.react (src / 2)) 13 0 else fld (dw p.react (src / 2)) 27 14

/-! ### TOPO (08 R230, R231, R247; 02 R31, R54; 03 R64, R80, R81) -/

/-- A channel's word fails by itself. -/
def topoBad (p : Plan) (n : Nat) : Bool :=
  let c := dw p.topo n
  let bm := p.mode n
  let fw := fld c 24 23
  let grp := fld c 9 8
  let lad := fld c 13 10
  let t := p.routed n
  let refw := fld c 20 14
  resv 0x0200000 c || 4 ≤ bm || fw = 3 || grp = 3 || (grp ≠ 0) ≠ (bm = 3) || (fw = 2) ≠ (bm = 2) ||
    (fld c 7 0 = 0) ≠ t.isSome || (lad ≠ 15 && (p.ladder n).isEmpty) || (bm = 1 && (t.isNone || lad ≠ 15)) ||
    (bm = 2 && t.isNone) ||
    (if bitAt c 22 then refw < 20 || 80 < refw || refw < p.dead n + 10 else refw ≠ 0)

/-- The members of CHn's group or bridge disagree. -/
def topoUnitBad (p : Plan) (n : Nat) : Bool :=
  let same (k : Nat) : Bool :=
    let a := dw p.topo n
    let b := dw p.topo k
    fld a 27 25 == fld b 27 25 && fld a 9 8 == fld b 9 8 && fld a 24 22 == fld b 24 22 && fld a 20 14 == fld b 20 14 &&
      fld a 13 10 == fld b 13 10 && p.routed n == p.routed k
  (p.mode n == 2 || p.mode n == 3) && !(p.members n).all same

def topoFails (p : Plan) (off : Nat) : List Nat := failing (off + 1) 12 fun n => topoBad p n || topoUnitBad p n

/-! ### ROUTE (04 R89, R96, R97, R102, R104, R108, R111; 08 R232, R247) -/

/-- A timer with a period and edges of its own. -/
def ticking (f : Nat) : Bool := f == 1 || f == 3 || f == 4 || f == 5

def planPerOk (d : D28) : Bool :=
  let ticks := fld d 19 0 * 2 ^ fld d 22 20
  16 ≤ fld d 19 0 && 1600 ≤ ticks && ticks ≤ 4000000

/-- PER of the group's master, or the timer's own, in counts. -/
def Plan.groupPer (p : Plan) (t : Nat) : Nat :=
  let m := if p.grp t = 0 then t else ((List.range 20).find? fun m => p.grp m == p.grp t && bitAt (p.cfg m) 20).getD t
  fld (dw p.route (5 * m + 1)) 19 0

/-- Word k of timer t fails: CFG, PER, DUTY, PHASE, EDGE. PHASE of a BLANK timer that is a group member is not judged (log 145). Of two LIMP or two SYNC timers the later fails (DESIGN CHOICE, log 47). -/
def timerBad (p : Plan) (t k : Nat) : Bool :=
  let c := p.cfg t
  let d := dw p.route (5 * t + k)
  let f := fld c 27 25
  let g := p.grp t
  let master := bitAt c 20
  let tick := bitAt c 21
  let earlier (x : Nat) : Bool := (List.range t).any fun u => fld (p.cfg u) 27 25 == x
  let member := g ≠ 0 && !master
  (f = 0 && d ≠ 0) || match k with
    | 0 => resv 0x00FFFFF d || 6 ≤ f || 5 ≤ g || (1 < f && t < 12) || ((f = 4 || f = 5) && earlier f) ||
        (f = 5 && !(g ≠ 0 && master)) || (f = 2 && !tick)
    | 1 => resv 0xF800000 d || (ticking f && !member && !planPerOk d)
    | 2 => resv (if tick then 0xF000000 else 0xFFF0000) d || (f = 2 && 800 < fld d 23 4) ||
        (ticking f && tick && p.groupPer t ≤ fld d 23 4)
    | 3 => resv 0xFF00000 d || (ticking f && member && p.groupPer t ≤ fld d 19 0)
    | _ => resv 0xFF00000 d || (ticking f && (fld d 7 0 = 0 || 60 < fld d 13 8 || 60 < fld d 19 14))

/-- TBASE_ROUTEm fails. -/
def routeBad (p : Plan) (m : Nat) : Bool :=
  let d := dw p.route (100 + m)
  resv 0xE000000 d || fld d 24 20 ≠ 0x1F ||
    (List.range 4).any fun i =>
      let t := fld d (5 * i + 4) (5 * i)
      t ≠ 0x1F && p.func t ≠ some 1

/-- TBASE_GRPg fails, g from 1. A wrong number of MASTERs, and an EN or MEMBERS that disagree with the GROUP fields, are this word's (log 47). -/
def groupBad (p : Plan) (g : Nat) : Bool :=
  let d := dw p.route (102 + g)
  let mem := (List.range 20).filter fun t => p.grp t == g
  resv 0xFE00000 d || bitAt d 20 ≠ !mem.isEmpty || (List.range 20).any (fun t => bitAt d t ≠ (p.grp t == g)) ||
    (!mem.isEmpty && (mem.filter fun t => bitAt (p.cfg t) 20).length ≠ 1)

def routeFails (p : Plan) (off : Nat) : List Nat :=
  (if p.anyDuty && !p.hasLimpTimer then [off] else []) ++
    failing (off + 1) 100 (fun i => timerBad p (i / 5) (i % 5)) ++
    failing (off + 101) 3 (routeBad p) ++ failing (off + 104) 4 (fun i => groupBad p (i + 1)) ++
    failing (off + 108) 1 fun _ =>
      let d := dw p.route 107
      resv 0xFFFFFE0 d || (fld d 4 0 ≠ 0x1F && ((p.func (fld d 4 0)).getD 0 = 0))

/-! ### PROT (06 R160, R176 to R178; 08 R234, R247) -/

/-- A retry policy of one class fails. -/
def policyBad (unlimOk : Bool) (unlim : Bool) (wait : Nat) : Bool := 20 < wait || (unlim && !unlimOk)

/-- Word k of CHn fails: ILIM, SCTH, I2T, PCFG, RPOLA, RPOLB, RPOLC. -/
def protBad (p : Plan) (n k : Nat) : Bool :=
  let d := dw p.prot (7 * n + k)
  match k with
  | 0 => resv 0xFFFFE00 d || fld d 8 0 < 8 || 320 < fld d 8 0
  | 1 => resv 0xFFFFF00 d || fld d 7 0 < 20 || 200 < fld d 7 0 || 4 * fld d 7 0 < topIlim (p.ladder n) + 40
  | 2 => resv 0xFFFE000 d || 13 < fld d 12 9 || fld d 8 0 < 8 || 160 < fld d 8 0
  | 3 => resv 0xFFFFE00 d || 10 < fld d 8 5 || (fld d 4 0 ≠ 0x1F && p.func (fld d 4 0) ≠ some 2)
  | 4 => resv 0xFF00000 d || policyBad true (bitAt d 9) (fld d 4 0) || policyBad false (bitAt d 19) (fld d 14 10)
  | 5 => resv 0xFF00000 d || policyBad false (bitAt d 9) (fld d 4 0) || policyBad false (bitAt d 19) (fld d 14 10)
  | _ => resv 0xFFFFC00 d || policyBad false (bitAt d 9) (fld d 4 0)

def protFails (p : Plan) (off : Nat) : List Nat :=
  failing (off + 1) 84 (fun i => protBad p (i / 7) (i % 7)) ++ failing (off + 85) 1 fun _ => resv 0xFFFF000 (dw p.prot 84)

/-! ### INRUSH (03 R63, R64; 08 R235, R247) -/

/-- Splits the body into ladders, each with its position; `false` when the body does not end with a ladder's end. -/
def walk : Nat → Nat → List D28 → List (Nat × List D28) × Bool
  | 0, _, l => ([], l.isEmpty)
  | _ + 1, _, [] => ([], true)
  | fuel + 1, pos, h :: r =>
    let k := 2 * fld h 21 18
    if r.length < k then ([], false)
    else
      let (ls, ok) := walk fuel (pos + 1 + k) (r.drop k)
      ((pos, h :: r.take k) :: ls, ok)

/-- Step words i of a ladder fail: first and second. -/
def stepBad (p : Plan) (l : List D28) (i : Nat) : Bool × Bool :=
  let a := dw l (1 + 2 * i)
  let b := dw l (2 + 2 * i)
  let segs := fld a 27 22
  let ilim := fld a 21 13
  let users := (List.range 12).filter fun n => fld (dw p.topo n) 13 10 == fld (dw l 0) 27 24
  (segs < 1 || 42 < segs || ilim < 8 || 320 < ilim || fld a 12 1 = 0 || 40 * segs < ilim ||
      users.any (fun n => 4 * fld (dw p.prot (7 * n + 1)) 7 0 < ilim + 40) || (bitAt a 0 && i + 1 = fld (dw l 0) 21 18),
    resv 0x007FFFF b || fld b 27 26 = 3 || fld b 25 19 = 0)

/-- Failing positions of the ladders, given the indices that came before: of two with one INDEX the later fails (DESIGN CHOICE, log 47). -/
def laddersFail (p : Plan) : List Nat → List (Nat × List D28) → List Nat
  | _, [] => []
  | seen, (pos, l) :: r =>
    let h := dw l 0
    let ix := fld h 27 24
    let steps := fld h 21 18
    let head := if resv 0x003FFFF h || 11 < ix || fld h 23 22 = 3 || steps < 1 || 8 < steps || seen.contains ix then [pos] else []
    let body := (List.range steps).flatMap fun i =>
      (if (stepBad p l i).1 then [pos + 1 + 2 * i] else []) ++ (if (stepBad p l i).2 then [pos + 2 + 2 * i] else [])
    head ++ body ++ laddersFail p (ix :: seen) r

/-! ### REACT (07 R194, R213; 08 R236, R247) -/

/-- Sources of fixed class F, FLT_SELF apart (07 R182, R183). -/
def fixedF (src : Nat) : Bool :=
  if src < 96 then src % 8 == 7 else src == 96 || src == 97 || (111 ≤ src && src ≤ 114) || src == 116

def fixedC (src : Nat) : Bool := if src < 96 then src % 8 == 6 else src == 108 || src == 109

/-- A source's entry fails. -/
def entryBad (p : Plan) (src : Nat) : Bool :=
  let e := p.entry src
  let react := e / 2048 % 8
  let perm := e.testBit 10
  let dry := e / 64 % 16
  let ch := e / 4 % 16
  e % 4 ≠ 0 || react = 7 || (fixedF src && react ≠ 6) || (fixedC src && !(react = 0 && !perm)) ||
    (src = 115 && (if bitAt p.opts 1 then react = 0 || react = 1 else react ≠ 6)) ||
    (src = 107 && react ≠ 5) || (react = 6 && dry ≠ 0) ||
    (96 ≤ src && src ≠ 98 && 1 ≤ react && react ≤ 4 && 11 < ch)

/-- A global source that no consequence table may list. -/
def notCandidate (p : Plan) (src : Nat) : Bool :=
  fixedF src || src == 115 || (99 ≤ src && src ≤ 106 && p.entry src / 2048 % 8 == 6)

/-- FLT_SAFEFW fails. -/
def safefwBad (p : Plan) : Bool :=
  let d := dw p.react 73
  let fw (n : Nat) : Nat := fld d (2 * n + 1) (2 * n)
  resv 0xF000000 d || (List.range 12).any fun n =>
    fw n = 3 || (fw n = 2 && fld (dw p.topo n) 24 23 = 0) || (p.members n).any fun k => fw k ≠ fw n

def reactFails (p : Plan) (off : Nat) : List Nat :=
  failing (off + 1) 60 (fun m => entryBad p (2 * m) || entryBad p (2 * m + 1)) ++
    failing (off + 61) 12 (fun i =>
      let d := dw p.react (60 + i)
      if i % 2 = 0 then resv 0xF000000 d || (List.range 24).any fun b => bitAt d b && notCandidate p (96 + b)
      else resv 0xFFFFF00 d || bitAt d 7) ++
    failing (off + 73) 1 (fun _ =>
      let d := dw p.react 72
      resv 0xFFFFC00 d || fld d 9 0 < 1 || 1000 < fld d 9 0) ++
    failing (off + 74) 1 fun _ => safefwBad p

/-! ### LIMP, MEAS, SESSION (06 R170, 05 R138, R139, 08 R237 to R239, R247) -/

def limpBad (p : Plan) (n : Nat) : Bool :=
  let d := dw p.limp (1 + n)
  let act := fld d 27 26
  resv 0x3FF0000 d || act = 3 || (act ≠ 2 && fld d 15 0 ≠ 0) || (p.mode n = 2 && act ≠ 0) ||
    (p.mode n = 3 && dw p.limp (1 + (p.members n).getD 0 n) ≠ d) || (act = 2 && !p.hasLimpTimer)

def limpFails (p : Plan) (off : Nat) : List Nat :=
  failing (off + 1) 1 (fun _ => resv 0xFFFFFFE (dw p.limp 0)) ++ failing (off + 2) 12 (limpBad p)

/-- A trigger entry fails. Of two ISEC triggers of one channel the later fails (DESIGN CHOICE, log 47). -/
def trigBad (p : Plan) (k : Nat) : Bool :=
  let d := dw p.meas (8 + k)
  let isec (e : D28) : Bool := bitAt e 27 && fld e 20 19 == 0
  resv 0x0007E00 d || fld d 20 19 = 3 ||
    (bitAt d 27 && (p.func (fld d 26 22) ≠ some 3 || 11 < fld d 18 15 || 400 < fld d 8 0 ||
      (isec d && (List.range k).any fun i => isec (dw p.meas (8 + i)) && fld (dw p.meas (8 + i)) 18 15 == fld d 18 15)))

def measFails (p : Plan) (off : Nat) : List Nat :=
  failing (off + 1) 8 (fun k =>
    let d := dw p.meas k
    resv 0xFFFFE00 d || fld d 8 0 < 16 || 500 < fld d 8 0) ++
    failing (off + 9) 8 (trigBad p)

def sessionFails (p : Plan) (off : Nat) : List Nat :=
  failing (off + 1) 5 fun i =>
    let d := dw p.session i
    if i = 4 then
      resv 0x0007FFF d || fld d 27 17 < 1 || 2000 < fld d 27 17 || !bitAt (dw p.session (if bitAt d 16 then 2 else 0)) 27
    else
      let here := bitAt (dw p.session (i - i % 2)) 27
      let absent := !here && (i < 2 || d ≠ 0)
      if i % 2 = 0 then
        absent || resv 0x003FFFF d || (if bitAt d 26 then fld d 25 20 < 5 else fld d 25 20 ≠ 0)
      else resv 0xFE00000 d || (!here && d ≠ 0)

/-! ### CLASS, OPTION, DIGEST (08 R240 to R244, R247) -/

/-- NEW classes that the table of R241 permits for an address: S, A. -/
def overridable (a : Nat) : Bool × Bool :=
  if 0x200 ≤ a && a < 0x380 then
    match a % 32 with
    | 0 => (false, true)
    | 4 => (true, true)
    | 5 | 6 | 0x1F => (true, false)
    | _ => (false, false)
  else if 0x100 ≤ a && a < 0x1A0 then
    if 1 ≤ a % 8 && a % 8 ≤ 4 then (true, true) else (false, false)
  else if (0x3C4 ≤ a && a ≤ 0x3CC) || a = 0x086 || (0x0A4 ≤ a && a ≤ 0x0A8) then (true, false)
  else (false, false)

/-- Failing positions of the CLASS entries. Of two words that name one address the later fails (DESIGN CHOICE, log 47). -/
def classFails (p : Plan) (off : Nat) : List Nat :=
  failing (off + 1) p.classes.length fun i =>
    let d := dw p.classes i
    let ok := overridable (fld d 27 16)
    resv 0x0007FFF d || !(if bitAt d 15 then ok.2 else ok.1) ||
      (List.range i).any fun k => fld (dw p.classes k) 27 16 == fld d 27 16

def optionFails (p : Plan) (off : Nat) : List Nat := if resv 0xFFFFFF8 p.opts then [off + 1] else []

/-- Failing positions of the DIGEST entries, whose words these are. -/
def digestFails (off : Nat) (ds : List D28) : List Nat :=
  let cnt := ds.length / 15
  if ds.length % 15 ≠ 0 || cnt < 1 || 1024 < cnt then [off]
  else (List.range cnt).flatMap fun i =>
    let h := dw ds (15 * i)
    (if resv 0xFFFF800 h || 1819 < fld h 10 0 || (i ≠ 0 && fld h 10 0 ≤ fld (dw ds (15 * (i - 1))) 10 0) then [off + 1 + 15 * i] else []) ++
      (if fld (dw ds (15 * i + 14)) 7 0 ≠ 0 then [off + 15 + 15 * i] else [])

/-! ### Layout (08 R224 to R227, R246 step 7, R449) -/

/-- SLEN of a type, for the fixed lengths of R226. -/
def fixedLen (typ : Nat) : Option Nat :=
  match typ with
  | 1 => some 13
  | 2 => some 109
  | 3 => some 86
  | 5 => some 75
  | 6 => some 14
  | 7 => some 17
  | 8 => some 6
  | 10 => some 2
  | _ => none

/-- The words of a section's body. -/
def bodyOf (ws : List D28) (e : DirEntry) : List D28 := (ws.drop (e.off + 1)).take (e.slen - 1)

/-- SLEN is right for the type; the length of a DIGEST section is its section check's. -/
def lenOk (ws : List D28) (e : DirEntry) : Bool :=
  1 ≤ e.slen && match fixedLen e.typ with
    | some k => e.slen == k
    | none =>
      if e.typ = 9 then 2 ≤ e.slen && e.slen ≤ 257
      else if e.typ = 4 then (walk e.slen (e.off + 1) (bodyOf ws e)).2
      else true

def dirEntry (ws : List D28) (k : Nat) : DirEntry :=
  ⟨fld (dw ws (60 + 2 * k)) 27 22, fld (dw ws (60 + 2 * k)) 15 0, fld (dw ws (61 + 2 * k)) 15 0⟩

/-- Failing positions of directory entry k, whose section must begin at `expect` after a section of type `last`. -/
def entryFails (ws : List D28) (n k expect last : Nat) : List Nat :=
  let e := dirEntry ws k
  let p := 60 + 2 * k
  let here := if e.off < n then e.off else p
  let h := dw ws e.off
  (if resv 0x03F0000 (dw ws p) || e.typ = 0 || 11 < e.typ || e.typ ≤ last then [p] else []) ++
    (if resv 0xFFF0000 (dw ws (p + 1)) then [p + 1] else []) ++
    (if e.off ≠ expect || !lenOk ws e || n < e.off + e.slen then [here] else []) ++
    (if e.off < n && (resv 0x03F0000 h || fld h 27 22 ≠ e.typ || fld h 15 0 ≠ e.slen) then [e.off] else [])

def directory (ws : List D28) (nsec : Nat) : List DirEntry := (List.range nsec).map (dirEntry ws)

def layoutFails (ws : List D28) (n nsec : Nat) : List Nat :=
  let d := directory ws nsec
  let endOf (k : Nat) : Nat := match d[k]? with
    | some e => e.off + e.slen
    | none => 60 + 2 * nsec
  let each := (List.range nsec).flatMap fun k =>
    entryFails ws n k (if k = 0 then 60 + 2 * nsec else endOf (k - 1)) ((d.take k).map DirEntry.typ |>.foldl max 0)
  let last := match d.getLast? with
    | some e => if e.off + e.slen ≠ n then [if e.off < n then e.off else 60 + 2 * (nsec - 1)] else []
    | none => []
  let missing := if [1, 3, 8].all fun t => d.any fun e => e.typ == t then [] else [60]
  each ++ last ++ missing

/-! ### The plan of a laid-out image -/

/-- The ROUTE words of an image without that section (08 R233). -/
def defaultRoute : List D28 :=
  ((List.range 20).flatMap fun t => if t < 12 then [0x2000000, 0x0000FA0, 0, 0, 0x0000014] else [0, 0, 0, 0, 0]) ++
    (List.range 3).map (fun m => d28 (0x1F00000 + at_ 15 (4 * m + 3) + at_ 10 (4 * m + 2) + at_ 5 (4 * m + 1) + 4 * m)) ++
    [0, 0, 0, 0, 0x1F]

def sectionOf (ws : List D28) (d : List DirEntry) (typ : Nat) : Option (List D28) :=
  (d.find? fun e => e.typ == typ).map (bodyOf ws)

/-- The ladders by index. -/
def laddersOf (body : List D28) : List (List D28) :=
  let ls := (walk (body.length + 1) 0 body).1
  (List.range 12).map fun ix => ((ls.find? fun l => fld (dw l.2 0) 27 24 == ix).map Prod.snd).getD []

def digestsOf (ds : List D28) : List (Nat × BitVec 384) :=
  (List.range (ds.length / 15)).map fun i => (fld (dw ds (15 * i)) 10 0, BitVec.ofNat 384 (join384 ((ds.drop (15 * i + 1)).take 14)))

def planOf (ws : List D28) (d : List DirEntry) : Plan :=
  let get (typ : Nat) (dflt : List D28) : List D28 := (sectionOf ws d typ).getD dflt
  { topo := get 1 []
    route := get 2 defaultRoute
    prot := get 3 []
    ladders := laddersOf (get 4 [])
    react := get 5 ((List.range 60).map defaultRx ++ List.replicate 12 0 ++ [5, 0])
    limp := get 6 (List.replicate 13 0)
    meas := get 7 (defaultFresh ++ List.replicate 8 0)
    session := get 8 []
    classes := get 9 []
    opts := dw (get 10 []) 0
    digests := digestsOf (get 11 []) }

/-- Failing positions of a section. -/
def sectionFails (ws : List D28) (p : Plan) (e : DirEntry) : List Nat :=
  match e.typ with
  | 1 => topoFails p e.off
  | 2 => routeFails p e.off
  | 3 => protFails p e.off
  | 4 => laddersFail p [] (walk e.slen (e.off + 1) (bodyOf ws e)).1
  | 5 => reactFails p e.off
  | 6 => limpFails p e.off
  | 7 => measFails p e.off
  | 8 => sessionFails p e.off
  | 9 => classFails p e.off
  | 10 => optionFails p e.off
  | _ => digestFails e.off (bodyOf ws e)

/-- The first section that fails, in ascending TYPE: its code and position. -/
def sectionsFail (ws : List D28) (p : Plan) (d : List DirEntry) : Option (Nat × Nat) :=
  d.findSome? fun e => (lowest (sectionFails ws p e)).map fun pos => (8 + e.typ, pos)

/-! ### The checks in order (08 R229, R246, R248, R449) -/

/-- The word at a position of the image reads as data there (08 R223). -/
def imgWordOk (ws : List W36) (i : Nat) : Bool :=
  match ws[i]? with
  | some w => isData (i % 4096) w
  | none => false

/-- Slate words 0 to 3 fail (08 R224). -/
def slateBad (ws : List W36) (i : Nat) : Bool :=
  let d := wData (ws.getD i 0)
  !imgWordOk ws i || match i with
    | 0 => fld d 27 12 ≠ 0x51A7 || fld d 11 8 ≠ 1 || fld d 7 0 ≠ 0
    | 1 => fld d 27 12 < 80 || 58254 < fld d 27 12 || fld d 11 6 < 3 || 11 < fld d 11 6 || fld d 5 0 ≠ 0
    | 2 => fld d 27 12 ≠ 0x1242 || 0x10 < fld d 11 4 || fld d 3 0 ≠ 0
    | _ => 64 < fld d 27 21

/-- X and Y of the slate's key. -/
def slateKey (ds : List D28) : Nat × Nat := (join384 (group14 ds 4 0), join384 (group14 ds 4 1))

/-- Words of the key fail by themselves: R223, or the padding of words 17 and 31. -/
def keyWordBad (ws : List W36) (i : Nat) : Bool :=
  !imgWordOk ws i || ((i = 17 || i = 31) && fld (wData (ws.getD i 0)) 7 0 ≠ 0)

/-- The lowest position at which the KEY check fails: a word that does not read leaves no key to hash, so that such a word and the padding come first then (log 47); else the point and its hash stand at word 4, and the padding behind it (08 R246, R449). -/
def keyFails (ws : List W36) (hashOk : Bool) : Option Nat :=
  let words := lowest (failing 4 28 fun i => keyWordBad ws (4 + i))
  if (List.range 28).all (fun i => imgWordOk ws (4 + i)) && !hashOk then some 4 else words

/-- The lowest position at which the SIG check fails: the signature stands at word 32, the padding of words 45 and 59 behind it (08 R246, R449). -/
def sigFails (ds : List D28) (verified : Bool) : Option Nat :=
  if !verified then some 32 else lowest (failing 45 15 fun i => (i = 0 || i = 14) && fld (dw ds (45 + i)) 7 0 ≠ 0)

/-- The last byte of an image of odd length carries the padding nibble that was read (08 R222, R228). -/
def putNibble (nibble : BitVec 4) (bs : List Byte) : List Byte :=
  bs.modify (bs.length - 1) fun x => x ||| BitVec.ofNat 8 nibble.toNat

/-- The signed message M of an image of N words, with the padding nibble of an odd N as it was read (08 R228). -/
def signedMessage (ws : List W36) (nibble : BitVec 4) : List Byte :=
  let tail := pack (ws.drop 60)
  pack (ws.take 32) ++ if ws.length % 2 = 1 then putNibble nibble tail else tail

/-- SHA-384 of 0x04 ‖ X ‖ Y. -/
def keyHash (k : Nat × Nat) : BitVec 384 := sha384 (pointBytes k)

/-- Words of the reel that lie wholly within the flash; none when the whole reel does (08 R248). -/
def reelRoom (base densLog : Nat) : Option Nat :=
  let size := 2 ^ densLog
  if base + 0x40000 ≤ size then none else if size ≤ base then some 0 else some ((size - base) * 8 / 36)

/-- Step 1: where reading stops. A read whose F_DQS edge does not arrive fails (10 R293). -/
def readFails (detected : Bool) (base densLog : Nat) (r : ReelRead) : Option Nat :=
  if !detected then some 0
  else match reelRoom base densLog with
    | some k => some (if r.failed || r.dqsTimeout then min k r.words.length else k)
    | none => if r.failed || r.dqsTimeout then some r.words.length else none

/-- Steps 4 to 8 of an image whose key passed. -/
def checkRest (otp : Otp) (key : Nat × Nat) (ws : List W36) (nibble : BitVec 4) (n nsec : Nat) : Verdict :=
  let ds := ws.map wData
  let fail (code pos : Nat) : Verdict := ⟨code, pos, some key, none⟩
  match lowest (failing 32 (n - 32) fun i => !imgWordOk ws (32 + i)) with
  | some pos => fail 4 pos
  | none =>
    match sigFails ds (ecdsaVerify key (signedMessage ws nibble) (join384 (group14 ds 32 0)) (join384 (group14 ds 32 1))) with
    | some pos => fail 5 pos
    | none =>
      if fld (dw ds 3) 27 21 < otp.arbfuse then fail 6 3
      else match lowest (layoutFails ds n nsec) with
        | some pos => fail 8 pos
        | none =>
          let d := directory ds nsec
          let p := planOf ds d
          match sectionsFail ds p d with
          | some (code, pos) => fail code pos
          | none => ⟨0, 0, some key, some p⟩

/-- The checks of a reel in the order of R246. -/
def checkReel (otp : Otp) (detected : Bool) (base densLog : Nat) (r : ReelRead) : Verdict :=
  match readFails detected base densLog r with
  | some pos => ⟨1, pos, none, none⟩
  | none =>
    match lowest (failing 0 4 (slateBad r.words)) with
    | some pos => ⟨2, pos, none, none⟩
    | none =>
      let w1 := wData (r.words.getD 1 0)
      let n := fld w1 27 12
      let ws := r.words.take n
      let key := slateKey (ws.map wData)
      match keyFails ws (otp.okhlock && onCurve key && keyHash key == otp.okh) with
      | some pos => ⟨3, pos, none, none⟩
      | none => checkRest otp key ws r.nibble n (fld w1 11 6)

/-- Steps 1, 2 and 4 of R246, with R223 for every word, the point and the signature of R255: the key to adopt. -/
def provisionKey (detected : Bool) (densLog : Nat) (r : ReelRead) : Option (Nat × Nat) :=
  let n := fld (wData (r.words.getD 1 0)) 27 12
  let ws := r.words.take n
  let ds := ws.map wData
  let key := slateKey ds
  let pads := [17, 31, 45, 59].all fun i => fld (dw ds i) 7 0 == 0
  if (readFails detected 0 densLog r).isNone && (lowest (failing 0 4 (slateBad r.words))).isNone &&
      (lowest (failing 4 (n - 4) fun i => !imgWordOk ws (4 + i))).isNone && pads && onCurve key &&
      ecdsaVerify key (signedMessage ws r.nibble) (join384 (group14 ds 32 0)) (join384 (group14 ds 32 1))
  then some key else none

end Sys2Proof.Machine
end

