-- ==== Sys2Proof/Machine/Store.lean ====
section
/-! DEFINITION. Hold-up, the nonvolatile store, the fault log, last rites and the way into reset (15). -/

namespace Sys2Proof.Machine

def onHold (f : HoldUp → HoldUp) (s : State) : State := { s with hold := f s.hold }

/-! ### Available energy (15 R389) -/

/-- Eav in whole µJ for a capacitance in 0.01 µF and VHOLD in mV. -/
def eavOf (cap mv : Nat) : Nat := if mv ≤ 8000 then 0 else 19 * cap * (mv * mv - 64000000) / 4000000000

/-- VHOLD of a sample word, in mV. -/
def holdMv (w : SampleOpt) : Nat := (w.map fun x => x.value.toNat).getD 0

/-- HOLD_LOW is judged: the source is raised when LOW rises. -/
def judgeLow (s : State) : State :=
  let low := s.hold.judged && s.hold.eav < 2500
  let rise := low && !s.hold.low
  let s := onHold (fun h => { h with low := low }) s
  if rise then raise [ev 117] s else s

/-- Eav follows HOLD_CAP and the latest VHOLD. -/
def holdEnergy (s : State) : State :=
  judgeLow (onHold (fun h => { h with eav := if h.capValid then eavOf h.cap (holdMv h.vhold) else 0 }) s)

/-- A conversion of VHOLD; LSB 2.5 mV, HOLD_VHOLD in mV (15 R387). The hold-up control is CORE's (13 R344). -/
def execVholdConversion (code : Nat) (s : State) : Host.Outcome State Fault Refusal :=
  done <|
    if s.dev.phase == .reset || s.clk.coreStop then s
    else
      let (v, s) := nearest ((5 * code : Nat) / 2 : Rat) s
      holdEnergy (onHold (fun h => { h with vhold := some (mkSample s v 0) }) s)

/-! ### Start charge and flacon test (15 R387, R388, R397) -/

/-- The start charge is under way, and CORE, whose the hold-up control is, sees its end (13 R344). -/
def charging (s : State) : Bool :=
  s.hold.state == .charging && !s.hold.charged && s.sup.ritesWait.isNone && !s.clk.coreStop

def execStartChargeEnd (s : State) : Host.Outcome State Fault Refusal :=
  done (if charging s then onHold (fun h => { h with charged := true }) s
    else s)

def execChargeTimeout (s : State) : Host.Outcome State Fault Refusal :=
  done (if charging s then
      holdEnergy (onHold (fun h => { h with state := .fault, chgto := true, judged := true }) s)
    else s)

/-- REC0 of a START record (15 R398). -/
def startRec (s : State) : Nat :=
  at_ 24 3 + at_ 21 s.sup.cause.toNat + at_ 19 (if s.dev.struct then s.dev.reel.toNat else 0) + at_ 12 (fld s.dev.image 27 21)

/-- The load has ended, with or without a reel applied. -/
def loadEnded (s : State) : Bool := s.dev.struct || s.dev.phase == .nostruct

/-- The counters page is requested and the START record placed, once the flacon test has completed and the load has ended, so that the record's REEL and ARB are the start's (15 R397). -/
def startCounters (s : State) : State :=
  if s.hold.tested && loadEnded s then
    logPut (startRec s) (tryProgram (s.onNvs fun v => { v with cntPend := true }))
  else s

/-- C in 0.01 µF from the difference of the two sums of 16 codes of 2.5 mV: 40 µC ÷ (V1 − V2). A result that HOLD_CAP cannot hold is a free value. -/
def capOf (sum1 sum2 : Nat) (s : State) : Nat × State :=
  if sum1 ≤ sum2 then
    let (x, s) := s.draw
    (x.toNat % 65536, s)
  else
    let (c, s) := nearest (25600000 / ((sum1 - sum2 : Nat) : Rat)) s
    if c.toNat < 65536 then (c.toNat, s)
    else
      let (x, s) := s.draw
      (x.toNat % 65536, s)

/-- C lies within 20 µF to 300 µF. -/
def capInRange (sum1 sum2 : Nat) : Bool :=
  sum2 < sum1 && 2000 * (sum1 - sum2) ≤ 25600000 && 25600000 ≤ 30000 * (sum1 - sum2)

def execFlaconTestComplete (sum1 sum2 : Nat) (s : State) : Host.Outcome State Fault Refusal :=
  done <|
    if !s.hold.charged || s.hold.tested || s.sup.ritesWait.isSome || s.clk.coreStop then s
    else
      let ok := capInRange sum1 sum2
      let (c, s) := capOf sum1 sum2 s
      let s := onHold (fun h =>
        { h with tested := true, judged := true, cap := c, capValid := ok, caprange := h.caprange || !ok,
                 state := if ok then .ready else .fault }) s
      startCounters (holdEnergy s)

/-! ### Programs that complete (15 R392, R394, R395) -/

/-- The log page at a page number, or an empty one. -/
def logPage (st : Store) (pg : Nat) : LogPage := (st.log.find? fun p => p.page == pg).getD ⟨pg, [], [], false⟩

/-- Puts a log page in page order. -/
def putLogPage (l : List LogPage) (p : LogPage) : List LogPage :=
  (l.filter fun q => q.page < p.page) ++ [p] ++ (l.filter fun q => p.page < q.page)

/-- The page of a rotated area takes a copy whose generation is one above the newest (15 R392). -/
def putCopy {α : Type} (f : Layout α) (base pg : Nat) (v : α) (l : List Slot) : List Slot :=
  l.set (pg - base) (.copy (copyWords f pg (((newest f base l).map Copy.gen).getD 0 + 1) v))

/-- The store with a page left by a program that did not complete: its words are corrupted, a log page's header among them (15 R392). -/
def tornPage (p : Program) (pg : Nat) (st : Store) : Store :=
  match p with
  | .map => { st with map := st.map.set (pg - 64) .torn }
  | .counters => { st with counters := st.counters.set (pg - 80) .torn }
  | .shadow => { st with shadow := st.shadow.set (pg - 96) .torn }
  | .log => { st with log := putLogPage st.log ⟨pg, [], [], true⟩ }

/-- A page of the program's area is being written. -/
def inArea (p : Program) (pg : Nat) : Bool := (area p).1 ≤ pg

/-- The map that was programmed no longer awaits it. -/
def mapStored (img : List Mask42) (s : State) : State :=
  { s with chans := s.chans.mapIdx fun n c => { c with retPend := c.retPend && img.getD n 0 != c.retired } }

/-- Retirements that the newest stored map lacks still await their program (02 R43). -/
def mapMissed (s : State) : State :=
  let img := ((newestMap s.store).map Copy.val).getD []
  { s with chans := s.chans.mapIdx fun n c => { c with retPend := c.retPend || img.getD n 0 != c.retired } }

/-- A full image leaves its page: the head moves on, a wrap counts in PASS, and the queue fills the next image (15 R394). -/
def nextImage (s : State) : State :=
  if s.nvs.image.length = 15 && s.nvs.programmed = 15 then
    let head := s.store.head
    { s with store := { s.store with head := (head + 1) % 1536 },
             nvs := { s.nvs with image := s.nvs.queue.take 15, queue := s.nvs.queue.drop 15, programmed := 0,
                                 pass := if head = 1535 then s.nvs.pass + 1 else s.nvs.pass } }
  else s

/-- What a program that reads back leaves in the store. -/
def stored (p : Program) (s : State) : State :=
  let pg := s.nvs.page
  match p with
  | .map => mapStored s.nvs.mapImage { s with store := { s.store with map := putCopy mapLayout 64 pg s.nvs.mapImage s.store.map } }
  | .counters => { s with store := { s.store with counters := putCopy counterLayout 80 pg (s.sup.starts, s.nvs.bad) s.store.counters } }
  | .shadow =>
    match s.trust.advance with
    | .shadow l => { s with store := { s.store with shadow := putCopy shadowLayout 96 pg l s.store.shadow },
                            trust := { s.trust with advance := .fuses l } }
    | _ => s
  | .log =>
    let p : LogPage := ⟨pg, headerWords pg s.nvs.pass ((logPage s.store pg).cycles + 1), recWords pg (s.nvs.image.take s.nvs.inflight), false⟩
    nextImage { s with store := { s.store with log := putLogPage s.store.log p },
                       nvs := { s.nvs with programmed := s.nvs.inflight } }

/-- A program that failed waits for its repeat; with no good page left (`out`) nothing is stored. A map record stays unwritten and is tried again with every later check (02 R43, log 80); a log program falls due again 100 ms after this one, since no log page is programmed sooner outside last rites (R394); the other areas are tried no further. -/
def programWaits (p : Program) (out : Bool) (s : State) : State :=
  match p with
  | .map => mapMissed (s.onNvs fun v =>
      { v with mapPend := true, mapRest := v.mapRest || out, triedAt := if out then s.now else v.triedAt })
  | .counters => s.onNvs fun v => { v with cntPend := v.cntPend || !out }
  | .log => s
  | .shadow =>
    if out then { s with trust := { s.trust with advance := .idle } } else s.onNvs fun v => { v with shadowPend := true }

/-- The read-back failed: NVS_FAIL, the page is listed bad and left corrupted, and the program waits to be repeated on the next good page, under a flacon check of its own (15 R390, R395). -/
def programFailed (p : Program) (s : State) : State :=
  let pg := s.nvs.page
  let s := s.onNvs fun v => { v with fail := true, running := none, bad := if inArea p pg then v.bad ++ [pg] else v.bad }
  let s := if inArea p pg then { s with store := tornPage p pg s.store } else s
  raise [ev 118] (programWaits p (targetPage s p).isNone s)

/-- A running program ends. A program to an area without a good page stores nothing. -/
def programDone (reads : Bool) (s : State) : State :=
  match s.nvs.running with
  | none => s
  | some p =>
    if reads && inArea p s.nvs.page then tryProgram (stored p (s.onNvs fun v => { v with running := none }))
    else tryProgram (programFailed p s)

/-! ### The log's own programs (15 R394) and fetches (15 R403) -/

/-- The open image falls due: full, or its oldest record not yet programmed is 100 ms old; no sooner than 100 ms after the log program before, and not before the scan of LOAD has set the log's head (15 R394, R397). -/
def logDueNow (s : State) : Bool :=
  let fresh := s.nvs.image.drop s.nvs.programmed
  let old := match fresh with
    | r :: _ => s.nvs.image.length = 15 || s.since r.time 100000
    | [] => false
  let spaced := match s.nvs.lastLog with
    | some t => s.since t 100000
    | none => true
  old && spaced && s.nvs.scanned && !s.nvs.logDue && s.nvs.running ≠ some .log

def execLogProgramDue (s : State) : Host.Outcome State Fault Refusal :=
  done (if s.coreRuns && logDueNow s then tryProgram (s.onNvs fun v => { v with logDue := true }) else s)

/-- The check of the waiting programs is repeated every 1 ms, also for a map record that found no good page (02 R43, 15 R391). -/
def execProgramRetry (s : State) : Host.Outcome State Fault Refusal :=
  done (if s.coreRuns && s.since s.nvs.triedAt 1000 then tryProgram (s.onNvs fun v => { v with mapRest := false }) else s)

/-- The four words of record i of a stored page, as a register shows them: rebased from their store addresses (15 R393). -/
def recShown (p : LogPage) (i : Nat) : List ReadWord := (List.range 4).map fun k => shownWord (recAddr p.page i k) (p.word i k)

/-- REC1 of record i of a page is data and names the SEQ. -/
def recNames (seq : D28) (p : LogPage) (i : Nat) : Bool :=
  !p.torn && isData (recAddr p.page i 1) (p.word i 1) && wData (p.word i 1) == seq

/-- The record that a fetch finds by its SEQ, in the store or in the open image (15 R403). -/
def findRec (s : State) (seq : D28) : Option (List ReadWord) :=
  let inStore := s.store.log.findSome? fun p =>
    ((List.range (p.words.length / 4)).find? (recNames seq p)).map (recShown p)
  inStore.orElse fun _ =>
    (s.nvs.image.find? fun r => r.r1 == seq).map fun r => [.data r.r0, .data r.r1, .data r.r2, .data r.r3]

/-- A write of NVS_LOGSEL. -/
def writeLogsel (d : D28) (s : State) : State := s.onNvs fun v => { v with sel := some d, fetching := true, fetched := none }

/-- A fetch ends (15 R403), in the control of the store, which stops with CORE (13 R344). -/
def execLogFetchDone (s : State) : Host.Outcome State Fault Refusal :=
  done <| if s.nvs.fetching && !s.clk.coreStop then s.onNvs fun v => { v with fetching := false, fetched := v.sel.bind (findRec s) } else s

/-! ### The scan during LOAD (15 R397, R404) -/

/-- The newest record of the store, and its page. -/
def newestRec (st : Store) : Option (LogPage × Rec) :=
  ((st.log.flatMap fun p => p.recs.map fun r => (p, r)).find? fun x => x.2.r1.toNat == storedSeq st)

/-- The newest record is the previous start's RITES record (15 R404). -/
def ritesOf (st : Store) (starts : Nat) : Option Rec :=
  match newestRec st with
  | some (_, r) =>
    let k := fld r.r3 27 20
    if fld r.r0 27 24 = 2 && ((k + 1) % 256 = starts % 256 || k = starts % 256) then some r else none
  | none => none

/-- A record placed before the scan takes the start count that the scan establishes (15 R398). -/
def stampStart (starts : Nat) (r : Rec) : Rec := { r with r3 := d28 (at_ 20 (starts % 256) + fld r.r3 19 0) }

/-- Records that a queued record stands for when it is lost: itself, and those that a LOST record counts, which has not been stored (15 R394, R400). -/
def lostWith (r : Rec) : Nat := 1 + if fld r.r0 27 24 = 4 then fld r.r0 23 8 else 0

/-- The queue takes records, oldest first, up to its 32; those beyond find it full, and are dropped and counted (15 R394). -/
def boundQueue (rs : List Rec) (v : Nvs) : Nvs :=
  { v with queue := rs.take 32, dropped := v.dropped + ((rs.drop 32).map lostWith).sum, loss := v.loss || decide (32 < rs.length) }

/-- STARTS, CAUSE, RITES and NEW are established; the bad-page list and the log head are taken from the store, and the records of the head's page open the image, whose page the head leaves when it is full; the queue takes 32 of what is left then (15 R394, R397, R404, log 158). -/
def scanStore (s : State) : State :=
  let counters := (newestCounters s.store).map Copy.val
  let starts := (counters.map Prod.fst).getD 0 + 1
  let r := ritesOf s.store starts
  let clean := match r with
    | some x => bitAt x.r0 20 && fld x.r0 19 12 = 0
    | none => false
  let sup := { s.sup with starts := starts, isNew := true,
                          cause := BitVec.ofNat 3 ((r.map fun x => fld x.r0 23 21).getD 0),
                          rites := match r with
                            | none => 0
                            | some _ => if clean then 1 else 2 }
  let page := (newestRec s.store).map Prod.fst
  let recs := (page.map LogPage.recs).getD []
  let head := (page.map fun p => p.page - 512).getD 0
  let all := recs ++ s.nvs.image.map (stampStart starts)
  let v := { s.nvs with scanned := true, bad := (counters.map Prod.snd).getD [], image := all.take 15,
                        programmed := recs.length, pass := (page.map LogPage.pass).getD 0,
                        queue := all.drop 15 ++ s.nvs.queue.map (stampStart starts) }
  (nextImage { s with sup := sup, store := { s.store with head := head }, nvs := v }).onNvs fun v => boundQueue v.queue v

/-! ### Last rites and reset (15 R381, R399 to R401, 01 R18) -/

/-- Reset: everything returns to its reset value but OTP and the store; the level of RST_N, the waiting commands and the TAP's instruction, bypass and boundary-scan registers stand as they are (log 84). -/
def toReset (s : State) : State :=
  { State.start s.otp s.store with pending := s.pending, free := s.free, pins := { Pins.reset with rstN := s.pins.rstN },
                                   tap := { s.tap with out := [], halt := false } }

/-- DROPPED: the records dropped since the last stored LOST record, and what remains in the queue (15 R400). -/
def recordsLost (v : Nvs) : Nat := v.dropped + (v.queue.map lostWith).sum

/-- REC0 of a RITES record (15 R398, R400). -/
def ritesRec (s : State) (cause : BitVec 3) : Nat :=
  at_ 24 2 + at_ 21 cause.toNat + at_ 20 (b2n (!s.nvs.mapPend)) + at_ 12 (sat 255 (recordsLost s.nvs)) +
    at_ 5 (s.flt.fsrc % 128)

/-- A page may be programmed in rites: the flacon test has completed, and Eav at its start covers it. -/
def ritesOk (s : State) (mv : Nat) : Bool := s.hold.capValid && 420 ≤ eavOf s.hold.cap mv

/-- A page program of last rites: it reads back, or its page is left corrupted and NVS_FAIL raised (15 R395); no repeat is made. -/
def ritesProgram (p : Program) (reads : Bool) (s : State) : State :=
  match targetPage s p with
  | some pg =>
    let s := choosePage p (some pg) (s.onNvs fun v =>
      { v with inflight := v.image.length, mapImage := s.chans.map Chan.retired, mapPend := v.mapPend && p ≠ .map })
    if reads then stored p s
    else raise [ev 118] (programWaits p false { s with store := tornPage p pg s.store, nvs := { s.nvs with fail := true } })
  | none => raise [ev 118] (s.onNvs fun v => { v with fail := true })

/-- Step 6: the pending map record. -/
def ritesMap (env : RitesEnv) (s : State) : State :=
  if s.nvs.mapPend && ritesOk s env.vholdMap then ritesProgram .map env.mapReads s else s

/-- The RITES record's fields are filled at the start of step 7 (15 R400). -/
def ritesFill (cause : BitVec 3) (s : State) : State :=
  let fill (i : Nat) (r : Rec) : Rec :=
    if fld r.r0 27 24 = 2 && s.nvs.programmed ≤ i then { r with r0 := d28 (ritesRec s cause) } else r
  s.onNvs fun v => { v with image := v.image.mapIdx fill }

/-- Step 7: the open image is programmed, once the scan of LOAD has set the log's head (15 R397, log 159). -/
def ritesLog (cause : BitVec 3) (env : RitesEnv) (s : State) : State :=
  let s := ritesFill cause s
  if s.nvs.scanned && ritesOk s env.vholdLog then ritesProgram .log env.logReads s else s

/-- Steps 5 to 8 after the step that stopped everything. -/
def ritesEnd (cause : BitVec 3) (env : RitesEnv) (s : State) : State :=
  toReset (ritesLog cause env (ritesMap env s))

/-- Step 4: sessions stop, both ports go quiet, the boost stops, TIME and SENSE stop and the clock monitors are disarmed. -/
def ritesStop (s : State) : State :=
  let quiet (e : Ses) : Ses := { e with established := false, keys := none, oldKhd := none, xch := none, leaseValid := false }
  let still (q : PortSt) : PortSt := { q with tx := [], rest := [], txq := [], rxq := [] }
  { s with ses := ⟨quiet s.ses.h0, quiet s.ses.h1⟩, auth := { s.auth with offer := none, request := none },
           ports := ⟨still s.ports.h0, still s.ports.h1⟩,
           clk := { s.clk with armed := false, senseArmed := false, timeStop := true, senseStop := true,
                               senseAt := if s.clk.senseStop then s.clk.senseAt else s.now } }

/-- A fuse blow is abandoned, for R258 to complete at the next start (15 R401); running tests stop without a result (16 R420). -/
def ritesAbandon (s : State) : State :=
  { s with bist := { s.bist with laneA := none, laneB := none, laneD := none },
           trust := { s.trust with advance := match s.trust.advance with
             | .fuses _ => .idle
             | a => a } }

/-- Step 5: the RITES record is placed in the open image; its last place is RITES's own, also when a LOST record is due. An image that is full gives it the place of its newest record that no program carries, which goes first in the queue; with every record of it in a program, RITES goes there itself (log 97). The queue keeps its 32 places (log 158). -/
def ritesPlace (cause : BitVec 3) (s : State) : State :=
  let v := s.nvs
  let r := mkRec s (at_ 24 2 + at_ 21 cause.toNat)
  let carried := if v.running == some .log then v.inflight else v.programmed
  if v.image.length < 14 || (v.image.length = 14 && v.dropped = 0) then logPut (at_ 24 2 + at_ 21 cause.toNat) s
  else if v.image.length = 14 then s.onNvs fun v => { v with image := v.image ++ [r], seq := r.r1.toNat }
  else if carried < 15 then
    s.onNvs fun v => boundQueue (v.image.drop 14 ++ v.queue) { v with image := v.image.take 14 ++ [r], seq := r.r1.toNat }
  else s.onNvs fun v => boundQueue (r :: v.queue) { v with seq := r.r1.toNat }

/-- A program that the reset of everything interrupts leaves its page corrupted (15 R392, R401). -/
def interrupted (s : State) : State :=
  match s.nvs.running with
  | some p => if inArea p s.nvs.page then { s with store := tornPage p s.nvs.page s.store } else s
  | none => s

/-- Last rites from their trigger. A running program completes first, and the rites wait for it (15 R399). With CORE stopped only GUARD's steps 1, 3 and 8 are left: no record is placed and no page programmed (13 R344, R445, log 26). -/
def lastRites (cause : BitVec 3) (env : RitesEnv) (s : State) : State :=
  if s.sup.ritesWait.isSome || lightsOut s then s
  else if s.clk.coreStop then toReset (interrupted s)
  else
    let s := ritesPlace cause (ritesStop (enterSafe (ritesAbandon s)))
    if s.nvs.running.isSome then { s with sup := { s.sup with ritesWait := some cause } }
    else ritesEnd cause env s

/-- A running program completes; the control of the store stops with CORE (13 R344). -/
def execPageProgramDone (reads : Bool) (env : RitesEnv) (s : State) : Host.Outcome State Fault Refusal :=
  done <|
    if s.nvs.running.isNone || s.clk.coreStop then s
    else
      let s := programDone reads s
      match s.sup.ritesWait with
      | some cause => ritesEnd cause env s
      | none => s

def execRstNFall (env : RitesEnv) (s : State) : Host.Outcome State Fault Refusal :=
  done (if s.dev.phase == .reset then { s with pins := { s.pins with rstN := false } }
    else lastRites 1 env { s with pins := { s.pins with rstN := false } })

/-- RSTCAUSE of a supply loss. -/
def supCause : Supply → BitVec 3
  | .vddc => 2
  | .vddio => 3
  | .vdrv => 4

def setSup (x : Supply) (b : Bool) (s : State) : State :=
  match x with
  | .vddc => { s with sup := { s.sup with vddc := b } }
  | .vddio => { s with sup := { s.sup with vddio := b } }
  | .vdrv => { s with sup := { s.sup with vdrv := b } }

def supOk (s : State) : Supply → Bool
  | .vddc => s.sup.vddc
  | .vddio => s.sup.vddio
  | .vdrv => s.sup.vdrv

/-- A supply leaves its limits: the tests stop without a result, and the source, the safe state and last rites follow (16 R420, 17 R429). During rites nothing begins anew: a second trigger is ignored, and a supply that fails in rites which RST_N began raises its source alone (15 R401, log 97). -/
def execSupFail (sup : Supply) (env : RitesEnv) (s : State) : Host.Outcome State Fault Refusal :=
  let was := supOk s sup
  let s := setSup sup false s
  done (if s.dev.phase == .reset || lightsOut s then s
    else if s.sup.ritesWait.isSome then (if was && s.sup.ritesWait == some 1 then raise [ev 116] s else s)
    else lastRites (supCause sup) env (raise [ev 116] (ritesAbandon s)))

/-- Power-on reset: the core rail is gone, the TAP selects BYPASS, and a program under way leaves its page corrupted (15 R381, R392, R401, 09 R269). -/
def execPowerOnReset (s : State) : Host.Outcome State Fault Refusal :=
  done { toReset (interrupted s) with tap := State.reset.tap }

end Sys2Proof.Machine
end

