-- ==== Sys2Proof/Machine/SelfTest.lean ====
section
/-! DEFINITION. The built-in self-test (16). -/

namespace Sys2Proof.Machine

/-! ### The tests (16 R405, R411, R416) -/

/-- Duration in microseconds; of one slice for TLOGIC. -/
def testUs (test : Nat) : Nat :=
  if test < 24 then 2500 else if test < 28 then 1000 else if test = 28 then 6000 else if test = 29 then 2000
  else if test = 30 then 4000 else 12000

/-- Extra power in mW. -/
def testPower (test : Nat) : Nat :=
  if test < 12 then 55 else if test < 24 then 65 else if test < 28 then 20 else if test = 28 then 15 else if test = 29 then 35
  else if test = 30 then 30 else 20

/-- Interval of an in-service test in microseconds; none for a test that does not run in service. -/
def testInterval (test : Nat) : Option Nat :=
  if test < 24 then some 600000000 else if test < 28 then some 1000000 else if test = 28 then some 10000000 else none

/-- Converter whose idle slots a test uses. -/
def testConverter (test : Nat) : Option Nat :=
  if test < 12 then none else if test < 18 then some 0 else if test < 24 then some 1
  else if test < 28 then some (test - 24) else if test = 28 then some 2 else none

/-- Order of the start-up set in each lane. -/
def setOrder : Lane → List Nat
  | .a => List.range 12 ++ [24, 25, 26, 27, 28]
  | .b => [18, 19, 20, 21, 22, 23, 12, 13, 14, 15, 16, 17]
  | .d => [29, 30, 31]

def sliceOrder : List Nat := [2, 3, 4, 5, 0, 1, 6, 7, 8, 9, 10, 11]

def setLane (test : Nat) : Lane := if 29 ≤ test then .d else if 12 ≤ test && test < 24 then .b else .a

def runningTests (b : Bist) : List Running := [Lane.a, .b, .d].filterMap b.lane

def extraPower (b : Bist) : Nat := ((runningTests b).map fun r => testPower r.test).foldl (· + ·) 0

/-- A channel has been off for 1 ms, and no other test holds it (16 R409, R414). -/
def channelFree (s : State) (n : Nat) : Bool :=
  !underTest s n && match s.bist.offSince.getD n none with
    | some t => s.since t 1000
    | none => false

/-- The first slice of TLOGIC still to run whose channel is free. -/
def nextSlice (s : State) : Option Nat :=
  sliceOrder.find? fun n => !s.bist.slices.getLsbD n && channelFree s n

/-- No test starts in the safe state, a freeze or last rites (16 R414). -/
def testsAllowed (s : State) : Bool :=
  s.dev.struct && s.coreRuns && !s.flt.safe && !s.tbase.frozen && s.sup.ritesWait.isNone

/-- A KEY or the check of an aperture page asks for the engines (16 R417). -/
def enginesAsked (s : State) : Bool :=
  s.trust.apState == 1 || [Port.h0, .h1].any fun h => ((s.ses.get h).xch.bind Exchange.cert).isSome

/-- A test's unit and the budget are free (16 R409, R410, R416, R417, R419). -/
def testReady (s : State) (test : Nat) : Bool :=
  testsAllowed s && (runningTests s.bist).all (fun r => r.test ≠ test && ((testConverter test).isNone || testConverter r.test ≠ testConverter test)) &&
    extraPower s.bist + testPower test ≤ 180 &&
    (if test < 12 then channelFree s test else if test < 24 then channelFree s (test - 12) else if test = 29 then (nextSlice s).isSome
      else if test = 30 then s.bist.again ≤ s.now && !enginesAsked s
      else if test = 31 then s.bist.againMarch ≤ s.now && s.trust.apState ≠ 1 && s.meas.snaps.h0.isNone && s.meas.snaps.h1.isNone
      else true)

/-- A free lane for a command or in-service test. -/
def freeLane (b : Bist) (test : Nat) : Option Lane :=
  if 29 ≤ test then (if b.laneD.isNone then some .d else none)
  else if b.laneA.isNone then some .a else if b.laneB.isNone then some .b else none

/-! ### Starting (16 R411, R414, R419) -/

/-- A test of the set starts when it is the first of its lane that can. -/
def setStarts (s : State) (test : Nat) : Bool :=
  s.bist.setPhase == .running && (s.bist.lane (setLane test)).isNone &&
    ((setOrder (setLane test)).find? fun t => s.bist.setLeft.contains t && testReady s t) == some test

/-- A command test starts when the set is not running and it is the first of the queue that can. -/
def commandStarts (s : State) (test : Nat) : Bool :=
  s.bist.setPhase ≠ .running && (freeLane s.bist test).isSome &&
    (s.bist.queue.find? fun t => testReady s t && (freeLane s.bist t).isSome) == some test

/-- An in-service test is due. -/
def testDue (s : State) (test : Nat) : Bool :=
  match testInterval test, s.bist.when_.getD test none with
  | some i, some t => s.since t i
  | some _, none => true
  | none, _ => false

/-- An in-service test starts after the set has ended, behind the queue, in ascending order. -/
def serviceStarts (s : State) (test : Nat) : Bool :=
  (s.bist.setPhase == .passed || s.bist.setPhase == .failed) &&
    !(s.bist.queue.any fun t => testReady s t && (freeLane s.bist t).isSome) && (freeLane s.bist test).isSome &&
    ((List.range 29).find? fun t => testDue s t && testReady s t && (freeLane s.bist t).isSome) == some test

/-- MARCH overwrites the aperture buffer: a verified page stands in it no longer; a refused one stays refused (09 R268, 16 R410, log 98). -/
def overwriteAperture (t : Trust) : Trust := if t.apState = 2 then { t with apState := 0, apWords := [] } else t

/-- A test starts in a lane; one that a command queued leaves the queue. -/
def startTest (l : Lane) (origin : BitVec 2) (test : Nat) (s : State) : State :=
  let slice := if test = 29 then nextSlice s else s.bist.slice
  { s with bist := { s.bist.setLane l (some ⟨test, origin, s.now⟩) with
                       slice := slice, queue := if origin = 2 then s.bist.queue.filter (· ≠ test) else s.bist.queue,
                       yieldCrypto := s.bist.yieldCrypto && test ≠ 30, yieldMarch := s.bist.yieldMarch && test ≠ 31 },
           trust := if test = 31 then overwriteAperture s.trust else s.trust }

/-- A request takes the digital units from CRYPTO, from MARCH or from both; one that ends later holds the rerun back until 10 ms after its end (16 R417, R419). -/
def takeUnits (crypto march later : Bool) (s : State) : State :=
  let runs (k : Nat) : Bool := (runningTests s.bist).any fun r => r.test == k
  let s' := bistPreempt (fun r => (crypto && r.test == 30) || (march && r.test == 31)) s
  { s' with bist := { s'.bist with yieldCrypto := s'.bist.yieldCrypto || (later && crypto && runs 30),
                                   yieldMarch := s'.bist.yieldMarch || (later && march && runs 31) } }

/-- A request that took units has been served: CRYPTO waits for the last one that asks for the engines, MARCH for that of its own, `march` (16 R419). -/
def unitsServed (march : Bool) (s : State) : State :=
  let b := s.bist
  let b := if b.yieldCrypto && !enginesAsked s then { b with again := s.now + 10000, yieldCrypto := false } else b
  { s with bist := if b.yieldMarch && march then { b with againMarch := s.now + 10000, yieldMarch := false } else b }

def execBistTestStart (test : Fin 32) (s : State) : Host.Outcome State Fault Refusal :=
  done <|
    if setStarts s test then startTest (setLane test) 0 test s
    else if commandStarts s test then startTest ((freeLane s.bist test).getD .a) 2 test s
    else if serviceStarts s test then startTest ((freeLane s.bist test).getD .a) 1 test s
    else s

/-! ### Results (16 R407, R408, R412) -/

/-- The lane in which a test runs. -/
def laneRunning (b : Bist) (test : Nat) : Option (Lane × Running) :=
  [Lane.a, .b, .d].findSome? fun l => match b.lane l with
    | some r => if r.test = test then some (l, r) else none
    | none => none

/-- The set ends when each of its tests has given PASS or FAIL in this run. -/
def setEnd (s : State) : State :=
  if s.bist.setPhase == .running && s.bist.setLeft.isEmpty then
    { s with bist := { s.bist with setPhase := if s.bist.setFail then .failed else .passed },
             dev := { s.dev with stok := s.dev.stok || !s.bist.setFail } }
  else s

/-- A complete result. -/
def testResult (r : Running) (fail : Option (Nat × BitVec 2)) (s : State) : State :=
  let b := s.bist
  let res : TestRes := match fail with
    | none => ⟨1, r.origin, 0, 0⟩
    | some (item, detail) => ⟨2, r.origin, BitVec.ofNat 6 item, detail⟩
  let bad := fail.isSome
  let s := { s with bist :=
    { b with res := b.res.set r.test (some res), when_ := b.when_.set r.test (some s.now), fails := putBit b.fails r.test bad,
             newfail := b.newfail || bad, count := if bad then sat 127 (b.count + 1) else b.count,
             setLeft := if r.origin == 0 then b.setLeft.filter (· ≠ r.test) else b.setLeft,
             setFail := b.setFail || (r.origin == 0 && bad) } }
  setEnd (if bad then raise [ev 119] s else s)

/-- Microseconds that a running test has taken; TLOGIC counts its finished slices (16 R407). -/
def takenUs (s : State) (r : Running) : Nat := (if r.test = 29 then s.bist.sliceUs else 0) + (s.now - r.at_)

/-- Twice a test's duration, which for TLOGIC is that of its twelve slices (16 R405, R407). -/
def limitUs (test : Nat) : Nat := if test = 29 then 48000 else 2 * testUs test

/-- The slice belongs to a command's run that a start-up set has overtaken: it is none of the set's slices, and the command's run begins anew after the set (16 R407, R421, log 113). -/
def overtaken (r : Running) (s : State) : Bool := r.origin ≠ 0 && s.bist.setPhase == .running

/-- A slice of TLOGIC ends; the test's result comes with its twelfth slice. -/
def sliceDone (l : Lane) (r : Running) (bad : Bool) (s : State) : State :=
  match s.bist.slice with
  | none => s
  | some n =>
    let b := s.bist.setLane l none
    if overtaken r s then { s with bist := { b with slice := none } } else
    let m := setBit b.slices n
    let first := if bad then some (b.sliceBad.getD n) else b.sliceBad
    if m == allChans then
      testResult r (first.map fun i => (i, 2)) { s with bist := { b with slices := 0, slice := none, sliceBad := none, sliceUs := 0 } }
    else { s with bist := { b with slices := m, slice := none, sliceBad := first, sliceUs := takenUs s r } }

/-- A command TLOGIC with slices left stays first in the queue. -/
def keepCommand (r : Running) (s : State) : State :=
  if r.test = 29 && r.origin == 2 && (s.bist.slices ≠ 0 || overtaken r s) then { s with bist := { s.bist with queue := 29 :: s.bist.queue } } else s

/-- `v` lies within `tol` of `x`. -/
def within (v x tol : Int) : Bool := decide ((v - x).natAbs ≤ tol.toNat)

/-- Step i of COMPn lies within its limits: trip points in mA, and of the gate supply in mV; a retired segment is skipped (16 R406). -/
def compStep (c : Chan) (i : Nat) (v : Int) : Bool :=
  if i < 42 then c.retired.getLsbD i || within v 12000 1200
  else if i = 42 then within v (1000 * fld c.scth 7 0) (50 * fld c.scth 7 0 + 1000)
  else if i = 43 then within v 260000 20800
  else if i = 44 then within (100 * v) (25000 * c.ilimEff) (750 * c.ilimEff + 50000)
  else if i = 45 then within v 5200 100 else within v 4500 100

/-- The comparator's latch sets and then releases; a retired segment is skipped. -/
def compLatch (c : Chan) (i : Nat) (latched : Bool) : Bool := latched || (decide (i < 42) && c.retired.getLsbD i)

/-- Step i of an analogue test lies within its limits (16 R406). -/
def stepIn (s : State) (test i : Nat) (x : Int × Bool) : Bool :=
  if test < 12 then compStep (s.ch test) i x.1 && compLatch (s.ch test) i x.2
  else if test < 24 then
    match i with
    | 0 => within x.1 0 100
    | 1 => within x.1 5000 150
    | 2 => within x.1 50000 600
    | 3 => within x.1 (-5000) 150
    | _ => within x.1 50000 2500
  else if test < 28 then within x.1 (if i = 0 then 100000 else 900000) 2000
  else within x.1 0 128

/-- Number of steps of an analogue test. -/
def stepCount (test : Nat) : Nat := if test < 12 then 47 else if test < 24 then 5 else if test < 28 then 2 else 3

/-- The first step outside its limits. -/
def firstBad (s : State) (test : Nat) (vs : List (Int × Bool)) : Option Nat :=
  (List.range vs.length).find? fun i => !stepIn s test i (vs.getD i (0, false))

/-- A test's full count has been reached with what it found (16 R407). -/
def testEnds (l : Lane) (r : Running) (found : TestEnd) (s : State) : State :=
  match found with
  | .signature ok =>
    if r.test = 29 then keepCommand r (sliceDone l r (!ok) s)
    else if 29 < r.test then
      testResult r (if ok then none else some (0, 2)) { s with bist := s.bist.setLane l none }
    else s
  | .steps vs =>
    if r.test < 29 && vs.length = stepCount r.test then
      testResult r ((firstBad s r.test vs).map fun i => (i, 1)) { s with bist := s.bist.setLane l none }
    else s

/-- BIST_TEST_DONE, no sooner than the test's duration; after twice its duration it has no result but INCOMPLETE (16 R407). -/
def execBistTestDone (test : Fin 32) (r : TestEnd) (s : State) : Host.Outcome State Fault Refusal :=
  done <| match laneRunning s.bist test with
    | none => s
    | some (l, run) =>
      if !s.since run.at_ (testUs test) || !s.coreRuns then s
      else if limitUs test < takenUs s run then bistIncomplete l 0 s
      else testEnds l run r s

def execBistTestTimeout (test : Fin 32) (s : State) : Host.Outcome State Fault Refusal :=
  done <| match laneRunning s.bist test with
    | none => s
    | some (l, run) => if (limitUs test ≤ takenUs s run || s.clk.timeStop) && s.coreRuns then bistIncomplete l 0 s else s

/-! ### Commands (16 R421) -/

/-- A start-up set starts: every test in it waits for a result of this run. -/
def startSet (s : State) : State :=
  let b := { s.bist with slices := 0, sliceBad := none, sliceUs := 0 }
  { s with bist := { b with setPhase := .running, setLeft := List.range 32, setFail := false } }

/-- A queued test that ABORT takes out of the queue gives INCOMPLETE as command tests do (16 R421). -/
def abortQueued (test : Nat) (s : State) : State :=
  { s with bist := { s.bist with res := s.bist.res.set test (some ⟨3, 2, 0, 2⟩) } }

/-- ABORT: every command and in-service test ends or leaves the queue; the start-up set goes on. -/
def abortTests (s : State) : State :=
  let s := forEach s.bist.queue abortQueued s
  let b := { s.bist with queue := [] }
  let b := if b.setPhase == .running then b else { b with slices := 0, sliceBad := none, sliceUs := 0 }
  forEach [.a, .b, .d] (fun l s => match s.bist.lane l with
    | some r => if r.origin == 0 then s else bistIncomplete l 2 s
    | none => s) { s with bist := b }

def queueTest (test : Nat) (s : State) : State :=
  if s.bist.queue.contains test || (laneRunning s.bist test).isSome then s
  else { s with bist := { s.bist with queue := s.bist.queue ++ [test] } }

/-- A write of BIST_CMD. -/
def writeBistCmd (d : D28) (s : State) : BitVec 8 × State :=
  if bitAt d 7 && !(s.dev.phase == .arming && s.bist.setPhase ≠ .running) then (sDenied, s)
  else
    let s := if bitAt d 7 then startSet s else s
    (sOk, if bitAt d 6 then abortTests s else if bitAt d 5 then queueTest (fld d 4 0) s else s)

end Sys2Proof.Machine
end

