-- ==== Sys2Proof/Machine/Startup.lean ====
section
/-! DEFINITION. Power-up, clocks and their monitors, flash detection, the load of an image and its application, and first permit (08, 10, 13, 15). -/

namespace Sys2Proof.Machine

def onDev (f : Dev → Dev) (s : State) : State := { s with dev := f s.dev }

def onClk (f : Clk → Clk) (s : State) : State := { s with clk := f s.clk }

def onPins (f : Pins → Pins) (s : State) : State := { s with pins := f s.pins }

/-! ### Reset release and PLL lock (15 R380, R383, 13 R342, R343, R354) -/

/-- Reset is released: the supplies and RST_N are in range, and the start charge begins. -/
def execResetRelease (s : State) : Host.Outcome State Fault Refusal :=
  done <|
    if s.dev.phase ≠ .reset then s
    else
      { s with dev := { s.dev with phase := .clocks }, pins := { s.pins with rstN := true },
               sup := { s.sup with vddc := true, vddio := true, vdrv := true }, hold := { s.hold with state := .charging } }

/-- The start key pair: a private value from 1 to n − 1 and its public point (09 R260). -/
def startKey (x : BitVec 384) : Option (Nat × (Nat × Nat)) :=
  let d := x.toNat % (p384n - 1) + 1
  (ecMul d p384G).map fun q => (d, q)

/-- A generation of the start key; a generator whose health tests fail leaves none, and the time of the attempt is kept. -/
def generateKey (rbgOk : Bool) (s : State) : State :=
  let s := { s with trust := { s.trust with rbgAt := s.now } }
  if rbgOk then
    let (x, s) := s.draw
    { s with trust := { s.trust with key := startKey x } }
  else s

/-- An interrupted anti-rollback advance is completed from the shadow (09 R258). -/
def completeAdvance (s : State) : State :=
  match newestShadow s.store with
  | some c => if s.otp.arbfuse < c.val then { s with otp := { s.otp with arbfuse := c.val } } else s
  | none => s

/-- The OTP as it stands once an interrupted advance has been completed is what this start goes by (09 R255, 15 R383). -/
def readOtp (s : State) : State := { s with otpRead := s.otp }

/-- The PLL locks: CORE and TIME run from here, the microsecond clock starts from zero, and the OTP is read. A lock found again in a later phase shows in PLLLOCK. -/
def execPllLock (rbgOk : Bool) (s : State) : Host.Outcome State Fault Refusal :=
  done <|
    if s.dev.phase == .reset then s
    else if s.dev.phase == .clocks then
      generateKey rbgOk (readOtp (completeAdvance (onClk (fun c => { c with locked := true, armed := true })
        { s with now := 0, dev := { s.dev with phase := .otp } })))
    else onClk (fun c => { c with locked := true }) s

/-- A retry comes 100 ms after the attempt before it (09 R260). -/
def execRbgRetry (rbgOk : Bool) (s : State) : Host.Outcome State Fault Refusal :=
  done (if s.trust.key.isNone && s.coreRuns && s.since s.trust.rbgAt 100000 then generateKey rbgOk s else s)

/-- A CLK_STAT flag sets; `i` counts from CFREQ. -/
def clkFlag (i : Nat) (s : State) : State := onClk (fun c => { c with flags := setBit c.flags i }) s

def execPllLockLoss (s : State) : Host.Outcome State Fault Refusal :=
  done (if s.clk.armed && s.clk.locked then
      raise [ev 112, ev 113] (clkFlag 8 (onClk (fun c => { c with locked := false }) s))
    else s)

/-- No lock within 2 ms of reset release, which GUARD times (13 R343). -/
def execPllLockTimeout (s : State) : Host.Outcome State Fault Refusal :=
  done (if s.dev.phase == .clocks && guardSince s 0 2000 && !s.clk.guardStop then raise [ev 112] (clkFlag 8 s) else s)

/-- GUARD arms its monitor of SENSE 100 µs after reset release, the last rites' disarming apart (13 R354, 15 R399). -/
def execSenseMonitorArm (s : State) : Host.Outcome State Fault Refusal :=
  done (if s.dev.phase ≠ .reset && s.sup.ritesWait.isNone && guardSince s 0 100 && !s.clk.guardStop then onClk (fun c => { c with senseArmed := true }) s else s)

/-! ### Clock monitors (13 R351 to R355) -/

/-- The monitor measures: it is armed, and the domain that counts runs. -/
def monitoring (s : State) : Monitor → Bool
  | .guardCore | .guardTime => s.clk.armed && !s.clk.guardStop
  | .guardSense => s.clk.senseArmed && !s.clk.guardStop
  | .coreSense | .coreGuard => s.clk.armed && s.coreRuns

/-- Pass range of a count. -/
def passRange : Monitor → Nat × Nat
  | .guardCore | .guardTime => (608, 672)
  | .guardSense => (487, 537)
  | .coreSense => (779, 860)
  | .coreGuard => (2489, 2631)

/-- Flag and source of a frequency fault. -/
def freqFault : Monitor → Nat × Nat
  | .guardCore => (0, 112)
  | .guardTime => (2, 113)
  | .guardSense | .coreSense => (4, 114)
  | .coreGuard => (6, 111)

/-- The count field takes a complete window. -/
def setCount (m : Monitor) (count : Nat) (c : Clk) : Clk :=
  match m with
  | .guardCore => { c with coreCnt := sat 1023 count }
  | .guardTime => { c with timeCnt := sat 1023 count }
  | .guardSense => { c with senseCntG := sat 1023 count }
  | .coreSense => { c with senseCntC := sat 1023 count }
  | .coreGuard => { c with guardCnt := sat 4095 count }

/-- The count passes. -/
def countPasses (m : Monitor) (count : Nat) : Bool := (passRange m).1 ≤ count && count ≤ (passRange m).2

def execClockMonitorWindow (m : Monitor) (count : Nat) (s : State) : Host.Outcome State Fault Refusal :=
  done <|
    if !monitoring s m then s
    else
      let s := onClk (setCount m count) s
      if countPasses m count then s else raise [ev (freqFault m).2] (clkFlag (freqFault m).1 s)

/-- Flag and source of a stopped clock. -/
def stopFault : Domain → Nat × Nat
  | .core => (1, 112)
  | .time => (3, 113)
  | .sense => (5, 114)
  | .guard => (7, 111)

/-- The monitor that finds a stop is armed, and its domain runs. -/
def watching (s : State) : Domain → Bool
  | .core | .time => s.clk.armed && !s.clk.guardStop
  | .sense => s.clk.senseArmed && !s.clk.guardStop
  | .guard => s.clk.armed && s.coreRuns

def stopped (c : Clk) : Domain → Bool
  | .core => c.coreStop
  | .time => c.timeStop
  | .sense => c.senseStop
  | .guard => c.guardStop

/-- A domain stops at device time `now`: what SENSE and GUARD count stands from there (13 R344). -/
def setStopped (now : Nat) (d : Domain) (c : Clk) : Clk :=
  match d with
  | .core => { c with coreStop := true }
  | .time => { c with timeStop := true }
  | .sense => { c with senseStop := true, senseAt := now }
  | .guard => { c with guardStop := true, guardAt := now }

/-- GUARD's last words leave PRESENT in CORE's mirror (14 R356, log 172). -/
def holdPresent (s : State) : State :=
  if s.clk.guardStop then s else s.onFlt fun f => { f with presHeld := maskOf 120 (present s) }

/-- The stop is noted before its event is recorded: GUARD's, whose event the shadow collector takes (07 R198), and TIME's when it is found late. -/
def stopFirst (d : Domain) (late : Bool) : Bool := d == .guard || (late && d == .time)

/-- A monitor finds a stopped clock. `late`: the strobe of TIME's stop was over 2 µs old, so that its event takes TSUSP (07 R189, 13 R353, log 114). -/
def execClockStopDetect (d : Domain) (s : State) (late : Bool := false) : Host.Outcome State Fault Refusal :=
  done (if watching s d && !stopped s.clk d then
      let s := if d == .guard then holdPresent s else s
      let s := if stopFirst d late then onClk (setStopped s.now d) s else s
      onClk (setStopped s.now d) (raise [ev (stopFault d).2] (clkFlag (stopFault d).1 s))
    else s)

/-! ### Heartbeat and keep-alives (13 R345, R445) -/

/-- The heartbeat is lost, within a loss once more: its 10 µs begin anew. -/
def execHeartbeatLoss (s : State) : Host.Outcome State Fault Refusal :=
  done (if s.dev.phase == .reset then s else onPins (fun p => { p with heart := true, heartAt := guardNow s }) s)

/-- The gates of a unit that has stayed on through a loss of the heartbeat rise again, unless a dead time of it has still to end (13 R345). -/
def heartUnit (u : Nat) (s : State) : State :=
  if (legs s u).all (fun n => (s.ch n).hs == 0) && (s.ch u).dt ≠ .toHigh then resume true u s else s

/-- The heartbeat has run for 10 µs, and GUARD releases the gates. -/
def execHeartbeatRestore (s : State) : Host.Outcome State Fault Refusal :=
  done (if s.pins.heart && !s.clk.guardStop && guardSince s s.pins.heartAt 10 then
      forEach (leaders s) heartUnit (onPins (fun p => { p with heart := false }) s)
    else s)

/-- A keep-alive shows no edge for 2 µs; 10 µs of it bring its pad or enable back. -/
def loseKeepAlive (k : KeepAlive) (p : Pins) : Pins :=
  match k with
  | .permit0 => { p with lost0 := true, back0 := 0 }
  | .permit1 => { p with lost1 := true, back1 := 0 }
  | .healthGuard => { p with lostHG := true, backHG := 0 }
  | .healthCore => { p with lostHC := true, backHC := 0 }

/-- A keep-alive is lost, and no more than `k` ticks of the microsecond clock have come since. -/
def stands (k : Nat) (lost : Bool) (back : Nat) : Bool := lost && back ≤ k

/-- Both domains stand still: GUARD and CORE have stopped together, nothing is recorded, and neither port answers (13 R445, log 26). Their last edges may differ by as much as goes by before the other one's monitor finds a stop, 1.75 µs after CORE's and 215 ns after GUARD's (R353), and a loss is found at a keep-alive's own edges, 0.8 µs apart: three ticks after CORE's loss and two after GUARD's. -/
def lostTogether (p : Pins) (c : Clk) : Bool :=
  (stands 2 p.lost0 p.back0 || stands 2 p.lostHG p.backHG || c.guardStop) &&
    (stands 3 p.lost1 p.back1 || stands 3 p.lostHC p.backHC || c.coreStop)

/-- Every keep-alive and the heartbeat are lost with the two domains that give them (13 R345, R445). -/
def losePins (now : Nat) (p : Pins) : Pins :=
  { p with
    lost0 := true, lost1 := true, lostHG := true, lostHC := true, back0 := 0, back1 := 0, backHG := 0, backHC := 0,
    heart := true, heartAt := now }

/-- GUARD and CORE have stopped together: the permits and HEALTH fall and the gates are held off (13 R445). -/
def stopTogether (s : State) : State :=
  { s with
    pins := losePins (guardNow s) s.pins
    clk := { s.clk with guardStop := true, coreStop := true, guardAt := if s.clk.guardStop then s.clk.guardAt else s.now } }

def execKeepaliveLoss (k : KeepAlive) (s : State) : Host.Outcome State Fault Refusal :=
  done (if s.dev.phase == .reset then s
    else
      let s := onPins (loseKeepAlive k) s
      if lostTogether s.pins s.clk then stopTogether s else s)

/-! ### Flash detection (10 R291 to R296) -/

/-- The 8D-8D-8D Read SFDP, which follows when no signature has read back in 1S-1S-1S, finds no first F_DQS edge and fails (10 R291, R293). -/
def sfdpTimeout (f : FlashProbe) : Bool := !f.sfdp1S && f.dqsTimeout

/-- The signature reads back in 8D-8D-8D. -/
def octalFound (f : FlashProbe) : Bool := f.sfdp8D && !f.dqsTimeout

/-- PORT_FSTAT.MODE and DUMMY. -/
def detect (f : FlashProbe) : BitVec 2 × Nat :=
  if f.sfdp1S then (if f.quadDeclared && f.quadMatch then (2, f.dummyQuad) else (1, 0))
  else if octalFound f then (3, f.dummyOctal.getD 20)
  else (0, 0)

/-- Read SFDP, in 1S-1S-1S or in 8D-8D-8D: at most 256 bytes in all (10 R292, R293). -/
def sfdpRead (octal : Bool) : FlashRead :=
  if octal then ⟨0x5A, some 0xA5, 32, 8, 8, 8, true, 0, 20, 25000, some 256⟩ else ⟨0x5A, none, 24, 1, 1, 1, false, 0, 8, 12500, some 256⟩

/-- The Read SFDP command that finds the signature (10 R291). -/
def sfdpFound (f : FlashProbe) : Option FlashRead :=
  if f.sfdp1S then some (sfdpRead false) else if octalFound f then some (sfdpRead true) else none

/-- The command that reads the array in the mode detected (10 R292). -/
def arrayRead (f : FlashProbe) : Option FlashRead :=
  let (mode, dummy) := detect f
  if mode = 1 then some ⟨0x03, none, 24, 1, 1, 1, false, 0, 0, 50000, none⟩
  else if mode = 2 then some ⟨f.codeQuad, none, 24, 1, 4, 4, false, f.modeQuad, dummy, 100000, none⟩
  else if mode = 3 then some ⟨0xEE, some 0x11, 32, 8, 8, 8, true, 0, dummy, 100000, none⟩
  else none

/-- Bytes that a Read SFDP has fetched: all that the header, the parameter headers and the two tables take, within the command's bound (10 R293). -/
def sfdpFetched (f : FlashProbe) : Nat :=
  match sfdpFound f with
  | some r => min f.sfdpBytes (r.bound.getD f.sfdpBytes)
  | none => 0

/-- Last available aperture page (10 R296). -/
def lastPage (densLog : Nat) : Nat := min 1819 (2 ^ densLog / 9216 - 1)

/-- What detection leaves in the flash port. -/
def detected (f : FlashProbe) (fl : Flash) : Flash :=
  let (mode, dummy) := detect f
  let fl := { fl with mode := mode, read := arrayRead f, sfdp := sfdpFound f, sfdpBytes := sfdpFetched f, dqsto := fl.dqsto || sfdpTimeout f }
  if mode = 0 then fl else { fl with dummy := dummy, densLog := f.densLog, lastPg := lastPage f.densLog }

/-- Detection ends, and the load of reel A begins (15 R383). -/
def execFlashDetect (f : FlashProbe) (s : State) : Host.Outcome State Fault Refusal :=
  done <|
    if s.dev.phase ≠ .flash || !s.coreRuns then s
    else { s with dev := { s.dev with phase := .load, reel := 1 }, flash := detected f s.flash }

/-! ### Structure application (08 R251, R252, 02 R44, 05 R127, 07 R185) -/

/-- Channel n takes the image's words, and its retired segments from the newest map. -/
def applyChan (p : Plan) (now : Nat) (map : Option (List Mask42)) (n : Nat) (c : Chan) : Chan :=
  let w (k : Nat) : D28 := dw p.prot (7 * n + k)
  { c with topo := dw p.topo n, ilim := w 0, ilimSh := w 0, scth := w 1, i2t := w 2, i2tUse := w 2, pcfg := w 3, rpolA := w 4, rpolB := w 5,
           rpolC := w 6, limp := dw p.limp (1 + n), e := 0, eAt := now,
           retired := (map.map fun m => m.getD n 0).getD 0 }

def applyTimer (p : Plan) (t : Nat) (m : Timer) : Timer :=
  let w (k : Nat) : D28 := dw p.route (5 * t + k)
  { m with cfg := w 0, per := w 1, perSh := w 1, duty := w 2, dutySh := w 2, phase := w 3, phaseSh := w 3, edge := w 4 }

/-- The kinds of 05 R127 whose values are unsigned: the gains and SEC_RON25. -/
def calUnsigned (kind : Nat) : Bool := [0, 2, 5, 7, 9].contains kind

/-- A calibration word at store word `addr`; one whose check fails is replaced by its nominal value (05 R127, 15 R393). -/
def calWordInUse (kind addr : Nat) (w : W36) (nominal : Cal) : Cal :=
  let v := fld (wData w) 15 0
  if isData addr w then ⟨if calUnsigned kind then v else (BitVec.ofNat 16 v).toInt, true⟩ else { nominal with valid := false }

/-- The calibration words of each KIND from store word `base` on. -/
def loadCal (kind base : Nat) : List (List W36) → List (List Cal) → List (List Cal)
  | ws :: r, k :: ks => (k.mapIdx fun i d => calWordInUse kind (base + i) (ws.getD i 0) d) :: loadCal (kind + 1) (base + k.length) r ks
  | _, _ => []

/-- Every register that the image sets switches at one instant. -/
def applyPlan (p : Plan) (ws : List D28) (s : State) : State :=
  let nsec := fld (dw ws 1) 11 6
  { s with
    dev := { s.dev with
      phase := .apply, struct := true, image := dw ws 3, imglen := dw ws 1, opts := BitVec.ofNat 3 p.opts.toNat,
      sect := maskOf 11 fun i => (directory ws nsec).any fun e => e.typ == i + 1,
      overrides := p.classes.map fun d => (BitVec.ofNat 12 (fld d 27 16), bitAt d 15), ladders := p.ladders }
    chans := s.chans.mapIdx (applyChan p s.now ((newestMap s.store).map Copy.val))
    timers := s.timers.mapIdx (applyTimer p)
    tbase := { s.tbase with groups := (p.route.drop 103).take 4, routes := (p.route.drop 100).take 3, syncOut := dw p.route 107,
                            msAt := s.now / 1000 * 1000 }
    limp := { s.limp with tripCfg := dw p.prot 84, permKeep := bitAt (dw p.limp 0) 0 }
    flt := { s.flt with rx := p.react.take 60, cqgl := (List.range 6).map fun k => dw p.react (60 + 2 * k),
                        cqch := (List.range 6).map fun k => dw p.react (61 + 2 * k),
                        cfg := d28 (at_ 27 (b2n (bitAt p.opts 1)) + fld (dw p.react 72) 9 0), safefw := dw p.react 73 }
    meas := { s.meas with fresh := p.meas.take 8, trig := p.meas.drop 8, since := s.now,
                          cal := loadCal 0 0 s.store.cal nominalCal }
    auth := { s.auth with cfg := dw p.session 4 }
    ports := ⟨{ s.ports.h0 with cfg := dw p.session 0, dly := dw p.session 1 },
              { s.ports.h1 with cfg := dw p.session 2, dly := dw p.session 3 }⟩
    trust := { s.trust with digests := p.digests } }

/-- Sources raised in the first GUARD cycle after application (07 R185). -/
def startEvents (s : State) : List Ev :=
  ((List.range 12).filter fun n => 4 < popcount (s.ch n).retired).map (fun n => evCh n 5 0) ++
    (if s.meas.cal.any fun k => k.any fun c => !c.valid then [ev 110] else [])

/-- Structure application: the self-test begins, and limp-home lines already asserted act from here (06 R180). In a safe state entered before it, the stages take the FLT_SAFEFW that the image brings (07 R195). -/
def applyStructure (p : Plan) (ws : List D28) (s : State) : State :=
  let s := startSet (applyPlan p ws s)
  let s := if s.flt.safe then forEach (leaders s) safeUnit s else s
  let s := if s.limp.asserted then enterLimp s else s
  raise (startEvents s) s

/-! ### The load (08 R245 to R250, 14 R377, 15 R397) -/

/-- DEV_LOADA or DEV_LOADB takes a reel's outcome. -/
def recordLoad (reel : BitVec 2) (v : Verdict) (s : State) : State :=
  let w := d28 (at_ 16 v.code + v.pos)
  onDev (fun d => if reel = 1 then { d with loadA := w } else { d with loadB := w }) s

/-- The first F_DQS edge of a read in 8D-8D-8D, the one mode that has F_DQS, does not arrive (10 R293). -/
def dqsMissed (missed : Bool) (s : State) : Bool := missed && s.flash.mode == 3

/-- Such a read sets DQSTO. -/
def noteDqs (missed : Bool) (s : State) : State := { s with flash := { s.flash with dqsto := s.flash.dqsto || dqsMissed missed s } }

/-- A reel's reading in the mode detected: F_DQS is waited for in 8D-8D-8D alone (10 R293). -/
def readAs (r : ReelRead) (s : State) : ReelRead := { r with dqsTimeout := dqsMissed r.dqsTimeout s }

/-- The check of the reel being tried ends. -/
def reelDone (r : ReelRead) (s : State) : State :=
  let reel := s.dev.reel
  let s := if reel = 1 then scanStore s else s
  let s := noteDqs r.dqsTimeout s
  let v := checkReel s.otpRead (s.flash.mode ≠ 0) (if reel = 1 then 0 else 0x40000) s.flash.densLog (readAs r s)
  let s := recordLoad reel v s
  let s := { s with trust := { s.trust with owner := if v.plan.isSome then v.key else s.trust.owner.orElse fun _ => v.key } }
  match v.plan with
  | some p => applyStructure p (r.words.map wData) s
  | none => if reel = 1 then onDev (fun d => { d with reel := 2 }) s
    else onDev (fun d => { d with phase := .nostruct, reel := 0 }) s

def execReelLoadDone (r : ReelRead) (s : State) : Host.Outcome State Fault Refusal :=
  done (if s.dev.phase == .load && s.coreRuns && s.sup.ritesWait.isNone then startCounters (reelDone r s) else s)

/-! ### First permit (15 R384) -/

/-- The conditions of first permit, which CORE judges (13 R344). -/
def firstPermitOk (s : State) : Bool :=
  s.dev.phase == .arming && s.dev.struct && s.dev.stok && leaseOk s && !s.flt.safe && !s.clk.coreStop

def execFirstPermit (s : State) : Host.Outcome State Fault Refusal :=
  done (if firstPermitOk s then onDev (fun d => { d with fpermit := true, phase := .service }) s else s)

end Sys2Proof.Machine
end

