-- ==== Sys2Proof/Machine/Read.lean ====
section
/-! DEFINITION. Register reads: the word that each register of the index shows (14 R374), its class and reserved bits, freshness of sample words (05 R133), snapshots (05 R136) and the two-word latches (14 R364). -/

namespace Sys2Proof.Machine

/-- DATA fields joined: (lowest bit, value). -/
def pack28 (l : List (Nat × Nat)) : D28 := d28 ((l.map fun f => at_ f.1 f.2).foldl (· + ·) 0)

/-- The number whose bit i is `p i`, for i below w. -/
def bitsOf (w : Nat) (p : Nat → Bool) : Nat := (maskOf w p).toNat

/-! ### DEV (14 R375 to R379) -/

def phaseCode : Phase → Nat
  | .reset => 0
  | .clocks => 1
  | .otp => 2
  | .flash => 3
  | .load => 4
  | .apply => 5
  | .arming => 6
  | .service => 7
  | .nostruct => 8

def devStat (s : State) : D28 :=
  pack28 [(24, phaseCode s.dev.phase), (22, if s.dev.struct then s.dev.reel.toNat else 0), (21, b2n s.dev.struct),
    (20, b2n s.dev.fpermit), (19, b2n (s.clocked && !s.dev.struct)), (18, b2n s.pins.permit0), (17, b2n s.pins.permit1),
    (16, b2n s.limp.active), (15, b2n s.flt.safe), (14, b2n s.dev.stok), (13, b2n (leaseOk s))]

def devData (s : State) (o : Nat) : Option D28 :=
  match o with
  | 0 => some 0x1242100
  | 1 => some (devStat s)
  | 2 => some (pack28 [(16, s.dev.sect.toNat), (0, s.dev.opts.toNat)])
  | 3 => some s.dev.loadA
  | 4 => some s.dev.loadB
  | 5 => some s.dev.image
  | 6 => some s.dev.imglen
  | 7 => some s.dev.last.h0
  | 8 => some s.dev.last.h1
  | _ => none

/-! ### SES (11 R329 to R336) -/

/-- 0 NONE, 1 HELLO, 2 KEYING, 3 ESTABLISHED (11 R315). -/
def sesState (e : Ses) : Nat :=
  if e.established then 3 else match e.xch with
    | none => 0
    | some x => if x.cert.isSome then 2 else 1

/-- Session errors of the last 100 ms (11 R318). -/
def errWin (s : State) (e : Ses) : Nat := (e.errs.filter fun t => s.now ≤ t + 100000).length

def ctxBusy (c : Ctx) : Bool := c.state ≠ .free

def ctxArmed (c : Ctx) : Bool :=
  match c.state with
  | .armed _ _ _ => true
  | _ => false

def occupied (e : Ses) : Nat := (e.ctxs.filter ctxBusy).length

/-- SES_HhSTAT. -/
def sesStat (s : State) (h : Port) : D28 :=
  let e := s.ses.get h
  pack28 [(26, sesState e), (25, b2n (e.established && e.xch.isSome)), (24, b2n (s.auth.holder == some h)),
    (23, b2n e.leaseValid), (22, b2n (e.rxWarn || e.txWarn)), (17, occupied e), (14, sat 7 (errWin s e)), (6, sat 255 e.tearcnt)]

/-- SES_HhLEASE; a read falls after the renewal of its microsecond, so LEFT counts whole ms below the remainder (11 R329). With GUARD stopped LEFT stands (13 R344). -/
def sesLease (s : State) (h : Port) : D28 :=
  let e := s.ses.get h
  pack28 [(11, if e.leaseValid then (e.leaseAt + leaseUs s - guardNow s - 1) / 1000 else 0), (0, fld s.auth.cfg 27 17)]

/-- HOLDER code. -/
def holderCode : Option Port → Nat
  | none => 0
  | some .h0 => 1
  | some .h1 => 2

/-- ms left of the open offer or request, rounded up (12, handover trace). -/
def authLeft (s : State) : Nat :=
  match s.auth.offer.orElse fun _ => s.auth.request with
  | some t => (t + 100000 - s.now + 999) / 1000
  | none => 0

def sesAuth (s : State) : D28 :=
  pack28 [(24, holderCode s.auth.holder), (23, b2n s.auth.granted), (22, b2n s.auth.offer.isSome), (21, b2n s.auth.request.isSome),
    (19, s.auth.lastAct.toNat), (12, authLeft s), (0, sat 255 s.auth.moves)]

/-- The SES registers of a port. TXSEQ.NEXT is the session's own numbering, which an exchange before M4 has not begun (DESIGN CHOICE, log 168). -/
def sesPort (s : State) (h : Port) (k : Nat) : Option D28 :=
  let e := s.ses.get h
  match k with
  | 0 => some (sesStat s h)
  | 1 => some (sesLease s h)
  | 2 => some (d28 e.beat.toNat)
  | 3 => some (d28 e.rxseq)
  | 4 => some (d28 e.txseq)
  | 5 => some (d28 (bitsOf 24 fun i => ctxBusy (e.ctxs.getD i Ctx.reset)))
  | 6 => some (d28 (bitsOf 24 fun i => ctxArmed (e.ctxs.getD i Ctx.reset)))
  | 7 => some (pack28 [(8, bitsOf 6 fun i => (e.evs.getD i EvTag.reset).pend), (0, bitsOf 6 fun i => (e.evs.getD i EvTag.reset).out)])
  | 8 => some (pack28 [(20, sat 255 e.authfail), (12, sat 255 e.fmterr), (6, sat 63 e.oow), (0, sat 63 e.partialCnt)])
  | 9 => some (pack28 [(20, sat 255 e.ctxRefused), (12, sat 255 e.tagRefused), (6, sat 63 e.stalegen), (0, sat 63 e.dup)])
  | _ => none

def sesData (s : State) (o : Nat) : Option D28 :=
  if o < 16 then sesPort s .h0 o
  else if o < 32 then sesPort s .h1 (o - 16)
  else if o = 32 then some (sesAuth s)
  else if o = 33 then some s.auth.cfg
  else none

/-! ### FLT (07) -/

def fltStat (s : State) : D28 :=
  let f := s.flt
  pack28 [(27, b2n f.safe), (26, b2n f.health), (25, b2n f.inj), (24, b2n (!f.windows.isEmpty)), (17, f.fsrc), (9, sat 255 f.ovfcnt),
    (0, outCount f)]

def fltFirst (f : First) : D28 :=
  pack28 [(27, b2n f.valid), (26, b2n f.ovf), (25, b2n f.forced), (24, b2n f.tsusp), (22, f.cls.toNat), (19, f.cause.toNat),
    (16, f.react.toNat), (9, f.src)]

/-- A matrix entry as it reads: the CH field of a channel source shows the source's own channel (07 FLT_RX). -/
def shownEntry (src e : Nat) : Nat := if src < 96 then e / 64 * 64 + src / 8 * 4 + e % 4 else e

/-- FLT_RXm. -/
def fltRx (s : State) (m : Nat) : D28 :=
  pack28 [(14, shownEntry (2 * m + 1) (entryOf s (2 * m + 1))), (0, shownEntry (2 * m) (entryOf s (2 * m)))]

/-- 24 sources of a word. -/
def word24 (p : Nat → Bool) (w : Nat) : D28 := d28 (bitsOf 24 fun i => p (24 * w + i))

def fltData (s : State) (o : Nat) : Option D28 :=
  let f := s.flt
  if o = 0 then some (fltStat s)
  else if o = 1 then some (fltFirst f.first)
  else if o = 2 then some (d28 f.first.time)
  else if o = 3 then some (d28 (f.first.time / 2 ^ 28))
  else if o = 4 || o = 6 then some 0
  else if o = 5 then some (pack28 [(21, f.recovSrc), (0, sat 0xFFFF f.recov)])
  else if o = 7 then some f.cfg
  else if o = 8 then some f.safefw
  else if 0x10 ≤ o && o < 0x15 then some (word24 f.sticky.getLsbD (o - 0x10))
  else if 0x15 ≤ o && o < 0x1A then some (word24 (shownPresent s) (o - 0x15))
  else if 0x1A ≤ o && o < 0x1F then some (word24 (outstanding f) (o - 0x1A))
  else if 0x1F ≤ o && o < 0x24 then some (word24 f.conseq.getLsbD (o - 0x1F))
  else if 0x24 ≤ o && o < 0x29 then some (word24 f.force.getLsbD (o - 0x24))
  else if 0x30 ≤ o && o < 0x3C then some (if o % 2 = 0 then f.cqgl.getD ((o - 0x30) / 2) 0 else f.cqch.getD ((o - 0x30) / 2) 0)
  else if 0x40 ≤ o && o < 0x7C then some (fltRx s (o - 0x40))
  else none

/-! ### TMR and TBASE (04) -/

def tmrStat (m : Timer) : D28 :=
  pack28 [(27, b2n m.run), (26, b2n m.latch.isSome), (25, b2n m.claprepl), (24, b2n m.loadReject), (23, b2n m.frozen), (19, m.dith)]

/-- The words of a timer; COUNT shows the low 20 bits of the count (log 115). -/
def tmrData (s : State) (t k : Nat) : D28 :=
  let m := s.tm t
  match k with
  | 0 => m.cfg
  | 1 => perWord s t
  | 2 => m.duty
  | 3 => m.phase
  | 4 => m.edge
  | 5 => tmrStat m
  | 6 => pack28 [(16, m.holds), (0, m.skips)]
  | _ => d28 (countOf s t % 2 ^ 20)

def syncCode : SyncState → Nat
  | .acquire => 0
  | .track => 1
  | .holdover => 2

/-- Period in force of the SYNC timer in TIME ticks: the bitstream's in ACQUIRE; 0 without one (04 R106). PERIOD shows the low 22 bits of it (log 115). -/
def syncPeriod (s : State) : Nat := ((syncTimer s).map (periodOf s)).getD 0

def tbaseData (s : State) (o : Nat) : Option D28 :=
  let b := s.tbase
  match o with
  | 0 => some 0
  | 1 => some (pack28 [(4, b2n b.frozen), (3, b2n b.lost), (2, b2n b.lock), (0, syncCode b.sync)])
  | 2 => some (d28 s.dtime)
  | 3 => some (d28 (s.dtime / 2 ^ 28))
  | 4 | 5 | 6 | 7 => some (b.groups.getD (o - 4) 0)
  | 8 | 9 | 10 => some (b.routes.getD (o - 8) 0)
  | 11 => some (pack28 [(22, sat 63 b.rej), (0, syncPeriod s % 2 ^ 22)])
  | 12 => some b.syncOut
  | _ => none

/-! ### CH (02 R57, R58, 03 R86, 06) -/

def bridgeCode : Bridge → Nat
  | .coast => 0
  | .fwd => 1
  | .rev => 2
  | .brake => 3

/-- Mode in force. -/
def modeCode (s : State) (n : Nat) : Nat :=
  if !s.dev.struct then 7
  else if (s.ch (leader s n)).lad.step ≠ 0 then 2
  else match (s.ch n).baseMode with
    | 0 => 0
    | 1 => 1
    | 2 => 3
    | _ => 4

def chMstat (s : State) (n : Nat) : D28 :=
  let u := leader s n
  let l := (s.ch u).lad
  let own := s.ch (shownBy s n)
  let lead := u == n && (2 ≤ (s.ch n).baseMode)
  pack28 [(20, l.res.toNat), (14, popcount own.hs), (10, l.step), (9, b2n lead), (8, b2n (lead && (s.ch n).revTo.isSome)),
    (6, if lead then bridgeCode (s.ch n).bridge else 0), (5, b2n (s.ch n).refEn), (4, b2n own.onReq), (3, b2n (own.hs ≠ 0)),
    (0, modeCode s n)]

def classCode : Option RetryClass → Nat
  | none => 0
  | some .ovl => 1
  | some .sc => 2
  | some .hs => 3
  | some .bst => 4
  | some .inrush => 5

def retryCode : RetryState → Nat
  | .armed => 0
  | .wait => 1
  | .probe => 2
  | .lockout => 3
  | .safe => 4

/-- CHn_RSTAT; TRYCNT, which counts on under UNLIM, is shown saturated at 15 (log 133). -/
def chRstat (s : State) (n : Nat) : D28 :=
  let c := s.ch n
  let left := match c.retry.state, c.retry.cls with
    | .wait, some cls => (c.retry.since + waitUs (policy c cls).2.2 - guardNow s) / 1000
    | _, _ => 0
  let tries := (c.retry.cls.map c.retry.count).getD 0
  pack28 [(12, sat 0xFFFF left), (8, sat 15 tries), (5, classCode c.retry.cls), (0, retryCode c.retry.state)]

def chProt (c : Chan) : D28 :=
  pack28 [(10, b2n c.prot.clact), (9, b2n c.prot.otwNow), (0, c.prot.bits.toNat)]

/-- CHn_I2TE.LEVEL, rounded down; 0 while every segment is retired (06 R144). -/
def i2tLevel (s : State) (n : Nat) : Nat :=
  let c := s.ch n
  if !s.dev.struct || c.alive == 0 then 0 else sat 0xFFFF (c.e / c.tripLevel * 32768).floor.toNat

def chPstat (s : State) (n : Nat) : D28 :=
  let c := s.ch n
  let r := popcount c.retired
  let wait := match (s.ch (leader s n)).drive with
    | .waiting _ => c.bstLow
    | _ => false
  let (seg, why) := match c.cand with
    | some (i, w) => (i, w.toNat)
    | none => (0x3F, 0)
  pack28 [(19, if s.dev.struct then 320 * (42 - r) / 42 else 0), (17, why), (11, seg), (10, b2n c.cand.isSome), (9, b2n c.retPend),
    (8, b2n wait), (7, b2n c.stuck), (6, b2n (4 < r)), (0, r)]

def chData (s : State) (n o : Nat) : Option D28 :=
  let c := s.ch n
  let l := (s.ch (leader s n)).lad
  match o with
  | 0 => some (pack28 [(2, c.brcmd.toNat)])
  | 1 => some (chMstat s n)
  | 2 => some (pack28 [(16, l.chops), (0, sat 0xFFFF (l.ladUs / 100))])
  | 3 => some (d28 (s.ch (shownBy s n)).refreshes)
  | 4 => some c.ilim
  | 5 => some c.scth
  | 6 => some c.i2t
  | 7 => some c.pcfg
  | 8 => some c.rpolA
  | 9 => some c.rpolB
  | 10 => some c.rpolC
  | 11 => some (chRstat s n)
  | 12 => some (chProt c)
  | 13 => some (pack28 [(16, sat 0xFFF c.dssolo), (0, c.clcuts)])
  | 14 => some (d28 (i2tLevel s n))
  | 28 => some (chPstat s n)
  | 29 => some (d28 c.retired.toNat)
  | 30 => some (d28 (c.retired.toNat / 2 ^ 28))
  | 31 => some 0
  | _ => none

/-! ### BANK (06) -/

def bankData (s : State) (o : Nat) : Option D28 :=
  let l := s.limp
  match o with
  | 0 => some (if s.dev.struct then
      pack28 [(7, b2n (l.active && exitOk s)), (6, b2n l.permKeep), (5, b2n (lh1Level s)), (4, b2n (lh0Level s)),
        (3, b2n (limpHold s.flt)), (2, b2n l.asserted), (1, b2n (leaseLost s)), (0, b2n l.active)]
    else 0)
  | 1 => some 0
  | 2 => some (d28 (bitsOf 8 fun j => l.trips.getLsbD j && bitAt l.tripCfg (4 + j)))
  | 3 => some l.tripCfg
  | _ => none

/-! ### MEAS (05) -/

/-- MEAS_SNAP of a reading path. -/
def measSnap (s : State) (p : Path) : D28 :=
  match p with
  | .host h => match s.meas.snaps.get h with
    | some x => pack28 [(12, 1), (11, b2n x.seg), (0, x.taken % 1024)]
    | none => 0
  | .dbg => 0

/-- The device time that SENSE's diode sweep has reached (13 R344). -/
def sweepNow (s : State) : Nat := if s.clk.senseStop then s.clk.senseAt else s.now

/-- Complete sweeps since structure application, and the slot in progress (log 19). -/
def measSweep (s : State) : D28 :=
  let now := sweepNow s
  if s.dev.struct then pack28 [(10, (now / 2000 - (s.meas.since + 1999) / 2000) % 2 ^ 18), (0, now % 2000 * 2 / 5)] else 0

def measData (s : State) (p : Path) (o : Nat) : Option D28 :=
  let m := s.meas
  if o = 0 || o = 12 || o = 14 then some 0
  else if o = 1 then some (measSnap s p)
  else if o = 2 then some (measSweep s)
  else if o = 3 then some (pack28 [(12, bitsOf 12 fun n => (s.ch n).suspect),
    (0, bitsOf 12 fun n => match (s.ch n).comparedAt with
      | some t => decide (s.now ≤ t + 1000)
      | none => false)])
  else if o < 12 then some (m.fresh.getD (o - 4) 0)
  else if o = 13 then some (pack28 [(12, bitsOf 12 fun n => (s.ch n).zfail), (0, bitsOf 12 fun n => (s.ch n).rezero ≠ .idle)])
  else if o = 15 then some (pack28 [(10, m.calKind), (0, m.calIndex)])
  else if o = 16 then some (pack28 [(16, b2n m.calValid), (0, (BitVec.ofInt 16 m.calVal).toNat)])
  else if 24 ≤ o && o < 32 then some (m.trig.getD (o - 24) 0)
  else none

/-! ### Sample words (05 R116, R132, R133) -/

/-- DATA of a sample. -/
def sampleData (w : Sample) : D28 := pack28 [(12, w.value.toNat), (10, w.qual.toNat), (0, w.tc % 1024)]

/-- Kind k of the word at a place of RUSHES (05 R132). -/
def rushKind (i : Nat) : Nat :=
  if 98 ≤ i then 7 else if 96 ≤ i then 4
  else match i % 8 with
    | 0 | 4 => 0
    | 1 => 1
    | 2 => 2
    | 3 => 3
    | 7 => 6
    | _ => 5

/-- Greatest age in µs at which a word of kind k is delivered. -/
def freshLimit (s : State) (k : Nat) : Nat :=
  let lim := fld (s.meas.fresh.getD k 0) 8 0
  if 5 ≤ k then 2000 + lim else lim

/-- A sample word as a path reads it: a word that arrived corrupted stays corrupted (05 R135); DBG_ACC judges no freshness (09 R271). -/
def readSample (s : State) (p : Path) (limit : Nat) (w : SampleOpt) : ReadWord :=
  match w with
  | none => .void sIdle
  | some x => if p ≠ .dbg && x.tc + limit < s.now then .void sStale
    else if x.diff = 0 then .data (sampleData x) else .corrupt (sampleData x) x.diff

/-- The words of RUSHES or SEG that a path reads: its port's snapshot while it holds one of the group. -/
def sampleWords (s : State) (p : Path) (seg : Bool) : List SampleOpt :=
  let live := if seg then s.meas.seg else s.meas.rushes
  match p with
  | .host h => match s.meas.snaps.get h with
    | some x => if x.seg == seg then x.words else live
    | none => live
  | .dbg => live

/-! ### BIST, NVS, HOLD (15, 16) -/

def setPhaseCode : SetPhase → Nat
  | .notStarted => 0
  | .running => 1
  | .passed => 2
  | .failed => 3

def laneTest (r : Option Running) : Nat := (r.map Running.test).getD 0

def bistData (s : State) (o : Nat) : Option ReadWord :=
  let b := s.bist
  if o = 0 then some (.data 0)
  else if o = 1 then some (.data (pack28 [(26, setPhaseCode b.setPhase), (25, b2n b.laneA.isSome), (20, laneTest b.laneA),
    (19, b2n b.laneB.isSome), (14, laneTest b.laneB), (13, b2n b.laneD.isSome), (8, laneTest b.laneD), (0, extraPower b)]))
  else if o = 2 then some (.data (pack28 [(16, bitsOf 12 fun n => b.fails.getLsbD n || b.fails.getLsbD (12 + n)),
    (8, bitsOf 8 fun i => b.fails.getLsbD (24 + i)), (7, b2n b.newfail), (0, b.count)]))
  else if 16 ≤ o && o < 48 then
    match b.res.getD (o - 16) none with
    | none => some (.void sIdle)
    | some r =>
      let w := match b.when_.getD (o - 16) none with
        | some t => t % 2 ^ 48 / 2 ^ 22 % 2 ^ 16
        | none => 0
      some (.data (pack28 [(26, r.res.toNat), (24, r.origin.toNat), (18, r.item.toNat), (16, r.detail.toNat), (0, w)]))
  else none

/-- One of the four words of the fetched record (15 R403). -/
def logRec (v : Nvs) (k : Nat) : ReadWord :=
  match v.sel with
  | none => .data 0
  | some _ => match v.fetched with
    | none => .void sIdle
    | some ws => ws.getD k (.void sIdle)

def holdCode : HoldState → Nat
  | .off => 0
  | .charging => 1
  | .ready => 2
  | .fault => 3

/-- Cycles of the most-worn log page; a torn page has no header to read (15 R396, log 99). -/
def mostWorn (st : Store) : Nat := ((st.log.filter fun p => !p.torn).map LogPage.cycles).foldl max 0

def nvsData (s : State) (p : Path) (o : Nat) : Option ReadWord :=
  let v := s.nvs
  let h := s.hold
  match o with
  | 0 => some (.data (pack28 [(27, b2n v.running.isSome), (26, b2n v.mapPend), (25, b2n v.cntPend),
      (19, v.image.length - v.programmed + v.queue.length), (18, b2n v.loss), (17, b2n v.fail), (16, b2n v.defer),
      (8, sat 255 v.bad.length), (0, v.defcnt)]))
  | 1 => some (.data (if v.scanned then d28 (storedSeq s.store) else 0))
  | 2 => some (.data (if v.scanned then pack28 [(11, sat 131071 (mostWorn s.store)),
      (0, ((newestRec s.store).map fun x => x.1.page - 512).getD 0)] else 0))
  | 3 => some (.data 0)
  | 4 | 5 | 6 | 7 => some (logRec v (o - 4))
  | 32 => some (.data (pack28 [(26, holdCode h.state), (25, b2n h.low), (24, b2n h.tested), (23, b2n h.chgto), (22, b2n h.caprange)]))
  | 33 => some (.data (pack28 [(16, b2n h.capValid), (0, h.cap)]))
  | 34 => some (readSample s p 200 h.vhold)
  | 35 => some (.data (d28 (sat 0xFFFF h.eav)))
  | _ => none

/-! ### PORT, TRUST, CLK, SUP (10, 09, 13, 15) -/

/-- Service: 0 recovery or not served, until the first fall after structure application (10 R288); 1 normal; 2 absent. -/
def svcCode (s : State) (h : Port) : Nat :=
  let q := s.ports.get h
  if !s.dev.struct then 0 else if !fitted q then 2 else if q.normal then 1 else 0

def portWord (s : State) (h : Port) (k : Nat) : Option D28 :=
  let q := s.ports.get h
  match k with
  | 0 => some q.cfg
  | 1 => some q.dly
  | 2 => some q.len
  | 3 => some (pack28 [(26, svcCode s h), (25, b2n q.sel), (0, q.stat.toNat)])
  | 4 => some (pack28 [(16, sat 0xFFF q.undercnt), (8, sat 255 q.trunccnt), (0, sat 255 q.txlost)])
  | _ => none

def portData (s : State) (o : Nat) : Option D28 :=
  let f := s.flash
  if o < 16 then portWord s .h0 o
  else if o < 32 then portWord s .h1 (o - 16)
  else if o = 64 then some 0
  else if o = 65 then some (pack28 [(26, f.mode.toNat), (21, f.dummy), (16, f.densLog), (15, b2n f.rdfail), (14, b2n f.dqsto), (0, f.lastPg)])
  else none

def trustSess (e : Ses) : D28 :=
  pack28 [(8, e.hostid.toNat), (7, b2n e.auth), (6, b2n e.inj), (4, sesState e), (0, e.fail.toNat)]

def trustData (s : State) (o : Nat) : Option D28 :=
  let t := s.trust
  if o = 0 then some (pack28 [(14, (t.token.getD 0).toNat), (13, b2n t.token.isSome), (12, b2n (s.clocked && t.key.isNone)),
    (10, t.prov.toNat), (9, b2n s.otp.okhlock), (0, s.otp.arbfuse)])
  else if o = 1 || o = 2 then some 0
  else if o = 3 then some (pack28 [(2, t.apPage), (0, t.apState.toNat)])
  else if o = 4 then some (trustSess s.ses.h0)
  else if o = 5 then some (trustSess s.ses.h1)
  else if 16 ≤ o && o < 30 then some (if s.otp.okhlock then dw (split384 s.otp.okh.toNat) (o - 16) else 0)
  else none

def clkData (s : State) (o : Nat) : Option D28 :=
  let c := s.clk
  let p := s.sup
  match o with
  | 0 => some (pack28 [(11, b2n c.armed), (10, b2n c.locked), (1, c.flags.toNat)])
  | 1 => some (pack28 [(10, c.timeCnt), (0, c.coreCnt)])
  | 2 => some (d28 c.senseCntG)
  | 3 => some (pack28 [(12, c.guardCnt), (0, c.senseCntC)])
  | 16 => some (pack28 [(9, b2n p.dipB), (8, b2n p.dipA), (5, b2n p.vbatB), (4, b2n p.vbatA), (2, b2n p.vdrv), (1, b2n p.vddio), (0, b2n p.vddc)])
  | 17 => some (pack28 [(16, p.starts % 4096), (13, p.cause.toNat), (11, p.rites.toNat), (0, b2n p.isNew)])
  | _ => none

/-! ### The address map (14 R360, R373) -/

/-- Last word of the block of an address. -/
def blockEnd (a : Nat) : Nat :=
  ([0x3F, 0x7F, 0xFF, 0x19F, 0x1BF, 0x1FF, 0x37F, 0x3BF, 0x3FF, 0x5F7, 0x5FF, 0x67F, 0x6BF, 0x6FF, 0x77F, 0x7BF, 0x7FF].find?
    fun e => a ≤ e).getD 0xFFF

/-- An aperture word as a frame or DBG_ACC reads it (09 R268). -/
def apertureWord (s : State) (i : Nat) : ReadWord :=
  if s.trust.apState = 2 then
    match s.trust.apWords[i]? with
    | some w => shownWord i w
    | none => .void sIdle
  else if s.trust.apState = 3 then .void sDenied
  else .void sIdle

/-- The word at an address as a path reads it, without the two-word latches; `none` where no register stands. -/
def wordAt (s : State) (p : Path) (a : Nat) : Option ReadWord :=
  if a < 0x40 then (devData s a).map .data
  else if a < 0x80 then (sesData s (a - 0x40)).map .data
  else if a < 0x100 then (fltData s (a - 0x80)).map .data
  else if a < 0x1A0 then some (.data (tmrData s ((a - 0x100) / 8) (a % 8)))
  else if a < 0x1C0 then (tbaseData s (a - 0x1A0)).map .data
  else if a < 0x200 then none
  else if a < 0x380 then (chData s ((a - 0x200) / 32) (a % 32)).map .data
  else if a < 0x3A0 then none
  else if a < 0x3C0 then (bankData s (a - 0x3A0)).map .data
  else if a < 0x400 then (measData s p (a - 0x3C0)).map .data
  else if a < 0x5F8 then some (readSample s p (freshLimit s 5) ((sampleWords s p true).getD (a - 0x400) none))
  else if a < 0x600 then none
  else if a < 0x664 then some (readSample s p (freshLimit s (rushKind (a - 0x600))) ((sampleWords s p false).getD (a - 0x600) none))
  else if a < 0x680 then none
  else if a < 0x6C0 then bistData s (a - 0x680)
  else if a < 0x700 then nvsData s p (a - 0x6C0)
  else if a < 0x780 then (portData s (a - 0x700)).map .data
  else if a < 0x7C0 then (trustData s (a - 0x780)).map .data
  else if a < 0x800 then (clkData s (a - 0x7C0)).map .data
  else some (apertureWord s (a - 0x800))

/-! ### Two-word latches (14 R363, R364) -/

def Latches.get (l : Latches) : Path → Option (BitVec 20)
  | .host .h0 => l.h0
  | .host .h1 => l.h1
  | .dbg => l.dbg

def Latches.set (l : Latches) (p : Path) (x : Option (BitVec 20)) : Latches :=
  match p with
  | .host .h0 => { l with h0 := x }
  | .host .h1 => { l with h1 := x }
  | .dbg => { l with dbg := x }

def latchOf (s : State) : Quantity → Latches
  | .dtime => s.dlatch
  | .ftime => s.flatch

def putLatch (p : Path) (q : Quantity) (x : Option (BitVec 20)) (s : State) : State :=
  match q with
  | .dtime => { s with dlatch := s.dlatch.set p x }
  | .ftime => { s with flatch := s.flatch.set p x }

/-- The 48-bit quantity now. -/
def quantity (s : State) : Quantity → Nat
  | .dtime => s.dtime
  | .ftime => s.flt.first.time

/-- A read of the low word latches the high word of the same instant. -/
def readLow (p : Path) (q : Quantity) (s : State) : D28 × State :=
  (d28 (quantity s q), putLatch p q (some (BitVec.ofNat 20 (quantity s q / 2 ^ 28))) s)

/-- A read of the high word empties a full latch. -/
def readHigh (p : Path) (q : Quantity) (s : State) : D28 × State :=
  match (latchOf s q).get p with
  | some x => (d28 x.toNat, putLatch p q none s)
  | none => (d28 (quantity s q / 2 ^ 28), s)

/-- The quantity and half at an address. -/
def twoWord (a : Nat) : Option (Quantity × Bool) :=
  if a = 0x1A2 then some (.dtime, false) else if a = 0x1A3 then some (.dtime, true)
  else if a = 0x082 then some (.ftime, false) else if a = 0x083 then some (.ftime, true)
  else none

/-- A read of one word on a path (14 R362). -/
def readReg (p : Path) (a : Nat) (s : State) : ReadWord × State :=
  match twoWord a with
  | some (q, false) =>
    let (d, s) := readLow p q s
    (.data d, s)
  | some (q, true) =>
    let (d, s) := readHigh p q s
    (.data d, s)
  | none => ((wordAt s p a).getD (.void sNoReg), s)

/-- The words of one READ of `count` words from `a`: past the block's end every word is void NO_REG (14 R360). The flag tells that the read ran past it. -/
def readRun (p : Path) (a : Nat) : Nat → State → List ReadWord × State
  | 0, s => ([], s)
  | k + 1, s =>
    let (ws, s) := readRun p a k s
    if blockEnd a < a + k then (ws ++ [.void sNoReg], s)
    else
      let (w, s) := readReg p (a + k) s
      (ws ++ [w], s)

/-- A word read, at a frame position or address (05 R135, 00 R10). -/
def asWord (pos : Nat) : ReadWord → W36
  | .data d => dataWord pos d
  | .void r => voidWord pos r
  | .corrupt d x => BitVec.ofNat 36 ((chk pos d ^^^ x.toNat) * 2 ^ 28 + d.toNat)

end Sys2Proof.Machine
end

