-- ==== Sys2Proof/Machine/Trust.lean ====
section
/-! DEFINITION. Trust: provisioning, anti-rollback, the flash aperture and the TAP (09, 10 R296 to R299). -/

namespace Sys2Proof.Machine

def onTrust (f : Trust → Trust) (s : State) : State := { s with trust := f s.trust }

def onTap (f : Tap → Tap) (s : State) : State := { s with tap := f s.tap }

/-- The ARB that certificates and tokens are checked against: the applied image's, else the counter (09 R261). -/
def deviceArb (s : State) : Nat := if s.dev.struct then fld s.dev.image 27 21 else s.otp.arbfuse

/-! ### Provisioning (09 R255) -/

def provKeyWord : D28 := 0x0C3A7E5

/-- A write of TRUST_PROV in recovery mode. A second write during the programming changes nothing; a KEY other than R255's is no write that the device accepts, and its status is DENIED as that of every other recovery write (10 R287, log 100). -/
def writeProv (key : D28) (r : ReelRead) (s : State) : BitVec 8 × State :=
  if s.otp.okhlock || key ≠ provKeyWord then (sDenied, s)
  else if s.trust.prov = 1 then (sOk, s)
  else
    let s := noteDqs r.dqsTimeout s
    match provisionKey (s.flash.mode ≠ 0) s.flash.densLog (readAs r s) with
    | some k => (sOk, onTrust (fun t => { t with prov := 1, provKey := some (keyHash k) }) s)
    | none => (sOk, onTrust (fun t => { t with prov := 3, provKey := none }) s)

/-- A write of TRUST_PROV, which a WRREG carries (10 R287). -/
def execProvision (key : D28) (r : ReelRead) (s : State) : Host.Outcome State Fault Refusal :=
  done <|
    if recoveryServed s && !s.recovery.taken then
      let (st, s) := writeProv key r s
      { s with recovery := ⟨0x02, st, [], true⟩ }
    else s

/-- The owner key's hash has been programmed (09 R255), by the trust block, which stops with CORE (13 R344). OKH and OKHLOCK change together here; until then the OTP is untouched, and a reset within the programming leaves it so (DESIGN CHOICE, log 154). -/
def execProvisionDone (s : State) : Host.Outcome State Fault Refusal :=
  done <| match s.trust.provKey with
    | some h => if s.trust.prov = 1 && !s.clk.coreStop then { s with otp := { s.otp with okh := h, okhlock := true }, trust := { s.trust with prov := 2 } } else s
    | none => s

/-! ### Anti-rollback (09 R257) -/

/-- The level that an advance under way leads to. -/
def advanceLevel : Advance → Nat
  | .idle => 0
  | .shadow l => l
  | .fuses l => l

/-- A committed TRUST_ARBADV; a deferred one leaves nothing behind for the host's repeat. An advance under way is never lowered, and one that waits for another program is kept if the check fails at its turn (09 R257, log 125). -/
def writeArb (level : Nat) (s : State) : BitVec 8 × State :=
  if !s.dev.struct || deviceArb s < level then (sDenied, s)
  else if level ≤ s.otp.arbfuse then (sOk, s)
  else if !flaconOk s then
    (sDeferred, deferProgram s)
  else
    (sOk, tryProgram (onTrust (fun t => { t with advance := .shadow (max level (advanceLevel t.advance)) })
      (s.onNvs fun v => { v with shadowPend := true })))

/-- The fuses have been blown to the level; last rites abandon a blow (15 R401), and it stops with CORE (13 R344). -/
def execArbFusesDone (s : State) : Host.Outcome State Fault Refusal :=
  done <| match s.trust.advance with
    | .fuses l => if s.sup.ritesWait.isSome || s.clk.coreStop then s else { s with otp := { s.otp with arbfuse := max s.otp.arbfuse l }, trust := { s.trust with advance := .idle } }
    | _ => s

/-! ### The aperture (09 R268, 10 R296 to R299, 16 R417) -/

/-- A write of PORT_FPAGE; CRYPTO and MARCH give way to the check. -/
def writeFpage (d : D28) (s : State) : BitVec 8 × State :=
  let page := fld d 10 0
  if s.flash.lastPg < page then (sFormat, s)
  else (sOk, onTrust (fun t => { t with apState := 1, apPage := page, apWords := [] })
    (takeUnits true true true s))

/-- A page's words match its DIGEST entry. -/
def pageVerifies (s : State) (ws : List W36) : Bool :=
  match s.trust.digests.find? fun e => e.1 == s.trust.apPage with
  | some e => sha384 (pack ws) == e.2
  | none => false

def execApertureVerifyDone (p : PageRead) (s : State) : Host.Outcome State Fault Refusal :=
  done <|
    if s.trust.apState ≠ 1 || !s.coreRuns then s
    else unitsServed true <| match p with
      | .words ws => onTrust (fun t => if pageVerifies s ws then { t with apState := 2, apWords := ws } else { t with apState := 3 }) s
      | .failed dqs =>
        onTrust (fun t => { t with apState := 3 })
          (noteDqs dqs { s with flash := { s.flash with rdfail := true } })

/-! ### The TAP (09 R269, R270) -/

/-- The instruction register takes an opcode; `tapActs` is the instruction that acts by it (09 R269). -/
def loadOpcode (opcode : BitVec 8) (s : State) : State := onTap (fun t => { t with opcode := opcode }) s

/-- A data register, first cell at TDI, after the bits that entered there, oldest first. -/
def shiftIn (bits reg : List Bool) : List Bool := (bits.reverse ++ reg).take reg.length

/-- What a register gives at TDO while as many bits enter at TDI. -/
def shiftOut (bits reg : List Bool) : List Bool := (reg.reverse ++ bits).take bits.length

/-- A scan of the bypass register, which captures a zero (IEEE 1149.1, log 170). -/
def scanBypass (bits : List Bool) (s : State) : State :=
  if bits.isEmpty then s
  else onTap (fun t => { t with bypass := (shiftIn bits [false]).getD 0 false, tdo := shiftOut bits [false] }) s

/-- The levels that Capture-DR takes: RST_N's as State holds it, the others as the command names them, low where it names none. -/
def capturedCells (pins : List Bool) (s : State) : List Bool :=
  scanOrder.mapIdx fun i c => if c = .rstN then s.pins.rstN else pins.getD i false

/-- A scan of the data register that EXTEST or SAMPLE/PRELOAD selects: the boundary-scan register where it acts, captured, shifted and updated, else the bypass register (09 R269). -/
def scanCells (pins bits : List Bool) (s : State) : State :=
  if !scanActs s then scanBypass bits s
  else if bits.isEmpty then s
  else
    let reg := capturedCells pins s
    onTap (fun t => { t with cells := shiftIn bits reg, tdo := shiftOut bits reg }) s

def execExtest (s : State) (pins : List Bool := []) (bits : List Bool := []) : Host.Outcome State Fault Refusal :=
  done (scanCells pins bits (loadOpcode 0x00 s))

def execSamplePreload (s : State) (pins : List Bool := []) (bits : List Bool := []) : Host.Outcome State Fault Refusal :=
  done (scanCells pins bits (loadOpcode 0x01 s))

/-- BYPASS by its own opcode or by one of no instruction; another instruction's opcode is another row's command. -/
def execBypass (s : State) (opcode : BitVec 8 := 0xFF) (bits : List Bool := []) : Host.Outcome State Fault Refusal :=
  done (if tapInstr opcode == .bypass then scanBypass bits (loadOpcode opcode s) else s)

/-- A 384-bit value as tagged words at positions 0 to 13 (08 R225). -/
def words384 (x : BitVec 384) : List W36 := (split384 x.toNat).mapIdx dataWord

/-- This start's challenge, SHA-384 of 0x04 ‖ QD. Without a start key what is shifted out is a free value (log 34). -/
def execDbgChal (s : State) : Host.Outcome State Fault Refusal :=
  let (h, s) := match s.trust.key with
    | some k => (keyHash k.2, s)
    | none => s.draw
  done (onTap (fun t => { t with out := words384 h }) (loadOpcode 0x10 s))

/-- MINARB and MAXARB of a certificate or token word are in order and admit the device's ARB. -/
def arbFormat (d : D28) : Bool := fld d 27 21 ≤ 64 && fld d 20 14 ≤ 64 && fld d 27 21 ≤ fld d 20 14

def arbAdmits (s : State) (d : D28) : Bool := fld d 27 21 ≤ deviceArb s && deviceArb s ≤ fld d 20 14

/-- Format of a token: its words, magic, reserved bits, range and padding. -/
def tokenFormat (ws : List W36) : Bool :=
  let ds := ws.map wData
  let t0 := dw ds 0
  ws.length == 44 && (List.range 44).all (fun i => isData i (ws.getD i 0)) && fld t0 27 12 == 0xDB61 && fld t0 11 8 == 1 &&
    fld t0 7 3 == 0 && fld (dw ds 1) 13 0 == 0 && arbFormat (dw ds 1) && [15, 29, 43].all fun i => fld (dw ds i) 7 0 == 0

/-- The token is accepted (09 R270). -/
def tokenOk (s : State) (ws : List W36) : Bool :=
  let ds := ws.map wData
  tokenFormat ws && match s.trust.key, s.trust.owner with
    | some k, some o => join384 (group14 ds 2 0) == (keyHash k.2).toNat && arbAdmits s (dw ds 1) &&
        ecdsaVerify o (packData (ds.take 16)) (join384 (group14 ds 16 0)) (join384 (group14 ds 16 1))
    | _, _ => false

/-- A token at Update-DR: the one before is dropped. CRYPTO gives way to the check (16 R417). With CORE stopped the trust block checks none (13 R344). -/
def execDbgToken (ws : List W36) (s : State) : Host.Outcome State Fault Refusal :=
  let s := loadOpcode 0x11 s
  done (if s.clk.coreStop then s else onTrust (fun t => { t with token := if tokenOk s ws then some (BitVec.ofNat 3 (fld (wData (ws.getD 0 0)) 2 0)) else none })
    (takeUnits true false false s))

def execTrstAssert (s : State) : Host.Outcome State Fault Refusal :=
  done { s with trust := { s.trust with token := none }, tap := { s.tap with opcode := 0xFF, out := [] },
                dlatch := { s.dlatch with dbg := none }, flatch := { s.flatch with dbg := none } }

end Sys2Proof.Machine
end

