-- ==== Sys2Proof/Machine/Write.lean ====
section
/-! DEFINITION. Register writes: classes and reserved bits of the index (14 R374), class overrides (08 R242), the judgement of 14 R365 and the effects of 14 R366, and the words whose owner has no earlier file. -/

namespace Sys2Proof.Machine

/-- Field classes (14 R366). -/
inductive Cls where
  | v | s | l | q | k | x | a
  deriving DecidableEq, Repr

/-! ### Classes and reserved bits of a register: the classes of its fields, and the mask of its reserved bits -/

abbrev RegInfo := List Cls × Nat

/-- DEV, SES (14, 11). -/
def devInfo (o : Nat) : Option RegInfo :=
  match o with
  | 0 => some ([.v], 0x000000F)
  | 1 => some ([.v], 0x0001FFF)
  | 2 => some ([.v], 0x800FFF8)
  | 3 | 4 => some ([.v], 0xFE00000)
  | 5 | 7 | 8 => some ([.v], 0)
  | 6 => some ([.v], 0x000003F)
  | _ => none

def sesInfo (o : Nat) : Option RegInfo :=
  if o < 32 then match o % 16 with
    | 0 => some ([.v], 0x000003F)
    | 1 => some ([.v], 0xFC00000)
    | 2 | 3 | 4 | 5 | 6 => some ([.v], 0xF000000)
    | 7 => some ([.v], 0xFFFC0C0)
    | 8 | 9 => some ([.v], 0)
    | _ => none
  else if o = 32 then some ([.v], 0xC000F00)
  else if o = 33 then some ([.s], 0x0007FFF)
  else none

/-- FLT (07). -/
def fltInfo (o : Nat) : Option RegInfo :=
  match o with
  | 0 => some ([.v], 0x0000180)
  | 1 => some ([.v], 0x00001FF)
  | 2 => some ([.v], 0)
  | 3 => some ([.v], 0xFF00000)
  | 4 => some ([.a], 0xFFFFF00)
  | 5 => some ([.v], 0x01F0000)
  | 6 => some ([.a], 0)
  | 7 => some ([.s], 0x7FFFC00)
  | 8 => some ([.s], 0xF000000)
  | _ =>
    if 0x10 ≤ o && o < 0x15 then some ([.k], 0xF000000)
    else if 0x15 ≤ o && o < 0x1F then some ([.v], 0xF000000)
    else if 0x1F ≤ o && o < 0x24 then some ([.k], 0xF000000)
    else if 0x24 ≤ o && o < 0x29 then some ([.a], 0xF000000)
    else if 0x30 ≤ o && o < 0x3C then some ([.s], if o % 2 = 0 then 0xF000000 else 0xFFFFF00)
    else if 0x40 ≤ o && o < 0x7C then some ([.s], 0x000C003)
    else none

/-- TMR and TBASE (04); TMRt_DUTY has two layouts. -/
def tmrInfo (tick : Bool) (k : Nat) : RegInfo :=
  match k with
  | 0 => ([.s], 0x00FFFFF)
  | 1 => ([.l], 0xF800000)
  | 2 => ([.l], if tick then 0xF000000 else 0xFFF0000)
  | 3 => ([.l], 0xFF00000)
  | 4 => ([.q], 0xFF00000)
  | 5 => ([.v, .k], 0x007FFFF)
  | 6 => ([.v], 0)
  | _ => ([.v], 0xFF00000)

def tbaseInfo (o : Nat) : Option RegInfo :=
  match o with
  | 0 => some ([.x], 0xFE00000)
  | 1 => some ([.v, .k], 0xFFFFFE0)
  | 2 | 11 => some ([.v], 0)
  | 3 => some ([.v], 0xFF00000)
  | 4 | 5 | 6 | 7 => some ([.s], 0xFE00000)
  | 8 | 9 | 10 => some ([.s], 0xE000000)
  | 12 => some ([.s], 0xFFFFFE0)
  | _ => none

/-- CH and BANK (02, 03, 06). -/
def chInfo (o : Nat) : Option RegInfo :=
  match o with
  | 0 => some ([.l, .x], 0xFFFFFF0)
  | 1 => some ([.v], 0xFC00000)
  | 2 | 13 | 29 => some ([.v], 0)
  | 3 | 14 => some ([.v], 0xFFF0000)
  | 4 => some ([.l], 0xFFFFE00)
  | 5 => some ([.a], 0xFFFFF00)
  | 6 => some ([.a], 0xFFFE000)
  | 7 => some ([.s], 0xFFFFE00)
  | 8 | 9 => some ([.s], 0xFF00000)
  | 10 => some ([.s], 0xFFFFC00)
  | 11 => some ([.v], 0x0000018)
  | 12 => some ([.v, .k], 0xFFFF800)
  | 28 => some ([.v], 0)
  | 30 => some ([.v], 0xFFFC000)
  | 31 => some ([.a], 0xFFFFFC0)
  | _ => none

def bankInfo (o : Nat) : Option RegInfo :=
  match o with
  | 0 => some ([.v], 0xFFFFF00)
  | 1 => some ([.a], 0xFFFFFFE)
  | 2 => some ([.v], 0xFFFFF00)
  | 3 => some ([.s], 0xFFFF000)
  | _ => none

/-- MEAS (05). -/
def measInfo (o : Nat) : Option RegInfo :=
  match o with
  | 0 => some ([.x], 0xFFFFFF8)
  | 1 => some ([.v], 0xFFFE400)
  | 2 => some ([.v], 0)
  | 3 => some ([.v], 0xF000000)
  | 12 => some ([.a], 0xFFFF000)
  | 13 => some ([.v, .k], 0xF000000)
  | 14 => some ([.x], 0xFFF0C00)
  | 15 => some ([.v], 0xFFFC000)
  | 16 => some ([.v], 0xFFE0000)
  | _ => if 4 ≤ o && o < 12 then some ([.a], 0xFFFFE00) else if 24 ≤ o && o < 32 then some ([.s], 0x0007E00) else none

/-- BIST, NVS and HOLD (15, 16). -/
def bistInfo (o : Nat) : Option RegInfo :=
  match o with
  | 0 => some ([.x], 0xFFFFF00)
  | 1 => some ([.v], 0)
  | 2 => some ([.v, .k], 0)
  | _ => if 16 ≤ o && o < 48 then some ([.v], 0) else none

def nvsInfo (o : Nat) : Option RegInfo :=
  match o with
  | 0 => some ([.v, .k], 0)
  | 1 | 2 | 4 | 5 | 6 | 7 | 34 => some ([.v], 0)
  | 3 => some ([.x], 0)
  | 32 => some ([.v, .k], 0x03FFFFF)
  | 33 => some ([.v], 0xFFE0000)
  | 35 => some ([.v], 0xFFF0000)
  | _ => none

/-- PORT, TRUST, CLK and SUP (10, 09, 13, 15). -/
def portInfo (o : Nat) : Option RegInfo :=
  if o = 64 then some ([.x], 0xFFFF800)
  else if o = 65 then some ([.v, .k], 0x0003800)
  else if o < 32 then match o % 16 with
    | 0 => some ([.s], 0x003FFFF)
    | 1 => some ([.s], 0xFE00000)
    | 2 => some ([.a], 0xFFFF000)
    | 3 => some ([.v, .k], 0x1FFFF00)
    | 4 => some ([.v], 0)
    | _ => none
  else none

def trustInfo (o : Nat) : Option RegInfo :=
  match o with
  | 0 => some ([.v], 0xFFE0180)
  | 1 => some ([.a], 0xFFFFF80)
  | 2 => some ([.x], 0)
  | 3 => some ([.v], 0xFFFE000)
  | 4 | 5 => some ([.v], 0)
  | _ => if 16 ≤ o && o < 30 then some ([.v], 0) else none

def clkInfo (o : Nat) : Option RegInfo :=
  match o with
  | 0 => some ([.v, .k], 0xFFFF001)
  | 1 => some ([.v], 0xFF00000)
  | 2 => some ([.v], 0xFFFFC00)
  | 3 => some ([.v], 0xF000C00)
  | 16 => some ([.v, .k], 0xFFFFCC8)
  | 17 => some ([.v, .k], 0x00007FE)
  | _ => none

/-- Classes of stepping B0 and reserved bits at an address; `none` where no register stands. An aperture word has no writable field. -/
def baseInfo (s : State) (a : Nat) : Option RegInfo :=
  if a < 0x40 then devInfo a
  else if a < 0x80 then sesInfo (a - 0x40)
  else if a < 0x100 then fltInfo (a - 0x80)
  else if a < 0x1A0 then some (tmrInfo (s.tm ((a - 0x100) / 8)).tick (a % 8))
  else if a < 0x1C0 then tbaseInfo (a - 0x1A0)
  else if a < 0x200 then none
  else if a < 0x380 then chInfo (a % 32)
  else if a < 0x3A0 then none
  else if a < 0x3C0 then bankInfo (a - 0x3A0)
  else if a < 0x400 then measInfo (a - 0x3C0)
  else if a < 0x5F8 then some ([.v], 0)
  else if a < 0x600 then none
  else if a < 0x664 then some ([.v], 0)
  else if a < 0x680 then none
  else if a < 0x6C0 then bistInfo (a - 0x680)
  else if a < 0x700 then nvsInfo (a - 0x6C0)
  else if a < 0x780 then portInfo (a - 0x700)
  else if a < 0x7C0 then trustInfo (a - 0x780)
  else if a < 0x800 then clkInfo (a - 0x7C0)
  else some ([], 0)

/-- The NEW class that an override gives fields of class L, Q, X and A (08 R240). -/
def overrideOf (s : State) (a : Nat) : Option Bool := (s.dev.overrides.find? fun o => o.1.toNat == a).map Prod.snd

/-- Classes after overrides. -/
def classesAt (s : State) (a : Nat) : Option (List Cls) :=
  (baseInfo s a).map fun i => match overrideOf s a with
    | none => i.1
    | some toA => i.1.map fun c => match c with
      | .l | .q | .x | .a => if toA then .a else .s
      | c => c

def reservedAt (s : State) (a : Nat) : Nat := ((baseInfo s a).map Prod.snd).getD 0

/-- A WRITE or DBG_ACC can write a field of class L, Q, K or X. -/
def hasDirect (cs : List Cls) : Bool := cs.any fun c => c == .l || c == .q || c == .k || c == .x

def hasA (cs : List Cls) : Bool := cs.any (· == .a)

/-! ### Rights (11 R325, 09 R267, R271) -/

def portOf : Access → Option Port
  | .write h => some h
  | .commit h => some h
  | .dbg => none

/-- The port may write the address (14 R365 step 4). -/
def mayWrite (s : State) (h : Port) (a : Nat) : Bool :=
  if a = 0x3C0 then true
  else if a = 0x702 then h == .h0
  else if a = 0x712 then h == .h1
  else s.auth.holder == some h && (a ≠ 0x086 || (s.ses.get h).inj)

/-! ### Owning rules of words with no earlier file -/

/-- A committed CHn_RETIRE (02 R41, R43, R58). -/
def writeRetire (n : Nat) (d : D28) (s : State) : BitVec 8 × State :=
  let i := fld d 5 0
  if 42 ≤ i then (sFormat, s)
  else if (s.ch n).retired.getLsbD i then (sOk, s)
  else
    let st := if flaconOk s then sOk else sDeferred
    let s := retire n i s
    (st, raise [retireEvent s n] s)

/-- A staged CHn_ILIM (06 R176). -/
def writeIlim (n : Nat) (d : D28) (s : State) : BitVec 8 × State :=
  if fld d 8 0 < 8 || 320 < fld d 8 0 then (sFormat, s) else (sOk, s.onCh n fun c => { c with ilimSh := d })

/-- Words of CHn's own ladder. -/
def chLadder (s : State) (n : Nat) : List D28 := s.dev.ladders.getD (s.ch n).ladderIx []

/-- A committed CHn_SCTH (06 R177). -/
def writeScth (n : Nat) (d : D28) (s : State) : BitVec 8 × State :=
  let th := fld d 7 0
  if th < 20 || 200 < th || 4 * th < topIlim (chLadder s n) + 40 then (sFormat, s) else (sOk, s.onCh n fun c => { c with scth := d })

/-- A committed CHn_I2T (06 R178). -/
def writeI2t (n : Nat) (d : D28) (s : State) : BitVec 8 × State :=
  if 13 < fld d 12 9 || fld d 8 0 < 8 || 160 < fld d 8 0 then (sFormat, s) else (sOk, s.onCh n fun c => { c with i2t := d })

/-- A committed PORT_HhLEN (10 R279). -/
def writeLen (h : Port) (d : D28) (s : State) : BitVec 8 × State :=
  if fld d 11 0 < 36 then (sFormat, s) else (sOk, s.onPort h fun q => { q with lenNext := some d })

/-- Clears the bits of a mask that are one in the written value. -/
def clearOnes {w : Nat} (m : BitVec w) (d : D28) (lo : Nat) : BitVec w :=
  maskOf w fun i => m.getLsbD i && !bitAt d (lo + i)

/-! ### Effects by block (14 R366) -/

def tmrWrite (t k : Nat) (d : D28) (s : State) : BitVec 8 × State :=
  match k with
  | 1 => writePer t d s
  | 2 => writeDuty t d s
  | 3 => writePhase t d s
  | 4 => if (s.tm t).run then (sBusy, s) else writeEdge t d s
  | 5 => (sOk, s.onTm t fun m => { m with claprepl := m.claprepl && !bitAt d 25, loadReject := m.loadReject && !bitAt d 24 })
  | _ => (sDenied, s)

def chWrite (n o : Nat) (d : D28) (s : State) : BitVec 8 × State :=
  match o with
  | 0 => writeCtl n d s
  | 4 => writeIlim n d s
  | 5 => writeScth n d s
  | 6 => writeI2t n d s
  | 12 => (sOk, s.onCh n fun c => { c with prot := { c.prot with bits := clearOnes c.prot.bits d 0 } })
  | 31 => writeRetire n d s
  | _ => (sDenied, s)

def fltWrite (a : Access) (o : Nat) (d : D28) (s : State) : BitVec 8 × State :=
  if o = 4 then writeAck d s
  else if o = 6 then match portOf a with
    | some h => (sOk, writeInjen h d s)
    | none => (sDenied, s)
  else if 0x10 ≤ o && o < 0x15 then (sOk, s.onFlt fun f => { f with sticky := clearWord f.sticky (o - 0x10) d })
  else if 0x1F ≤ o && o < 0x24 then (sOk, s.onFlt fun f => { f with conseq := clearWord f.conseq (o - 0x1F) d })
  else if 0x24 ≤ o && o < 0x29 then writeForce (o - 0x24) d s
  else (sDenied, s)

def tbaseWrite (o : Nat) (d : D28) (s : State) : BitVec 8 × State :=
  if o = 0 then (sOk, writeClap d s)
  else if o = 1 then (sOk, onTBase (fun b => { b with lost := b.lost && !bitAt d 3 }) s)
  else (sDenied, s)

/-- MEAS_CTL through DBG_ACC names no port's buffer and does nothing (log 12). -/
def measWrite (a : Access) (o : Nat) (d : D28) (s : State) : BitVec 8 × State :=
  if o = 0 then match portOf a with
    | some h => (sOk, writeMeasCtl h d s)
    | none => (sOk, s)
  else if 4 ≤ o && o < 12 then writeFresh (o - 4) d s
  else if o = 12 then (sOk, writeZero d s)
  else if o = 13 then (sOk, { s with chans := s.chans.mapIdx fun n c => { c with zfail := c.zfail && !bitAt d (12 + n) } })
  else if o = 14 then writeCalsel d s
  else (sDenied, s)

def nvsWrite (o : Nat) (d : D28) (s : State) : BitVec 8 × State :=
  if o = 0 then (sOk, s.onNvs fun v => { v with loss := v.loss && !bitAt d 18, fail := v.fail && !bitAt d 17, defer := v.defer && !bitAt d 16 })
  else if o = 3 then (sOk, writeLogsel d s)
  else if o = 32 then (sOk, onHold (fun h => { h with chgto := h.chgto && !bitAt d 23, caprange := h.caprange && !bitAt d 22 }) s)
  else (sDenied, s)

def portWrite (o : Nat) (d : D28) (s : State) : BitVec 8 × State :=
  if o = 64 then writeFpage d s
  else if o = 65 then (sOk, { s with flash := { s.flash with rdfail := s.flash.rdfail && !bitAt d 15, dqsto := s.flash.dqsto && !bitAt d 14 } })
  else
    let h : Port := if o < 16 then .h0 else .h1
    if o % 16 = 2 then writeLen h d s
    else if o % 16 = 3 then (sOk, s.onPort h fun q => { q with stat := clearOnes q.stat d 0 })
    else (sDenied, s)

def clkWrite (o : Nat) (d : D28) (s : State) : BitVec 8 × State :=
  match o with
  | 0 => (sOk, onClk (fun c => { c with flags := clearOnes c.flags d 1 }) s)
  | 16 => (sOk, { s with sup := { s.sup with dipB := s.sup.dipB && !bitAt d 9, dipA := s.sup.dipA && !bitAt d 8 } })
  | 17 => (sOk, { s with sup := { s.sup with isNew := s.sup.isNew && !bitAt d 0 } })
  | _ => (sDenied, s)

/-- The owning block's answer to a word. TRUST_PROV acts in recovery mode alone (09 R255). -/
def ownEffect (a : Access) (addr : Nat) (d : D28) (s : State) : BitVec 8 × State :=
  if addr < 0x80 then (sDenied, s)
  else if addr < 0x100 then fltWrite a (addr - 0x80) d s
  else if addr < 0x1A0 then tmrWrite ((addr - 0x100) / 8) (addr % 8) d s
  else if addr < 0x1C0 then tbaseWrite (addr - 0x1A0) d s
  else if addr < 0x200 then (sDenied, s)
  else if addr < 0x380 then chWrite ((addr - 0x200) / 32) (addr % 32) d s
  else if addr = 0x3A1 then writeLimpExit d s
  else if addr < 0x3C0 then (sDenied, s)
  else if addr < 0x400 then measWrite a (addr - 0x3C0) d s
  else if addr = 0x680 then writeBistCmd d s
  else if addr = 0x682 then (sOk, { s with bist := { s.bist with newfail := s.bist.newfail && !bitAt d 7 } })
  else if addr < 0x6C0 then (sDenied, s)
  else if addr < 0x700 then nvsWrite (addr - 0x6C0) d s
  else if addr < 0x780 then portWrite (addr - 0x700) d s
  else if addr = 0x781 then writeArb (fld d 6 0) s
  else if addr < 0x7C0 then (sDenied, s)
  else if addr < 0x800 then clkWrite (addr - 0x7C0) d s
  else (sDenied, s)

/-- A word of TMRt_EDGE, which TIME judges on its arrival (14 R368), and of CHn_CTL, whose requests act in TIME (13 R344). -/
def isEdge (addr : Nat) : Bool := 0x100 ≤ addr && addr < 0x1A0 && addr % 8 = 4
def isCtl (addr : Nat) : Bool := 0x200 ≤ addr && addr < 0x380 && addr % 32 = 0

/-- A word of TMRt_STAT. -/
def isStat (addr : Nat) : Bool := 0x100 ≤ addr && addr < 0x1A0 && addr % 8 = 5

/-- Registers of class K that GUARD or TIME owns: FLT_STICKY, FLT_CONSEQ, TMRt_STAT and TBASE_STAT. Their CORE mirror shows a bit cleared from the acceptance of the word (14 R369). -/
def mirrored (addr : Nat) : Bool :=
  (0x90 ≤ addr && addr < 0x95) || (0x9F ≤ addr && addr < 0xA4) || addr = 0x1A1 || isStat addr

/-- A word whose register acts in GUARD or in TIME, while that domain is stopped (13 R344, R348, log 101). -/
def domainStopped (s : State) (addr : Nat) : Bool :=
  (s.clk.guardStop && ((0x80 ≤ addr && addr < 0x100) || addr = 0x3A1)) ||
    (s.clk.timeStop && ((0x1A0 ≤ addr && addr < 0x1C0) || isEdge addr || isStat addr || isCtl addr))

/-- A word waits in the queue into a stopped domain (13 R348). -/
def holdWord (addr : Nat) (d : D28) (s : State) : State := { s with heldWords := s.heldWords ++ [(addr, d)] }

/-- A word of CHn_CTL names its ON or OFF to a unit's leader, the request that waits while TIME is stopped; BRCMD enters its shadow in CORE as ever. -/
def ctlAsks (s : State) (addr : Nat) (d : D28) : Bool :=
  let n := (addr - 0x200) / 32
  fld d 1 0 ≠ 0 && leader s n == n

/-- What a word for a stopped domain leaves: `st` and `s'` are its status and effect with the domain running (log 101). -/
def heldEffect (a : Access) (addr : Nat) (d : D28) (s : State) (st : BitVec 8) (s' : State) : BitVec 8 × State :=
  if isEdge addr then (sOk, holdWord addr d s)
  else if isCtl addr then
    (st, if ctlAsks s addr d then holdWord addr d (ownEffect a addr (d28 (4 * fld d 3 2)) s).2 else s')
  else if st ≠ sOk then (st, s')
  else (sOk, holdWord addr d (if mirrored addr then s' else s))

/-- Steps 6 and 7 of 14 R365, and the effect of a word that passes them. A word for a stopped domain is held and has no effect there while it waits (13 R348). -/
def effect (a : Access) (addr : Nat) (d : D28) (s : State) : BitVec 8 × State :=
  let (st, s') := ownEffect a addr d s
  if domainStopped s addr then heldEffect a addr d s st s' else (st, s')

/-! ### The judgement (14 R365, R326, R372) -/

/-- Steps 2, 4 and 5 as an ARM applies them to a pair; `none` when the pair passes. -/
def armJudge (h : Port) (addr : Nat) (s : State) : Option (BitVec 8) :=
  match classesAt s addr with
  | none => some sNoReg
  | some cs => if !mayWrite s h addr || !hasA cs then some sDenied else none

/-- A committed pair: steps 3, 6 and 7. -/
def commitPair (h : Port) (addr : Nat) (d : D28) (s : State) : BitVec 8 × State :=
  if resv (reservedAt s addr) d then (sFormat, s)
  else match armJudge h addr s with
    | some st => (st, s)
    | none => effect (.commit h) addr d s

/-- A word of a WRITE: steps 2 to 7. -/
def writeWord (h : Port) (addr : Nat) (d : D28) (s : State) : BitVec 8 × State :=
  match classesAt s addr with
  | none => (sNoReg, s)
  | some cs =>
    if resv (reservedAt s addr) d then (sFormat, s)
    else if !mayWrite s h addr || !hasDirect cs then (sDenied, s)
    else effect (.write h) addr d s

/-- A write through DBG_ACC: without step 4, class A refused at step 5 (14 R372). -/
def dbgWord (addr : Nat) (d : D28) (s : State) : BitVec 8 × State :=
  match classesAt s addr with
  | none => (sNoReg, s)
  | some cs =>
    if resv (reservedAt s addr) d then (sFormat, s)
    else if !hasDirect cs then (sDenied, s)
    else effect .dbg addr d s

/-- DEV_LASTWh takes a status that is neither OK nor DEFERRED: 1 WRITE, 2 ARM, 3 COMMIT (14 R370, R379). -/
def noteLast (h : Port) (src addr : Nat) (st : BitVec 8) (s : State) : State :=
  if st = sOk || st = sDeferred then s
  else onDev (fun d =>
    { d with last := d.last.modify h fun w => pack28 [(16, addr), (14, src), (8, sat 63 (fld w 13 8 + 1)), (0, st.toNat)] }) s

/-- A word of a WRITE with its record. -/
def hostWrite (h : Port) (addr : Nat) (d : D28) (s : State) : BitVec 8 × State :=
  let (st, s) := writeWord h addr d s
  (st, noteLast h 1 addr st s)

/-- A committed pair with its record. -/
def hostCommit (h : Port) (addr : Nat) (d : D28) (s : State) : BitVec 8 × State :=
  let (st, s) := commitPair h addr d s
  (st, noteLast h 3 addr st s)

/-- A pair from its ARM to its COMMIT. -/
def armCommit (h : Port) (addr : Nat) (d : D28) (s : State) : BitVec 8 × State :=
  match armJudge h addr s with
  | some st => (st, noteLast h 2 addr st s)
  | none => hostCommit h addr d s

/-- The port's session serves frames. -/
def linkUp (s : State) (h : Port) : Bool := s.coreRuns && (s.ses.get h).established

/-- An accepted token has a right: bit 2 WRITE, 1 READ, 0 HALT (09 R270). -/
def tokenRight (s : State) (i : Nat) : Bool :=
  match s.trust.token with
  | some r => r.getLsbD i
  | none => false

/-- The access can be made: an established session, or a token with WRITE. -/
def accessOpen (s : State) : Access → Bool
  | .write h => linkUp s h
  | .commit h => linkUp s h
  | .dbg => s.coreRuns && tokenRight s 2

/-- A word written through an access: its status and its effect (log 12). -/
def accessWord (a : Access) (addr : Nat) (d : D28) (s : State) : BitVec 8 × State :=
  match a with
  | .write h => hostWrite h addr d s
  | .commit h => armCommit h addr d s
  | .dbg => dbgWord addr d s

/-- A register-write row: where the access is open, the word acts and its status is kept. -/
def writeRow (a : Access) (addr : Nat) (d : D28) (s : State) : State :=
  if accessOpen s a then
    let (st, s) := accessWord a addr d s
    { s with status := st }
  else s

end Sys2Proof.Machine
end

