-- ==== Sys2Proof/Machine/Link.lean ====
section
/-! DEFINITION. The session link's shared operations: headers, authentication, sequence numbers, answers and refusals, session errors and teardown (11 R302 to R318, R335). -/

namespace Sys2Proof.Machine

/-! ### Headers (11 R302, R304, R305) -/

inductive FrameKind where
  | hello | key | read | write | arm | commit | retire | lease | handover | event
  deriving DecidableEq, Repr

/-- The kind that a header's DATA spells. -/
def frameKind (d : D28) : Option FrameKind :=
  if !bitAt d 27 then some .read
  else if !bitAt d 26 then some .write
  else match fld d 25 22 with
    | 0 => some .hello
    | 1 => some .key
    | 2 => some .arm
    | 3 => some .commit
    | 4 => some .retire
    | 5 => some .lease
    | 6 => some .handover
    | 7 => some .event
    | _ => none

def hdTag (d : D28) : Nat := fld d 14 10
def hdGen (d : D28) : BitVec 3 := BitVec.ofNat 3 (fld d 9 7)
def hdCount (d : D28) : Nat := fld d 6 0

/-- ADDR of a READ or a WRITE. -/
def hdAddr (k : FrameKind) (d : D28) : Nat := if k = .read then fld d 26 15 else fld d 25 15

/-- COUNT fixes a frame length (11 R302). -/
def countFixes (k : FrameKind) (c : Nat) : Bool :=
  match k with
  | .hello => c == 43
  | .key => c == 87
  | _ => 1 ≤ c && c ≤ 96

/-- Payload length of a request. -/
def payloadLen (k : FrameKind) (d : D28) : Nat := if k = .read then 0 else hdCount d

/-- A word that starts a frame of the kind. -/
def startsFrame (k : FrameKind) (w : W36) : Bool :=
  isData 0 w && frameKind (wData w) == some k && countFixes k (hdCount (wData w))

/-- HELLO and KEY carry CRC-32. -/
def carriesCrc (k : FrameKind) : Bool := k == .hello || k == .key

/-! ### Authentication (09 R266) -/

/-- DATA of the two authentication words of a MAC or a digest. -/
def macHalves (m : BitVec 56) : D28 × D28 := (d28 (m.toNat / 2 ^ 28), d28 m.toNat)

/-- DATA of the two authentication words of a CRC-32. -/
def crcHalves (c : Nat) : D28 × D28 := (d28 (c / 2 ^ 16), d28 (c % 2 ^ 16))

/-- The authentication input of a frame with payload length P: positions 0 to P + 1. -/
def authInput (ws : List W36) (p : Nat) : List Byte := pack (ws.take (p + 2))

/-- The frame's authentication words are data and carry the halves. -/
def authIs (ws : List W36) (p : Nat) (x : D28 × D28) : Bool :=
  let w2 := ws.getD (p + 2) 0
  let w3 := ws.getD (p + 3) 0
  isData (p + 2) w2 && isData (p + 3) w3 && wData w2 == x.1 && wData w3 == x.2

/-- What order 2 of 11 R312 finds: verified; verified only under keys that a renewal replaced; or failed. -/
inductive AuthCheck where
  | ok | oldKey | bad
  deriving DecidableEq, Repr

def authCheck (s : State) (e : Ses) (k : FrameKind) (ws : List W36) (p : Nat) : AuthCheck :=
  let input := authInput ws p
  if carriesCrc k then (if authIs ws p (crcHalves (crc32 input)) then .ok else .bad)
  else match e.established, e.keys with
    | true, some ks =>
      if authIs ws p (macHalves (mac56 ks.khd input)) then .ok
      else match e.oldKhd with
        | some (old, end_) => if s.now < end_ && authIs ws p (macHalves (mac56 old input)) then .oldKey else .bad
        | none => .bad
    | _, _ => .bad

/-! ### Sequence numbers (11 R309) -/

inductive SeqCheck where
  | accepted (rxseq : Nat) (marks : BitVec 32)
  | duplicate
  | outOfWindow
  deriving DecidableEq, Repr

/-- Bit i of the marks stands for H − i. -/
def seqCheck (h : Nat) (marks : BitVec 32) (x : Nat) : SeqCheck :=
  if h < x then
    if x ≤ h + 1024 then .accepted x (setBit (marks <<< (x - h)) 0) else .outOfWindow
  else if h < x + 32 then
    if marks.getLsbD (h - x) then .duplicate else .accepted h (setBit marks (h - x))
  else .outOfWindow

/-- SEQ and FLAGS of a trailer. -/
def trSeq (d : D28) : Nat := fld d 27 4
def trFlags (d : D28) : Nat := fld d 3 0

/-! ### Device frames (11 R306 to R308) -/

/-- DATA of a trailer that the device sends now. -/
def trailer (s : State) (h : Port) (seq : Nat) (refused overrun : Bool) : D28 :=
  pack28 [(4, seq), (3, b2n refused), (2, b2n overrun), (1, b2n (s.auth.holder == some h)), (0, b2n ((s.ses.get h).evs.any EvTag.out))]

/-- Header, payload and trailer of a device frame, at their positions. -/
def frameBody (header : D28) (payload : List W36) (tr : D28) : List W36 :=
  dataWord 0 header :: payload ++ [dataWord (payload.length + 1) tr]

/-- Header, payload, trailer and authentication words. -/
def frameOf (body : List W36) (x : D28 × D28) : List W36 :=
  body ++ [dataWord body.length x.1, dataWord (body.length + 1) x.2]

/-- The session engine moves up to `k` words of its frames, in their order, to a transmit queue that has room (10 R272, 11 R301). -/
def fillQueue : Nat → PortSt → PortSt
  | 0, q => q
  | k + 1, q =>
    if 8 ≤ q.txq.length then q
    else match q.rest, q.tx with
      | w :: r, _ => fillQueue k { q with txq := q.txq ++ [w], rest := r }
      | [], (w :: r) :: fs => fillQueue k { q with txq := q.txq ++ [w], rest := r, tx := fs }
      | [], _ => q

/-- A frame joins the port's stream, whole and behind the frames before it (11 R301). -/
def queueFrame (h : Port) (ws : List W36) (s : State) : State :=
  s.onPort h fun q => fillQueue 8 { q with tx := q.tx ++ [ws] }

/-- A MAC frame under KDH, with the next SEQ. -/
def sendMac (h : Port) (header : D28) (payload : List W36) (refused overrun : Bool) (s : State) : State :=
  let e := s.ses.get h
  match e.keys with
  | some ks =>
    let body := frameBody header payload (trailer s h e.txseq refused overrun)
    (queueFrame h (frameOf body (macHalves (mac56 ks.kdh (pack body)))) s).onSes h fun e => { e with txseq := e.txseq + 1 }
  | none => s

/-- A CRC-32 frame with a SEQ of the exchange's own. -/
def sendCrc (h : Port) (header : D28) (payload : List W36) (seq : Nat) (refused : Bool) (s : State) : State :=
  let body := frameBody header payload (trailer s h seq refused false)
  queueFrame h (frameOf body (crcHalves (crc32 (pack body)))) s

/-- The header of the answer to a request: reserved bits zero, COUNT the answer's. -/
def answerHeader (d : D28) (count : Nat) : D28 :=
  let top := if bitAt d 27 && bitAt d 26 then d.toNat / 2 ^ 22 * 2 ^ 22 + fld d 14 7 * 2 ^ 7 else d.toNat / 2 ^ 7 * 2 ^ 7
  d28 (top + count)

/-- Payload words of DATA values at positions 1 on. -/
def dataWords (ds : List D28) : List W36 := ds.mapIdx fun i d => dataWord (i + 1) d

/-- An answer of data words. -/
def answer (h : Port) (d : D28) (payload : List D28) (overrun : Bool) (s : State) : State :=
  sendMac h (answerHeader d payload.length) (dataWords payload) false overrun s

/-- A refusal (11 R306). -/
def refuse (h : Port) (d : D28) (reason : BitVec 8) (s : State) : State :=
  sendMac h (answerHeader d 1) [voidWord 1 reason] true false s

/-- A refusal of a HELLO, SEQ 0, or a KEY, SEQ 1. -/
def refuseCrc (h : Port) (d : D28) (seq : Nat) (reason : BitVec 8) (s : State) : State :=
  sendCrc h (answerHeader d 1) [voidWord 1 reason] seq true s

/-! ### Session errors and teardown (11 R311, R318) -/

/-- Teardown: H and the device's next SEQ return to zero with their numbering; a port that held authority stays its holder. -/
def teardown (h : Port) (s : State) : State :=
  let s := s.onSes h fun e =>
    { e with established := false, keys := none, oldKhd := none, xch := none, auth := false, inj := false, hostid := 0,
             rxseq := 0, marks := 0, txseq := 0, rxWarn := false, txWarn := false, ctxs := List.replicate 24 Ctx.reset,
             evs := List.replicate 6 EvTag.reset, armexp := 0, armsent := 0, leaseValid := false, leaseWarn := false,
             beatSeen := false, leaseSeen := false, errs := [], tearcnt := e.tearcnt + 1 }
  injLeave h (setSnap h none (putLatch (.host h) .dtime none (putLatch (.host h) .ftime none s)))

/-- A session error; the eighth within 100 ms tears the session down. A port without a session takes none. -/
def sessionError (h : Port) (s : State) : State :=
  let e := s.ses.get h
  if !e.established then s
  else
    let recent := e.errs.filter fun t => s.now ≤ t + 100000
    if 7 ≤ recent.length then teardown h s else s.onSes h fun e => { e with errs := s.now :: recent }

/-- The numbering's warning, of each direction once, and its end (11 R311). -/
def seqEnd (h : Port) (s : State) : State :=
  let e := s.ses.get h
  if !e.established then s
  else
    let rx := decide (0xF00000 < e.rxseq)
    let tx := decide (0xF00001 < e.txseq)
    let s := if (rx && !e.rxWarn) || (tx && !e.txWarn) then
        eventAt h 27 (s.onSes h fun e => { e with rxWarn := e.rxWarn || rx, txWarn := e.txWarn || tx })
      else s
    if 0xFFFFFF ≤ e.rxseq || 0xFFFFFF < e.txseq then teardown h s else s

/-- A FORMAT refusal at order 4 or by a type's own rule. -/
def refuseFormat (h : Port) (k : FrameKind) (d : D28) (s : State) : State :=
  let s := if carriesCrc k then refuseCrc h d (if k = .hello then 0 else 1) sFormat s else refuse h d sFormat s
  sessionError h (s.onSes h fun e => { e with fmterr := e.fmterr + 1 })

/-! ### Receiving a frame (11 R312) -/

/-- Words 1 to P of a frame. -/
def payloadOf (ws : List W36) (p : Nat) : List W36 := (ws.drop 1).take p

/-- Every payload word is data at its position. -/
def payloadData (ws : List W36) (p : Nat) : Bool := (List.range p).all fun i => isData (i + 1) (ws.getD (i + 1) 0)

/-- DATA of payload word i, counted from 0. -/
def payloadAt (ws : List W36) (i : Nat) : D28 := wData (ws.getD (i + 1) 0)

/-- COUNT, TAG, GEN and the payload suit the type (11 R305, R312 order 4). A payload word that is no data word in HELLO, KEY, COMMIT, LEASE or HANDOVER fails the whole frame here; RETIRE judges it entry by entry (log 85). A HELLO of another version than 1 fails here too (DESIGN CHOICE, log 171). -/
def typeOk (e : Ses) (now : Nat) (k : FrameKind) (d : D28) (ws : List W36) : Bool :=
  let c := hdCount d
  let noTag := hdTag d == 0 && hdGen d == 0
  let op := decide (hdTag d ≤ 23)
  match k with
  | .hello => noTag && payloadData ws 43 && payloadAt ws 0 == 0x1000000 &&
      [14, 28, 42].all fun i => fld (payloadAt ws i) 7 0 == 0
  | .key => noTag && payloadData ws 87 && ([72, 86].all fun i => fld (payloadAt ws i) 7 0 == 0) &&
      match e.xch with
      | some x => x.cert.isNone && decide (now ≤ x.at_ + 1000000)
      | none => false
  | .read | .write => op
  | .arm => op && c % 2 == 0
  | .commit => op && c == 2 && payloadData ws 2
  | .retire => noTag && c ≤ 32
  | .lease => noTag && c == 1 && payloadData ws 1 && fld (payloadAt ws 0) 27 24 == 0
  | .handover => noTag && c == 1 && payloadData ws 1 && fld (payloadAt ws 0) 27 2 == 0
  | .event => false

/-- Order 4 of 11 R312: the trailer, SEQ of HELLO and KEY (11 R310), reserved bits and the type's format. -/
def formatOk (e : Ses) (now : Nat) (k : FrameKind) (ws : List W36) (p : Nat) : Bool :=
  let d := wData (ws.getD 0 0)
  let tw := ws.getD (p + 1) 0
  let t := wData tw
  isData (p + 1) tw && trFlags t == 0 && (k == .read || k == .write || fld d 21 15 == 0) &&
    (if k = .hello then trSeq t == 0 else if k = .key then trSeq t == 1 else true) && typeOk e now k d ws

/-- Order 4 and the type's own rules. -/
def serveFormat (h : Port) (k : FrameKind) (ws : List W36) (p : Nat) (serve : D28 → State → State) (s : State) : State :=
  let d := wData (ws.getD 0 0)
  if formatOk (s.ses.get h) s.now k ws p then serve d s else refuseFormat h k d s

/-- Order 3 of 11 R312: SEQ, and what it leaves of the numbering. A trailer that is no data word has no SEQ to judge, since no void or corrupted word is used as a value (00 R12, log 136): H and the marks stand. -/
def seqOf (e : Ses) (ws : List W36) (p : Nat) : SeqCheck :=
  let tw := ws.getD (p + 1) 0
  if isData (p + 1) tw then seqCheck e.rxseq e.marks (trSeq (wData tw)) else .accepted e.rxseq e.marks

/-- Orders 1 to 4 of 11 R312 for a frame that has begun, then the type's own rules. -/
def judgeFrame (h : Port) (k : FrameKind) (ws : List W36) (serve : D28 → State → State) (s : State) : State :=
  let p := payloadLen k (wData (ws.getD 0 0))
  if ws.length < p + 4 then sessionError h (s.onSes h fun e => { e with partialCnt := e.partialCnt + 1 })
  else
    let e := s.ses.get h
    match authCheck s e k ws p with
    | .oldKey => s
    | .bad => sessionError h (s.onSes h fun e => { e with authfail := e.authfail + 1 })
    | .ok =>
      if carriesCrc k then serveFormat h k ws p serve s
      else match seqOf e ws p with
        | .duplicate => s.onSes h fun e => { e with dup := e.dup + 1 }
        | .outOfWindow => sessionError h (s.onSes h fun e => { e with oow := e.oow + 1 })
        | .accepted r m => serveFormat h k ws p serve (s.onSes h fun e => { e with rxseq := r, marks := m })

/-- Sets a bit of PORT_HhSTAT when the condition holds. -/
def statBit (i : Nat) (b : Bool) (q : PortSt) : PortSt := if b then { q with stat := setBit q.stat i } else q

/-! ### Words that leave (10 R272, R281, 11 R301) -/

/-- FILL, the word between frames (11 R301). -/
def fillWord : W36 := voidWord 0 sIdle

/-- The previous word is sent again (10 R281). -/
def repeatWord (q : PortSt) : PortSt := { statBit 0 true q with undercnt := q.undercnt + 1, line := q.line ++ [q.last] }

/-- One word is wholly sent: the next of the queue; with none, FILL while CORE runs, else the previous word again (11 R301, 10 R281, log 27). -/
def sendWord (core : Bool) (q : PortSt) : PortSt :=
  match q.txq with
  | w :: r =>
    let q := { q with txq := r, last := w, line := q.line ++ [w] }
    if core then fillQueue 1 q else q
  | [] => if core then { q with last := fillWord, line := q.line ++ [fillWord] } else repeatWord q

/-- Words are sent until `k` words of the window have left. -/
def sendTo (core : Bool) (k : Nat) (q : PortSt) : PortSt :=
  Nat.repeat (sendWord core) (k - q.line.length) q

/-- Words arrive in the open window: a word leaves for each that arrives, so that what the session engine queues after them leaves behind them (10 R272, log 123). -/
def hear (h : Port) (ws : List W36) (s : State) : State :=
  s.onPort h fun q => sendTo true (q.heard + ws.length) { q with heard := q.heard + ws.length }

/-- A received word enters a receive queue that nothing drains, or is dropped with OVERRUN when eight words stand in it (10 R272, R273). -/
def arriveWord (q : PortSt) (w : W36) : PortSt := if q.rxq.length < 8 then { q with rxq := q.rxq ++ [w] } else statBit 1 true q

/-- The port transfers words that no session engine takes: CORE has stopped (10 R273). -/
def undrained (s : State) (h : Port) : Bool := !s.coreRuns && s.sup.ritesWait.isNone && transferring (s.ports.get h)

/-- A frame of a kind arrives on port `h`; what does not start a frame of that kind is skipped (11 R302). With CORE stopped its words stay in the receive queue as far as there is room. -/
def receive (h : Port) (k : FrameKind) (ws : List W36) (serve : D28 → State → State) (s : State) : State :=
  if receiving s h then
    if startsFrame k (ws.getD 0 0) then seqEnd h (judgeFrame h k ws serve (hear h ws s)) else hear h ws s
  else if undrained s h then s.onPort h fun q => ws.foldl arriveWord q
  else s

/-! ### Contexts and arms (11 R319, R320, R328) -/

def ctxAt (e : Ses) (t : Nat) : Ctx := e.ctxs.getD t Ctx.reset

def setCtx (h : Port) (t : Nat) (c : Ctx) (s : State) : State := s.onSes h fun e => { e with ctxs := e.ctxs.set t c }

/-- A new operation, orders 5 to 7 of 11 R312; an accepted one occupies its context with L := GEN. -/
def newOp (h : Port) (d : D28) (serve : State → State) (s : State) : State :=
  let e := s.ses.get h
  let c := ctxAt e (hdTag d)
  let diff := hdGen d - c.gen
  if (diff ≠ 0 && diff ≠ 1) || (!ctxBusy c && diff = 0) then s.onSes h fun e => { e with stalegen := e.stalegen + 1 }
  else if occupied e = 24 then refuse h d sCtxFull (s.onSes h fun e => { e with ctxRefused := e.ctxRefused + 1 })
  else if ctxBusy c then refuse h d sTagBusy (s.onSes h fun e => { e with tagRefused := e.tagRefused + 1 })
  else serve (setCtx h (hdTag d) ⟨.done, hdGen d⟩ s)

/-- Discards every arm of a port; the ARMEXP event names the tags (11 R328). -/
def discardArms (h : Port) (s : State) : State :=
  let e := s.ses.get h
  let mask : BitVec 24 := maskOf 24 fun t => ctxArmed (ctxAt e t)
  if mask = 0 then s
  else eventAt h 28 (s.onSes h fun e =>
    { e with ctxs := e.ctxs.map fun c => if ctxArmed c then { c with state := .done } else c, armexp := e.armexp ||| mask })

end Sys2Proof.Machine
end

