-- ==== Sys2Proof/Machine/Ports.lean ====
section
/-! DEFINITION. The host ports' windows, H0's recovery mode, and DBG_ACC (10 R272 to R288, 14 R371, R372). -/

namespace Sys2Proof.Machine

/-! ### Windows (10 R277 to R283, R288) -/

/-- The port is served: in normal service from structure application on, before it H0 alone, from PLL lock (10 R284). -/
def served (s : State) (h : Port) : Bool := s.dev.struct || (h == .h0 && s.clocked)

/-- Select falls: a committed BITS takes effect, service becomes normal when structure is applied, and a fall before the gap time makes an ignored window, with GAPVIOL on a port that is served. An ignored fall takes a committed BITS and begins normal service as another does (DESIGN CHOICE, log 167). -/
def openSelect (struct serves gapKept : Bool) (q : PortSt) : PortSt :=
  { q with sel := true, ignored := !gapKept, stat := putBit q.stat 6 (q.stat.getLsbD 6 || (serves && !gapKept)),
           normal := q.normal || struct, len := q.lenNext.getD q.len, lenNext := none, ended := false, line := [], heard := 0 }

def execSelectFall (h : Port) (gapKept : Bool) (s : State) : Host.Outcome State Fault Refusal :=
  done (if portSeen s h && !(s.ports.get h).sel then
      let s := s.onPort h (openSelect s.dev.struct (served s h) gapKept)
      if h == .h0 then { s with recovery := { s.recovery with taken := false } } else s
    else s)

/-- Bits per window. -/
def PortSt.windowBits (q : PortSt) : Nat := fld q.len 11 0

/-- A window that ends after k bits of a word: those bits right-aligned make a truncated word for the session engine; the word being sent and the queued ones are flushed, with the rest of a frame that they cut (10 R282, R283, 11 R303, log 11). The word being sent is the queue's first, or with `again` the previous word, repeated for want of one (R281). The cut word is not the window's last word: a queue found empty later repeats the last word wholly sent (DESIGN CHOICE, log 156). Of FILL only the word being sent counts in TXLOST (DESIGN CHOICE, log 166). -/
def cutWindow (core again : Bool) (k : Nat) (tail : W36) (q : PortSt) : PortSt :=
  let q := if again then q else { q with txq := q.txq.drop 1 }
  let q := if core then fillQueue 1 q else q
  let q := { statBit 3 true (statBit 2 true q) with
    trunccnt := q.trunccnt + 1, txlost := 1 + q.txq.length, txq := [], rest := [], cutWord := some (BitVec.ofNat 36 (tail.toNat % 2 ^ k)) }
  if core then fillQueue 8 q else q

/-- The end of a window in normal service, at the rise of select or at BITS. A repeated word that TX_UNDERRUN has begun and that the window does not hold whole is the one being sent. -/
def endWindow (core : Bool) (w : WindowEnd) (q : PortSt) : PortSt :=
  let bits := min w.bits q.windowBits
  let again := decide (bits / 36 < q.line.length)
  let q := sendTo core (bits / 36) { q with line := q.line.take (bits / 36) }
  if bits % 36 ≠ 0 then cutWindow core again (bits % 36) w.tail q else q

/-- A window of normal service ends: edges within the lead time are recorded under host clocking, and a host frame begun and not ended is discarded (11 R303). -/
def windowOver (h : Port) (w : WindowEnd) (s : State) : State :=
  let s := s.onPort h fun q => endWindow s.coreRuns w (statBit 4 (hostClocked q && w.early) q)
  if w.inFrame && s.coreRuns then sessionError h (s.onSes h fun e => { e with partialCnt := e.partialCnt + 1 }) else s

/-- BITS has been reached with select still low: the window ends, and later edges are neither sampled nor answered (10 R279, R282). -/
def bitsReached (h : Port) (w : WindowEnd) (s : State) : State :=
  let q := s.ports.get h
  if transferring q && q.windowBits ≤ w.bits then windowOver h w (s.onPort h fun q => { q with ended := true }) else s

/-- Select rises, and a window that BITS has not ended ends with it. A short lag, and edges beyond BITS, are recorded under host clocking. -/
def selectRise (h : Port) (w : WindowEnd) (s : State) : State :=
  let q := s.ports.get h
  let s := s.onPort h fun q => { q with sel := false, ignored := false, ended := false }
  if q.ignored || (!q.normal && h = .h1) then s
  else
    let s := s.onPort h fun q => statBit 5 (hostClocked q && w.lagShort) q
    if !q.normal then s.onPort h fun q => statBit 4 w.early q
    else
      let s := s.onPort h fun q => statBit 7 (hostClocked q && q.windowBits < w.bits) q
      if q.ended then s else windowOver h w s

/-- A window ends, with the rise of select or before it. -/
def execSelectRise (h : Port) (w : WindowEnd) (s : State) : Host.Outcome State Fault Refusal :=
  done (if portSeen s h && (s.ports.get h).sel then seqEnd h (if w.rise then selectRise h w s else bitsReached h w s) else s)

/-- A word arrives that the session engine does not take (10 R273). -/
def execRxOverrun (a : Arrival) (s : State) : Host.Outcome State Fault Refusal :=
  done (if undrained s a.port then s.onPort a.port fun q => arriveWord q a.word else s)

/-- No word of a frame waits to be sent: none is queued, and the session engine has none on its way. -/
def nothingWaits (q : PortSt) : Bool := q.txq.isEmpty && q.rest.isEmpty && q.tx.isEmpty

/-- A word boundary after `sent` words finds the transmit queue empty. With CORE running the next word of a frame is late, whichever word it is: the previous one is sent again, and the words that follow keep their order, each one position later (10 R281, log 27); with no frame on its way FILL is queued (11 R301). With CORE stopped the words already queued are sent first. -/
def lateWord (core : Bool) (sent : Nat) (q : PortSt) : PortSt :=
  let q' := sendTo core sent q
  if if core then nothingWaits q' else !q'.txq.isEmpty then q else repeatWord q'

def execTxUnderrun (b : Boundary) (s : State) : Host.Outcome State Fault Refusal :=
  done (if transferring (s.ports.get b.port) && s.sup.ritesWait.isNone then s.onPort b.port (lateWord s.coreRuns b.sent) else s)

/-! ### Recovery mode (10 R285 to R287) -/

def onRecovery (f : Recovery → Recovery) (s : State) : State := { s with recovery := f s.recovery }

/-- The window has had no transfer yet: one is served (10 R284). -/
def transferOpen (s : State) : Bool := recoveryServed s && !s.recovery.taken

/-- Words of a RDREG, each with its own address; past 0xFFF the address enters CHK modulo 4,096 (log 86). -/
def recoveryRun (a count : Nat) (s : State) : List W36 × State :=
  if 0x800 ≤ a then
    ((List.range count).map fun i => voidWord (a + i) (if blockEnd a < a + i then sNoReg else sDenied), s)
  else
    let (ws, s) := readRun (.host .h0) a count s
    (ws.mapIdx fun i w => asWord (a + i) w, s)

def execRdreg (addr : BitVec 12) (count : Nat) (s : State) : Host.Outcome State Fault Refusal :=
  done <|
    if transferOpen s then
      let (ws, s) := recoveryRun addr.toNat count s
      onRecovery (fun r => { r with cmd := 0x0B, out := ws, taken := true }) s
    else s

/-- Status of a WRREG and its effect. -/
def recoveryWrite (w : RecoveryWrite) (r : ReelRead) (s : State) : BitVec 8 × State :=
  match w.addr, w.word with
  | some a, some x =>
    if !isData a.toNat x then (sFormat, s)
    else if a.toNat = 0x782 then writeProv (wData x) r s
    else (sDenied, s)
  | _, _ => (sFormat, s)

def execWrreg (w : RecoveryWrite) (r : ReelRead) (s : State) : Host.Outcome State Fault Refusal :=
  done <|
    if transferOpen s then
      let (st, s) := recoveryWrite w r s
      onRecovery (fun v => { v with cmd := 0x02, status := st, out := [], taken := true }) s
    else s

/-- RDSTAT is itself the last command received when its status word leaves. Before any WRREG since reset the status is 0x00 (DESIGN CHOICE, log 155). -/
def execRdstat (s : State) : Host.Outcome State Fault Refusal :=
  done <|
    if transferOpen s then
      onRecovery (fun r => { r with cmd := 0x05, out := [dataWord 0 (pack28 [(8, 0x05), (0, r.status.toNat)])], taken := true }) s
    else s

/-- Any other command: the window is ignored to its end; 0x0B, 0x02 and 0x05 are other rows' commands. -/
def execRecoveryOtherCommand (cmd : BitVec 8) (s : State) : Host.Outcome State Fault Refusal :=
  done <|
    if transferOpen s && recoveryKind cmd == .other then onRecovery (fun r => { r with cmd := cmd, out := [], taken := true }) s
    else s

/-! ### DBG_ACC (14 R371, R372) -/

/-- The two words captured after an access. -/
def dbgCapture (addr : Nat) (st : BitVec 8) (w1 : W36) (s : State) : State :=
  onTap (fun t => { t with out := [dataWord 0 (pack28 [(16, addr), (0, st.toNat)]), w1] }) s

/-- An access at Update-DR: refused with FORMAT or DENIED, or a read or a write. -/
def dbgAccess (w0 w1 : W36) (s : State) : State :=
  let d := wData w0
  let (a, s) := namedAddr 0 w0 s
  let zero := dataWord 1 0
  if !isData 0 w0 || !isData 1 w1 then dbgCapture a sFormat zero s
  else if fld d 26 12 ≠ 0 || !tokenRight s (if bitAt d 27 then 2 else 1) then dbgCapture a sDenied zero s
  else if bitAt d 27 then
    let (st, s) := dbgWord a (wData w1) s
    dbgCapture a st zero s
  else
    let (r, s) := readReg .dbg a s
    dbgCapture a sOk (asWord 1 r) s

def execDbgAcc (w0 w1 : W36) (s : State) : Host.Outcome State Fault Refusal :=
  let s := loadOpcode 0x12 s
  done (if s.coreRuns then dbgAccess w0 w1 s else s)

end Sys2Proof.Machine
end

