-- ==== Sys2Proof/Machine/Registers.lean ====
section
/-! DEFINITION. The rows that write one register word, each through the judgement of 14 R365, and the rows that read a two-word quantity (14 R364). -/

namespace Sys2Proof.Machine

/-- CH_RETIRE (02 R58). -/
def execChRetire (h : Port) (n : Fin 12) (data : D28) (s : State) : Host.Outcome State Fault Refusal :=
  done (writeRow (.commit h) (0x21F + 32 * n) data s)

/-- CTL_ON (03 R60): CHn_CTL with ON alone, so that a bridge leader's BRCMD is staged as COAST. -/
def execCtlOn (a : Access) (n : Fin 12) (s : State) : Host.Outcome State Fault Refusal :=
  done (writeRow a (0x200 + 32 * n) 0x0000001 s)

/-- CTL_OFF (03 R60): CHn_CTL with OFF alone. -/
def execCtlOff (a : Access) (n : Fin 12) (s : State) : Host.Outcome State Fault Refusal :=
  done (writeRow a (0x200 + 32 * n) 0x0000002 s)

/-- BRCMD_WRITE (03 R85). -/
def execBrcmdWrite (a : Access) (n : Fin 12) (cmd : BitVec 2) (s : State) : Host.Outcome State Fault Refusal :=
  done (writeRow a (0x200 + 32 * n) (d28 (4 * cmd.toNat)) s)

/-- CLAPPER (04 R100). -/
def execClapper (a : Access) (mask : BitVec 20) (s : State) : Host.Outcome State Fault Refusal :=
  done (writeRow a 0x1A0 (d28 mask.toNat) s)

/-- CLAP_UNR (04 R100). -/
def execClapUnr (a : Access) (s : State) : Host.Outcome State Fault Refusal :=
  done (writeRow a 0x1A0 0x0100000 s)

/-- TMR_PER_WRITE (04 R89). -/
def execTmrPerWrite (a : Access) (t : Fin 20) (data : D28) (s : State) : Host.Outcome State Fault Refusal :=
  done (writeRow a (0x101 + 8 * t) data s)

/-- TMR_EDGE_WRITE (04 R96). -/
def execTmrEdgeWrite (a : Access) (t : Fin 20) (data : D28) (s : State) : Host.Outcome State Fault Refusal :=
  done (writeRow a (0x104 + 8 * t) data s)

/-- MEAS_ZERO (05 R128). -/
def execMeasZero (h : Port) (data : D28) (s : State) : Host.Outcome State Fault Refusal :=
  done (writeRow (.commit h) 0x3CC data s)

/-- MEAS_CALSEL (05 R129). -/
def execMeasCalsel (a : Access) (data : D28) (s : State) : Host.Outcome State Fault Refusal :=
  done (writeRow a 0x3CE data s)

/-- SNAPSHOT (05 R136). -/
def execSnapshot (a : Access) (seg : Bool) (s : State) : Host.Outcome State Fault Refusal :=
  done (writeRow a 0x3C0 (if seg then 0x0000005 else 0x0000001) s)

/-- SNAPSHOT_RELEASE (05 R137). -/
def execSnapshotRelease (a : Access) (s : State) : Host.Outcome State Fault Refusal :=
  done (writeRow a 0x3C0 0x0000002 s)

/-- FRESH_COMMIT (05 R138). -/
def execFreshCommit (h : Port) (k : Fin 8) (data : D28) (s : State) : Host.Outcome State Fault Refusal :=
  done (writeRow (.commit h) (0x3C4 + k) data s)

/-- LIMP_EXIT (06 R174). -/
def execLimpExit (h : Port) (data : D28) (s : State) : Host.Outcome State Fault Refusal :=
  done (writeRow (.commit h) 0x3A1 data s)

/-- ILIM_WRITE (06 R176). -/
def execIlimWrite (a : Access) (n : Fin 12) (data : D28) (s : State) : Host.Outcome State Fault Refusal :=
  done (writeRow a (0x204 + 32 * n) data s)

/-- SCTH_COMMIT (06 R177). -/
def execScthCommit (h : Port) (n : Fin 12) (data : D28) (s : State) : Host.Outcome State Fault Refusal :=
  done (writeRow (.commit h) (0x205 + 32 * n) data s)

/-- I2T_COMMIT (06 R178). -/
def execI2tCommit (h : Port) (n : Fin 12) (data : D28) (s : State) : Host.Outcome State Fault Refusal :=
  done (writeRow (.commit h) (0x206 + 32 * n) data s)

/-- FLT_ACK (07 R208). -/
def execFltAck (h : Port) (data : D28) (s : State) : Host.Outcome State Fault Refusal :=
  done (writeRow (.commit h) 0x084 data s)

/-- INJ_UNLOCK (07 R214). -/
def execInjUnlock (h : Port) (data : D28) (s : State) : Host.Outcome State Fault Refusal :=
  done (writeRow (.commit h) 0x086 data s)

/-- FLT_FORCE (07 R215). -/
def execFltForce (h : Port) (w : Fin 5) (data : D28) (s : State) : Host.Outcome State Fault Refusal :=
  done (writeRow (.commit h) (0x0A4 + w) data s)

/-- LOG_FETCH (15 R403). -/
def execLogFetch (a : Access) (data : D28) (s : State) : Host.Outcome State Fault Refusal :=
  done (writeRow a 0x6C3 data s)

/-- ARB_ADVANCE (09 R257). -/
def execArbAdvance (h : Port) (data : D28) (s : State) : Host.Outcome State Fault Refusal :=
  done (writeRow (.commit h) 0x781 data s)

/-- FPAGE_SELECT (10 R296). -/
def execFpageSelect (a : Access) (data : D28) (s : State) : Host.Outcome State Fault Refusal :=
  done (writeRow a 0x740 data s)

/-- PORT_LEN_COMMIT (10 R279). -/
def execPortLenCommit (h p : Port) (data : D28) (s : State) : Host.Outcome State Fault Refusal :=
  done (writeRow (.commit h) (0x702 + 16 * portIx p) data s)

/-- BIST_STARTUP (16 R421). -/
def execBistStartup (a : Access) (s : State) : Host.Outcome State Fault Refusal :=
  done (writeRow a 0x680 0x0000080 s)

/-- BIST_ABORT (16 R421). -/
def execBistAbort (a : Access) (s : State) : Host.Outcome State Fault Refusal :=
  done (writeRow a 0x680 0x0000040 s)

/-- BIST_RUN (16 R421). -/
def execBistRun (a : Access) (test : Fin 32) (s : State) : Host.Outcome State Fault Refusal :=
  done (writeRow a 0x680 (d28 (32 + test)) s)

/-- REGISTER_WRITE (14 R366). -/
def execRegisterWrite (a : Access) (addr : BitVec 12) (data : D28) (s : State) : Host.Outcome State Fault Refusal :=
  done (writeRow a addr.toNat data s)

/-- A reading path is open: a port's session, H0 in recovery mode, or a token with READ. -/
def pathOpen (s : State) : Path → Bool
  | .host h => linkUp s h || (h == .h0 && recoveryServed s)
  | .dbg => s.coreRuns && tokenRight s 1

/-- LOW_WORD_READ (14 R364). -/
def execLowWordRead (p : Path) (q : Quantity) (s : State) : Host.Outcome State Fault Refusal :=
  done <|
    if pathOpen s p then
      let (d, s) := readLow p q s
      { s with lastRead := some (.data d) }
    else s

/-- HIGH_WORD_READ (14 R364). -/
def execHighWordRead (p : Path) (q : Quantity) (s : State) : Host.Outcome State Fault Refusal :=
  done <|
    if pathOpen s p then
      let (d, s) := readHigh p q s
      { s with lastRead := some (.data d) }
    else s

end Sys2Proof.Machine
end

