-- ==== Sys2Proof/Machine/Session.lean ====
section
/-! DEFINITION. The session link's commands: the exchange of keys, operations, leases, write authority and events (09 R261 to R267, 11 R315 to R334). -/

namespace Sys2Proof.Machine

/-! ### HELLO (09 R263) -/

/-- The host's ephemeral key in the payload of M1. -/
def helloKey (m1 : List D28) : Nat × Nat := (join384 (group14 m1 15 0), join384 (group14 m1 15 1))

/-- Payload of M2: DV, ND and QD. -/
def m2Payload (h : Port) (nd : BitVec 384) (qd : Nat × Nat) : List D28 :=
  pack28 [(24, 1), (23, portIx h)] :: (split384 nd.toNat ++ split384 qd.1 ++ split384 qd.2)

def setFail (h : Port) (code : BitVec 4) (s : State) : State := s.onSes h fun e => { e with fail := code }

/-- A HELLO that passes its format: an exchange pending is dropped, and a new one begins when there is an owner key, a start key and a valid QH. CRYPTO gives way to one that needs the engines (16 R417). -/
def serveHello (h : Port) (ws : List W36) (d : D28) (s : State) : State :=
  let m1 := (payloadOf ws 43).map wData
  let qh := helloKey m1
  let s := s.onSes h fun e => { e with xch := none }
  match s.trust.owner, s.trust.key with
  | none, _ => setFail h 8 s
  | some _, none => s
  | some _, some (priv, pub) =>
    let s := takeUnits true false false s
    if !onCurve qh then setFail h 1 s
    else
      let (nd, s) := s.draw
      let m2 := m2Payload h nd pub
      let x : Exchange := ⟨m1, m2, ecdh priv qh, BitVec.ofNat 384 (join384 (group14 m1 1 0)), nd, s.now, none⟩
      sendCrc h (answerHeader d 43) (dataWords m2) 0 false (s.onSes h fun e => { e with xch := some x })

def execHello (h : Port) (ws : List W36) (s : State) : Host.Outcome State Fault Refusal :=
  done (receive h .hello ws (serveHello h ws) s)

/-! ### KEY (09 R261 to R265, 11 R315) -/

/-- A KEY that passes its format: the certificate and SIGT wait for their checks. CRYPTO gives way (16 R417). -/
def serveKey (h : Port) (ws : List W36) (_ : D28) (s : State) : State :=
  takeUnits true false true
    (s.onSes h fun e => { e with xch := e.xch.map fun x => { x with cert := some ((payloadOf ws 87).map wData) } })

def execKey (h : Port) (ws : List W36) (s : State) : Host.Outcome State Fault Refusal :=
  done (receive h .key ws (serveKey h ws) s)

/-- Order 1 of 09 R262. -/
def certFormat (c : List D28) : Bool :=
  fld (dw c 0) 27 12 == 0xC3A7 && fld (dw c 0) 11 8 == 1 && fld (dw c 0) 7 0 == 0 && arbFormat (dw c 1) && fld (dw c 1) 9 0 == 0 &&
    fld (dw c 2) 7 0 == 0 && [16, 30, 44, 58].all fun i => fld (dw c i) 7 0 == 0

/-- The host's static key. -/
def certKey (c : List D28) : Nat × Nat := (join384 (group14 c 3 0), join384 (group14 c 3 1))

/-- The transcript T (09 R264). -/
def transcript (x : Exchange) (c : List D28) : List Byte := packData (x.m1 ++ x.m2 ++ c.take 59)

/-- FAIL of a certificate and SIGT: 0 when every check passes (09 R262, R264). -/
def keyVerdict (s : State) (h : Port) (x : Exchange) (c : List D28) : BitVec 4 :=
  if !certFormat c then 2
  else if !onCurve (certKey c) then 3
  else match s.trust.owner with
    | none => 4
    | some o =>
      if !ecdsaVerify o (packData (c.take 31)) (join384 (group14 c 31 0)) (join384 (group14 c 31 1)) then 4
      else if !arbAdmits s (dw c 1) then 5
      else if !bitAt (dw c 1) (if h = .h0 then 12 else 13) then 6
      else if !ecdsaVerify (certKey c) (transcript x c) (join384 (group14 c 59 0)) (join384 (group14 c 59 1)) then 7
      else 0

/-- The session's keys (09 R265). -/
def sessionKeys (x : Exchange) (c : List D28) : Keys :=
  let info := [0x4c, 0x53, 0x4c, 0x31] ++ bytesBE 48 (sha384 (transcript x c)).toNat
  let okm := hkdf32 (bytesBE 48 x.nh.toNat ++ bytesBE 48 x.nd.toNat) (bytesBE 48 x.z.toNat) info
  ⟨BitVec.ofNat 128 (ofBytesBE (okm.take 16)), BitVec.ofNat 128 (ofBytesBE (okm.drop 16))⟩

/-- New keys, SEQ numbering and rights at M4 (11 R308, R316, 09 R267). -/
def takeKeys (h : Port) (x : Exchange) (c : List D28) (s : State) : State :=
  let c1 := dw c 1
  s.onSes h fun e =>
    { e with oldKhd := if e.established then e.keys.map fun k => (k.khd, s.now + 1000) else none, keys := some (sessionKeys x c),
             xch := none, established := true, auth := bitAt c1 11, inj := bitAt c1 10, hostid := BitVec.ofNat 20 (fld (dw c 2) 27 8),
             rxseq := 1, marks := 3, txseq := 1, rxWarn := false, txWarn := false, beatSeen := false }

/-- Authority as M4 leaves it (11 R316, R317): released when the holder's certificate has AUTH 0, granted to a fresh session that may have it, which ends an injection that the other port unlocked (07 R214). -/
def m4Authority (h : Port) (fresh certAuth : Bool) (s : State) : State :=
  let holds := s.auth.holder = some h
  let primary : Port := if bitAt s.auth.cfg 16 then .h1 else .h0
  if holds && !certAuth then event 26 (discardArms h { s with auth := { s.auth with holder := none } })
  else if fresh && certAuth && (holds || (s.auth.holder = none && h = primary)) then
    event 26 (injLeave (otherPort h) { s with auth := { s.auth with holder := some h, granted := true } })
  else s

/-- A session that is not a renewal starts with free contexts, L = 7, no events, and a full lease (11 R319, R330), which GUARD takes while it runs (13 R344, log 101). -/
def freshSession (h : Port) (s : State) : State :=
  s.onSes h fun e =>
    { e with ctxs := List.replicate 24 Ctx.reset, evs := List.replicate 6 EvTag.reset, armexp := 0, armsent := 0, leaseValid := !s.clk.guardStop,
             leaseAt := guardNow s, leaseWarn := false, leaseSeen := false, errs := [] }

/-- What M4 of a session that is not a renewal sends beside it (11 R334). -/
def startingEvents (h : Port) (s : State) : State :=
  let s := if s.flt.first.valid then eventAt h 24 s else s
  if s.limp.active then eventAt h 25 s else s

/-- M4: the session or its renewal is established, and the answer leaves under the new KDH with SEQ 1. -/
def establish (h : Port) (x : Exchange) (c : List D28) (s : State) : State :=
  let fresh := !(s.ses.get h).established
  let s := takeKeys h x c s
  let s := if fresh then freshSession h s else s
  let s := m4Authority h fresh (bitAt (dw c 1) 11) s
  let m4 := pack28 [(27, b2n (s.auth.holder == some h)), (16, fld s.auth.cfg 27 17)]
  let s := sendMac h (pack28 [(26, 3), (22, 1), (0, 1)]) (dataWords [m4]) false false s
  if fresh then startingEvents h s else s

/-- The processing of a KEY ends (09 R263): M4, or a failure that ends the exchange. -/
def keyComplete (h : Port) (s : State) : State :=
  match (s.ses.get h).xch with
  | some x => match x.cert with
    | some c =>
      let v := keyVerdict s h x c
      if v = 0 then establish h x c s
      else sessionError h (s.onSes h fun e => { e with fail := v, xch := none, authfail := e.authfail + 1 })
    | none => s
  | none => s

def execKeyComplete (h : Port) (s : State) : Host.Outcome State Fault Refusal :=
  done (if s.coreRuns then unitsServed false (keyComplete h s) else s)

/-- One second has passed since M2 without a KEY (11 R315); the session engine stops with CORE (13 R344). -/
def execExchangeTimeout (h : Port) (s : State) : Host.Outcome State Fault Refusal :=
  done <| match (s.ses.get h).xch with
    | some x => if x.cert.isNone && s.since x.at_ 1000000 && !s.clk.coreStop then s.onSes h fun e => { e with xch := none } else s
    | none => s

/-- 1 ms has passed since a renewal's M4 (11 R316); the session engine stops with CORE (13 R344). -/
def execOldKeyWindowEnd (h : Port) (s : State) : Host.Outcome State Fault Refusal :=
  done <| match (s.ses.get h).oldKhd with
    | some (_, end_) => if s.since end_ 0 && !s.clk.coreStop then s.onSes h fun e => { e with oldKhd := none } else s
    | none => s

/-! ### READ and WRITE (11 R322 to R324) -/

/-- The request of `count` words from `addr` runs past its block's end. -/
def overruns (addr count : Nat) : Bool := decide (blockEnd addr < addr + count - 1)

def serveRead (h : Port) (d : D28) (s : State) : State :=
  newOp h d (fun s =>
    let a := hdAddr .read d
    let (ws, s) := readRun (.host h) a (hdCount d) s
    sendMac h (answerHeader d (hdCount d)) (ws.mapIdx fun i w => asWord (i + 1) w) false (overruns a (hdCount d)) s) s

def execRead (h : Port) (ws : List W36) (s : State) : Host.Outcome State Fault Refusal :=
  done (receive h .read ws (serveRead h) s)

/-- A status word of a WRITE or a COMMIT. -/
def statusWord (addr : Nat) (st : BitVec 8) : D28 := pack28 [(16, addr), (0, st.toNat)]

/-- One payload word of a WRITE, at frame position `pos`: step 1 of 14 R365, then step 2 past the block's end. -/
def writePayload (h : Port) (first pos : Nat) (w : W36) (s : State) : D28 × State :=
  let a := first + pos - 1
  let (st, s) :=
    if !isData pos w then (sFormat, noteLast h 1 a sFormat s)
    else if blockEnd first < a then (sNoReg, noteLast h 1 a sNoReg s)
    else hostWrite h a (wData w) s
  (statusWord (a % 4096) st, s)

/-- Words in order, each with its result. -/
def mapState {α β : Type} (f : Nat → α → State → β × State) : Nat → List α → State → List β × State
  | _, [], s => ([], s)
  | i, a :: r, s =>
    let (b, s) := f i a s
    let (bs, s) := mapState f (i + 1) r s
    (b :: bs, s)

def serveWrite (h : Port) (ws : List W36) (d : D28) (s : State) : State :=
  newOp h d (fun s =>
    let a := hdAddr .write d
    let (sts, s) := mapState (writePayload h a) 1 (payloadOf ws (hdCount d)) s
    answer h d sts (overruns a (hdCount d)) s) s

def execWrite (h : Port) (ws : List W36) (s : State) : Host.Outcome State Fault Refusal :=
  done (receive h .write ws (serveWrite h ws) s)

/-! ### ARM and COMMIT (11 R326 to R328) -/

/-- The words of a payload as pairs. -/
def pairsOf : List W36 → List (W36 × W36)
  | a :: v :: r => (a, v) :: pairsOf r
  | _ => []

/-- Judgement of pair i of an ARM, at positions 2 i + 1 and 2 i + 2, and the address that its status names. -/
def armPair (h : Port) (i : Nat) (p : W36 × W36) (s : State) : (BitVec 12 × BitVec 8) × State :=
  let (a, s) := namedAddr (2 * i + 1) p.1 s
  let st :=
    if !isData (2 * i + 1) p.1 || !isData (2 * i + 2) p.2 || fld (wData p.1) 27 12 ≠ 0 then sFormat
    else (armJudge h a s).getD sOk
  ((BitVec.ofNat 12 a, st), noteLast h 2 a st s)

/-- The ARM digest, over the request's authentication input (09 R266). -/
def armDigest (e : Ses) (ws : List W36) (p : Nat) : BitVec 56 :=
  match e.keys with
  | some k => mac56 k.kdh (authInput ws p)
  | none => 0

def serveArm (h : Port) (ws : List W36) (d : D28) (s : State) : State :=
  newOp h d (fun s =>
    let ps := pairsOf (payloadOf ws (hdCount d))
    let (js, s) := mapState (armPair h) 0 ps s
    let sts := js.map fun j => statusWord j.1.toNat j.2
    if js.all fun j => j.2 = sOk then
      let dig := armDigest (s.ses.get h) ws (hdCount d)
      let arm := ps.map fun p => (BitVec.ofNat 12 (fld (wData p.1) 11 0), p.2)
      answer h d (sts ++ [(macHalves dig).1, (macHalves dig).2]) false
        (setCtx h (hdTag d) ⟨.armed arm dig 0, hdGen d⟩ s)
    else answer h d (sts ++ [0, 0]) false s) s

def execArm (h : Port) (ws : List W36) (s : State) : Host.Outcome State Fault Refusal :=
  done (receive h .arm ws (serveArm h ws) s)

/-- A pair of an accepted COMMIT. -/
def commitPayload (h : Port) (_ : Nat) (p : BitVec 12 × W36) (s : State) : D28 × State :=
  let (st, s) := hostCommit h p.1.toNat (wData p.2) s
  (statusWord p.1.toNat st, s)

/-- The arm of a tag is discarded after its 5 ms, and the ARMEXP event names it (11 R328). -/
def expireArm (h : Port) (t : Nat) (s : State) : State :=
  eventAt h 28 ((setCtx h t ⟨.done, (ctxAt (s.ses.get h) t).gen⟩ s).onSes h fun e => { e with armexp := setBit e.armexp t })

/-- A COMMIT; one that comes after the arm's 5 ms finds it discarded (11 R327, R328). -/
def serveCommit (h : Port) (ws : List W36) (d : D28) (s : State) : State :=
  let e := s.ses.get h
  let t := hdTag d
  let c := ctxAt e t
  if hdGen d ≠ c.gen then s.onSes h fun e => { e with stalegen := e.stalegen + 1 }
  else match c.state with
    | .free => s.onSes h fun e => { e with stalegen := e.stalegen + 1 }
    | .done => refuse h d sIdle s
    | .armed pairs dig us =>
      if 5000 < us then refuse h d sIdle (expireArm h t s) else
      let s := setCtx h t ⟨.done, c.gen⟩ s
      if (payloadAt ws 0, payloadAt ws 1) = macHalves dig then
        let (sts, s) := mapState (commitPayload h) 0 pairs s
        answer h d sts false s
      else sessionError h ((refuse h d sDenied s).onSes h fun e => { e with fmterr := e.fmterr + 1 })

def execCommit (h : Port) (ws : List W36) (s : State) : Host.Outcome State Fault Refusal :=
  done (receive h .commit ws (serveCommit h ws) s)

/-- 5 ms have passed since the header of the ARM's answer entered the transmit queue, without a matching COMMIT; the session engine stops with CORE (13 R344). -/
def execArmExpiry (h : Port) (tag : Fin 24) (s : State) : Host.Outcome State Fault Refusal :=
  done <| match (ctxAt (s.ses.get h) tag).state with
    | .armed _ _ us => if (5000 ≤ us || s.clk.timeStop) && !s.clk.coreStop then expireArm h tag s else s
    | _ => s

/-! ### RETIRE (11 R321, R334) -/

/-- One entry of a RETIRE: an operation tag is freed, an event tag becomes retired and a pending event due, no longer PEND from here on (DESIGN CHOICE, log 169). The status word repeats the entry's DATA[7:0], a free value where the entry is no data word (log 85). -/
def retireEntry (h : Port) (i : Nat) (w : W36) (s : State) : D28 × State :=
  let d := wData w
  let e := s.ses.get h
  let t := fld d 7 3
  let g : BitVec 3 := BitVec.ofNat 3 (fld d 2 0)
  let (st, s) :=
    if !isData i w || fld d 27 8 ≠ 0 || 30 ≤ t then (sFormat, s)
    else if t < 24 then
      if g ≠ (ctxAt e t).gen then (sDenied, s) else (sOk, setCtx h t ⟨.free, g⟩ s)
    else if g ≠ (e.evs.getD (t - 24) EvTag.reset).gen then (sDenied, s)
    else (sOk, s.onSes h fun e => { e with evs := e.evs.modify (t - 24) fun v =>
      if v.out then { v with out := false, due := v.pend, pend := false } else v })
  let (echo, s) := namedBits 8 i w s
  (pack28 [(8, echo), (0, st.toNat)], s)

def serveRetire (h : Port) (ws : List W36) (d : D28) (s : State) : State :=
  let (sts, s) := mapState (retireEntry h) 1 (payloadOf ws (hdCount d)) s
  answer h d sts false s

def execRetire (h : Port) (ws : List W36) (s : State) : Host.Outcome State Fault Refusal :=
  done (receive h .retire ws (serveRetire h ws) s)

/-! ### LEASE (11 R329, R330) -/

/-- An accepted LEASE renews the lease that GUARD times; with GUARD stopped the renewal waits (13 R344, R348, log 101). -/
def renewLease (h : Port) (s : State) : State :=
  if s.clk.guardStop then s else s.onSes h fun e => { e with leaseValid := true, leaseAt := guardNow s, leaseWarn := false }

def serveLease (h : Port) (ws : List W36) (d : D28) (s : State) : State :=
  let e := s.ses.get h
  let b : BitVec 24 := BitVec.ofNat 24 (fld (payloadAt ws 0) 23 0)
  if e.beatSeen && b ≠ e.beat + 1 then refuseFormat h .lease d s
  else
    let s := (renewLease h s).onSes h fun e => { e with beat := b, beatSeen := true, leaseSeen := true }
    answer h d [sesLease s h] false s

def execLease (h : Port) (ws : List W36) (s : State) : Host.Outcome State Fault Refusal :=
  done (receive h .lease ws (serveLease h ws) s)

/-- GUARD's lease timer ends, no earlier than one period after the last renewal or M4; it stops with GUARD (13 R344). -/
def execLeaseExpiry (h : Port) (s : State) : Host.Outcome State Fault Refusal :=
  let e := s.ses.get h
  done (if e.leaseValid && !s.clk.guardStop && e.leaseAt + leaseUs s ≤ guardNow s then s.onSes h fun e => { e with leaseValid := false } else s)

/-! ### HANDOVER (11 R331, R332) -/

/-- An offer or a request is still open. -/
def stillOpen (s : State) (x : Option Nat) : Bool :=
  match x with
  | some t => decide (s.now < t + 100000)
  | none => false

/-- The action is served. -/
def actionServed (h : Port) (a : Nat) (s : State) : Bool :=
  let e := s.ses.get h
  let holds := s.auth.holder == some h
  bitAt s.auth.cfg 15 && match a with
    | 0 => holds
    | 1 => !holds && e.auth && e.leaseValid && (stillOpen s s.auth.offer || !holderLeased s)
    | 2 => !holds && e.auth && !stillOpen s s.auth.request
    | _ => holds && stillOpen s s.auth.request

/-- Authority moves to the sender: the old holder's arms are discarded, and injection is locked. -/
def moveAuthority (h : Port) (s : State) : State :=
  let s := match s.auth.holder with
    | some p => discardArms p s
    | none => s
  injEnd { s with auth := { s.auth with holder := some h, granted := true, offer := none, request := none, moves := s.auth.moves + 1 } }

def actionEffect (h : Port) (a : Nat) (s : State) : State :=
  match a with
  | 0 => { s with auth := { s.auth with offer := some s.now, request := none } }
  | 1 => moveAuthority h s
  | 2 => { s with auth := { s.auth with request := some s.now } }
  | _ => { s with auth := { s.auth with request := none } }

/-- A HANDOVER: served with SES_AUTH as the answer and the AUTH event to both ports, or refused with DENIED. -/
def serveHandover (h : Port) (a : Nat) (d : D28) (s : State) : State :=
  if actionServed h a s then
    let s := actionEffect h a { s with auth := { s.auth with lastAct := BitVec.ofNat 2 a } }
    event 26 (answer h d [sesAuth s] false s)
  else refuse h d sDenied s

/-- A HANDOVER frame with the row's own ACTION; another ACTION is another row's command. -/
def handover (a : Nat) (h : Port) (ws : List W36) (s : State) : State :=
  if fld (payloadAt ws 0) 1 0 = a then receive h .handover ws (serveHandover h a) s else s

def execGive (h : Port) (ws : List W36) (s : State) : Host.Outcome State Fault Refusal := done (handover 0 h ws s)

def execTake (h : Port) (ws : List W36) (s : State) : Host.Outcome State Fault Refusal := done (handover 1 h ws s)

def execRequest (h : Port) (ws : List W36) (s : State) : Host.Outcome State Fault Refusal := done (handover 2 h ws s)

def execRefuse (h : Port) (ws : List W36) (s : State) : Host.Outcome State Fault Refusal := done (handover 3 h ws s)

/-- 100 ms have passed since an offer or a request opened. -/
def lapsed (s : State) (x : Option Nat) : Bool :=
  match x with
  | some t => s.since t 100000
  | none => false

/-- An offer or a request lapses (11 R331, R332), in the session engine, which stops with CORE (13 R344). -/
def execHandoverLapse (s : State) : Host.Outcome State Fault Refusal :=
  done <|
    let a := s.auth
    if (lapsed s a.offer || lapsed s a.request) && !s.clk.coreStop then
      event 26 { s with auth := { a with offer := if lapsed s a.offer then none else a.offer,
                                         request := if lapsed s a.request then none else a.request } }
    else s

/-! ### Events (11 R333, R334) -/

/-- Payload of an event, tag 24 + i, with present values; a resent ARMEXP names the arms discarded since as well (11 R333, R334). -/
def eventPayload (h : Port) (i : Nat) (s : State) : List D28 :=
  match i with
  | 0 => [fltFirst s.flt.first, fltStat s, d28 s.flt.first.time, d28 (s.flt.first.time / 2 ^ 28)]
  | 1 => [(bankData s 0).getD 0]
  | 2 => [sesAuth s]
  | 3 => [sesLease s h, sesStat s h]
  | 4 => [d28 ((s.ses.get h).armsent ||| (s.ses.get h).armexp).toNat]
  | _ => [fltStat s]

/-- Header DATA of an event frame. -/
def eventHeader (i : Nat) (gen : BitVec 3) (count : Nat) : D28 := pack28 [(26, 3), (22, 7), (10, 24 + i), (7, gen.toNat), (0, count)]

/-- Sends an event frame with its tag's generation. -/
def sendEvent (h : Port) (i : Nat) (s : State) : State :=
  let s := s.onSes h fun e => { e with evs := e.evs.modify i fun v => { v with sentAt := s.now } }
  let pl := eventPayload h i s
  let gen := ((s.ses.get h).evs.getD i EvTag.reset).gen
  seqEnd h (sendMac h (eventHeader i gen pl.length) (dataWords pl) false false s)

def evTag (s : State) (h : Port) (i : Nat) : EvTag := (s.ses.get h).evs.getD i EvTag.reset

/-- The first sending of an event: GEN = L + 1, and the ARMEXP event takes the arms discarded so far. -/
def execEventSend (h : Port) (i : Fin 6) (s : State) : Host.Outcome State Fault Refusal :=
  done <|
    if linkUp s h && (evTag s h i).due then
      sendEvent h i (s.onSes h fun e =>
        let e := { e with evs := e.evs.modify i fun v => { v with gen := v.gen + 1, out := true, due := false } }
        if i = 4 then { e with armsent := e.armexp, armexp := 0 } else e)
    else s

/-- 10 ms have passed since an unretired event was sent. -/
def execEventResend (h : Port) (i : Fin 6) (s : State) : Host.Outcome State Fault Refusal :=
  done (if linkUp s h && (evTag s h i).out && s.since (evTag s h i).sentAt 10000 then sendEvent h i s else s)

/-- A frame with an EVENT header from a host: it fails order 4 once it has passed the orders before (11 R302). -/
def execHostEventFrame (h : Port) (ws : List W36) (s : State) : Host.Outcome State Fault Refusal :=
  done (receive h .event ws (fun _ s => s) s)

end Sys2Proof.Machine
end

