-- ==== Sys2Proof/Machine/Dispatch.lean ====
section
/-! DEFINITION. The meaning of every command: one arm per row of the opcode table. -/

namespace Sys2Proof.Machine

def exec (i : Instr) (s : State) : Host.Outcome State Fault Refusal :=
  match i with
  | .desatTrip n seg ns => Sys2Proof.Machine.execDesatTrip n seg ns s
  | .desatEventClose n => Sys2Proof.Machine.execDesatEventClose n s
  | .gateLeakEval n seg above => Sys2Proof.Machine.execGateLeakEval n seg above s
  | .chRetire h n data => Sys2Proof.Machine.execChRetire h n data s
  | .bstReady n => Sys2Proof.Machine.execBstReady n s
  | .bstwaitTimeout n => Sys2Proof.Machine.execBstwaitTimeout n s
  | .stuckDetect n => Sys2Proof.Machine.execStuckDetect n s
  | .vbatDip x => Sys2Proof.Machine.execVbatDip x s
  | .vbatReturn x => Sys2Proof.Machine.execVbatReturn x s
  | .fwZeroCurrent n => Sys2Proof.Machine.execFwZeroCurrent n s
  | .ctlOn a n => Sys2Proof.Machine.execCtlOn a n s
  | .ctlOff a n => Sys2Proof.Machine.execCtlOff a n s
  | .brcmdWrite a n cmd => Sys2Proof.Machine.execBrcmdWrite a n cmd s
  | .ladderChop c => Sys2Proof.Machine.execLadderChop c s
  | .offtExpiry n => Sys2Proof.Machine.execOfftExpiry n s
  | .rotationTick n => Sys2Proof.Machine.execRotationTick n s
  | .stepDwellEnd n => Sys2Proof.Machine.execStepDwellEnd n s
  | .stepEarlyEnd n => Sys2Proof.Machine.execStepEarlyEnd n s
  | .refreshPulse n => Sys2Proof.Machine.execRefreshPulse n s
  | .refreshRecheck n below => Sys2Proof.Machine.execRefreshRecheck n below s
  | .bstUvTurnoff n => Sys2Proof.Machine.execBstUvTurnoff n s
  | .periodBoundary t below near => Sys2Proof.Machine.execPeriodBoundary t below s near
  | .requestFall t chs => Sys2Proof.Machine.execRequestFall t chs s
  | .deadTimeExpiry n => Sys2Proof.Machine.execDeadTimeExpiry n s
  | .clapper a mask => Sys2Proof.Machine.execClapper a mask s
  | .clapUnr a => Sys2Proof.Machine.execClapUnr a s
  | .tmrPerWrite a t data => Sys2Proof.Machine.execTmrPerWrite a t data s
  | .tmrEdgeWrite a t data => Sys2Proof.Machine.execTmrEdgeWrite a t data s
  | .syncEdge interval offset => Sys2Proof.Machine.execSyncEdge interval offset s
  | .syncHoldover => Sys2Proof.Machine.execSyncHoldover s
  | .microsecondTick => Sys2Proof.Machine.execMicrosecondTick s
  | .debugHalt => Sys2Proof.Machine.execDebugHalt s
  | .lowWordRead p q => Sys2Proof.Machine.execLowWordRead p q s
  | .highWordRead p q => Sys2Proof.Machine.execHighWordRead p q s
  | .ipriConversion n raw diff => Sys2Proof.Machine.execIpriConversion n raw s diff
  | .sarConversion bankB slot raw quiet diff => Sys2Proof.Machine.execSarConversion bankB slot raw quiet s diff
  | .diodeSlot j raw diff => Sys2Proof.Machine.execDiodeSlot j raw s diff
  | .trigConversion m raw quiet diff => Sys2Proof.Machine.execTrigConversion m raw quiet s diff
  | .measZero h data => Sys2Proof.Machine.execMeasZero h data s
  | .zeroWaitMet n => Sys2Proof.Machine.execZeroWaitMet n s
  | .zeroDone n => Sys2Proof.Machine.execZeroDone n s
  | .zeroTimeout n => Sys2Proof.Machine.execZeroTimeout n s
  | .measCalsel a data => Sys2Proof.Machine.execMeasCalsel a data s
  | .snapshot a seg => Sys2Proof.Machine.execSnapshot a seg s
  | .snapshotRelease a => Sys2Proof.Machine.execSnapshotRelease a s
  | .snapshotExpiry h => Sys2Proof.Machine.execSnapshotExpiry h s
  | .freshCommit h k data => Sys2Proof.Machine.execFreshCommit h k data s
  | .i2tUpdate n => Sys2Proof.Machine.execI2tUpdate n s
  | .cycleLimitCut c => Sys2Proof.Machine.execCycleLimitCut c s
  | .chopRestart n => Sys2Proof.Machine.execChopRestart n s
  | .cutMsBoundary => Sys2Proof.Machine.execCutMsBoundary s
  | .scTrip c ns => Sys2Proof.Machine.execScTrip c ns s
  | .blankWindowClose n ma ns => Sys2Proof.Machine.execBlankWindowClose n ma ns s
  | .blankCapExpiry n => Sys2Proof.Machine.execBlankCapExpiry n s
  | .hsTrip n ns => Sys2Proof.Machine.execHsTrip n ns s
  | .retryWaitExpiry n => Sys2Proof.Machine.execRetryWaitExpiry n s
  | .probeRecovery n => Sys2Proof.Machine.execProbeRecovery n s
  | .trycntClear n => Sys2Proof.Machine.execTrycntClear n s
  | .cutExpiry n => Sys2Proof.Machine.execCutExpiry n s
  | .tripAssert j => Sys2Proof.Machine.execTripAssert j s
  | .tripRelease j => Sys2Proof.Machine.execTripRelease j s
  | .lhAssert => Sys2Proof.Machine.execLhAssert s
  | .lhRelease => Sys2Proof.Machine.execLhRelease s
  | .lhDisagree => Sys2Proof.Machine.execLhDisagree s
  | .limpExit h data => Sys2Proof.Machine.execLimpExit h data s
  | .ilimWrite a n data => Sys2Proof.Machine.execIlimWrite a n data s
  | .scthCommit h n data => Sys2Proof.Machine.execScthCommit h n data s
  | .i2tCommit h n data => Sys2Proof.Machine.execI2tCommit h n data s
  | .sillageClose => Sys2Proof.Machine.execSillageClose s
  | .drydownExpiry src => Sys2Proof.Machine.execDrydownExpiry src s
  | .fltAck h data => Sys2Proof.Machine.execFltAck h data s
  | .injUnlock h data => Sys2Proof.Machine.execInjUnlock h data s
  | .injTimeout => Sys2Proof.Machine.execInjTimeout s
  | .fltForce h w data => Sys2Proof.Machine.execFltForce h w data s
  | .collectorSelfCheck found => Sys2Proof.Machine.execCollectorSelfCheck found s
  | .firstPermit => Sys2Proof.Machine.execFirstPermit s
  | .resetRelease => Sys2Proof.Machine.execResetRelease s
  | .powerOnReset => Sys2Proof.Machine.execPowerOnReset s
  | .rstNFall env => Sys2Proof.Machine.execRstNFall env s
  | .supFail sup env => Sys2Proof.Machine.execSupFail sup env s
  | .pllLock rbgOk => Sys2Proof.Machine.execPllLock rbgOk s
  | .rbgRetry rbgOk => Sys2Proof.Machine.execRbgRetry rbgOk s
  | .pllLockLoss => Sys2Proof.Machine.execPllLockLoss s
  | .pllLockTimeout => Sys2Proof.Machine.execPllLockTimeout s
  | .senseMonitorArm => Sys2Proof.Machine.execSenseMonitorArm s
  | .clockMonitorWindow m count => Sys2Proof.Machine.execClockMonitorWindow m count s
  | .clockStopDetect d late => Sys2Proof.Machine.execClockStopDetect d s late
  | .heartbeatLoss => Sys2Proof.Machine.execHeartbeatLoss s
  | .heartbeatRestore => Sys2Proof.Machine.execHeartbeatRestore s
  | .keepaliveLoss k => Sys2Proof.Machine.execKeepaliveLoss k s
  | .flashDetect f => Sys2Proof.Machine.execFlashDetect f s
  | .reelLoadDone r => Sys2Proof.Machine.execReelLoadDone r s
  | .startChargeEnd => Sys2Proof.Machine.execStartChargeEnd s
  | .chargeTimeout => Sys2Proof.Machine.execChargeTimeout s
  | .flaconTestComplete sum1 sum2 => Sys2Proof.Machine.execFlaconTestComplete sum1 sum2 s
  | .vholdConversion code => Sys2Proof.Machine.execVholdConversion code s
  | .programRetry => Sys2Proof.Machine.execProgramRetry s
  | .pageProgramDone reads env => Sys2Proof.Machine.execPageProgramDone reads env s
  | .logProgramDue => Sys2Proof.Machine.execLogProgramDue s
  | .logFetch a data => Sys2Proof.Machine.execLogFetch a data s
  | .logFetchDone => Sys2Proof.Machine.execLogFetchDone s
  | .provision key r => Sys2Proof.Machine.execProvision key r s
  | .provisionDone => Sys2Proof.Machine.execProvisionDone s
  | .arbAdvance h data => Sys2Proof.Machine.execArbAdvance h data s
  | .fpageSelect a data => Sys2Proof.Machine.execFpageSelect a data s
  | .apertureVerifyDone p => Sys2Proof.Machine.execApertureVerifyDone p s
  | .portLenCommit h p data => Sys2Proof.Machine.execPortLenCommit h p data s
  | .extest pins bits => Sys2Proof.Machine.execExtest s pins bits
  | .samplePreload pins bits => Sys2Proof.Machine.execSamplePreload s pins bits
  | .bypass opcode bits => Sys2Proof.Machine.execBypass s opcode bits
  | .dbgChal => Sys2Proof.Machine.execDbgChal s
  | .dbgToken ws => Sys2Proof.Machine.execDbgToken ws s
  | .dbgAcc w0 w1 => Sys2Proof.Machine.execDbgAcc w0 w1 s
  | .trstAssert => Sys2Proof.Machine.execTrstAssert s
  | .selectFall h gapKept => Sys2Proof.Machine.execSelectFall h gapKept s
  | .selectRise h w => Sys2Proof.Machine.execSelectRise h w s
  | .rxOverrun a => Sys2Proof.Machine.execRxOverrun a s
  | .txUnderrun b => Sys2Proof.Machine.execTxUnderrun b s
  | .rdreg addr count => Sys2Proof.Machine.execRdreg addr count s
  | .wrreg w r => Sys2Proof.Machine.execWrreg w r s
  | .rdstat => Sys2Proof.Machine.execRdstat s
  | .recoveryOtherCommand cmd => Sys2Proof.Machine.execRecoveryOtherCommand cmd s
  | .hello h ws => Sys2Proof.Machine.execHello h ws s
  | .key h ws => Sys2Proof.Machine.execKey h ws s
  | .keyComplete h => Sys2Proof.Machine.execKeyComplete h s
  | .exchangeTimeout h => Sys2Proof.Machine.execExchangeTimeout h s
  | .oldKeyWindowEnd h => Sys2Proof.Machine.execOldKeyWindowEnd h s
  | .read h ws => Sys2Proof.Machine.execRead h ws s
  | .write h ws => Sys2Proof.Machine.execWrite h ws s
  | .arm h ws => Sys2Proof.Machine.execArm h ws s
  | .commit h ws => Sys2Proof.Machine.execCommit h ws s
  | .armExpiry h tag => Sys2Proof.Machine.execArmExpiry h tag s
  | .retire h ws => Sys2Proof.Machine.execRetire h ws s
  | .lease h ws => Sys2Proof.Machine.execLease h ws s
  | .leaseExpiry h => Sys2Proof.Machine.execLeaseExpiry h s
  | .give h ws => Sys2Proof.Machine.execGive h ws s
  | .take h ws => Sys2Proof.Machine.execTake h ws s
  | .request h ws => Sys2Proof.Machine.execRequest h ws s
  | .refuse h ws => Sys2Proof.Machine.execRefuse h ws s
  | .handoverLapse => Sys2Proof.Machine.execHandoverLapse s
  | .eventSend h slot => Sys2Proof.Machine.execEventSend h slot s
  | .eventResend h slot => Sys2Proof.Machine.execEventResend h slot s
  | .bistStartup a => Sys2Proof.Machine.execBistStartup a s
  | .bistAbort a => Sys2Proof.Machine.execBistAbort a s
  | .bistRun a test => Sys2Proof.Machine.execBistRun a test s
  | .bistTestStart test => Sys2Proof.Machine.execBistTestStart test s
  | .bistTestDone test r => Sys2Proof.Machine.execBistTestDone test r s
  | .bistTestTimeout test => Sys2Proof.Machine.execBistTestTimeout test s
  | .registerWrite a addr data => Sys2Proof.Machine.execRegisterWrite a addr data s
  | .refreshPulseEnd n => Sys2Proof.Machine.execRefreshPulseEnd n s
  | .refreshSpacingExpiry n => Sys2Proof.Machine.execRefreshSpacingExpiry n s
  | .debugHaltRelease => Sys2Proof.Machine.execDebugHaltRelease s
  | .bstUvRecovery n => Sys2Proof.Machine.execBstUvRecovery n s
  | .lhLineEdge lh0 lh1 => Sys2Proof.Machine.execLhLineEdge lh0 lh1 s
  | .hostEventFrame h ws => Sys2Proof.Machine.execHostEventFrame h ws s
  | .arbFusesDone => Sys2Proof.Machine.execArbFusesDone s

end Sys2Proof.Machine
end

