-- ==== Sys2Proof/Safety.lean ====
section
/-! DEFINITION. What claims speak of: the gates' and pins' safety conditions, the rights that only grow, and the part of the state that a command's aftermath leaves alone. -/

namespace Sys2Proof.Machine

/-! ### Safety conditions -/

/-- The power die's clamps and interlock on one channel, `off` when every high side of the die is clamped, `held` when a self-test, or rank 3 on a half of a bridge, holds the channel: no high side is on then, nor behind a trip latch; no retired or tripped segment is on; no freewheel gate is on beside a high side, on a stuck or held channel (01 R18, 02 R23, R32, R44, R49, 06 R142, R158, 07 R195, 13 R345, 16 R409). -/
def Chan.guarded (off held : Bool) (c : Chan) : Prop :=
  ((off || held || c.scLatch || c.hsLatch || c.dsLatch) = true → c.hs = 0) ∧ c.hs &&& c.retired = 0 ∧ c.hs &&& c.tripped = 0 ∧
    (c.hs ≠ 0 → c.fw = .off) ∧ ((c.stuck || held) = true → c.fw = .off)

/-- Every channel is guarded; without structure, in the safe state and without the heartbeat every high side of the die is off. -/
def GatesSafe (s : State) : Prop :=
  ∀ (n : Nat) (c : Chan), s.chans[n]? = some c → c.guarded (!s.dev.struct || s.flt.safe || s.pins.heart) (gatesHeld s n)

/-- Each permit is high just when 07 R200 allows it and its keep-alive reaches the pad, HEALTH just when 07 R201 allows it and both of its keep-alives do, and every pin is driven as its rule says (13 R445, 15 R385). -/
def PinsSafe (s : State) : Prop :=
  s.pins.permit0 = (permitsAllowed s && !s.pins.lost0) ∧ s.pins.permit1 = (permitsAllowed s && !s.pins.lost1) ∧
    s.flt.health = (healthAllowed s && !s.pins.lostHG && !s.pins.lostHC) ∧ s.pins.pads = padsOf s

/-- LEASE_LOST has been judged on the present leases and authority (07 R183, 11 R330). -/
def LeaseJudged (s : State) : Prop := s.flt.leaseLost = leaseLost s

/-- The safety conditions together. -/
def Safe (s : State) : Prop := GatesSafe s ∧ PinsSafe s ∧ LeaseJudged s

/-- A locked OTP has no owner-key programming under way (09 R255). -/
def ProvSound (s : State) : Prop := s.otp.okhlock = true → s.trust.prov = 1 → s.trust.provKey = none

/-- The stored log: one entry a page, in page order within pages 512 to 2,047, a header of four words and no more than 15 records each, and the head in the area (15 R392, R394). -/
def LogStored (st : Store) : Prop :=
  (st.log.map LogPage.page).Pairwise (· < ·) ∧ (∀ p ∈ st.log, 512 ≤ p.page ∧ p.page < 2048 ∧ p.header.length ≤ 4 ∧ p.words.length ≤ 60) ∧ st.head < 1536

/-- The stored log, an open image of no more than 15 records with a queue of no more than 32 behind it, and a running log program's page in the log's area, or page 0 where the area has no good page. -/
def LogOk (s : State) : Prop :=
  LogStored s.store ∧ s.nvs.image.length ≤ 15 ∧ s.nvs.queue.length ≤ 32 ∧ (s.nvs.running = some .log → s.nvs.page < 2048)

/-! ### Faults -/

/-- The event of a source has left its mark: a sticky bit, or a consequential bit where an open window lists it (07 R187, R204). -/
def seen (s : State) (src : Nat) : Prop := s.flt.sticky.getLsbD src = true ∨ s.flt.conseq.getLsbD src = true

/-! ### What a command's aftermath leaves alone -/

/-- A re-zero without what it has seen the channel do. -/
def Rezero.still : Rezero → Rezero
  | .idle => .idle
  | .wait t => .wait t
  | .average k sum _ => .average k sum false

/-- A channel without what drives its gates, without its retry machine, without since when it and its segments are on or off, and what a re-zero has seen. -/
def Chan.still (c : Chan) : Chan :=
  { c with brcmd := 0, brcmdLatch := none, ilim := 0, ilimLatch := none, hs := 0, tripped := 0, fw := .off, zeroI := true,
           drive := .off, want := .off, byLimp := false, cancelled := false, half := false, pulse := .off, dt := .none, chopOff := false, cutOff := false,
           cutPeriod := false, chopAt := 0, refreshing := false, refreshDue := false, refreshAt := none, refreshes := 0,
           bridge := .coast, revTo := none, lad := Ladder.reset, limit := 0, limpLad := false, lingers := false, ring := 0, inrush := false, blank := false, blankCap := false,
           retry := Retry.reset, rezero := c.rezero.still, offAt := none, lit := [], darkAt := none }

/-- A timer without its running state and its words in force. -/
def Timer.still (t : Timer) : Timer :=
  { t with per := 0, duty := 0, phase := 0, latch := none, run := false, fresh := false, loadReject := false, frozen := false,
           dith := 0, holds := 0, skips := 0, pos := 0, begun := false, trigB := false }

/-- The collector without what it records and issues. -/
def Flt.still (f : Flt) : Flt :=
  { f with safe := false, health := false, fsrc := 0x7F, ovfcnt := 0, first := First.reset, sticky := 0, conseq := 0, lasting := 0,
           records := [], holds := [], windows := [], leaseLost := false }

/-- A session without its event tags. -/
def Ses.still (e : Ses) : Ses := { e with evs := [], leaseWarn := false }

/-- The store's controller without the fault log's open image and queue. -/
def Nvs.still (v : Nvs) : Nvs := { v with image := [], queue := [], dropped := 0, seq := 0, loss := false }

/-- The self-test controller without its running and waiting tests. -/
def Bist.still (b : Bist) : Bist :=
  { b with laneA := none, laneB := none, laneD := none, queue := [], res := [], slices := 0, slice := none, sliceBad := none, sliceUs := 0,
           again := 0, againMarch := 0, offSince := [] }

/-- The state without what the block itself brings into line after every command: gates and what drives them, running timers, the collector's records, event tags, the fault log, running self-tests, limp-home, the freeze, and the permits' and pins' levels. -/
def State.still (s : State) : State :=
  { s with chans := s.chans.map Chan.still, timers := s.timers.map Timer.still,
           tbase := { s.tbase with frozen := false, syncPer := 0, syncNext := none, syncP := none, pulses := 0 },
           flt := s.flt.still, limp := { s.limp with active := false }, meas := { s.meas with trigs := [], trigAt := [] },
           ses := ⟨s.ses.h0.still, s.ses.h1.still⟩, pins := { s.pins with permit0 := false, permit1 := false, pads := Pads.reset },
           nvs := s.nvs.still, bist := s.bist.still }

/-! ### How a command completes -/

/-- The command answers the aftermath of `x`. -/
def Gives (i : Instr) (s x : State) : Prop := exec i s = .next (settle x)

/-- The command answers a next state that is `x` but for the aftermath. -/
def Completes (i : Instr) (s x : State) : Prop := ∃ t, exec i s = .next t ∧ t.still = x.still

/-- The command answers a next state that is `x` but for the aftermath, in which the sources have left their marks. -/
def Raises (i : Instr) (s x : State) (srcs : List Nat) : Prop := ∃ t, exec i s = .next t ∧ t.still = x.still ∧ ∀ k ∈ srcs, seen t k

/-- The command answers the aftermath of `x` with the status of its word. -/
def GivesStatus (i : Instr) (s : State) (st : BitVec 8) (x : State) : Prop := Gives i s { x with status := st }

/-- The command answers a next state that is `x` but for the aftermath, with the status of its word. -/
def CompletesStatus (i : Instr) (s : State) (st : BitVec 8) (x : State) : Prop := Completes i s { x with status := st }

/-! ### Access -/

/-- The access reaches fields of class L, Q, K or X at the address: a WRITE of a port that may write it, or DBG_ACC with a token's WRITE right; no class override is set there (14 R365, R372). -/
def MayStore (s : State) (a : Access) (addr : Nat) : Prop :=
  overrideOf s addr = none ∧ match a with
    | .write h => linkUp s h = true ∧ mayWrite s h addr = true
    | .dbg => s.coreRuns = true ∧ tokenRight s 2 = true
    | .commit _ => False

/-- A port's ARM and COMMIT reach fields of class A at the address, where no class override is set (11 R326, R327). -/
def MayCommit (s : State) (h : Port) (addr : Nat) : Prop :=
  overrideOf s addr = none ∧ linkUp s h = true ∧ mayWrite s h addr = true

/-- A session frame of kind `k` arrives whole, verifies, has a fresh SEQ, which leaves the counter at `r` and the marks at `m`, and keeps the format (orders 1 to 4 of 11 R312). -/
def Passes (s : State) (h : Port) (k : FrameKind) (ws : List W36) (r : Nat) (m : BitVec 32) : Prop :=
  let p := payloadLen k (wData (ws.getD 0 0))
  receiving s h = true ∧ startsFrame k (ws.getD 0 0) = true ∧ carriesCrc k = false ∧ p + 4 ≤ ws.length ∧
    authCheck s (s.ses.get h) k ws p = .ok ∧
    seqCheck (s.ses.get h).rxseq (s.ses.get h).marks (trSeq (wData (ws.getD (p + 1) 0))) = .accepted r m ∧
    formatOk (s.ses.get h) s.now k ws p = true

/-- What a port has still to send, in its order: the words queued, the rest of the frame that they begin, and the frames behind it (11 R301). -/
def PortSt.stream (q : PortSt) : List W36 := q.txq ++ q.rest ++ q.tx.flatten

/-- The state in which a session frame that passes is served: its SEQ is noted. -/
def noted (s : State) (h : Port) (r : Nat) (m : BitVec 32) : State := s.onSes h fun e => { e with rxseq := r, marks := m }

/-- A HELLO or KEY arrives whole with a right CRC-32 and keeps the format. -/
def PassesCrc (s : State) (h : Port) (k : FrameKind) (ws : List W36) : Prop :=
  let p := payloadLen k (wData (ws.getD 0 0))
  receiving s h = true ∧ startsFrame k (ws.getD 0 0) = true ∧ carriesCrc k = true ∧ p + 4 ≤ ws.length ∧
    authCheck s (s.ses.get h) k ws p = .ok ∧ formatOk (s.ses.get h) s.now k ws p = true

/-- A new operation finds its context ready: not occupied, GEN one above its last, and not all 24 occupied (11 R312 orders 5 to 7). -/
def Opens (s : State) (h : Port) (d : D28) : Prop :=
  let e := s.ses.get h
  hdGen d = (ctxAt e (hdTag d)).gen + 1 ∧ ctxBusy (ctxAt e (hdTag d)) = false ∧ occupied e ≠ 24

end Sys2Proof.Machine
end

