-- ==== Sys2Proof/Certificates/Slice0/Obligations.lean ====
section
/-! DEFINITION. The statements for the provers, from the spec's numbered rules: one group per family of commands, each command's completion among them, then the rules over the whole machine. -/

open Sys2Proof Sys2Proof.Machine

/-! ### The block and its queue -/

/-- The front of the queue runs on the state with the queue's rest, and an empty queue idles. Log 1: the queue is the model's. -/
def Obligations.StepRunsFrontOrIdles : Prop :=
  (∀ (c : Instr) (rest : List Instr) (s : State), s.pending = c :: rest → step s = exec c { s with pending := rest }) ∧
  (∀ s : State, s.pending = [] → step s = .next s)

/-- No command stops the machine, and none changes the commands that wait (the queue is the model's, log 1). -/
def Obligations.EveryCommandAnswersAndKeepsTheQueue : Prop :=  ∀ (i : Instr) (s : State), ∃ t, exec i s = .next t ∧ t.pending = s.pending

/-! ### Power stage (02) -/

/-- R23, R24, R40 to R42, R45, R48, R49, R79, R152, R153, R154: a desaturation trip switches its segment off for the on-interval and opens an event, or completes a channel event, with four segments or with every one that was engaged at the first trip, one alone among them, which latches the channel off and raises CHn_HS, and with it BUS_A (96) or BUS_B (97), and so the safe state, when another latch of the bank that counts as another channel set within 1 µs of it; a solo event's close counts its trip; current with the channel off for 40 µs, R48's 20 µs held for 20 µs, and its pair and its unit for 20 µs marks the channel stuck, holds its freewheel stage off and raises CHn_STUCK; the leakage of a segment is evaluated once it has been on for 20 µs and every 500 µs of the on-interval after, and the second evaluation in a row above the limit retires the segment under RETIRE_AUTO and reports it, and without it makes the segment the channel's candidate; a unit with a member that has no segment left turns off and stays barred. What the model chose or read by inference here: logs 15, 90, 134 and 148, log 147 for the instants of the evaluations, log 138 for a unit whose turn-on still waits when its last segment is retired. -/
def Obligations.SegmentSafetyEvents : Prop :=
  (∀ (n : Fin 12) (seg : Fin 42) (ns : Fin 1000) (s : State),
    (s.ch n).hs.getLsbD seg = true → (s.ch n).desat = none → (s.ch n).hs &&& ~~~(setBit 0 seg) ≠ 0 →
    Gives (.desatTrip n seg ns) s (s.onCh n fun c =>
      { c with tripped := setBit c.tripped seg, hs := clearBit c.hs seg,
               desat := some ⟨nsTime s ns, c.hs, setBit 0 seg, false⟩ })) ∧
  (∀ (n : Fin 12) (seg : Fin 42) (ns : Fin 1000) (e : DesatEvent) (s : State),
    (s.ch n).hs.getLsbD seg = true → (s.ch n).desat = some e → e.channel = false → nsTime s ns ≤ e.first + 1000 →
    4 ≤ popcount (setBit e.trips seg) → s.clk.guardStop = false →
    ∃ t, exec (.desatTrip n seg ns) s = .next t ∧ (t.ch n).hs = 0 ∧ seen t (8 * n) ∧
      t.still = (s.onCh n fun c =>
        { c with desat := some { e with trips := setBit e.trips seg, channel := true }, dsLatch := true,
                 latchAt := some (nsTime s ns), prot := { c.prot with bits := setBit c.prot.bits 6 } }).still) ∧
  (∀ (n : Fin 12) (i : Fin 42) (e : DesatEvent) (s : State),
    (s.ch n).desat = some e → e.channel = false → e.trips = setBit 0 i →
    (((s.ch n).segs.getD i SegMon.reset).solo = []) →
    Completes (.desatEventClose n) s (s.onCh n fun c =>
      { c with desat := none, dssolo := sat 0xFFF (c.dssolo + 1), segs := c.segs.modify i fun m => { m with solo := [s.now] } })) ∧
  (∀ (n : Fin 12) (s : State),
    (∀ k, k < 12 → (k = n.val ∨ k / 2 = n.val / 2 ∨ leader s k = leader s n) →
      (s.ch k).hs = 0 ∧ ∃ t0, (s.ch k).darkAt = some t0 ∧ t0 + (if k = n.val then 40 else 20) ≤ guardNow s) → n < s.chans.length → (s.ch n).stuck = false →
    s.clk.guardStop = false → s.dev.phase ≠ .reset →
    ∃ t, exec (.stuckDetect n) s = .next t ∧ (t.ch n).fw = .off ∧ seen t (8 * n + 7) ∧
      t.still = (s.onCh n fun c => { c with stuck := true }).still) ∧
  (∀ (n : Fin 12) (seg : Fin 42) (s : State), leakDue s n seg = true → ((s.ch n).segs.getD seg SegMon.reset).leak = 0 →
    Gives (.gateLeakEval n seg true) s (onSeg n seg (fun m => { m with leak := 1, evalAt := some s.now }) s)) ∧
  (∀ (n : Fin 12) (seg : Fin 42) (s : State), leakDue s n seg = true →
    Gives (.gateLeakEval n seg false) s (onSeg n seg (fun m => { m with leak := 0, evalAt := some s.now }) s)) ∧
  (∀ (n : Fin 12) (seg : Fin 42) (s : State), leakDue s n seg = true → ((s.ch n).segs.getD seg SegMon.reset).leak ≠ 0 →
    (s.ch n).retired.getLsbD seg = false → s.dev.opts.getLsbD 0 = false → lightsOut s = false →
    Raises (.gateLeakEval n seg true) s
      ((onSeg n seg (fun m => { m with leak := 0, evalAt := some s.now }) s).onCh n fun c => { c with cand := some (seg.val, 1) }) [8 * n + 6]) ∧
  (∀ (n : Fin 12) (seg : Fin 42) (s : State), leakDue s n seg = true → ((s.ch n).segs.getD seg SegMon.reset).leak ≠ 0 →
    (s.ch n).retired.getLsbD seg = false → s.dev.opts.getLsbD 0 = true → n < s.chans.length → lightsOut s = false →
    ∃ t, exec (.gateLeakEval n seg true) s = .next t ∧ (t.ch n).retired = setBit (s.ch n).retired seg ∧ (t.ch n).hs.getLsbD seg = false ∧
      seen t (8 * n + if popcount (setBit (s.ch n).retired seg) = 5 then 5 else 6)) ∧
  (∀ (n u : Nat) (s : State), u = leader s n → u < s.chans.length → (s.ch n).alive = 0 → (s.ch u).drive ≠ .off →
    ((barIfDead n s).ch u).drive = .barred ∧ ∀ m ∈ members s u, ((barIfDead n s).ch m).hs = 0) ∧
  (∀ (n : Fin 12) (seg : Fin 42) (ns : Fin 1000) (e : DesatEvent) (s : State),
    (s.ch n).hs.getLsbD seg = true → (s.ch n).desat = some e → e.channel = false → nsTime s ns ≤ e.first + 1000 →
    e.engaged &&& ~~~(setBit e.trips seg) = 0 → s.clk.guardStop = false →
    ∃ t, exec (.desatTrip n seg ns) s = .next t ∧ (t.ch n).hs = 0 ∧ seen t (8 * n) ∧
      t.still = (s.onCh n fun c =>
        { c with desat := some { e with trips := setBit e.trips seg, channel := true }, dsLatch := true,
                 latchAt := some (nsTime s ns), prot := { c.prot with bits := setBit c.prot.bits 6 } }).still) ∧
  (∀ (n : Fin 12) (seg : Fin 42) (ns : Fin 1000) (s : State),
    (s.ch n).hs = setBit 0 seg → (s.ch n).desat = none → s.clk.guardStop = false →
    ∃ t, exec (.desatTrip n seg ns) s = .next t ∧ (t.ch n).hs = 0 ∧ seen t (8 * n) ∧
      t.still = (s.onCh n fun c =>
        { c with desat := some ⟨nsTime s ns, setBit 0 seg, setBit 0 seg, true⟩, dsLatch := true,
                 latchAt := some (nsTime s ns), prot := { c.prot with bits := setBit c.prot.bits 6 } }).still) ∧
  (∀ (n : Fin 12) (seg : Fin 42) (ns : Fin 1000) (e : DesatEvent) (k t' : Nat) (s : State),
    (s.ch n).hs.getLsbD seg = true → (s.ch n).desat = some e → e.channel = false → nsTime s ns ≤ e.first + 1000 →
    4 ≤ popcount (setBit e.trips seg) → s.clk.guardStop = false → k < 12 → k ≠ n → k / 6 = n / 6 → (s.ch k).latchAt = some t' →
    nsTime s ns / 50 - t' / 50 ≤ 20 → t' / 50 - nsTime s ns / 50 ≤ 20 → ((s.ch n).baseMode ≠ 3 ∨ leader s k ≠ leader s n) →
    ∃ t, exec (.desatTrip n seg ns) s = .next t ∧ seen t (if n.val < 6 then 96 else 97) ∧
      (((openWindows s).any fun w => lists s.flt w (if n.val < 6 then 96 else 97)) = false → t.flt.safe = true)) ∧
  (∀ (n i : Nat) (s : State), leakDue s n i = true ↔ ∃ t0, litAt (s.ch n) i = some t0 ∧ s.since t0 20 = true ∧
    ∀ e, ((s.ch n).segs.getD i SegMon.reset).evalAt = some e → t0 + 20 ≤ e → s.since e 500 = true) ∧
  (∀ (n : Fin 12) (seg : Fin 42) (above : Bool) (s : State), leakDue s n seg = false → Gives (.gateLeakEval n seg above) s s) ∧
  (∀ (n : Fin 12) (k : Nat) (s : State), k < 12 → (k = n.val ∨ k / 2 = n.val / 2 ∨ leader s k = leader s n) →
    ((s.ch k).hs ≠ 0 ∨ ∀ t0, (s.ch k).darkAt = some t0 → guardNow s < t0 + (if k = n.val then 40 else 20)) → Gives (.stuckDetect n) s s) ∧
  (∀ (n i : Nat) (s : State), n < s.chans.length →
    ((noteGates s).ch n).darkAt = (if (s.ch n).hs = 0 then some ((s.ch n).darkAt.getD (guardNow s)) else none) ∧
    litAt ((noteGates s).ch n) i = if (s.ch n).hs.getLsbD i then some ((litAt (s.ch n) i).getD s.now) else none)

/-- R27, R29, R45, R52, R83, R157, R409: a gate supply becomes ready, and a held turn-on of its unit proceeds once every member's is ready; it is barred when a member has no segment or the bank's battery is not OK. After 20 ms BST_UV is raised and the unit is barred, off with no gate of it changed until a new turn-on: an on-request, a retry that took BST_UV up, a battery's return or a map action of limp-home, and the end of no other hold; at BST_UV a unit in use is held off by rank 2 and its gates go off, where no self-test holds the channel. What the model chose or read by inference here: logs 3, 13 and 90. -/
def Obligations.GateSupplyCommands : Prop :=
  (∀ (n : Fin 12) (s : State), (∀ t, (s.ch (leader s n)).drive ≠ .waiting t) →
    Gives (.bstReady n) s (s.onCh n fun c => { c with bstLow := false, bstUv := false })) ∧
  (∀ (n : Fin 12) (t0 : Nat) (s x : State), x = (s.onCh n fun c => { c with bstLow := false, bstUv := false }) →
    (x.ch (leader x n)).drive = .waiting t0 → ((members x (leader x n)).all fun m => !(x.ch m).bstLow) = true →
    ((members x (leader x n)).all fun m => (x.ch m).alive != 0) = true → vbatOk x (leader x n) = true →
    Gives (.bstReady n) s (beginUnit (leader x n) x)) ∧
  (∀ (n : Fin 12) (t0 : Nat) (s : State), (s.ch (leader s n)).drive = .waiting t0 → s.since t0 20000 = true → s.clk.guardStop = false →
    Gives (.bstwaitTimeout n) s
      (raiseBstUv ((members s (leader s n)).filter fun m => (s.ch m).bstLow) (s.onCh (leader s n) fun c => { c with drive := .barred, cancelled := true })) ∧
    Raises (.bstwaitTimeout n) s
      (forEach ((members s (leader s n)).filter fun m => (s.ch m).bstLow) (fun m => setProt m 7) s) [98]) ∧
  (∀ (n : Fin 12) (s : State), (s.ch (leader s n)).drive ≠ .off → (s.ch (leader s n)).drive ≠ .barred →
    (∀ t, (s.ch (leader s n)).drive ≠ .waiting t) → s.clk.guardStop = false → underTest s n = false →
    Gives (.bstUvTurnoff n) s (raiseBstUv [n.val] (s.onCh n fun c => { c with bstLow := true, bstUv := true, uvHold := true })) ∧
    Raises (.bstUvTurnoff n) s
      (setProt n 7 (s.onCh n fun c => { c with bstLow := true, bstUv := true, uvHold := true })) [98]) ∧
  (∀ (n : Fin 12) (s : State), Gives (.bstUvRecovery n) s (s.onCh n fun c => { c with bstUv := false })) ∧
  (∀ (n : Fin 12) (t0 : Nat) (s x : State), x = (s.onCh n fun c => { c with bstLow := false, bstUv := false }) →
    (x.ch (leader x n)).drive = .waiting t0 → ((members x (leader x n)).any fun m => (x.ch m).bstLow) = true →
    Gives (.bstReady n) s x) ∧
  (∀ (n : Fin 12) (t0 : Nat) (s x : State), x = (s.onCh n fun c => { c with bstLow := false, bstUv := false }) →
    (x.ch (leader x n)).drive = .waiting t0 → ((members x (leader x n)).all fun m => !(x.ch m).bstLow) = true →
    (((members x (leader x n)).any fun m => (x.ch m).alive == 0) = true ∨ vbatOk x (leader x n) = false) →
    Gives (.bstReady n) s (x.onCh (leader x n) fun c => { c with drive := .barred })) ∧
  (∀ (n : Fin 12) (s : State), ((s.ch (leader s n)).drive = .off ∨ (s.ch (leader s n)).drive = .barred) →
    Gives (.bstUvTurnoff n) s (s.onCh n fun c => { c with bstLow := true, bstUv := true })) ∧
  (∀ (u m : Nat) (s : State), m ∈ members s u → (s.ch m).uvHold = true → (s.ch u).drive ≠ .off → u < s.chans.length →
    ((settleUnit u s).ch u).drive = .off ∧ ∀ k ∈ members s u, ((settleUnit u s).ch k).hs = 0) ∧
  (∀ (u : Nat) (s : State), (wantOf s u).1 ≠ .off → (s.ch u).want ≠ .off → (s.ch u).drive = .barred →
    ((wantOf s u).2 = true → (s.ch u).byLimp = true) →
    ((settleUnit u s).ch u).drive = .barred ∧ ∀ k, ((settleUnit u s).ch k).hs = (s.ch k).hs) ∧
  (∀ (n : Fin 12) (s : State), underTest s n = true →
    Gives (.bstUvTurnoff n) s (s.onCh n fun c => { c with bstLow := true, bstUv := true })) ∧
  (∀ (u : Nat) (s : State), (wantOf s u).1 ≠ .off → (s.ch u).want = .off → (s.ch u).cancelled = true → u < s.chans.length →
    ((settleUnit u s).ch u).drive = .barred ∧ ((settleUnit u s).ch u).cancelled = true ∧ ∀ k, ((settleUnit u s).ch k).hs = (s.ch k).hs) ∧
  (∀ (n : Nat) (cls : RetryClass) (s : State), leader s n < s.chans.length → n < s.chans.length →
    ((retryTurnOn n cls s).ch (leader s n)).cancelled =
      ((s.ch (leader s n)).cancelled && !(cls == .bst || (s.ch n).retry.taken.contains 98))) ∧
  (∀ (n : Nat) (s : State), (s.ch n).onReq = false → n < s.chans.length →
    ((requestOn n s).ch n).cancelled = false ∧ ((s.ch n).drive = .barred → ((requestOn n s).ch n).drive = .off ∧ ((requestOn n s).ch n).want = .off)) ∧
  (∀ (u : Nat) (s : State), s.limp.active = false → s.dev.struct = true → u < s.chans.length →
    ((enterLimp s).ch u).cancelled = ((s.ch u).cancelled && !((s.ch u).limpAct == 1 || (s.ch u).limpAct == 2)))

/-- R31, R33, R52, R53: a battery dip is noted and turns the bank's units in use off, each barred, with its ladder result kept and its freewheel stages at rest; at the battery's return the BST_UV hold and a cancelled turn-on of the bank's units end, and each barred unit that is asked for is a new turn-on; a stage in diode emulation whose current falls below 0.2 A goes off, and one beside a conducting high side is not concerned; option NONE holds the stage of an off unit off in every state. What the model chose or read by inference here: logs 13, 44 and 89, and log 137 for a turn-on that waits under R29 and stays pending through a dip and the return, which is the model's choice. -/
def Obligations.BatteryAndFreewheelCommands : Prop :=
  (∀ (x : Bank) (s : State), bankOk s x = true → Gives (.vbatDip x) s (forEach (bankUnits s x) dipUnit (setBank s x false))) ∧
  (∀ (u : Nat) (s : State), (s.ch u).drive ≠ .off → (s.ch u).drive ≠ .barred → (∀ t, (s.ch u).drive ≠ .waiting t) → u < s.chans.length →
    ((dipUnit u s).ch u).drive = .barred ∧ ((dipUnit u s).ch u).lad.res = (s.ch u).lad.res ∧ ((dipUnit u s).ch u).want = (s.ch u).want ∧
      ∀ m ∈ members s u, ((dipUnit u s).ch m).hs = 0 ∧ (m < s.chans.length → ((dipUnit u s).ch m).fw = restFw s m)) ∧
  (∀ (x : Bank) (s : State), bankOk s x = true → Completes (.vbatDip x) s (setBank s x false)) ∧
  (∀ s : State, s.sup.vbatA = false →
    Gives (.vbatReturn .a) s (forEach (bankUnits s .a) batteryBack
      { s with sup := { s.sup with vbatA := true } })) ∧
  (∀ s : State, s.sup.vbatB = false →
    Gives (.vbatReturn .b) s (forEach (bankUnits s .b) batteryBack
      { s with sup := { s.sup with vbatB := true } })) ∧
  (∀ (n : Fin 12) (s : State), (s.ch n).hs = 0 → Gives (.fwZeroCurrent n) s
    (s.onCh n fun c => { c with zeroI := true, fw := if c.fw = .diode then .off else c.fw })) ∧
  (∀ (n : Fin 12) (s : State), (s.ch n).hs ≠ 0 → Gives (.fwZeroCurrent n) s s) ∧
  (∀ (x : Bank) (s : State), bankOk s x = true → Gives (.vbatReturn x) s s) ∧
  (∀ (n : Nat) (s : State), (s.ch n).stuck = false → s.flt.safe = false →
    restFw s n = if (s.ch n).fwOpt = 1 ∧ (s.ch n).zeroI = false then .diode else .off) ∧
  (∀ (u m : Nat) (s : State), (s.ch u).want = .on → isBridge s u = false → (s.ch u).hasLadder = false → u < s.chans.length →
    ((members s u).any fun k => (s.ch k).bstLow) = false → ((members s u).any fun k => (s.ch k).alive == 0) = false → vbatOk s u = true →
    m ∈ members s u → m < s.chans.length →
    ((attempt u s).ch u).drive = .steady ∧ ((attempt u s).ch m).hs = ~~~(s.ch m).retired) ∧
  (∀ (n : Nat) (s : State), (s.ch n).fwOpt = 0 → restFw s n = .off) ∧
  (∀ (u : Nat) (s x : State),
    x = ((forEach (members s u) (fun m y => y.onCh m fun c => { c with uvHold := false }) s).onCh u fun c => { c with cancelled := false }) →
    batteryBack u s = if (s.ch u).drive = .barred ∧ (s.ch u).want ≠ .off then attempt u x else x) ∧
  (∀ (u m : Nat) (s : State), m ∈ members s u → m < s.chans.length → ((batteryBack u s).ch m).uvHold = false) ∧
  (∀ (u : Nat) (s : State), u < s.chans.length → ((batteryBack u s).ch u).cancelled = false)

/-! ### Units (02, 03, 06) -/

/-- R29, R45, R52, R59 to R61, R63, R70, R72, R74, R158, R172: what the governing row asks of a unit, and what the unit does when it changes. OFF turns every high side of the unit off; a turn-on waits for a gate supply, is barred by a dead member or the battery, and else runs the ladder from step 1, of a timed unit from its timer's next period start on, follows the timer, or turns on at once; a turn-on engages every segment that is not retired, or the ladder's set, loads the step's scaled threshold and takes the freewheel stages off. COAST turns every gate of a bridge off, BRAKE both freewheel stages on, FWD and REV the opposite leg's alone, a reversal brakes first, and only currents below 0.2 A at a period start end that brake; a BRAKE, a COAST or the original direction ends the wait, and the direction that is waited for leaves it. A hold of rank 3 on one half of a bridge holds that half's gates alone. What the model chose or read by inference here: logs 13, 37, 90, 93, 95, 102, 104, 118, 128 and 129, and log 137 for a dip under a pending turn-on. -/
def Obligations.UnitsFollowWhatIsAsked : Prop :=
  (∀ (u m : Nat) (s : State), m ∈ members s u → (rank2 (s.ch m) = true ∨ (rank3 s m = true ∧ isBridge s u = false)) →
    (wantOf s u).1 = .off) ∧
  (∀ (u : Nat) (s : State), (s.dev.struct = false ∨ s.flt.safe = true) → (wantOf s u).1 = .off) ∧
  (∀ (u t : Nat) (s : State), s.dev.struct = true → s.flt.safe = false → (∀ m ∈ members s u, rank2 (s.ch m) = false ∧ rank3 s m = false) →
    s.limp.active = true → limpTimer s = some t →
    wantOf s u = if (s.ch u).limpAct = 1 then (.on, true) else if (s.ch u).limpAct = 2 then (.timed t, true) else (.off, true)) ∧
  (∀ (u : Nat) (s : State), s.dev.struct = true → s.flt.safe = false → (∀ m ∈ members s u, rank2 (s.ch m) = false ∧ rank3 s m = false) →
    s.limp.active = false →
    wantOf s u = if (s.ch u).onReq then (match chTimer s u with | some t => (.timed t, false) | none => (.on, false))
      else if (s.ch u).lingers then ((s.ch u).want, true) else (.off, false)) ∧
  (∀ (u : Nat) (s : State), (wantOf s u).1 = .off → ((s.ch u).want ≠ .off ∨ (s.ch u).drive ≠ .off) → u < s.chans.length →
    ((settleUnit u s).ch u).drive = .off ∧ ((settleUnit u s).ch u).want = .off ∧ ((settleUnit u s).ch u).lad.step = 0 ∧
      ((s.ch u).lad.step ≠ 0 → ((settleUnit u s).ch u).lad.res = 3) ∧
      ∀ m ∈ members s u, ((settleUnit u s).ch m).hs = 0 ∧ (m < s.chans.length → ((settleUnit u s).ch m).fw = restFw s m)) ∧
  (∀ (u : Nat) (s : State), (wantOf s u).1 ≠ .off → (s.ch u).want = .off → (s.ch u).cancelled = false →
    settleUnit u s = attempt u (s.onCh u fun c => { c with want := (wantOf s u).1, byLimp := (wantOf s u).2 })) ∧
  (∀ (u : Nat) (s : State), ((members s u).any fun k => (s.ch k).bstLow) = true → u < s.chans.length →
    ((attempt u s).ch u).drive = .waiting s.now ∧ ∀ m, ((attempt u s).ch m).hs = (s.ch m).hs) ∧
  (∀ (u : Nat) (s : State), ((members s u).any fun k => (s.ch k).bstLow) = false → u < s.chans.length →
    (((members s u).any fun k => (s.ch k).alive == 0) = true ∨ vbatOk s u = false) →
    ((attempt u s).ch u).drive = .barred ∧ ∀ m, ((attempt u s).ch m).hs = (s.ch m).hs) ∧
  (∀ (u : Nat) (s : State), (s.ch u).want = .on → isBridge s u = false → (s.ch u).hasLadder = false → u < s.chans.length →
    ((beginUnit u s).ch u).drive = .steady ∧
      ∀ m ∈ members s u, m < s.chans.length → ((beginUnit u s).ch m).hs = ~~~(s.ch m).retired ∧ ((beginUnit u s).ch m).fw = .off) ∧
  (∀ (u t : Nat) (s : State), (s.ch u).want = .timed t → ((s.ch u).hasLadder = false ∨ isBridge s u = true) → u < s.chans.length →
    ((beginUnit u s).ch u).drive = .timed t ∧ ((beginUnit u s).ch u).pulse = .off ∧ ∀ m, ((beginUnit u s).ch m).hs = (s.ch m).hs) ∧
  (∀ (u : Nat) (s : State), (s.ch u).want = .on → isBridge s u = false → (s.ch u).hasLadder = true → u < s.chans.length →
    ((beginUnit u s).ch u).drive = .ladder ∧ ((beginUnit u s).ch u).lad.step = 1 ∧ ((beginUnit u s).ch u).lad.stepAt = s.now ∧
      ∀ m ∈ members s u, m < s.chans.length →
        ((beginUnit u s).ch m).hs = engagedSet { s.ch m with ring := 0 } (stepSegs (ladderOf s u) 1) ∧
        ((beginUnit u s).ch m).limit = chopThreshold (s.ch m) (ladderOf s u) 1) ∧
  (∀ (u t : Nat) (s : State), (s.ch u).want = .timed t → isBridge s u = false → (s.ch u).hasLadder = true → u < s.chans.length →
    ((beginUnit u s).ch u).drive = (if (s.ch u).byLimp && (s.ch u).limpLad then .timed t else .ladderAt t) ∧ ∀ m, ((beginUnit u s).ch m).hs = (s.ch m).hs) ∧
  (∀ (b : Bool) (u m : Nat) (s : State), m < s.chans.length →
    (m ∈ legs s u → ((gatesOn b u s).ch m).hs = onSet s u (s.ch m) ∧ ((gatesOn b u s).ch m).fw = .off ∧ ((gatesOn b u s).ch m).tripped = 0) ∧
    (m ∉ legs s u → (gatesOn b u s).ch m = s.ch m)) ∧
  (∀ (u : Nat) (s : State) (c : Chan), (s.ch u).drive ≠ .ladder → onSet s u c = ~~~c.retired) ∧
  (∀ (u : Nat) (s : State), u < s.chans.length → ((coastUnit u s).ch u).bridge = .coast ∧
    ∀ m ∈ [u, u + 1], ((coastUnit u s).ch m).hs = 0 ∧ ((coastUnit u s).ch m).fw = .off) ∧
  (∀ (x : Option Bridge) (u : Nat) (s : State), u + 1 < s.chans.length → ((brakeUnit x u s).ch u).bridge = .brake ∧
    ((brakeUnit x u s).ch u).revTo = x ∧ ((brakeUnit x u s).ch u).hs = 0 ∧ ((brakeUnit x u s).ch (u + 1)).hs = 0 ∧
    (((s.ch u).hs = 0 ∧ (s.ch (u + 1)).hs = 0) → lit s u = false → ((brakeUnit x u s).ch u).fw = driveFw (s.ch u) ∧
      ((brakeUnit x u s).ch (u + 1)).fw = driveFw (s.ch (u + 1))) ∧
    (((s.ch u).hs ≠ 0 ∨ (s.ch (u + 1)).hs ≠ 0 ∨ lit s u = true) → ((brakeUnit x u s).ch u).dt = .toFreewheel)) ∧
  (∀ c : Chan, c.fwOpt = 2 → c.stuck = false → driveFw c = .on) ∧
  (∀ (t u : Nat) (d : Bridge) (s : State), isBridge s u = true → (d = .fwd ∨ d = .rev) → u + 1 < s.chans.length →
    (s.ch u).fwOpt = 2 → (s.ch (u + 1)).fwOpt = 2 → (s.ch u).stuck = false → (s.ch (u + 1)).stuck = false → halfHeld s u = false → halfHeld s (u + 1) = false →
    ((bridgeEnter t d u s).ch u).bridge = d ∧ ((bridgeEnter t d u s).ch (if d = .fwd then u + 1 else u)).fw = .on ∧
    ((s.ch u).hasLadder = true → ((bridgeEnter t d u s).ch u).drive = .ladder ∧ ((bridgeEnter t d u s).ch u).lad.step = 1)) ∧
  (∀ (u : Nat) (s : State), isBridge s u = true → bridgeLive (s.ch u) = true →
    (bridgeOf (s.ch u).brcmd = .coast → (s.ch u).bridge ≠ .coast → bridgeCommand u s = coastUnit u s) ∧
    (bridgeOf (s.ch u).brcmd = .brake → (s.ch u).bridge ≠ .brake → bridgeCommand u s = brakeUnit none u s) ∧
    (bridgeOf (s.ch u).brcmd = .fwd → (s.ch u).bridge = .rev → bridgeCommand u s = brakeUnit (some .fwd) u s) ∧
    (bridgeOf (s.ch u).brcmd = .rev → (s.ch u).bridge = .fwd → bridgeCommand u s = brakeUnit (some .rev) u s)) ∧
  (∀ (t u : Nat) (d : Bridge) (ready : Bool) (s : State), (s.ch u).revTo = some d →
    bridgePeriod t ready u s = if ready then bridgeEnter t d u s else s) ∧
  (∀ (t u : Nat) (ready : Bool) (s : State), (s.ch u).revTo = none → (bridgeOf (s.ch u).brcmd = .fwd ∨ bridgeOf (s.ch u).brcmd = .rev) →
    bridgePeriod t ready u s = if (s.ch u).bridge = bridgeOf (s.ch u).brcmd then timedPeriod t u s
      else bridgeEnter t (bridgeOf (s.ch u).brcmd) u s) ∧
  (∀ (u : Nat) (d : Bridge) (s : State), isBridge s u = true → bridgeLive (s.ch u) = true → u < s.chans.length →
    (s.ch u).bridge = .brake → (s.ch u).revTo = some d → (d = .fwd ∨ d = .rev) →
    (bridgeOf (s.ch u).brcmd = d → bridgeCommand u s = s) ∧
    (bridgeOf (s.ch u).brcmd ≠ d → ((bridgeCommand u s).ch u).revTo = none) ∧
    (bridgeOf (s.ch u).brcmd = .coast → bridgeCommand u s = coastUnit u s) ∧
    (bridgeOf (s.ch u).brcmd ≠ d → bridgeOf (s.ch u).brcmd ≠ .coast → bridgeCommand u s = s.onCh u fun c => { c with revTo := none })) ∧
  (∀ (u : Nat) (s : State), isBridge s u = true → (∀ m ∈ members s u, rank3 s m = true) → (wantOf s u).1 = .off) ∧
  (∀ (u m : Nat) (s : State), isBridge s u = true → m ∈ members s u → rank3 s m = false → s.dev.struct = true → s.flt.safe = false →
    s.limp.active = false → (s.ch u).onReq = true → (∀ k ∈ members s u, rank2 (s.ch k) = false) → (wantOf s u).1 ≠ .off) ∧
  (∀ (u : Nat) (s : State), isBridge s u = true →
    ((s.ch u).bridge = .fwd → legs s u = if halfHeld s u then [] else [u]) ∧
    ((s.ch u).bridge = .rev → legs s u = if halfHeld s (u + 1) then [] else [u + 1]) ∧
    ((s.ch u).bridge = .coast → legs s u = []) ∧ ((s.ch u).bridge = .brake → legs s u = [])) ∧
  (∀ (u : Nat) (s x : State), x = forEach (members s u) (fun n y => y.onCh n fun c => { c with half := rank3 y n }) s →
    isBridge s u = true → (wantOf x u).1 ≠ .off → (x.ch u).want ≠ .off → (∀ t, (x.ch u).drive ≠ .waiting t) → (x.ch u).cancelled = false →
    ((members s u).any fun n => (s.ch n).half && !rank3 s n) = true → settleHalves u s = attempt u (unitOff u x)) ∧
  (∀ (u : Nat) (s x : State), x = forEach (members s u) (fun n y => y.onCh n fun c => { c with half := rank3 y n }) s →
    isBridge s u = true → (wantOf x u).1 ≠ .off → (x.ch u).want ≠ .off → ((members s u).any fun n => (s.ch n).half && !rank3 s n) = false →
    ((x.ch u).bridge = .fwd ∨ (x.ch u).bridge = .rev) →
    settleHalves u s = if (legs x u).isEmpty then legHeld u x else x) ∧
  (∀ (u : Nat) (s : State), u < s.chans.length → ((legHeld u s).ch u).lad.step = 0 ∧
    ((s.ch u).lad.step ≠ 0 → ((legHeld u s).ch u).lad.res = 3) ∧
    ((legHeld u s).ch u).drive = (if (s.ch u).drive = .ladder then timedDrive (s.ch u) else (s.ch u).drive)) ∧
  (∀ (m : Nat) (s : State), m < s.chans.length → halfHeld s m = true →
    ((clampGates s).ch m).hs = 0 ∧ ((clampGates s).ch m).fw = .off) ∧
  (∀ (t u : Nat) (d : Bridge) (s : State), isBridge s u = true → (d = .fwd ∨ d = .rev) → u + 1 < s.chans.length →
    halfHeld s (if d = .fwd then u else u + 1) = true →
    ((bridgeEnter t d u s).ch u).bridge = d ∧ ((bridgeEnter t d u s).ch u).lad = (s.ch u).lad) ∧
  (∀ (x : Option Bridge) (u : Nat) (s : State), u < s.chans.length →
    ((coastUnit u s).ch u).cutPeriod = false ∧ ((brakeUnit x u s).ch u).cutPeriod = false) ∧
  (∀ (u t x : Nat) (r : List Nat) (s : State), (s.ch u).drive = .ladderAt x → (s.ch u).want = .timed t →
    ((s.ch u).lingers = false ∨ (s.ch u).onReq = true ∨ routeOf s u ≠ some t) → unitPeriod t r u s = startLadder u s) ∧
  (∀ (u : Nat) (s : State), isBridge s u = false → u < s.chans.length →
    ((startLadder u s).ch u).drive = .ladder ∧ ((startLadder u s).ch u).lad.stepAt = s.now ∧
      ∀ m ∈ members s u, m < s.chans.length →
        ((startLadder u s).ch m).hs = engagedSet { s.ch m with ring := 0 } (stepSegs (ladderOf s u) 1) ∧
        ((startLadder u s).ch m).limit = chopThreshold (s.ch m) (ladderOf s u) 1) ∧
  (∀ (u t t' : Nat) (lp : Bool) (s : State), u < s.chans.length → (s.ch u).drive = .ladderAt t → (s.ch u).want ≠ .off →
    wantOf s u = (.timed t', lp) → ((s.ch u).want ≠ .timed t' ∨ (s.ch u).byLimp ≠ lp) →
    ((settleUnit u s).ch u).drive = .ladderAt t' ∧ ((settleUnit u s).ch u).want = .timed t')

/-! ### Switching modes (03) -/

/-- R60, R76, R85, R142, R348: ON sets the on-request of a lead channel and releases its unit's latches, OFF clears it, with what keeps a unit on after limp-home (R174), and brings retries to rest (one that finds it clear is OK and changes nothing, which is the model's choice, log 121), and BRCMD of a bridge's leader is staged, as COAST with an ON or OFF alone; a channel that is not its unit's leader answers DENIED; a non-zero BRCMD answers DENIED there and FORMAT where no bridge is, and the word's ON is served; with TIME stopped the request waits. What the model chose or read by inference here: logs 12, 13, 101, 121 and 129. -/
def Obligations.RequestRows : Prop :=
  (∀ (a : Access) (n : Fin 12) (s : State), MayStore s a (0x200 + 32 * n) → leader s n = n → (s.ch n).baseMode ≠ 2 →
    s.clk.timeStop = false → n < s.chans.length → (s.ch n).onReq = false →
    ∃ t, exec (.ctlOn a n) s = .next t ∧ (t.ch n).onReq = true ∧ t.status = sOk ∧
      (∀ m ∈ members s n, (t.ch m).scLatch = false ∧ (t.ch m).hsLatch = false ∧ (t.ch m).dsLatch = false ∧ (t.ch m).uvHold = false) ∧
      t.still = ({ requestOn n s with status := sOk } : State).still) ∧
  (∀ (a : Access) (n : Fin 12) (s : State), MayStore s a (0x200 + 32 * n) → leader s n = n → (s.ch n).baseMode ≠ 2 →
    s.clk.timeStop = false → (s.ch n).onReq = true → GivesStatus (.ctlOn a n) s sOk s) ∧
  (∀ (a : Access) (n : Fin 12) (s : State), MayStore s a (0x200 + 32 * n) → leader s n = n → (s.ch n).baseMode ≠ 2 →
    s.clk.timeStop = false → (s.ch n).onReq = true →
    GivesStatus (.ctlOff a n) s sOk
      (forEach (members s n) retryRest (s.onCh n fun c => { c with onReq := false, inrush := false, lingers := false }))) ∧
  (∀ (a : Access) (n : Fin 12) (s : State), MayStore s a (0x200 + 32 * n) → leader s n = n → (s.ch n).baseMode ≠ 2 →
    s.clk.timeStop = false → (s.ch n).onReq = false → GivesStatus (.ctlOff a n) s sOk s) ∧
  (∀ (a : Access) (n : Fin 12) (cmd : BitVec 2) (s : State), MayStore s a (0x200 + 32 * n) → leader s n = n → (s.ch n).baseMode = 2 →
    GivesStatus (.brcmdWrite a n cmd) s sOk (s.onCh n fun c => { c with brcmdSh := cmd })) ∧
  (∀ (h : Port) (n : Fin 12) (s : State), MayStore s (.write h) (0x200 + 32 * n) → leader s n ≠ n →
    GivesStatus (.ctlOn (.write h) n) s sDenied (noteLast h 1 (0x200 + 32 * n) sDenied s) ∧
    GivesStatus (.ctlOff (.write h) n) s sDenied (noteLast h 1 (0x200 + 32 * n) sDenied s)) ∧
  (∀ (a : Access) (n : Fin 12) (s : State), MayStore s a (0x200 + 32 * n) → leader s n = n → (s.ch n).baseMode = 2 →
    s.clk.timeStop = false → n < s.chans.length →
    GivesStatus (.ctlOn a n) s sOk (requestOn n (s.onCh n fun c => { c with brcmdSh := 0 })) ∧
    ((requestOn n (s.onCh n fun c => { c with brcmdSh := 0 })).ch n).onReq = true) ∧
  (∀ (a : Access) (n : Fin 12) (s : State), MayStore s a (0x200 + 32 * n) → leader s n = n → (s.ch n).baseMode = 2 →
    s.clk.timeStop = false → (s.ch n).onReq = true →
    GivesStatus (.ctlOff a n) s sOk
      (forEach (members s n) retryRest (s.onCh n fun c => { c with brcmdSh := 0, onReq := false, inrush := false, lingers := false }))) ∧
  (∀ (h : Port) (n : Fin 12) (cmd : BitVec 2) (s : State), MayStore s (.write h) (0x200 + 32 * n) → leader s n ≠ n → cmd ≠ 0 →
    GivesStatus (.brcmdWrite (.write h) n cmd) s sDenied (noteLast h 1 (0x200 + 32 * n) sDenied s)) ∧
  (∀ (h : Port) (n : Fin 12) (cmd : BitVec 2) (s : State), MayStore s (.write h) (0x200 + 32 * n) → leader s n = n →
    (s.ch n).baseMode ≠ 2 → cmd ≠ 0 →
    GivesStatus (.brcmdWrite (.write h) n cmd) s sFormat (noteLast h 1 (0x200 + 32 * n) sFormat s)) ∧
  (∀ (h : Port) (n : Fin 12) (addr : BitVec 12) (d : D28) (s : State), addr.toNat = 0x200 + 32 * n → MayStore s (.write h) addr.toNat →
    leader s n = n → (s.ch n).baseMode ≠ 2 → s.clk.timeStop = false → fld d 27 4 = 0 → fld d 3 2 ≠ 0 → fld d 1 0 = 1 →
    GivesStatus (.registerWrite (.write h) addr d) s sFormat (noteLast h 1 addr.toNat sFormat (requestOn n s))) ∧
  (∀ (a : Access) (n : Fin 12) (s : State), MayStore s a (0x200 + 32 * n) → leader s n = n → (s.ch n).baseMode ≠ 2 →
    s.clk.timeStop = true →
    GivesStatus (.ctlOn a n) s sOk (holdWord (0x200 + 32 * n) 1 s) ∧ GivesStatus (.ctlOff a n) s sOk (holdWord (0x200 + 32 * n) 2 s)) ∧
  (∀ (n : Nat) (s : State), (s.ch n).onReq = false → requestOn n s =
    forEach (members s n) (fun m x => x.onCh m fun c => { c with scLatch := false, hsLatch := false, dsLatch := false, uvHold := false })
      (s.onCh n fun c => { c with onReq := true, cancelled := false, want := if c.drive = .barred then .off else c.want,
                                  drive := if c.drive = .barred then .off else c.drive }))

/-- R65 to R69, R147, R182: the comparator of a member in a ladder whose current reaches the threshold of its latest turn-on, the step's scaled to the segments that remain, chops: the unit's switching legs go off, the chop counts, and OFFT begins; its end turns them on again. A rotation instant moves the ring on by the step's number of segments, and the gates that are on follow, those of a set that has lost every segment among them. A step ends at its DWELL or early once the profile's quiet time (500 µs, 2 ms, 200 µs) has passed in the step and since its latest chop, and not before; the next one begins, and after the last one, whose check asks for no chop in the last 1 ms, of MOTOR 10 ms, and of CAPACITIVE for a current of no more than half the last ILIM, the unit enters its base mode with every live segment, and the ladder completes or CHn_INRUSH is raised. What the model chose or read by inference here: logs 14, 16, 37, 91, 92, 135 and 139. -/
def Obligations.LadderCommands : Prop :=
  (∀ (n : Fin 12) (ma : Nat) (s : State), inLadder s (leader s n) = true → (s.ch (leader s n)).lad.inOff = false → (s.ch n).hs ≠ 0 →
    250 * (s.ch n).limit ≤ ma →
    Gives (.ladderChop ⟨n, ma⟩) s ((countCut n (ladderChop (leader s n) s)).onCh n fun c => { c with chopMs := true })) ∧
  (∀ (u : Nat) (s : State), u < s.chans.length →
    ((ladderChop u s).ch u).lad.inOff = true ∧ ((ladderChop u s).ch u).lad.lastChop = some s.now ∧
      ((ladderChop u s).ch u).lad.offt = stepOfft (ladderOf s u) (s.ch u).lad.step ∧
      ((ladderChop u s).ch u).lad.chops = sat 0xFFF ((s.ch u).lad.chops + 1) ∧ ∀ m ∈ legs s u, ((ladderChop u s).ch m).hs = 0) ∧
  (∀ (n : Fin 12) (t0 : Nat) (s : State), (s.ch (leader s n)).lad.inOff = true → (s.ch (leader s n)).lad.lastChop = some t0 →
    s.since t0 ((s.ch (leader s n)).lad.offt / 2) = true →
    Gives (.offtExpiry n) s
      (resume false (leader s n) (s.onCh (leader s n) fun c => { c with lad := { c.lad with inOff := false } }))) ∧
  (∀ (n : Fin 12) (k : Nat) (s : State), inLadder s (leader s n) = true → k = (s.ch (leader s n)).lad.step →
    stepRot (ladderOf s (leader s n)) k = 2 → 1000 ≤ (s.ch (leader s n)).lad.rotUs →
    Gives (.rotationTick n) s
      (reengage (leader s n) (forEach (legs s (leader s n)) (fun m s' => s'.onCh m fun c => advance c (stepSegs (ladderOf s (leader s n)) k))
        (s.onCh (leader s n) fun c => { c with lad := { c.lad with rotUs := c.lad.rotUs - 1000 } })))) ∧
  (∀ (n : Fin 12) (u : Nat) (s : State), u = leader s n → inLadder s u = true →
    stepDwell (ladderOf s u) (s.ch u).lad.step ≤ (s.ch u).lad.stepUs → (s.ch u).lad.step < ladderSteps (ladderOf s u) →
    Gives (.stepDwellEnd n) s (reengage u (s.onCh u fun c =>
      { c with lad := { c.lad with step := (s.ch u).lad.step + 1, chops := 0, stepUs := 0, rotUs := 0, stepAt := s.now } }))) ∧
  (∀ (n : Fin 12) (u : Nat) (s : State), u = leader s n → inLadder s u = true →
    stepEarly (ladderOf s u) (s.ch u).lad.step = true → quietUs (ladderKind (ladderOf s u)) ≤ (s.ch u).lad.stepUs →
    (s.ch u).lad.lastChop = none → (s.ch u).lad.step < ladderSteps (ladderOf s u) →
    Gives (.stepEarlyEnd n) s (reengage u (s.onCh u fun c =>
      { c with lad := { c.lad with step := (s.ch u).lad.step + 1, chops := 0, stepUs := 0, rotUs := 0, stepAt := s.now } }))) ∧
  (∀ (n : Fin 12) (u : Nat) (s : State), u = leader s n → inLadder s u = true →
    stepDwell (ladderOf s u) (s.ch u).lad.step ≤ (s.ch u).lad.stepUs → (s.ch u).lad.step = ladderSteps (ladderOf s u) →
    endCheck s u = true →
    Gives (.stepDwellEnd n) s ((enterBase u s).onCh u fun c => { c with limpLad := c.limpLad || s.limp.active, lad := { c.lad with res := 1 } })) ∧
  (∀ (n : Fin 12) (u : Nat) (s : State), u = leader s n → u < 12 → inLadder s u = true →
    stepDwell (ladderOf s u) (s.ch u).lad.step ≤ (s.ch u).lad.stepUs → (s.ch u).lad.step = ladderSteps (ladderOf s u) →
    endCheck s u = false → lightsOut s = false →
    Gives (.stepDwellEnd n) s (raise [evCh u 3 0] ((enterBase u s).onCh u fun c => { c with inrush := true, lad := { c.lad with res := 2 } })) ∧
    Raises (.stepDwellEnd n) s s [8 * u + 3]) ∧
  (∀ (c : Chan) (k : Nat), ringFrom (advance c k) = (ringFrom c).rotate k) ∧
  (∀ (u : Nat) (s : State), blocked (s.ch u) = true → reengage u s = s) ∧
  (∀ (u m : Nat) (s : State), blocked (s.ch u) = false → m ∈ legs s u → (s.ch m).hs ≠ 0 →
    ((reengage u s).ch m).hs = onSet s u (s.ch m) &&& ~~~(s.ch m).tripped ∧ ((reengage u s).ch m).limit = loadedLimit s u (s.ch m)) ∧
  (∀ (u : Nat) (s : State) (c : Chan), (s.ch u).drive = .ladder →
    onSet s u c = engagedSet c (stepSegs (ladderOf s u) (s.ch u).lad.step) ∧
    loadedLimit s u c = (if c.alive < stepSegs (ladderOf s u) (s.ch u).lad.step
      then stepIlim (ladderOf s u) (s.ch u).lad.step * c.alive / stepSegs (ladderOf s u) (s.ch u).lad.step
      else stepIlim (ladderOf s u) (s.ch u).lad.step)) ∧
  (∀ (u : Nat) (s : State), u < s.chans.length → ((enterBase u s).ch u).lad.step = 0 ∧
    ((∀ t, (s.ch u).want = .timed t → isBridge s u = true → ((enterBase u s).ch u).drive = .timed t) ∧
      (isBridge s u = false → ((enterBase u s).ch u).drive = .steady)) ∧
    ∀ m ∈ legs s u, blocked (s.ch u) = false → (s.ch m).hs ≠ 0 → ((enterBase u s).ch m).hs = ~~~(s.ch m).retired &&& ~~~(s.ch m).tripped) ∧
  (∀ (u m : Nat) (s : State), blocked (s.ch u) = false → m ∈ legs s u → m < s.chans.length → (s.ch m).hs = 0 →
    driveAsks (s.ch u) = true → (s.ch u).dt ≠ .toHigh → s.pins.heart = false →
    ((reengage u s).ch m).hs = onSet s u (s.ch m) &&& ~~~(s.ch m).tripped ∧ ((reengage u s).ch m).limit = loadedLimit s u (s.ch m) ∧
      ((reengage u s).ch m).fw = .off) ∧
  (∀ (u m : Nat) (s : State), (s.ch m).hs = 0 → (driveAsks (s.ch u) = false ∨ (s.ch u).dt = .toHigh ∨ s.pins.heart = true) →
    ((reengage u s).ch m).hs = 0) ∧
  (∀ (u m : Nat) (s : State), u < s.chans.length → m ∈ legs s u → m < s.chans.length → blocked (s.ch u) = false → (s.ch m).hs = 0 →
    (s.ch u).dt ≠ .toHigh → s.pins.heart = false → ((enterBase u s).ch m).hs = ~~~(s.ch m).retired &&& ~~~(s.ch m).tripped) ∧
  (∀ (u : Nat) (s : State), u < s.chans.length → ((startLadder u s).ch u).cutPeriod = false ∧ ((startLadder u s).ch u).lad.step = 1) ∧
  (∀ (n : Fin 12) (u t0 : Nat) (s : State), u = leader s n → inLadder s u = true → stepEarly (ladderOf s u) (s.ch u).lad.step = true →
    quietUs (ladderKind (ladderOf s u)) ≤ (s.ch u).lad.stepUs → (s.ch u).lad.lastChop = some t0 →
    (s.since t0 (quietUs (ladderKind (ladderOf s u))) = true → (s.ch u).lad.step < ladderSteps (ladderOf s u) →
      Gives (.stepEarlyEnd n) s (reengage u (s.onCh u fun c =>
        { c with lad := { c.lad with step := (s.ch u).lad.step + 1, chops := 0, stepUs := 0, rotUs := 0, stepAt := s.now } }))) ∧
    (s.since t0 (quietUs (ladderKind (ladderOf s u))) = false → Gives (.stepEarlyEnd n) s s)) ∧
  (quietUs 0 = 500 ∧ quietUs 1 = 2000 ∧ quietUs 2 = 200 ∧ checkUs 0 = 1000 ∧ checkUs 1 = 10000 ∧ checkUs 2 = 1000) ∧
  (∀ (n : Fin 12) (u : Nat) (s : State), u = leader s n →
    (stepEarly (ladderOf s u) (s.ch u).lad.step = false ∨ (s.ch u).lad.stepUs < quietUs (ladderKind (ladderOf s u))) → Gives (.stepEarlyEnd n) s s) ∧
  (∀ (u : Nat) (s : State), endCheck s u = true ↔
    (∀ t0, (s.ch u).lad.lastChop = some t0 → checkUs (ladderKind (ladderOf s u)) < s.now - t0) ∧
    (ladderKind (ladderOf s u) = 2 → ∀ m ∈ legs s u, ∀ (i : Int) (q : BitVec 2) (r : List (Int × BitVec 2)), (s.ch m).ipris = (i, q) :: r →
      2 * i ≤ 25 * (stepIlim (ladderOf s u) (ladderSteps (ladderOf s u)) : Int)))

/-! ### Timers (04) -/

/-- R81, R82, R84, R89, R91, R93, R98, R105, R110: a supply of any member below BST_LOW brings its whole unit a refresh pulse at once in static, parallel-member and inrush operation and at the next period start of a PWM or bridge unit; a pulse counts, notes its start and holds the unit's switching legs off until its end, which turns them on again where they are asked for; the recheck and the end of the 100 µs spacing bring another while the supply is low, the latter in an off-interval too. A period starts when it is due, one of a group member at its phase point and of any other timer after its period; the requests of the units that follow the timer, in a pulse, whose on-time is over fall, and a TRIG timer's trigger B comes with that instant once in the period; the end of a dead time raises the high sides, turns the freewheel stages on, or takes them off before a chop's turn-on. What the model chose or read by inference here: logs 3, 16, 38, 105, 106, 117, 118, 119, 140 and 149. -/
def Obligations.PeriodRefreshAndDeadTime : Prop :=
  (∀ (n : Fin 12) (u : Nat) (s : State), u = leader s n → (s.ch u).refEn = true → (s.ch u).refreshing = false →
    (s.ch n).hs ≠ 0 → (s.ch u).refreshAt = none → ((s.ch u).drive = .steady ∨ (s.ch u).drive = .ladder) →
    Gives (.refreshPulse n) s (startRefresh u (s.onCh n fun c => { c with bstLow := true }))) ∧
  (∀ (n : Fin 12) (u t : Nat) (s : State), u = leader s n → (s.ch u).refEn = true → (s.ch u).refreshing = false →
    (s.ch n).hs ≠ 0 → (s.ch u).refreshAt = none → (s.ch u).drive = .timed t →
    Gives (.refreshPulse n) s (if (s.ch u).baseMode = 3 then startRefresh u (s.onCh n fun c => { c with bstLow := true })
      else (s.onCh n fun c => { c with bstLow := true }).onCh u fun c => { c with refreshDue := true })) ∧
  (∀ (n : Fin 12) (s : State), (s.ch (leader s n)).refreshing = true →
    Gives (.refreshPulseEnd n) s (resume true (leader s n) (s.onCh (leader s n) fun c => { c with refreshing := false }))) ∧
  (∀ (n : Fin 12) (t0 : Nat) (s : State), (s.ch (leader s n)).refreshAt = some t0 → s.since t0 10 = true →
    Gives (.refreshRecheck n false) s (s.onCh n fun c => { c with bstLow := false }) ∧
    Gives (.refreshRecheck n true) s (refresh n (s.onCh n fun c => { c with bstLow := true }))) ∧
  (∀ (n : Fin 12) (u t0 : Nat) (s : State), u = leader s n → (s.ch n).bstLow = true → (s.ch u).refEn = true →
    (s.ch u).refreshing = false → (s.ch n).hs ≠ 0 → (s.ch u).refreshAt = some t0 → s.since t0 100 = true → (s.ch u).drive = .steady →
    Gives (.refreshSpacingExpiry n) s (startRefresh u s)) ∧
  (∀ (n : Fin 12) (t0 : Nat) (s : State), (s.ch n).bstLow = true → (s.ch (leader s n)).refreshAt = some t0 →
    s.since t0 100 = false → Gives (.refreshSpacingExpiry n) s s) ∧
  (∀ (t : Fin 20) (below : Mask12) (near : BitVec 20) (s : State), boundaryDue s t = true →
    Gives (.periodBoundary t below near) s (beginPeriod t below near s)) ∧
  (∀ (t : Fin 20) (chs : Mask12) (s x : State), s.timeRuns = true → (s.tm t).run = true → (s.tm t).frozen = false →
    (s.tm t).fresh = false → x = triggerB t s →
    Gives (.requestFall t chs) s (forEach (fallingUnits x t chs) requestFall x)) ∧
  (∀ (u : Nat) (s : State), u < s.chans.length → ((requestFall u s).ch u).pulse = .off ∧
    (blocked (s.ch u) = false → ∀ m ∈ legs s u, ((requestFall u s).ch m).hs = 0)) ∧
  (∀ (n : Fin 12) (u : Nat) (s : State), u = leader s n → (s.ch u).dt = .toHigh → blocked (s.ch u) = false → u < s.chans.length →
    Gives (.deadTimeExpiry n) s (gatesOn true u (s.onCh u fun c => { c with dt := .none }))) ∧
  (∀ (n : Fin 12) (u : Nat) (s : State), u = leader s n → (s.ch u).dt = .toHigh → blocked (s.ch u) = true → u < s.chans.length →
    Gives (.deadTimeExpiry n) s (s.onCh u fun c => { c with dt := .none })) ∧
  (∀ (n : Fin 12) (u : Nat) (s : State), u = leader s n → (s.ch u).dt = .toFreewheel → Gives (.deadTimeExpiry n) s (freewheelOn u s)) ∧
  (∀ (u m : Nat) (s : State), m ∈ fwLegs s u → m < s.chans.length → ((freewheelOn u s).ch m).fw = driveFw (s.ch m)) ∧
  (∀ (n : Fin 12) (u : Nat) (s x : State), u = leader s n → (s.ch u).dt = .toLow → lowDue s u = true → u < s.chans.length →
    x = forEach (legs s u) (fun m s' => s'.onCh m fun c => { c with fw := .off }) (s.onCh u fun c => { c with dt := .none }) →
    Gives (.deadTimeExpiry n) s x ∧ ∀ m ∈ legs s u, (x.ch m).fw = .off) ∧
  (∀ (n : Fin 12) (s : State), ((s.ch (leader s n)).dt = .none ∨ ((s.ch (leader s n)).dt = .toLow ∧ lowDue s (leader s n) = false)) →
    Gives (.deadTimeExpiry n) s s) ∧
  (∀ (u : Nat) (s : State), u < s.chans.length → ((startRefresh u s).ch u).refreshing = true ∧ ((startRefresh u s).ch u).refreshAt = some s.now ∧
    (isBridge s u = false → ((startRefresh u s).ch u).refreshes = sat 0xFFFF ((s.ch u).refreshes + 1)) ∧
    ∀ m ∈ legs s u, ((startRefresh u s).ch m).hs = 0) ∧
  (∀ (u m : Nat) (s : State), isBridge s u = true → legs s u = [m] → m < s.chans.length →
    ((startRefresh u s).ch m).refreshes = sat 0xFFFF ((s.ch m).refreshes + 1)) ∧
  (∀ (b : Bool) (u : Nat) (s : State), blocked (s.ch u) = true → resume b u s = s) ∧
  (∀ (b : Bool) (u t m : Nat) (s : State), blocked (s.ch u) = false →
    ((s.ch u).drive = .steady ∨ (s.ch u).drive = .ladder ∨ ((s.ch u).drive = .timed t ∧ (s.ch u).pulse ≠ .off)) →
    m ∈ legs s u → m < s.chans.length → ((resume b u s).ch m).hs = onSet s u (s.ch m)) ∧
  (∀ (u t : Nat) (b : Bool) (s : State), (s.ch u).drive = .timed t → (s.ch u).pulse = .off → resume b u s = s) ∧
  (∀ (t : Nat) (s : State), (s.tm t).func ≠ 3 ∨ onSixteenths s t none = 0 ∨ (s.tm t).trigB = true → triggerB t s = s) ∧
  (∀ (t : Nat) (s : State), (s.tm t).func = 3 → onSixteenths s t none ≠ 0 → (s.tm t).trigB = false → onTicks s t none < (s.tm t).pos + 400 →
    triggerB t s = trigger t true (s.onTm t fun m => { m with trigB := true })) ∧
  (∀ (t m : Nat) (edgeB : Bool) (s : State), m < 8 → bitAt (s.meas.trig.getD m 0) 27 = true → fld (s.meas.trig.getD m 0) 26 22 = t →
    bitAt (s.meas.trig.getD m 0) 21 = edgeB → m < s.meas.trigAt.length →
    m ∈ (trigger t edgeB s).meas.trigs ∧ (trigger t edgeB s).meas.trigAt.getD m 0 = s.now) ∧
  (∀ (u : Nat) (s : State), ((requestFall u s).ch u).refreshDue = (s.ch u).refreshDue) ∧
  (∀ (n : Fin 12) (u t0 t : Nat) (s : State), u = leader s n → (s.ch n).bstLow = true → (s.ch u).refEn = true →
    (s.ch u).refreshing = false → n.val ∈ legs s u → (s.ch u).refreshAt = some t0 → s.since t0 100 = true →
    (((s.ch u).drive = .steady ∨ (s.ch u).drive = .ladder) → Gives (.refreshSpacingExpiry n) s (startRefresh u s)) ∧
    ((s.ch u).drive = .timed t → (s.ch n).hs = 0 → ((s.ch u).baseMode ≠ 3 ∨ (s.ch u).pulse = .off) →
      Gives (.refreshSpacingExpiry n) s (s.onCh u fun c => { c with refreshDue := true }))) ∧
  (∀ (t : Nat) (s : State), boundaryDue s t = true ↔ s.timeRuns = true ∧ (s.tm t).run = true ∧ (s.tm t).frozen = false ∧
    (isMember s t = true → (s.tm t).begun = false ∧ (s.tm (masterOf s t)).run = true ∧ (s.tm (masterOf s t)).fresh = false ∧
      phaseTicks s t < (s.tm (masterOf s t)).pos + 400) ∧
    (isMember s t = false → (s.tm t).fresh = true ∨ periodOf s t < (s.tm t).pos + 400)) ∧
  (∀ (t : Nat) (s : State), phaseTicks s t = fld (s.tm t).phase 19 0 * 2 ^ fld (s.tm (masterOf s t)).per 22 20) ∧
  (∀ (t : Fin 20) (below : Mask12) (near : BitVec 20) (s : State), boundaryDue s t = false → Gives (.periodBoundary t below near) s s) ∧
  (∀ (t u : Nat) (chs : Mask12) (s : State), u ∈ fallingUnits s t chs ↔ u ∈ leaders s ∧ (s.ch u).drive = .timed t ∧ (s.ch u).pulse = .pulse ∧
    ((s.tm t).func = 4 → chs.getLsbD u = true) ∧ onTicks s t (unitRatio s t (s.ch u)) < (s.tm t).pos + 400) ∧
  (∀ (t : Nat) (c : Chan) (s : State), unitRatio s t c = if (s.tm t).func = 4 then some (fld c.limp 15 0) else none)

/-- R90 to R92, R94, R95, R98, R101, R102, R105, R106, R110, R115: a period start of a timer sets its position to zero and advances its dither index, from zero in its first period; the on-time is the ratio's or the tick word's with the dither's count; a latch that a clapper set applies whole or is refused whole with a note, when its on-time in tick mode or a member's PHASE does not lie below the period, not within 4 ticks of the clapper; a TRIG timer's start emits trigger A to the measurement slots that name it, and the timer that SYNC_OUT names gives its pulse; a timer that drives a unit, or has a routed on-request set, is needed, a master runs while a member is needed, a timer of function OFF never and of the others always, and a timer runs when it is needed and a PWM timer that nothing needs stops with its count 0, but begins no period while a debug halt has it frozen; the five rows of R94 give the period's output and the counter it adds to; and the unit's gates follow the output, with a refresh that is due in the pulse's place. What the model chose or read by inference here: logs 3, 15, 29, 38, 45, 94, 129, 141 and 145; log 72 for a latch refused whole, log 83 for the count of SYNC_OUT's pulses, and log 103 for a timer that becomes needed in a freeze. -/
def Obligations.PeriodStartsApplyAndCount : Prop :=
  (∀ (t : Nat) (s : State), (s.tm t).latch = none → (applyTimerLatch t s) = s) ∧
  (∀ (t : Nat) (per duty phase : D28) (s : State), (s.tm t).latch = some (per, duty, phase) → t < s.timers.length →
    ((applyTimerLatch t s).tm t).latch = none ∧
    (latchBad s t per duty phase = true → ((applyTimerLatch t s).tm t).loadReject = true ∧ ((applyTimerLatch t s).tm t).per = (s.tm t).per ∧
      ((applyTimerLatch t s).tm t).duty = (s.tm t).duty ∧ ((applyTimerLatch t s).tm t).phase = (s.tm t).phase) ∧
    (latchBad s t per duty phase = false → ((applyTimerLatch t s).tm t).duty = duty ∧ ((applyTimerLatch t s).tm t).phase = phase ∧
      ((applyTimerLatch t s).tm t).per = if isMember s t then (s.tm t).per else per)) ∧
  (∀ (t : Nat) (per duty phase : D28) (s : State), isMember s t = false → (s.tm t).func ≠ 2 →
    latchBad s t per duty phase = ((s.tm t).tick && decide (fld per 19 0 ≤ fld duty 23 4))) ∧
  (∀ (t : Nat) (near : BitVec 20) (s : State), t ∈ latchTimers s t near ↔ ¬(near.getLsbD t = true ∧ s.now ≤ (s.tm t).latchAt + 1)) ∧
  (∀ (t : Nat) (below : Mask12) (near : BitVec 20) (s : State), t < s.timers.length → isMember s t = false →
    ((beginPeriod t below near s).tm t).pos = 0 ∧ ((beginPeriod t below near s).tm t).fresh = false ∧
    ((beginPeriod t below near s).tm t).dith = if (s.tm t).fresh then 0 else ((s.tm t).dith + 1) % 16) ∧
  (∀ (t : Nat) (s : State), isMember s t = true → t < s.timers.length →
    ((startCount t s).tm t).dith = (s.tm (masterOf s t)).dith ∧ ((startCount t s).tm t).begun = true) ∧
  (∀ (t p : Nat) (s : State), s.tbase.syncNext = some p → syncTimer s = some t →
    (applySync t s).tbase.syncPer = p ∧ (applySync t s).tbase.syncNext = none ∧ (applySync t s).tbase.syncP = none) ∧
  (∀ (s : State) (t : Nat) (ratio : Option Nat), onTicks s t ratio = 0 → decide94 s t ratio = (.off, 0)) ∧
  (∀ (s : State) (t : Nat) (ratio : Option Nat), onTicks s t ratio ≠ 0 → fullRatio s t ratio = true → decide94 s t ratio = (.hold, 0)) ∧
  (∀ (s : State) (t : Nat) (ratio : Option Nat), onTicks s t ratio ≠ 0 → fullRatio s t ratio = false →
    onTicks s t ratio < 2 * fld (s.tm t).edge 7 0 + 16 + 4 * fld (s.tm t).edge 13 8 → decide94 s t ratio = (.off, 1)) ∧
  (∀ (s : State) (t : Nat) (ratio : Option Nat), fullRatio s t ratio = false →
    2 * fld (s.tm t).edge 7 0 + 16 + 4 * fld (s.tm t).edge 13 8 ≤ onTicks s t ratio → onTicks s t ratio ≠ 0 →
    decide94 s t ratio = if periodOf s t < onTicks s t ratio + 2 * fld (s.tm t).edge 7 0 + 16 + 4 * fld (s.tm t).edge 19 14
      then (.hold, 2) else (.pulse, 0)) ∧
  (∀ (t : Nat) (s : State), (s.tm t).func = 1 → t < s.timers.length →
    ((countSkips t s).tm t).skips = (if (decide94 s t none).2 = 1 then sat 0xFFFF ((s.tm t).skips + 1) else (s.tm t).skips) ∧
    ((countSkips t s).tm t).holds = (if (decide94 s t none).2 = 2 then sat 0xFFF ((s.tm t).holds + 1) else (s.tm t).holds)) ∧
  (∀ (t u : Nat) (s : State), (decide94 s t (unitRatio s t (s.ch u))).1 = .off → u < s.chans.length →
    ((timedPeriod t u s).ch u).pulse = .off ∧ ∀ m ∈ legs s u, ((timedPeriod t u s).ch m).hs = 0) ∧
  (∀ (t u : Nat) (s : State), (decide94 s t (unitRatio s t (s.ch u))).1 ≠ .off → (s.ch u).refreshDue = true → u < s.chans.length →
    ((timedPeriod t u s).ch u).refreshing = true ∧ ∀ m ∈ legs s u, ((timedPeriod t u s).ch m).hs = 0) ∧
  (∀ (t u : Nat) (s : State), (decide94 s t (unitRatio s t (s.ch u))).1 ≠ .off → (s.ch u).refreshDue = false → u < s.chans.length →
    lit s u = false →
    ((timedPeriod t u s).ch u).dt = .toHigh ∧ ((timedPeriod t u s).ch u).pulse = (decide94 s t (unitRatio s t (s.ch u))).1 ∧
      ∀ m ∈ legs s u, ((timedPeriod t u s).ch m).fw = .off) ∧
  (∀ (t u m : Nat) (s : State), (decide94 s t (unitRatio s t (s.ch u))).1 ≠ .off → (s.ch u).refreshDue = false →
    m ∈ legs s u → (s.ch m).hs ≠ 0 → ∀ k, ((timedPeriod t u s).ch k).hs = (s.ch k).hs) ∧
  (∀ (t u : Nat) (s : State), (s.tm t).func = 1 → u ∈ leaders s → (s.ch u).drive = .timed t → timerNeeded s t = true ∧ timerRuns s t = true) ∧
  (∀ (t m : Nat) (below : Mask12) (near : BitVec 20) (s : State), (s.tm t).func = 3 → t < s.timers.length → m < 8 →
    bitAt (s.meas.trig.getD m 0) 27 = true → fld (s.meas.trig.getD m 0) 26 22 = t → bitAt (s.meas.trig.getD m 0) 21 = false →
    m < s.meas.trigAt.length →
    m ∈ (beginPeriod t below near s).meas.trigs ∧ (beginPeriod t below near s).meas.trigAt.getD m 0 = s.now) ∧
  (∀ (t : Nat) (below : Mask12) (near : BitVec 20) (s : State),
    (beginPeriod t below near s).tbase.pulses = s.tbase.pulses + if fld s.tbase.syncOut 4 0 = t then 1 else 0) ∧
  (∀ (t m : Nat) (s : State), (s.tm t).master = true → (s.tm t).group ≠ 0 → m < 20 → masterOf s m = t → timerNeeded s m = true →
    timerRuns s t = true) ∧
  (∀ (t : Nat) (s : State), t < s.timers.length →
    (timerRuns s t = false → ((settleTimer t s).tm t).run = false ∧ ((s.tm t).run = true → ((settleTimer t s).tm t).pos = 0)) ∧
    (timerRuns s t = true → (s.tm t).run = false → s.tbase.frozen = true → settleTimer t s = s) ∧
    (timerRuns s t = true → s.tbase.frozen = false → ((settleTimer t s).tm t).run = true)) ∧
  (∀ (t n : Nat) (s : State), (s.tm t).func = 1 → n < 12 → routeOf s n = some t → (s.ch n).onReq = true → timerNeeded s t = true) ∧
  (∀ (t : Nat) (s : State),
    ((s.tm t).func = 0 → timerNeeded s t = false) ∧ (2 ≤ (s.tm t).func → timerNeeded s t = true) ∧
    ((s.tm t).func = 1 → (timerNeeded s t = true ↔ (∃ n, n < 12 ∧ routeOf s n = some t ∧ (s.ch n).onReq = true) ∨
      ∃ u ∈ leaders s, (s.ch u).drive = .timed t ∨
        (routeOf s u = some t ∧ ((s.ch u).lingers = true ∨ ((s.ch u).cutPeriod = true ∧ (s.ch u).drive = .steady)))))) ∧
  (∀ (t : Nat) (s : State), timerRuns s t = true ↔ timerNeeded s t = true ∨
    ((s.tm t).master = true ∧ (s.tm t).group ≠ 0 ∧ ∃ m, m < 20 ∧ masterOf s m = t ∧ timerNeeded s m = true)) ∧
  (∀ (t : Nat) (s : State), (s.tm t).func = 1 → t < s.timers.length → (∀ n, n < 12 → routeOf s n = some t → (s.ch n).onReq = false) →
    (∀ u ∈ leaders s, (s.ch u).drive ≠ .timed t ∧ awaits s t u = false) →
    ((s.tm t).master = false ∨ (s.tm t).group = 0 ∨ ∀ m, m < 20 → masterOf s m = t → timerNeeded s m = false) →
    ((settleTimer t s).tm t).run = false ∧ ((s.tm t).run = true → ((settleTimer t s).tm t).pos = 0)) ∧
  (∀ (t : Nat) (per duty phase : D28) (s : State), isMember s t = true → (s.tm t).func ≠ 2 →
    (latchBad s t per duty phase = true ↔ ((s.tm t).tick = true ∧ perCounts s t ≤ fld duty 23 4) ∨ perCounts s t ≤ fld phase 19 0)) ∧
  (∀ (t : Nat) (per duty phase : D28) (s : State), (s.tm t).func = 2 → latchBad s t per duty phase = false) ∧
  (∀ (t r : Nat) (s : State), onSixteenths s t (some r) = r * perCounts s t / 4096 ∧
    ((s.tm t).tick = true → onSixteenths s t none = 16 * fld (s.tm t).duty 23 4 + fld (s.tm t).duty 3 0) ∧
    ((s.tm t).tick = false → onSixteenths s t none = fld (s.tm t).duty 15 0 * perCounts s t / 4096)) ∧
  (∀ (t : Nat) (x : Option Nat) (s : State), onTicks s t x =
    (onSixteenths s t x / 16 + if rev4 (s.tm t).dith < onSixteenths s t x % 16 then 1 else 0) * 2 ^ fld (s.tm (masterOf s t)).per 22 20) ∧
  ((List.range 16).map rev4 = [0, 8, 4, 12, 2, 10, 6, 14, 1, 9, 5, 13, 3, 11, 7, 15]) ∧
  (∀ (t : Nat) (s : State), perCounts s t = periodOf s t / 2 ^ fld (s.tm (masterOf s t)).per 22 20 ∧
    (((s.tm (masterOf s t)).func ≠ 5 ∨ s.tbase.syncPer = 0) →
      periodOf s t = fld (s.tm (masterOf s t)).per 19 0 * 2 ^ fld (s.tm (masterOf s t)).per 22 20 ∧
      perCounts s t = fld (s.tm (masterOf s t)).per 19 0))

/-- R89, R96, R99 to R102, R348, R368: the clapper takes the shadows of the timers it names into their latches, and with UNR those of unrouted channels into force; a BLANK timer applies its latch at once, and a timer with function OFF ignores the clapper; PER and EDGE are refused out of range, PER of a group member or an unused timer, and EDGE while the timer runs; with TIME stopped a clapper and an EDGE word wait, unjudged. What the model chose or read by inference here: logs 12, 72, 101 and 107. -/
def Obligations.ClapperAndTimerRows : Prop :=
  (∀ (a : Access) (mask : BitVec 20) (s : State), MayStore s a 0x1A0 → s.clk.timeStop = false →
    GivesStatus (.clapper a mask) s sOk (forEach ((List.range 20).filter mask.getLsbD) clapTimer s)) ∧
  (∀ (a : Access) (s : State), MayStore s a 0x1A0 → s.clk.timeStop = false → GivesStatus (.clapUnr a) s sOk (clapUnrouted s)) ∧
  (∀ (a : Access) (t : Fin 20) (d : D28) (s : State), MayStore s a (0x101 + 8 * t) → fld d 27 23 = 0 → (s.tm t).func ≠ 0 →
    isMember s t = false → perOk d = true → GivesStatus (.tmrPerWrite a t d) s sOk (s.onTm t fun m => { m with perSh := d })) ∧
  (∀ (h : Port) (t : Fin 20) (d : D28) (s : State), MayStore s (.write h) (0x101 + 8 * t) → fld d 27 23 = 0 →
    ((s.tm t).func = 0 ∨ isMember s t = true) →
    GivesStatus (.tmrPerWrite (.write h) t d) s sDenied (noteLast h 1 (0x101 + 8 * t) sDenied s)) ∧
  (∀ (h : Port) (t : Fin 20) (d : D28) (s : State), MayStore s (.write h) (0x101 + 8 * t) → fld d 27 23 = 0 → (s.tm t).func ≠ 0 →
    isMember s t = false → perOk d = false →
    GivesStatus (.tmrPerWrite (.write h) t d) s sFormat (noteLast h 1 (0x101 + 8 * t) sFormat s)) ∧
  (∀ (a : Access) (t : Fin 20) (d : D28) (s : State), MayStore s a (0x104 + 8 * t) → fld d 27 20 = 0 → s.clk.timeStop = false → (s.tm t).run = false →
    edgeOk d = true → GivesStatus (.tmrEdgeWrite a t d) s sOk (s.onTm t fun m => { m with edge := d })) ∧
  (∀ (h : Port) (t : Fin 20) (d : D28) (s : State), MayStore s (.write h) (0x104 + 8 * t) → fld d 27 20 = 0 → s.clk.timeStop = false → (s.tm t).run = false →
    edgeOk d = false → GivesStatus (.tmrEdgeWrite (.write h) t d) s sFormat (noteLast h 1 (0x104 + 8 * t) sFormat s)) ∧
  (∀ (h : Port) (t : Fin 20) (d : D28) (s : State), MayStore s (.write h) (0x104 + 8 * t) → fld d 27 20 = 0 → s.clk.timeStop = false → (s.tm t).run = true →
    GivesStatus (.tmrEdgeWrite (.write h) t d) s sBusy (noteLast h 1 (0x104 + 8 * t) sBusy s)) ∧
  (∀ (t : Nat) (s : State), (s.tm t).func = 0 → clapTimer t s = s) ∧
  (∀ (t : Nat) (s : State), (s.tm t).func ≠ 0 → (s.tm t).func ≠ 2 → t < s.timers.length →
    ((clapTimer t s).tm t).latch = some ((s.tm t).perSh, (s.tm t).dutySh, (s.tm t).phaseSh) ∧
    ((clapTimer t s).tm t).claprepl = ((s.tm t).claprepl || (s.tm t).latch.isSome) ∧
    ∀ n, n ∈ routedTo s t → n < s.chans.length →
      ((clapTimer t s).ch n).brcmdLatch = some (s.ch n).brcmdSh ∧ ((clapTimer t s).ch n).ilimLatch = some (s.ch n).ilimSh) ∧
  (∀ (t : Nat) (s : State), (s.tm t).func = 2 → t < s.timers.length →
    ((clapTimer t s).tm t).duty = (s.tm t).dutySh ∧ ((clapTimer t s).tm t).latch = none) ∧
  (∀ (n : Nat) (s : State), n < 12 → n < s.chans.length →
    (routeOf s n = none → ((clapUnrouted s).ch n).brcmd = (s.ch n).brcmdSh ∧ ((clapUnrouted s).ch n).ilim = (s.ch n).ilimSh) ∧
    (routeOf s n ≠ none → (clapUnrouted s).ch n = s.ch n)) ∧
  (∀ (c : Chan) (b : BitVec 2) (i : D28), c.brcmdLatch = some b → c.ilimLatch = some i →
    applyStaged c = { c with brcmd := b, brcmdLatch := none, ilim := i, ilimLatch := none }) ∧
  (∀ (a : Access) (t : Fin 20) (d : D28) (s : State), MayStore s a (0x104 + 8 * t) → fld d 27 20 = 0 → s.clk.timeStop = true →
    GivesStatus (.tmrEdgeWrite a t d) s sOk (holdWord (0x104 + 8 * t) d s)) ∧
  (∀ (a : Access) (mask : BitVec 20) (s : State), MayStore s a 0x1A0 → s.clk.timeStop = true →
    GivesStatus (.clapper a mask) s sOk (holdWord 0x1A0 (d28 mask.toNat) s))

/-- R88, R106, R112, R113, R344, R385: the microsecond clock counts up by one, and before the PLL's lock and with TIME stopped, in last rites too, GUARD's own microseconds alone do; SYNC_IN is acquired and tracked, and lost after two periods without an edge, counted outside a freeze, which raises TB_SYNC; a halt with its right freezes every timer, but none in the safe state, and its release ends the freeze. What the model chose or read by inference here: logs 30, 127, 134, 150 and 160, and logs 108 and 109 for what an ignored edge counts for, for LOCK at the entry into HOLDOVER, which leaves it, and for the run of 4 edges, which begins anew at the entries into TRACK and HOLDOVER. -/
def Obligations.TimebaseCommands : Prop := (∀ s : State, s.clocked = true → s.clk.timeStop = false →
    Gives .microsecondTick s (tick s) ∧ (tick s).now = s.now + 1) ∧
  (∀ (interval t0 : Nat) (offset : Int) (s : State), s.timeRuns = true → s.sup.ritesWait = none → s.tbase.frozen = false → (syncTimer s).isSome = true →
    s.tbase.sync ≠ .track → s.tbase.edgeAt = some t0 → 1600 ≤ interval → interval ≤ 4000000 →
    Gives (.syncEdge interval offset) s
      { s with tbase := { s.tbase with sync := .track, syncNext := some interval, syncP := some interval, good := 0, edgeAt := some s.now, edgeUs := 0 } }) ∧
  (∀ (interval t0 : Nat) (offset lim : Int) (s : State), s.timeRuns = true → s.sup.ritesWait = none → s.tbase.frozen = false → syncTimer s = some t0 →
    s.tbase.sync = .track → trackedP s t0 ≤ 2 * interval → interval ≤ 2 * trackedP s t0 → lim = (trackedP s t0 : Int) / 64 →
    Gives (.syncEdge interval offset) s
      { s with tbase := { s.tbase with
          syncNext := some ((interval : Int) + max (-lim) (min lim offset)).toNat,
          good := if offset.natAbs ≤ 4 then s.tbase.good + 1 else 0, edgeAt := some s.now, edgeUs := 0,
          lock := (s.tbase.lock || decide (4 ≤ if offset.natAbs ≤ 4 then s.tbase.good + 1 else 0)) && decide (offset.natAbs ≤ 16) } }) ∧
  (∀ (interval t0 : Nat) (offset : Int) (s : State), s.timeRuns = true → s.sup.ritesWait = none → s.tbase.frozen = false → syncTimer s = some t0 →
    s.tbase.sync = .track → (2 * interval + 1 ≤ trackedP s t0 ∨ 2 * trackedP s t0 < interval) →
    Gives (.syncEdge interval offset) s { s with tbase := { s.tbase with rej := sat 63 (s.tbase.rej + 1) } }) ∧
  (∀ (t1 : Nat) (s : State), s.timeRuns = true → s.tbase.frozen = false → s.tbase.sync = .track →
    syncTimer s = some t1 → 2 * trackedP s t1 / 400 ≤ s.tbase.edgeUs → lightsOut s = false →
    Raises .syncHoldover s { s with tbase := { s.tbase with sync := .holdover, lost := true, good := 0 } } [109]) ∧
  (∀ (rights : BitVec 3) (s : State), s.trust.token = some rights → rights.getLsbD 0 = true → s.dev.opts.getLsbD 2 = true →
    s.timeRuns = true → s.flt.safe = false →
    Gives .debugHalt s { s with tap := { s.tap with halt := true }, tbase := { s.tbase with frozen := true },
                                timers := s.timers.map fun m => { m with frozen := true } }) ∧
  (∀ s : State, s.tap.halt = true →
    Gives .debugHaltRelease s { s with tap := { s.tap with halt := false }, tbase := { s.tbase with frozen := false },
                                       timers := s.timers.map fun m => { m with frozen := false } }) ∧
  (∀ s : State, (tick s).tbase.edgeUs = if s.tbase.frozen then s.tbase.edgeUs else s.tbase.edgeUs + 1) ∧
  (∀ (interval : Nat) (offset : Int) (s : State), s.sup.ritesWait ≠ none → Gives (.syncEdge interval offset) s s) ∧
  (∀ (t p : Nat) (s : State), (s.tbase.syncP = none → trackedP s t = periodOf s t) ∧ (s.tbase.syncP = some p → trackedP s t = p)) ∧
  (∀ s : State, s.dev.phase ≠ .reset → (s.clocked = false ∨ s.clk.timeStop = true) →
    Gives .microsecondTick s (guardTick s) ∧ (guardTick s).now = s.now ∧ (s.clk.guardStop = false → guardNow (guardTick s) = guardNow s + 1)) ∧
  (∀ (s : State), s.dev.phase = .reset → Gives .microsecondTick s s) ∧
  (∀ s : State, s.flt.safe = true → Gives .debugHalt s s)

/-- R364: on an open path a read of a low word gives it and keeps the high word of the same instant, which the next read of the high word gives, however late; an empty latch gives the present high word. What the model chose or read by inference here: log 28. -/
def Obligations.TwoWordReadsAreCoherent : Prop :=
  (∀ (p : Path) (q : Quantity) (s : State), pathOpen s p = true → quantity s q < 2 ^ 48 → ∃ t, exec (.lowWordRead p q) s = .next t ∧
    t.lastRead = some (.data (d28 (quantity s q))) ∧
    ∀ t' : State, t'.dlatch = t.dlatch → t'.flatch = t.flatch → pathOpen t' p = true →
      ∃ u, exec (.highWordRead p q) t' = .next u ∧ u.lastRead = some (.data (d28 (quantity s q / 2 ^ 28))) ∧ (latchOf u q).get p = none) ∧
  (∀ (p : Path) (q : Quantity) (s : State), pathOpen s p = true → (latchOf s q).get p = none →
    Gives (.highWordRead p q) s { s with lastRead := some (.data (d28 (quantity s q / 2 ^ 28))) })

/-! ### Measurement (05) -/

/-- R116, R118, R119, R134, R144: a current conversion gives the nearest code of 10 mA after gain, offset and trim, saturates at ±300 A, joins the 16 latest, and leaves every other word but IMEAN; IMEAN is their mean. A word whose check fails arrives and is used for nothing: the 16 latest stay, and the mean square takes the latest ISEC in its place. A value half-way between two codes may take either (log 7). What the model chose or read by inference here: logs 32 and 39. -/
def Obligations.CurrentConversion : Prop :=
  (∀ (n : Fin 12) (raw : Int) (s : State) (x : Rat), sensing s = true → underTest s n = false → n < s.chans.length →
    s.meas.rushes.length = 100 → x = (calibrated s 0 1 n raw + (s.ch n).trim) / 10 →
    ∃ (v : Int) (q : BitVec 2) (t : State), exec (.ipriConversion n raw 0) s = .next t ∧
      (-30000 ≤ x → x ≤ 30000 → |(v : Rat) - x| ≤ 1 / 2 ∧ q ≠ 1) ∧ (x < -30000 → v = -30000 ∧ q = 1) ∧
      (30000 < x → v = 30000 ∧ q = 1) ∧
      t.meas.rushes.getD (8 * n) none = some ⟨BitVec.ofInt 16 v, q, s.now, 0⟩ ∧
      (t.ch n).ipris = ((v, q) :: (s.ch n).ipris).take 16 ∧
      (∀ i, i ≠ 8 * n.val → i ≠ 8 * n.val + 4 → t.meas.rushes.getD i none = s.meas.rushes.getD i none) ∧
      (15 ≤ (s.ch n).ipris.length → ∃ (m : Int) (q' : BitVec 2),
        t.meas.rushes.getD (8 * n + 4) none = some ⟨BitVec.ofInt 16 m, q', s.now, 0⟩ ∧
        |(m : Rat) - (((((v, q) :: (s.ch n).ipris).take 16).map Prod.fst).foldl (· + ·) 0 : Int) / 16| ≤ 1 / 2)) ∧
  (∀ (n : Fin 12) (raw : Int) (diff : BitVec 8) (s : State), sensing s = true → underTest s n = false → n < s.chans.length → diff ≠ 0 →
    ∃ (w : Sample) (t : State), exec (.ipriConversion n raw diff) s = .next t ∧ w.diff = diff ∧ w.tc = s.now ∧
      t.meas.rushes = s.meas.rushes.set (8 * n) (some w) ∧ (t.ch n).ipris = (s.ch n).ipris ∧
      (t.ch n).squares = (match latestIsec s n with | some v => (v :: (s.ch n).squares).take 10 | none => (s.ch n).squares))

/-- R116, R117, R120, R121, R123 to R125, R130, R131, R134, R155, R156: in its slot of the cycle, in either half and for either bank, a voltage gives the nearest code of its LSB within its range, VBAT, VOUT and VBST alike; ISEC of a channel that is off reads zero, past the converter's end 300 A saturated, below zero 0 saturated, and between them the current that the model of R120 gives, or nothing in a disturbed interval; the comparison with IPRI marks the channel suspect beyond 1 A and 8 %, and the eighth in a row raises CHn_XCHK; a triggered conversion of ISEC, VOUT or VBST comes after its delay, and not while another pending one certainly comes first; in its slot of the sweep a die diode gives its trimmed reading, and a segment its word, and the second reading in a row at 175 °C or more raises CHn_OVL with cause OTS, or OTF for the freewheel diode, where a segment's word whose check fails leaves the run of hot readings as it was (R134, log 32); the channel's last slot gives TSMAX and TSMED. What the model chose or read by inference here: logs 7, 17, 32, 40, 96, 110, 111, 116, 120 and 151, and log 142 for a channel that is off by its own segments. -/
def Obligations.SlotConversions : Prop :=
  (∀ (b : Bool) (slot : Fin 50) (raw : Int) (quiet : Quiet) (s : State) (x : Rat), sensing s = true → s.dtime % 10 = (slot.val + 1) / 5 →
    s.meas.rushes.length = 100 → (slot.val = 6 ∨ slot.val = 31) →
    x = calibrated s 9 10 (if b then 1 else 0) raw / 5 → 0 ≤ x → x ≤ 40960 →
    ∃ (v : Int) (q : BitVec 2) (t : State), exec (.sarConversion b slot raw quiet 0) s = .next t ∧ |(v : Rat) - x| ≤ 1 / 2 ∧
      t.meas.rushes = s.meas.rushes.set (96 + if b then 1 else 0) (some ⟨BitVec.ofInt 16 v, q, s.now, 0⟩)) ∧
  (∀ (b : Bool) (k : Fin 6) (slot : Fin 50) (n : Nat) (raw : Int) (quiet : Quiet) (s : State) (x : Rat), sensing s = true →
    s.dtime % 10 = (slot.val + 1) / 5 → s.meas.rushes.length = 100 → slot.val = 7 + k.val → n = (if b then 6 else 0) + k.val →
    x = calibrated s 5 6 n raw / 5 → 0 ≤ x → x ≤ 40960 →
    ∃ (v : Int) (q : BitVec 2) (t : State), exec (.sarConversion b slot raw quiet 0) s = .next t ∧ |(v : Rat) - x| ≤ 1 / 2 ∧
      t.meas.rushes = s.meas.rushes.set (8 * n + 2) (some ⟨BitVec.ofInt 16 v, q, s.now, 0⟩)) ∧
  (∀ (b : Bool) (k : Fin 6) (slot : Fin 50) (n : Nat) (raw : Int) (quiet : Quiet) (s : State), sensing s = true →
    s.dtime % 10 = (slot.val + 1) / 5 → (slot.val = k.val ∨ slot.val = 25 + k.val) → n = (if b then 6 else 0) + k.val →
    isecTriggered s n = false → (s.ch n).hs = 0 → quiet.ns500 = true →
    ∃ q : BitVec 2, q ≠ 1 ∧ Gives (.sarConversion b slot raw quiet 0) s
      (crossCheck n 0 q quiet.ns4500 (putRushes (8 * n + 1) (some ⟨0, q, s.now, 0⟩) s))) ∧
  (∀ (b : Bool) (k : Fin 6) (slot : Fin 50) (n : Nat) (raw : Int) (quiet : Quiet) (s : State), sensing s = true →
    s.dtime % 10 = (slot.val + 1) / 5 → (slot.val = k.val ∨ slot.val = 25 + k.val) → n = (if b then 6 else 0) + k.val →
    isecTriggered s n = false → (s.ch n).hs ≠ 0 → 16384 < raw →
    Gives (.sarConversion b slot raw quiet 0) s (putRushes (8 * n + 1) (some ⟨30000, 1, s.now, 0⟩) s)) ∧
  (∀ (m : Fin 8) (raw : Int) (quiet : Quiet) (s : State) (x : Rat), sensing s = true → trigNext s m = true →
    trigNs s m < (s.now + 1) * 1000 → s.meas.rushes.length = 100 → fld (s.meas.trig.getD m 0) 20 19 = 1 →
    x = calibrated s 5 6 (fld (s.meas.trig.getD m 0) 18 15) raw / 5 → 0 ≤ x → x ≤ 40960 →
    ∃ (v : Int) (q : BitVec 2) (t : State), exec (.trigConversion m raw quiet 0) s = .next t ∧ |(v : Rat) - x| ≤ 1 / 2 ∧
      t.meas.rushes = s.meas.rushes.set (8 * fld (s.meas.trig.getD m 0) 18 15 + 2) (some ⟨BitVec.ofInt 16 v, q, s.now, 0⟩)) ∧
  (∀ (j : Fin 518) (raw v : Int) (s : State), sensing s = true → s.dtime % 2000 = 5 * (j.val + 1) / 2 % 2000 → 516 ≤ j.val →
    v = raw + (calWord s 11 j).value → -3520 ≤ v → v ≤ 12800 →
    ∃ q, Gives (.diodeSlot j raw 0) s (putRushes (98 + (j.val - 516)) (some ⟨BitVec.ofInt 16 v, q, s.now, 0⟩) s)) ∧
  (∀ (j : Fin 518) (n : Nat) (raw v : Int) (s : State), sensing s = true → s.dtime % 2000 = 5 * (j.val + 1) / 2 % 2000 → j.val < 504 →
    n = j.val / 42 → j.val % 42 ≠ 41 → v = raw + (calWord s 11 j).value → -3520 ≤ v → v < 11200 →
    ∃ q, Gives (.diodeSlot j raw 0) s
      (({ s with meas := { s.meas with seg := s.meas.seg.set j (some ⟨BitVec.ofInt 16 v, q, s.now, 0⟩), hot := s.meas.hot.set j 0 } }).onCh n
        fun c => { c with sweepOk := (decide (j.val % 42 = 0) || c.sweepOk) && sweepCounts s n })) ∧
  (∀ (j : Fin 518) (n : Nat) (raw v : Int) (s : State), sensing s = true → s.dtime % 2000 = 5 * (j.val + 1) / 2 % 2000 → j.val < 504 →
    n = j.val / 42 → j.val % 42 ≠ 41 → v = raw + (calWord s 11 j).value → 11200 ≤ v → v ≤ 12800 → s.meas.hot.getD j 0 = 1 →
    n < s.chans.length → (s.ch n).retired.getLsbD (j.val % 42) = false →
    ∃ t, exec (.diodeSlot j raw 0) s = .next t ∧ t.meas.hot = s.meas.hot.set j 2 ∧ (t.ch n).prot.bits.getLsbD 2 = true ∧ seen t (8 * n + 2)) ∧
  (∀ (b : Bool) (k : Fin 6) (slot : Fin 50) (n : Nat) (raw : Int) (quiet : Quiet) (r x : Rat) (s : State), sensing s = true →
    s.dtime % 10 = (slot.val + 1) / 5 → (slot.val = k.val ∨ slot.val = 25 + k.val) → n = (if b then 6 else 0) + k.val →
    isecTriggered s n = false → (s.ch n).hs ≠ 0 → 0 ≤ raw → raw ≤ 16384 → quiet.ns500 = true → modelRon s n = some r →
    x = (raw : Rat) * 125000 * popcount (s.ch (shownBy s n)).hs / (42 * r) → -30000 ≤ x → x ≤ 30000 →
    ∃ (v : Int) (q : BitVec 2) (t : State), exec (.sarConversion b slot raw quiet 0) s = .next t ∧ |(v : Rat) - x| ≤ 1 / 2 ∧
      t.meas.rushes = s.meas.rushes.set (8 * n + 1) (some ⟨BitVec.ofInt 16 v, q, s.now, 0⟩)) ∧
  (∀ (b : Bool) (k : Fin 6) (slot : Fin 50) (n : Nat) (raw : Int) (quiet : Quiet) (s : State), sensing s = true →
    s.dtime % 10 = (slot.val + 1) / 5 → (slot.val = k.val ∨ slot.val = 25 + k.val) → n = (if b then 6 else 0) + k.val →
    isecTriggered s n = false → quiet.ns500 = false → raw ≤ 16384 → 0 ≤ raw →
    Gives (.sarConversion b slot raw quiet 0) s s) ∧
  (∀ (n : Nat) (ws : List Sample) (x r : Rat) (s : State), engagedTemps s n = ws.map some → ws ≠ [] →
    x = ((ws.map fun w => w.value.toInt).sum : Int) / (64 * ws.length : Nat) - 25 →
    r = (calWord s 2 n).value * (1 + (calWord s 3 n).value * x / 1000000 + (calWord s 4 n).value * x * x / 100000000) → r ≠ 0 →
    modelRon s n = some r) ∧
  (∀ (n : Fin 12) (isec i : Int) (q qi : BitVec 2) (rest : List (Int × BitVec 2)) (s : State), (s.ch n).ipris = (i, qi) :: rest →
    (s.ch (leader s n)).lad.step = 0 → q ≠ 1 → qi ≠ 1 → underTest s n = false → n < s.chans.length → lightsOut s = false →
    (8 * max i.natAbs isec.natAbs + 10000 < 100 * (i - isec).natAbs →
      ((crossCheck n isec q true s).ch n).suspect = true ∧ ((crossCheck n isec q true s).ch n).xRun = (s.ch n).xRun + 1 ∧
      ((s.ch n).xRun = 7 → seen (crossCheck n isec q true s) (8 * n + 4))) ∧
    (100 * (i - isec).natAbs ≤ 8 * max i.natAbs isec.natAbs + 10000 →
      ((crossCheck n isec q true s).ch n).suspect = false ∧ ((crossCheck n isec q true s).ch n).xRun = 0)) ∧
  (∀ (m : Nat) (s : State), trigNext s m = true ↔ m ∈ s.meas.trigs ∧ ∀ k ∈ s.meas.trigs, trigNs s m < trigNs s k + 1000 ∧
    (s.meas.trigs.idxOf k < s.meas.trigs.idxOf m → trigDelay s m < trigDelay s k)) ∧
  (∀ (j : Fin 518) (n : Nat) (raw v : Int) (s : State), sensing s = true → s.dtime % 2000 = 5 * (j.val + 1) / 2 % 2000 → 504 ≤ j.val →
    j.val < 516 → n = j.val - 504 → v = raw + (calWord s 11 j).value → -3520 ≤ v → v < 11200 →
    ∃ q, Gives (.diodeSlot j raw 0) s
      ((putRushes (8 * n + 7) (some ⟨BitVec.ofInt 16 v, q, s.now, 0⟩) s).onCh n fun c => { c with fwHot := 0 })) ∧
  (∀ (j : Fin 518) (n : Nat) (raw v : Int) (s : State), sensing s = true → s.dtime % 2000 = 5 * (j.val + 1) / 2 % 2000 → 504 ≤ j.val →
    j.val < 516 → n = j.val - 504 → v = raw + (calWord s 11 j).value → 11200 ≤ v → v ≤ 12800 → (s.ch n).fwHot = 1 → n < s.chans.length →
    ∃ t, exec (.diodeSlot j raw 0) s = .next t ∧ (t.ch n).fwHot = 2 ∧ (t.ch n).prot.bits.getLsbD 3 = true ∧ seen t (8 * n + 2)) ∧
  (∀ (j : Fin 518) (n : Nat) (raw v : Int) (s : State), sensing s = true → s.dtime % 2000 = 5 * (j.val + 1) / 2 % 2000 → j.val < 504 →
    n = j.val / 42 → j.val % 42 = 41 → v = raw + (calWord s 11 j).value → -3520 ≤ v → v ≤ 12800 →
    ∃ q, Gives (.diodeSlot j raw 0) s (warmCheck n (sweepEnd n (judgeSeg j v
      { s with meas := { s.meas with seg := s.meas.seg.set j (some ⟨BitVec.ofInt 16 v, q, s.now, 0⟩) } })))) ∧
  (∀ (n : Fin 12) (s : State), temps s n ≠ [] → n < s.chans.length → s.meas.rushes.length = 100 →
    ∃ (top v : Int) (q q' : BitVec 2), (∀ t ∈ temps s n, t.2.value.toInt ≤ top) ∧ (∃ t ∈ temps s n, t.2.value.toInt = top) ∧
      |(v : Rat) - median ((temps s n).map fun t => t.2.value.toInt)| ≤ 1 / 2 ∧
      (sweepEnd n s).meas.rushes.getD (8 * n + 5) none = some ⟨BitVec.ofInt 16 top, q, s.now, 0⟩ ∧
      (sweepEnd n s).meas.rushes.getD (8 * n + 6) none = some ⟨BitVec.ofInt 16 v, q', s.now, 0⟩ ∧
      ((sweepEnd n s).ch n).prot.otwNow = decide (9600 ≤ top)) ∧
  (∀ (n : Fin 12) (s : State), temps s n = [] → n < s.chans.length → s.meas.rushes.length = 100 →
    (sweepEnd n s).meas.rushes.getD (8 * n + 5) none = none ∧ (sweepEnd n s).meas.rushes.getD (8 * n + 6) none = none ∧
    ((sweepEnd n s).ch n).prot.otwNow = false) ∧
  (∀ (b : Bool) (k : Fin 6) (slot : Fin 50) (n : Nat) (raw : Int) (quiet : Quiet) (s : State), sensing s = true →
    s.dtime % 10 = (slot.val + 1) / 5 → (slot.val = k.val ∨ slot.val = 25 + k.val) → n = (if b then 6 else 0) + k.val →
    isecTriggered s n = false → (s.ch n).hs ≠ 0 → raw < 0 →
    Gives (.sarConversion b slot raw quiet 0) s (putRushes (8 * n + 1) (some ⟨0, 1, s.now, 0⟩) s)) ∧
  (∀ (b : Bool) (k : Fin 6) (slot : Fin 50) (n : Nat) (raw : Int) (quiet : Quiet) (s : State), sensing s = true →
    s.dtime % 10 = (slot.val + 1) / 5 → (slot.val = k.val ∨ slot.val = 25 + k.val) → n = (if b then 6 else 0) + k.val →
    (isecTriggered s n = false → Gives (.sarConversion b slot raw quiet 0) s (recordIsec n raw quiet 0 s)) ∧
    (isecTriggered s n = true → Gives (.sarConversion b slot raw quiet 0) s s)) ∧
  (∀ (m : Fin 8) (raw : Int) (quiet : Quiet) (s : State), sensing s = true → trigNext s m = true → trigNs s m < (s.now + 1) * 1000 →
    fld (s.meas.trig.getD m 0) 20 19 = 0 →
    Gives (.trigConversion m raw quiet 0) s (recordIsec (fld (s.meas.trig.getD m 0) 18 15) raw quiet 0
      { s with meas := { s.meas with trigs := s.meas.trigs.filter (· ≠ m.val) } })) ∧
  (∀ (n : Nat) (raw : Int) (quiet : Quiet) (r x : Rat) (s : State), (s.ch n).hs ≠ 0 → 0 ≤ raw → raw ≤ 16384 → quiet.ns500 = true →
    modelRon s n = some r → x = (raw : Rat) * 125000 * popcount (s.ch (shownBy s n)).hs / (42 * r) → -30000 ≤ x → x ≤ 30000 →
    ∃ (v : Int) (q : BitVec 2) (k : Nat), |(v : Rat) - x| ≤ 1 / 2 ∧ recordIsec n raw quiet 0 s =
      crossCheck n v q quiet.ns4500 (putRushes (8 * n + 1) (some ⟨BitVec.ofInt 16 v, q, s.now, 0⟩) { s with free := k })) ∧
  (∀ (b : Bool) (k : Fin 6) (slot : Fin 50) (n : Nat) (raw : Int) (quiet : Quiet) (s : State) (x : Rat), sensing s = true →
    s.dtime % 10 = (slot.val + 1) / 5 → s.meas.rushes.length = 100 → slot.val = 32 + k.val → n = (if b then 6 else 0) + k.val →
    x = calibrated s 7 8 n raw / (5 / 2) → 0 ≤ x → x ≤ 32768 →
    ∃ (v : Int) (q : BitVec 2) (t : State), exec (.sarConversion b slot raw quiet 0) s = .next t ∧ |(v : Rat) - x| ≤ 1 / 2 ∧
      t.meas.rushes = s.meas.rushes.set (8 * n + 3) (some ⟨BitVec.ofInt 16 v, q, s.now, 0⟩)) ∧
  (∀ (m : Fin 8) (raw : Int) (quiet : Quiet) (s : State) (x : Rat), sensing s = true → trigNext s m = true →
    trigNs s m < (s.now + 1) * 1000 → s.meas.rushes.length = 100 → fld (s.meas.trig.getD m 0) 20 19 = 2 →
    x = calibrated s 7 8 (fld (s.meas.trig.getD m 0) 18 15) raw / (5 / 2) → 0 ≤ x → x ≤ 32768 →
    ∃ (v : Int) (q : BitVec 2) (t : State), exec (.trigConversion m raw quiet 0) s = .next t ∧ |(v : Rat) - x| ≤ 1 / 2 ∧
      t.meas.rushes = s.meas.rushes.set (8 * fld (s.meas.trig.getD m 0) 18 15 + 3) (some ⟨BitVec.ofInt 16 v, q, s.now, 0⟩)) ∧
  (∀ (m : Fin 8) (raw : Int) (quiet : Quiet) (s : State), trigNext s m = false → Gives (.trigConversion m raw quiet 0) s s) ∧
  (∀ (j : Fin 518) (n : Nat) (raw v : Int) (diff : BitVec 8) (s : State), sensing s = true →
    s.dtime % 2000 = 5 * (j.val + 1) / 2 % 2000 → j.val < 504 → n = j.val / 42 → j.val % 42 ≠ 41 → v = raw + (calWord s 11 j).value →
    -3520 ≤ v → v ≤ 12800 → diff ≠ 0 →
    ∃ q, Gives (.diodeSlot j raw diff) s
      (({ s with meas := { s.meas with seg := s.meas.seg.set j (some ⟨BitVec.ofInt 16 v, q, s.now, diff⟩) } }).onCh n
        fun c => { c with sweepOk := (decide (j.val % 42 = 0) || c.sweepOk) && sweepCounts s n })) ∧
  (∀ (n : Nat) (s : State), sweepCounts s n = true ↔
    (s.ch n).hs = ~~~(s.ch n).retired ∧ (s.ch n).hs ≠ 0 ∧ ∃ i q r, (s.ch n).ipris = (i, q) :: r ∧ 1000 ≤ i.natAbs)

/-- R127 to R129, R132, R136 to R138, R344: a committed MEAS_ZERO starts the wait of the named channels; both off for 1 ms, counted from the instant at which the last gate went off, also before the commit, starts the average; 64 samples within ±0.5 A set PRI_TRIM to minus their mean in mA, and a mean beyond it, a channel that conducts, or 100 ms of waiting fails; MEAS_CALSEL selects a calibration word or PRI_TRIM; a snapshot takes every word of its group and lasts until its release or 2 ms; a committed freshness limit lies between 16 µs and 500 µs; with CORE stopped a re-zero and a snapshot stay as they are; MEAS_SWEEP with SENSE stopped keeps the slot at which it stopped and the sweeps begun since the structure was applied (log 19, read by inference). Through DBG_ACC, MEAS_CTL names no port's buffer and changes nothing (log 12, the model's choice). What the model chose or read by inference here: logs 7, 19 and 112, and log 142 for a channel that is off by its own segments. -/
def Obligations.MeasurementRows : Prop :=
  (∀ (h : Port) (d : D28) (s : State), MayCommit s h 0x3CC → fld d 27 12 = 0 →
    CompletesStatus (.measZero h d) s sOk
      (forEach ((List.range 12).filter (bitAt d)) (fun n s' => s'.onCh n fun c => { c with rezero := .wait s.now }) s)) ∧
  (∀ (n : Fin 12) (t0 o : Nat) (s : State), (s.ch n).rezero = .wait t0 → (s.ch n).offAt = some o → (s.ch n).hs = 0 → (s.ch n).fw = .off →
    s.since o 1000 = true → s.clk.coreStop = false → Gives (.zeroWaitMet n) s (s.onCh n fun c => { c with rezero := .average 0 0 false })) ∧
  (∀ (n : Fin 12) (sum : Int) (s : State), (s.ch n).rezero = .average 64 sum false → (10 * sum).natAbs ≤ 500 * 64 →
    s.clk.coreStop = false →
    ∃ (m : Int) (t : State), exec (.zeroDone n) s = .next t ∧ |(m : Rat) - (-10 * sum : Int) / 64| ≤ 1 / 2 ∧
      (t.ch n).trim = m ∧ (t.ch n).rezero = .idle ∧ (t.ch n).zfail = (s.ch n).zfail) ∧
  (∀ (n : Fin 12) (sum : Int) (cond : Bool) (s : State), (s.ch n).rezero = .average 64 sum cond → (cond = true ∨ 500 * 64 < (10 * sum).natAbs) →
    s.clk.coreStop = false →
    Gives (.zeroDone n) s (s.onCh n fun c => { c with rezero := .idle, zfail := true })) ∧
  (∀ (n : Fin 12) (t0 : Nat) (s : State), (s.ch n).rezero = .wait t0 → s.since t0 100000 = true → s.clk.coreStop = false →
    Gives (.zeroTimeout n) s (s.onCh n fun c => { c with rezero := .idle, zfail := true })) ∧
  (∀ (a : Access) (d : D28) (s : State), MayStore s a 0x3CE → fld d 27 16 = 0 → fld d 11 10 = 0 → fld d 15 12 < 12 →
    fld d 9 0 < calCount (fld d 15 12) →
    GivesStatus (.measCalsel a d) s sOk { s with meas := { s.meas with
      calKind := fld d 15 12, calIndex := fld d 9 0, calVal := (calWord s (fld d 15 12) (fld d 9 0)).value,
      calValid := (calWord s (fld d 15 12) (fld d 9 0)).valid } }) ∧
  (∀ (h : Port) (d : D28) (s : State), MayStore s (.write h) 0x3CE → fld d 27 16 = 0 → fld d 11 10 = 0 →
    calCount (fld d 15 12) ≤ fld d 9 0 → GivesStatus (.measCalsel (.write h) d) s sFormat (noteLast h 1 0x3CE sFormat s)) ∧
  (∀ (h : Port) (seg : Bool) (s : State), MayStore s (.write h) 0x3C0 →
    CompletesStatus (.snapshot (.write h) seg) s sOk
      (setSnap h (some ⟨seg, s.now, if seg then s.meas.seg else s.meas.rushes⟩) s)) ∧
  (∀ (h : Port) (s : State), MayStore s (.write h) 0x3C0 → GivesStatus (.snapshotRelease (.write h)) s sOk (setSnap h none s)) ∧
  (∀ (seg : Bool) (s : State), MayStore s .dbg 0x3C0 →
    GivesStatus (.snapshot .dbg seg) s sOk s ∧ GivesStatus (.snapshotRelease .dbg) s sOk s) ∧
  (∀ (h : Port) (x : Snap) (s : State), s.meas.snaps.get h = some x → s.since x.taken 2000 = true → s.clk.coreStop = false →
    Gives (.snapshotExpiry h) s (setSnap h none s)) ∧
  (∀ (h : Port) (k : Fin 8) (d : D28) (s : State), MayCommit s h (0x3C4 + k) → fld d 27 9 = 0 → 16 ≤ fld d 8 0 → fld d 8 0 ≤ 500 →
    GivesStatus (.freshCommit h k d) s sOk { s with meas := { s.meas with fresh := s.meas.fresh.set k d } }) ∧
  (∀ (h : Port) (k : Fin 8) (d : D28) (s : State), MayCommit s h (0x3C4 + k) → fld d 27 9 = 0 → (fld d 8 0 < 16 ∨ 500 < fld d 8 0) →
    GivesStatus (.freshCommit h k d) s sFormat (noteLast h 3 (0x3C4 + k) sFormat s)) ∧
  (∀ (a : Access) (d : D28) (s : State), MayStore s a 0x3CE → fld d 27 16 = 0 → fld d 11 10 = 0 → fld d 15 12 = 12 → fld d 9 0 < 12 →
    GivesStatus (.measCalsel a d) s sOk { s with meas := { s.meas with
      calKind := 12, calIndex := fld d 9 0, calVal := (s.ch (fld d 9 0)).trim, calValid := false } }) ∧
  (∀ (n : Fin 12) (s : State), ((s.ch n).hs ≠ 0 ∨ (s.ch n).fw ≠ .off) →
    Gives (.zeroWaitMet n) s s) ∧
  (∀ (n : Nat) (s : State), n < s.chans.length → ((noteGates s).ch n).offAt =
    if (s.ch n).hs = 0 ∧ (s.ch n).fw = .off then some ((s.ch n).offAt.getD s.now) else none) ∧
  (∀ (h : Port) (n : Fin 12) (s : State), s.clk.coreStop = true →
    Gives (.zeroWaitMet n) s s ∧ Gives (.zeroDone n) s s ∧ Gives (.zeroTimeout n) s s ∧ Gives (.snapshotExpiry h) s s) ∧
  (∀ s : State, s.dev.struct = true → s.clk.senseStop = true → measSweep s =
    pack28 [(10, (s.clk.senseAt / 2000 - (s.meas.since + 1999) / 2000) % 2 ^ 18), (0, s.clk.senseAt % 2000 * 2 / 5)])

/-! ### Protection (06) -/

/-- R144, R145, R178: a committed CHn_I2T acts from the next update on; every 10 µs e moves towards the mean square of the ten latest currents, zero where there is none or the channel is under test, by its 1000 × 2^TAU-th part; the trip level is the square of 1.1 times IREF scaled to the segments that remain; reaching it raises CHn_OVL and notes I2T, once while it stays reached, and never with every segment retired; the source is present while e exceeds the square of the scaled IREF. What the model chose or read by inference here: logs 8 and 82. -/
def Obligations.OverloadModel : Prop :=
  (∀ (c : Chan) (m : Rat), i2tStep c m = c.e + (m - c.e) / (1000 * 2 ^ fld c.i2tUse 12 9)) ∧
  (∀ (n : Fin 12) (c : Chan) (s : State), s.dev.struct = true → s.clk.coreStop = false → s.since (s.ch n).eAt 10 = true →
    c = { s.ch n with i2tUse := (s.ch n).i2t } → i2tStep c (meanSquare s n) < c.tripLevel →
    Gives (.i2tUpdate n) s (s.onCh n fun x => { x with
      i2tUse := (s.ch n).i2t, e := i2tStep c (meanSquare s n), eAt := s.now, atTrip := false })) ∧
  (∀ (n : Fin 12) (c : Chan) (s : State), s.dev.struct = true → s.clk.coreStop = false → s.since (s.ch n).eAt 10 = true →
    c = { s.ch n with i2tUse := (s.ch n).i2t } → (s.ch n).atTrip = false →
    c.tripLevel ≤ i2tStep c (meanSquare s n) → (s.ch n).alive ≠ 0 →
    Raises (.i2tUpdate n) s (s.onCh n fun x => { x with
      i2tUse := (s.ch n).i2t, e := i2tStep c (meanSquare s n), eAt := s.now, atTrip := true,
      prot := { x.prot with bits := setBit x.prot.bits 0 } }) [8 * n + 2]) ∧
  (∀ (c : Chan) (d : D28) (m : Rat), ({ c with i2t := d } : Chan).tripLevel = c.tripLevel ∧ i2tStep { c with i2t := d } m = i2tStep c m) ∧
  (∀ c : Chan, c.irefEff = (fld c.i2tUse 8 0 : Rat) / 4 * ((42 : Rat) - popcount c.retired) / 42 ∧ c.tripLevel = (11 / 10 * c.irefEff) ^ 2) ∧
  (∀ (n : Nat) (s : State), (s.ch n).squares ≠ [] → underTest s n = false →
    meanSquare s n = ((s.ch n).squares.map fun i => ((i : Rat) / 100) ^ 2).sum / (s.ch n).squares.length) ∧
  (∀ (n : Nat) (s : State), ((s.ch n).squares = [] ∨ underTest s n = true) → meanSquare s n = 0) ∧
  (∀ (n : Fin 12) (c : Chan) (s : State), s.dev.struct = true → s.clk.coreStop = false → s.since (s.ch n).eAt 10 = true →
    c = { s.ch n with i2tUse := (s.ch n).i2t } → c.tripLevel ≤ i2tStep c (meanSquare s n) →
    ((s.ch n).alive ≠ 0 → (s.ch n).atTrip = true →
      Gives (.i2tUpdate n) s (s.onCh n fun x => { x with
        i2tUse := (s.ch n).i2t, e := i2tStep c (meanSquare s n), eAt := s.now, atTrip := true })) ∧
    ((s.ch n).alive = 0 →
      Gives (.i2tUpdate n) s (s.onCh n fun x => { x with
        i2tUse := (s.ch n).i2t, e := i2tStep c (meanSquare s n), eAt := s.now, atTrip := false }))) ∧
  (∀ c : Chan, i2tPresent c = true ↔ c.irefEff ^ 2 < c.e ∧ c.alive ≠ 0)

/-- R47, R142, R146 to R151, R154, R190, R344, 16 R409: a current at the effective cycle limit switches the unit's legs off and counts, for the rest of the period in PWM and bridge modes with a running timer and for 20 µs else; a chop or a cut ends after its 20 µs; a CUT reaction is a chop of a running ladder, else off for the rest of its timer's period, a steady unit's running routed timer included, which is then needed until that start, or for 20 µs, and cuts each unit one of whose switching channels it concerns once; at a millisecond the run of cut milliseconds that reaches CLPERS raises CHn_OVL and notes CLP; an unmasked current above CHn_SCTH or a hard short latches its channel off, notes SCT or HST and raises CHn_SC or CHn_HS, and BUS_A (96) or BUS_B (97), and so the safe state, when another latch of the bank, not of the same parallel group, set within 1 µs of it, both times GUARD's with a resolution of 50 ns, but not on a channel under test; a window's close trips a current still above SC; the cap ends the power die's mask. What the model chose or read by inference here: logs 14, 15, 45 and 134. -/
def Obligations.CutAndShortCircuitCommands : Prop :=
  (∀ (n : Fin 12) (ma : Nat) (s : State), (s.ch n).hs ≠ 0 → masked (s.ch n) = false → inLadder s (leader s n) = false →
    250 * (s.ch n).ilimEff ≤ ma →
    Gives (.cycleLimitCut ⟨n, ma⟩) s (cycleCut n (leader s n) s) ∧
    Completes (.cycleLimitCut ⟨n, ma⟩) s (s.onCh n fun c => { c with clcuts := sat 0xFFFF (c.clcuts + 1), cutMs := true })) ∧
  (∀ (n u : Nat) (s : State), u < s.chans.length → ((s.ch u).baseMode = 0 ∨ (s.ch u).baseMode = 3 ∨ cutTimer s u = false) →
    ((cycleCut n u s).ch u).chopOff = true ∧ ((cycleCut n u s).ch u).chopAt = s.now ∧ ∀ m ∈ legs s u, ((cycleCut n u s).ch m).hs = 0) ∧
  (∀ (n u : Nat) (s : State), u < s.chans.length → ((s.ch u).baseMode = 1 ∨ (s.ch u).baseMode = 2) → cutTimer s u = true →
    ((cycleCut n u s).ch u).cutPeriod = true ∧ ∀ m ∈ legs s u, ((cycleCut n u s).ch m).hs = 0) ∧
  (∀ (n : Fin 12) (s : State), (s.ch (leader s n)).chopOff = true → s.since (s.ch (leader s n)).chopAt 20 = true →
    Gives (.chopRestart n) s (resume false (leader s n) (s.onCh (leader s n) fun c => { c with chopOff := false }))) ∧
  (∀ (n : Fin 12) (s : State), (s.ch (leader s n)).cutOff = true → s.since (s.ch (leader s n)).chopAt 20 = true →
    Gives (.cutExpiry n) s (resume true (leader s n) (s.onCh (leader s n) fun c => { c with cutOff := false }))) ∧
  (∀ s : State, s.timeRuns = true → s.tbase.msAt < s.now / 1000 * 1000 → (∀ n, n < 12 → clpDue (s.ch n) = false) →
    s.chans.length = 12 →
    Gives .cutMsBoundary s { s with
      tbase := { s.tbase with msAt := s.now / 1000 * 1000 },
      chans := s.chans.map fun c => { c with prot := { c.prot with clact := c.cutMs }, cutRun := cutRunNext c, cutMs := false, chopMs := false } }) ∧
  (∀ (n : Fin 12) (s : State), s.timeRuns = true → s.tbase.msAt < s.now / 1000 * 1000 → n < s.chans.length → clpDue (s.ch n) = true → lightsOut s = false →
    ∃ t, exec .cutMsBoundary s = .next t ∧ (t.ch n).prot.bits.getLsbD 1 = true ∧ (t.ch n).cutRun = 0 ∧ seen t (8 * n + 2)) ∧
  (∀ (n : Fin 12) (ma : Nat) (ns : Fin 1000) (s : State), (s.ch n).hs ≠ 0 → masked (s.ch n) = false → (s.ch n).scLatch = false →
    s.clk.guardStop = false → 1000 * fld (s.ch n).scth 7 0 < ma →
    ∃ t, exec (.scTrip ⟨n, ma⟩ ns) s = .next t ∧ (t.ch n).hs = 0 ∧ seen t (8 * n + 1) ∧
      t.still = (s.onCh n fun c => { c with scLatch := true, latchAt := some (nsTime s ns),
                                            prot := { c.prot with bits := setBit c.prot.bits 4 } }).still) ∧
  (∀ (n : Fin 12) (ma : Nat) (ns : Fin 1000) (s : State), (s.ch n).hs ≠ 0 → (s.ch n).blank = true → (s.ch n).scLatch = false →
    s.clk.guardStop = false → 1000 * fld (s.ch n).scth 7 0 < ma →
    ∃ t, exec (.blankWindowClose n ma ns) s = .next t ∧ (t.ch n).hs = 0 ∧ seen t (8 * n + 1) ∧
      t.still = (s.onCh n fun c => { c with scLatch := true, latchAt := some (nsTime s ns),
                                            prot := { c.prot with bits := setBit c.prot.bits 4 } }).still) ∧
  (∀ (n : Fin 12) (ma : Nat) (ns : Fin 1000) (s : State), (s.ch n).blank = true →
    (ma ≤ 1000 * fld (s.ch n).scth 7 0 ∨ (s.ch n).hs = 0 ∨ (s.ch n).scLatch = true) →
    Gives (.blankWindowClose n ma ns) s (s.onCh n fun c => { c with blank := false, blankCap := false })) ∧
  (∀ (n : Fin 12) (s : State), (s.ch n).blank = true → Gives (.blankCapExpiry n) s (s.onCh n fun c => { c with blankCap := true })) ∧
  (∀ (n : Fin 12) (ns : Fin 1000) (s : State), (s.ch n).hsLatch = false → s.dev.phase ≠ .reset → s.clk.guardStop = false → n < s.chans.length →
    underTest s n = false →
    ∃ t, exec (.hsTrip n ns) s = .next t ∧ (t.ch n).hs = 0 ∧ seen t (8 * n) ∧
      t.still = (s.onCh n fun c => { c with hsLatch := true, latchAt := some (nsTime s ns),
                                            prot := { c.prot with bits := setBit c.prot.bits 5 } }).still) ∧
  (∀ (n : Fin 12) (ns : Fin 1000) (s : State), underTest s n = true → Gives (.hsTrip n ns) s s) ∧
  (∀ (u : Nat) (s : State), (s.ch u).drive = .ladder → cutUnit u s = ladderChop u s) ∧
  (∀ (u : Nat) (s : State), (s.ch u).drive = .steady → routeOf s u = none → u < s.chans.length →
    ((cutUnit u s).ch u).cutOff = true ∧ ((cutUnit u s).ch u).chopAt = s.now ∧ ∀ m ∈ legs s u, ((cutUnit u s).ch m).hs = 0) ∧
  (∀ (u t : Nat) (s : State), (s.ch u).drive = .timed t → u < s.chans.length →
    ((cutUnit u s).ch u).cutPeriod = true ∧ ∀ m ∈ legs s u, ((cutUnit u s).ch m).hs = 0) ∧
  (∀ (u t : Nat) (s : State), (s.ch u).drive = .steady → routeOf s u = some t → u < s.chans.length →
    (∀ m ∈ legs s u, ((cutUnit u s).ch m).hs = 0) ∧
    ((s.tm t).run = true → ((cutUnit u s).ch u).cutPeriod = true ∧ ((cutUnit u s).ch u).cutOff = (s.ch u).cutOff) ∧
    ((s.tm t).run = false → ((cutUnit u s).ch u).cutOff = true ∧ ((cutUnit u s).ch u).chopAt = s.now)) ∧
  (∀ (u : Nat) (chs : List Nat) (s : State), u ∈ cutUnits s chs ↔ u ∈ leaders s ∧ ∃ n ∈ chs, n ∈ legs s u) ∧
  (∀ (t u : Nat) (r : List Nat) (s : State), (s.ch u).drive = .steady → (s.ch u).want ≠ .timed t → (s.ch u).cutPeriod = true →
    ((s.ch u).lingers = false ∨ (s.ch u).onReq = true) → routeOf s u = some t → unitPeriod t r u s = resume true u (s.onCh u fun c => { c with cutPeriod := false })) ∧
  (∀ (n t : Nat) (e : Ev) (s : State), e ∈ busEvent s n t ↔ e = ev (if n < 6 then 96 else 97) ∧
      ∃ k t', k < 12 ∧ k ≠ n ∧ k / 6 = n / 6 ∧ ((s.ch n).baseMode ≠ 3 ∨ leader s k ≠ leader s n) ∧ (s.ch k).latchAt = some t' ∧
        t / 50 - t' / 50 ≤ 20 ∧ t' / 50 - t / 50 ≤ 20) ∧
  (∀ (s : State) (ns : Nat), nsTime s ns = (s.now + s.clk.guardUs) * 1000 + ns) ∧
  (∀ (n : Fin 12) (ma : Nat) (ns : Fin 1000) (k t' : Nat) (s : State), (s.ch n).hs ≠ 0 → masked (s.ch n) = false → (s.ch n).scLatch = false →
    s.clk.guardStop = false → 1000 * fld (s.ch n).scth 7 0 < ma → k < 12 → k ≠ n → k / 6 = n / 6 → (s.ch k).latchAt = some t' →
    nsTime s ns / 50 - t' / 50 ≤ 20 → t' / 50 - nsTime s ns / 50 ≤ 20 → ((s.ch n).baseMode ≠ 3 ∨ leader s k ≠ leader s n) →
    ∃ t, exec (.scTrip ⟨n, ma⟩ ns) s = .next t ∧ seen t (if n.val < 6 then 96 else 97) ∧
      (((openWindows s).any fun w => lists s.flt w (if n.val < 6 then 96 else 97)) = false → t.flt.safe = true)) ∧
  (∀ (n : Fin 12) (ns : Fin 1000) (k t' : Nat) (s : State), (s.ch n).hsLatch = false → s.dev.phase ≠ .reset → s.clk.guardStop = false →
    underTest s n = false → k < 12 → k ≠ n → k / 6 = n / 6 → (s.ch k).latchAt = some t' →
    nsTime s ns / 50 - t' / 50 ≤ 20 → t' / 50 - nsTime s ns / 50 ≤ 20 → ((s.ch n).baseMode ≠ 3 ∨ leader s k ≠ leader s n) →
    ∃ t, exec (.hsTrip n ns) s = .next t ∧ seen t (if n.val < 6 then 96 else 97) ∧
      (((openWindows s).any fun w => lists s.flt w (if n.val < 6 then 96 else 97)) = false → t.flt.safe = true)) ∧
  (∀ (t u : Nat) (s : State), (s.tm t).func = 1 → u ∈ leaders s → routeOf s u = some t → (s.ch u).drive = .steady → (s.ch u).cutPeriod = true →
    timerNeeded s t = true)

/-- R142, R160 to R165, R344: an event of a retry class takes an ARMED, WAIT or PROBE machine to WAIT while the policy has tries left, and to LOCKOUT else, which no retry's wait or probe ends (at most the safe state takes its place) and OFF does, with every TRYCNT at zero; after its wait, of the time that its policy's code names, with its class's condition met (e at or below the square of the scaled IREF for I2T, both temperatures of the latest sweep below 145 °C for OTS and OTF, where a word without a usable reading reads below nothing, none else) and the channel asked for, a retry turns on: its holds and latches end and it probes; a probe that stands 100 ms recovers; ten seconds of on-time clear TRYCNT of OVL, BST and INRUSH; a stopped GUARD does nothing of it. What the model chose or read by inference here: logs 3, 46 and 134. -/
def Obligations.RetryCommands : Prop :=
  (∀ (n : Fin 12) (cls : RetryClass) (s : State), (s.ch n).retry.state = .wait → (s.ch n).retry.cls = some cls →
    guardSince s (s.ch n).retry.since (waitUs (policy (s.ch n) cls).2.2 * 9 / 10) = true → retryCondition s n = true →
    (s.ch (leader s n)).onReq = true → s.clk.guardStop = false → Gives (.retryWaitExpiry n) s (retryTurnOn n cls s)) ∧
  (∀ (n : Nat) (cls : RetryClass) (s : State), n < s.chans.length →
    let x := retryTurnOn n cls s
    (x.ch n).retry.state = .probe ∧ (x.ch n).scLatch = false ∧ (x.ch n).hsLatch = false ∧ (x.ch n).dsLatch = false ∧
      (x.ch n).uvHold = false ∧ (x.ch n).retry.count cls = (s.ch n).retry.count cls + 1 ∧
      (∀ h ∈ x.flt.holds, h.owner = n → h.retryHeld = false)) ∧
  (∀ (n : Fin 12) (s : State), (s.ch n).retry.state = .probe → 100000 ≤ (s.ch n).retry.probeUs → s.clk.guardStop = false →
    Gives (.probeRecovery n) s (retryRecover n s) ∧
    ∃ t, exec (.probeRecovery n) s = .next t ∧ t.flt.recovSrc = (s.ch n).retry.src ∧ t.flt.recov = sat 0xFFFF (s.flt.recov + 1)) ∧
  (∀ (n : Fin 12) (s : State), 10000000 ≤ (s.ch n).retry.onUs → s.clk.guardStop = false →
    Gives (.trycntClear n) s (s.onCh n fun c => { c with retry := { c.retry with tryOvl := 0, tryBst := 0, tryInrush := 0, onUs := 0 } })) ∧
  (∀ (n src : Nat) (cls : RetryClass) (cause : BitVec 3) (s : State), n < s.chans.length →
    ((s.ch n).retry.state = .armed ∨ (s.ch n).retry.state = .wait ∨ (s.ch n).retry.state = .probe) →
    ((retryTake n cls src cause s).ch n).retry.state =
      (if (policy (s.ch n) cls).1 = false ∧ (policy (s.ch n) cls).2.1 ≤ (s.ch n).retry.count cls then .lockout else .wait) ∧
    ((retryTake n cls src cause s).ch n).retry.cls = some cls ∧ ((retryTake n cls src cause s).ch n).retry.since = guardNow s ∧
    ((retryTake n cls src cause s).ch n).retry.src = src) ∧
  (∀ (n src : Nat) (cls : RetryClass) (cause : BitVec 3) (s : State),
    ((s.ch n).retry.state = .lockout ∨ (s.ch n).retry.state = .safe) →
    ((retryTake n cls src cause s).ch n).retry.state = (s.ch n).retry.state) ∧
  (∀ (n : Nat) (s : State), (s.ch n).retry.state ≠ .safe → n < s.chans.length →
    ((retryRest n s).ch n).retry.state = .armed ∧ ∀ cls, ((retryRest n s).ch n).retry.count cls = 0) ∧
  (∀ (n : Nat) (s : State), n < s.chans.length → (s.ch n).retry.state = .probe →
    ((retryRecover n s).ch n).retry.state = .armed ∧ ((retryRecover n s).ch n).retry.taken = []) ∧
  (∀ (n : Fin 12) (s : State), s.clk.guardStop = true →
    Gives (.trycntClear n) s s ∧ Gives (.retryWaitExpiry n) s s ∧ Gives (.probeRecovery n) s s) ∧
  (∀ (n : Fin 12) (s : State), (s.ch n).retry.state ≠ .wait → Gives (.retryWaitExpiry n) s s) ∧
  (∀ (n : Fin 12) (s : State), (s.ch n).retry.state ≠ .probe → Gives (.probeRecovery n) s s) ∧
  (∀ (n : Fin 12) (s : State), (s.ch n).retry.state = .lockout →
    (∃ t, exec (.retryWaitExpiry n) s = .next t ∧ ((t.ch n).retry.state = .lockout ∨ t.flt.safe = true)) ∧
    (∃ t, exec (.probeRecovery n) s = .next t ∧ ((t.ch n).retry.state = .lockout ∨ t.flt.safe = true))) ∧
  (∀ (n : Nat) (s : State), let r := (s.ch n).retry
    (r.cls ≠ some .ovl → retryCondition s n = true) ∧
    (r.cls = some .ovl → r.cause = causeI2t → (retryCondition s n = true ↔ (s.ch n).e ≤ (s.ch n).irefEff ^ 2)) ∧
    (r.cls = some .ovl → (r.cause = causeOts ∨ r.cause = causeOtf) →
      retryCondition s n = (cool (s.meas.rushes.getD (8 * n + 5) none) && cool (s.meas.rushes.getD (8 * n + 7) none))) ∧
    (r.cls = some .ovl → r.cause = causeClp → retryCondition s n = true)) ∧
  (∀ (w : SampleOpt) (x : Sample), usable w = some x → (cool w = true ↔ (x.value.toInt : Rat) / 64 < 145)) ∧
  (∀ k : Nat, (k ≤ 5 → waitUs (4 * k) = 100 * 10 ^ k) ∧
    (k ≤ 4 → waitUs (4 * k + 1) = 178 * 10 ^ k ∧ waitUs (4 * k + 2) = 316 * 10 ^ k ∧ waitUs (4 * k + 3) = 562 * 10 ^ k)) ∧
  (∀ w : SampleOpt, usable w = none → cool w = false) ∧
  (∀ (s : State) (t us : Nat), guardSince s t us = true ↔ t + us ≤ guardNow s)

/-- R166 to R169, R180, R385: an enabled trip input raises TRIPj and its release ends it; both lines high for 1 ms bring limp-home, both low for 1 ms release them, unlike levels for 100 ms raise LH_DISAGREE, and a change of a line's sampled level is noted; the times are GUARD's, which count on with TIME stopped and stand with GUARD (log 134); in last rites none of it has an effect. What the model chose or read by inference here: logs 41, 53 and 134. -/
def Obligations.InputCommands : Prop :=
  (∀ (j : Fin 8) (s : State), guardInputs s = true → bitAt s.limp.tripCfg (4 + j) = true → s.limp.trips.getLsbD j = false →
    Raises (.tripAssert j) s (setTrip j true s) [99 + j.val]) ∧
  (∀ (j : Fin 8) (s : State), guardInputs s = true → Gives (.tripRelease j) s (setTrip j false s)) ∧
  (∀ s : State, s.limp.lh0 = true → s.limp.lh1 = true → s.limp.asserted = false → s.limp.lhSince + 1000 ≤ guardNow s →
    s.clk.guardStop = false → s.sup.ritesWait = none →
    Gives .lhAssert s (enterLimp { s with limp := { s.limp with asserted := true, released := false } })) ∧
  (∀ s : State, s.dev.struct = true → (enterLimp s).limp.active = true) ∧
  (∀ s : State, s.limp.lh0 = false → s.limp.lh1 = false → s.limp.lhSince + 1000 ≤ guardNow s → s.clk.guardStop = false →
    s.sup.ritesWait = none → Gives .lhRelease s { s with limp := { s.limp with asserted := false, released := true } }) ∧
  (∀ (t0 : Nat) (s : State), guardInputs s = true → s.limp.oddSince = some t0 → t0 + 100000 ≤ guardNow s → s.limp.disagree = false →
    Raises .lhDisagree s { s with limp := { s.limp with disagree := true } } [108]) ∧
  (∀ (a b : Bool) (s : State), s.clk.guardStop = false → s.sup.ritesWait = none → (a ≠ s.limp.lh0 ∨ b ≠ s.limp.lh1) →
    Gives (.lhLineEdge a b) s (lhEdge a b s) ∧
    ∃ t, exec (.lhLineEdge a b) s = .next t ∧ t.limp.lh0 = a ∧ t.limp.lh1 = b ∧ t.limp.lhSince = guardNow s ∧
      (a = b → t.limp.disagree = false ∧ t.limp.oddSince = none)) ∧
  (∀ (a b : Bool) (j : Fin 8) (s : State), s.sup.ritesWait ≠ none →
    Gives (.lhLineEdge a b) s s ∧ Gives .lhAssert s s ∧ Gives .lhRelease s s ∧ Gives .lhDisagree s s ∧
    Gives (.tripAssert j) s s ∧ Gives (.tripRelease j) s s) ∧
  (∀ s : State, guardNow s = (if s.clk.guardStop then s.clk.guardAt else s.now) + s.clk.guardUs) ∧
  (∀ (level old : Bool) (since : Nat) (s : State), filteredLh s level old since = if since + 1000 ≤ guardNow s then level else old) ∧
  (∀ (n : Nat) (l o : Bool) (since : Nat) (s : State), s.clk.guardStop = true → filteredLh { s with now := n } l o since = filteredLh s l o since)

/-- R41, R58, R98, R174, R176, R177, R178: BANK_LIMPEXIT leaves limp-home when both lines are released, the port that holds write authority has a valid lease and no hold of limp-home scope is in force, and is DENIED else, and has no effect and answers OK while limp-home is not in force; a unit that limp-home drove, with a running timer and its on-request clear, stays on until that timer's next period start, for which the timer stays needed, and turns off there; ILIM is staged within 2 A to 80 A; SCTH and I2T are committed within their ranges, SCTH 10 A above the channel's ladder; a committed RETIRE takes the segment out of service and is DEFERRED when the flacon cannot cover the map program. What the model chose or read by inference here: logs 12 and 129. -/
def Obligations.ProtectionRows : Prop :=
  (∀ (h : Port) (d : D28) (s : State), MayCommit s h 0x3A1 → fld d 27 1 = 0 → bitAt d 0 = true → s.limp.active = true → exitOk s = true → s.clk.guardStop = false →
    GivesStatus (.limpExit h d) s sOk (leaveLimp s)) ∧
  (∀ (h : Port) (d : D28) (s : State), MayCommit s h 0x3A1 → fld d 27 1 = 0 → bitAt d 0 = true → s.limp.active = true → exitOk s = false →
    GivesStatus (.limpExit h d) s sDenied (noteLast h 3 0x3A1 sDenied s)) ∧
  (∀ (a : Access) (n : Fin 12) (d : D28) (s : State), MayStore s a (0x204 + 32 * n) → fld d 27 9 = 0 → 8 ≤ fld d 8 0 → fld d 8 0 ≤ 320 →
    GivesStatus (.ilimWrite a n d) s sOk (s.onCh n fun c => { c with ilimSh := d })) ∧
  (∀ (h : Port) (n : Fin 12) (d : D28) (s : State), MayStore s (.write h) (0x204 + 32 * n) → fld d 27 9 = 0 →
    (fld d 8 0 < 8 ∨ 320 < fld d 8 0) →
    GivesStatus (.ilimWrite (.write h) n d) s sFormat (noteLast h 1 (0x204 + 32 * n) sFormat s)) ∧
  (∀ (h : Port) (n : Fin 12) (d : D28) (s : State), MayCommit s h (0x205 + 32 * n) → fld d 27 8 = 0 → 20 ≤ fld d 7 0 → fld d 7 0 ≤ 200 →
    topIlim (chLadder s n) + 40 ≤ 4 * fld d 7 0 →
    GivesStatus (.scthCommit h n d) s sOk (s.onCh n fun c => { c with scth := d })) ∧
  (∀ (h : Port) (n : Fin 12) (d : D28) (s : State), MayCommit s h (0x205 + 32 * n) → fld d 27 8 = 0 →
    (fld d 7 0 < 20 ∨ 200 < fld d 7 0 ∨ 4 * fld d 7 0 < topIlim (chLadder s n) + 40) →
    GivesStatus (.scthCommit h n d) s sFormat (noteLast h 3 (0x205 + 32 * n) sFormat s)) ∧
  (∀ (h : Port) (n : Fin 12) (d : D28) (s : State), MayCommit s h (0x206 + 32 * n) → fld d 27 13 = 0 → fld d 12 9 ≤ 13 → 8 ≤ fld d 8 0 →
    fld d 8 0 ≤ 160 → GivesStatus (.i2tCommit h n d) s sOk (s.onCh n fun c => { c with i2t := d })) ∧
  (∀ (h : Port) (n : Fin 12) (d : D28) (s : State), MayCommit s h (0x206 + 32 * n) → fld d 27 13 = 0 →
    (13 < fld d 12 9 ∨ fld d 8 0 < 8 ∨ 160 < fld d 8 0) →
    GivesStatus (.i2tCommit h n d) s sFormat (noteLast h 3 (0x206 + 32 * n) sFormat s)) ∧
  (∀ (h : Port) (n : Fin 12) (d : D28) (s : State), MayCommit s h (0x21F + 32 * n) → fld d 27 6 = 0 → fld d 5 0 < 42 →
    (s.ch n).retired.getLsbD (fld d 5 0) = false → n < s.chans.length →
    ∃ t, exec (.chRetire h n d) s = .next t ∧ t.status = (if flaconOk s then sOk else sDeferred) ∧
      (t.ch n).retired = setBit (s.ch n).retired (fld d 5 0) ∧ (t.ch n).hs.getLsbD (fld d 5 0) = false ∧
      (seen t (8 * n + 5) ∨ seen t (8 * n + 6))) ∧
  (∀ (h : Port) (n : Fin 12) (d : D28) (s : State), MayCommit s h (0x21F + 32 * n) → fld d 27 6 = 0 → 42 ≤ fld d 5 0 →
    GivesStatus (.chRetire h n d) s sFormat (noteLast h 3 (0x21F + 32 * n) sFormat s)) ∧
  (∀ (h : Port) (d : D28) (s : State), MayCommit s h 0x3A1 → fld d 27 1 = 0 → bitAt d 0 = true → s.limp.active = false → s.clk.guardStop = false →
    GivesStatus (.limpExit h d) s sOk s) ∧
  (∀ (h : Port) (d : D28) (s : State), MayCommit s h 0x3A1 → fld d 27 1 = 0 → bitAt d 0 = false → s.clk.guardStop = false →
    GivesStatus (.limpExit h d) s sOk s) ∧
  (∀ s : State, exitOk s = true ↔
    s.limp.released = true ∧ (∃ p, s.auth.holder = some p ∧ (s.ses.get p).leaseValid = true) ∧ ∀ h ∈ s.flt.holds, h.limp = false) ∧
  (∀ (n : Nat) (s : State), n < s.chans.length → (leaveLimp s).limp.active = false ∧
    (((leaveLimp s).ch n).lingers = true ↔ (s.ch n).byLimp = true ∧ (s.ch n).onReq = false ∧
      ((s.ch n).drive = .steady ∨ (s.ch n).drive = .ladder ∨ ∃ t, (s.ch n).drive = .timed t) ∧ ∃ t, chTimer s n = some t ∧ (s.tm t).run = true) ∧
    ((leaveLimp s).ch n).limpLad = false ∧ ((leaveLimp s).ch n).hs = (s.ch n).hs ∧ ((leaveLimp s).ch n).drive = (s.ch n).drive) ∧
  (∀ (u : Nat) (s : State), (s.ch u).lingers = true → (s.ch u).onReq = false → s.limp.active = false → s.dev.struct = true →
    s.flt.safe = false → (∀ m ∈ members s u, rank2 (s.ch m) = false ∧ rank3 s m = false) → (s.ch u).want ≠ .off → (s.ch u).byLimp = true →
    settleUnit u s = s) ∧
  (∀ (t u : Nat) (r : List Nat) (s : State), (s.ch u).lingers = true → (s.ch u).onReq = false → routeOf s u = some t → s.limp.active = false →
    unitPeriod t r u s = s.onCh u (fun c => { c with lingers := false }) ∧
      (u < s.chans.length → (wantOf (unitPeriod t r u s) u).1 = .off)) ∧
  (∀ (t u : Nat) (s : State), (s.tm t).func = 1 → u ∈ leaders s → routeOf s u = some t → (s.ch u).lingers = true → timerNeeded s t = true) ∧
  (∀ s : State, flaconOk s = true ↔ 2620 ≤ s.hold.eav ∧ ∃ v, s.hold.vhold = some v ∧ s.now ≤ v.tc + 50)

/-! ### Fault collector (07) -/

/-- R187, R190, R195, R200, R201, R203, R204: an event of class F that no open window lists brings the safe state, in which every high-side gate of every channel is off and both permits and HEALTH are low. -/
def Obligations.FatalEventBringsSafeState : Prop :=
  (∀ (e : Ev) (s : State), e.src < 120 → unrecorded s e.src = false → classOf s e.src = 2 → ((openWindows s).any fun w => lists s.flt w e.src) = false →
    (settle (raise [e] s)).flt.safe = true ∧ ∀ c ∈ (settle (raise [e] s)).chans, c.hs = 0) ∧
  (∀ (e : Ev) (s : State), e.src < 120 → unrecorded s e.src = false → classOf s e.src = 2 →
    ((openWindows s).any fun w => lists s.flt w e.src) = false →
    (settle (raise [e] s)).pins.permit0 = false ∧ (settle (raise [e] s)).pins.permit1 = false ∧ (settle (raise [e] s)).flt.health = false)

/-- R187, R188, R190, R191, R193, R198, R202, R204 to R207, R344: an event that an open window lists, while GUARD runs, only marks its consequential bit and the windows, and one of class C only its sticky bit; any other takes the latch or counts as overflow, has its record HELD with its reaction, in the safe state with the one still in force or REPORT, is logged and holds HEALTH low. SAFE brings the safe state, and every other reaction is issued for its channels: a hold on its scope with its PERM part, once for a source and scope, and the windows it opens, a cut, or limp-home; a hold bars its channels, and its PERM part the permits. A record passes between HELD and DRYING with its condition, while GUARD runs. The close of the last window raises the listed events whose source is still present and forgets the others; the end of a drydown, 100 µs × 2^(DRY − 1) after the condition's end, lifts the reaction and counts a recovery. A reaction on one channel takes the other members of its parallel group with it, and no other half of a bridge; one on a pair or a bank takes the channels of its owner's pair or bank, and of a parallel group all members when it takes one. What the model chose or read by inference here: logs 51, 74, 75, 122, 126, 128, 130, 131, 134, 143, 144, 153 and 164; that no window is open while GUARD is stopped is read from R198 by inference (log 122). -/
def Obligations.WindowCloseAndDrydown : Prop :=
  (∀ (w : Window) (s : State), s.flt.windows = [w] → w.closeAt ≤ guardNow s → s.clk.guardStop = false →
    Gives .sillageClose s (closeWindow w s) ∧
    ∃ t, exec .sillageClose s = .next t ∧
      ∀ e ∈ w.seen, e.src < 120 → present s e.src = true → t.flt.sticky.getLsbD e.src = true) ∧
  (∀ (w : Window) (s : State), s.flt.windows = [w] → w.closeAt ≤ guardNow s → s.clk.guardStop = false →
    (∀ e ∈ w.seen, present s e.src = false) → Gives .sillageClose s { s with flt := { s.flt with windows := [] } }) ∧
  (∀ (src : Fin 120) (t0 : Nat) (s : State), (s.flt.records.getD src Record.reset).state = .drying t0 → t0 ≤ guardNow s → s.clk.guardStop = false →
    Gives (.drydownExpiry src) s (dried src s) ∧
    ∃ t, exec (.drydownExpiry src) s = .next t ∧ t.flt.recovSrc = src ∧ t.flt.recov = sat 0xFFFF (s.flt.recov + 1)) ∧
  (∀ (src : Nat) (s : State), src < s.flt.records.length →
    ((dried src s).flt.records.getD src Record.reset).state = .lifted ∧
      ∀ h ∈ (dried src s).flt.holds, h.src = src → h.retryHeld = true) ∧
  (∀ (e : Ev) (s : State), e.src < 120 → unrecorded s e.src = false → ((openWindows s).any fun w => lists s.flt w e.src) = true →
    raise [e] s = { s with flt := { s.flt with
      conseq := setBit s.flt.conseq e.src, lasting := if lastingSource e.src then setBit s.flt.lasting e.src else s.flt.lasting,
      windows := s.flt.windows.map fun w => if lists s.flt w e.src then w.note e else w } }) ∧
  (∀ (e : Ev) (s : State), e.src < 120 → unrecorded s e.src = false → ((openWindows s).any fun w => lists s.flt w e.src) = false →
    classOf s e.src = 0 →
    raise [e] s = { s with flt := { s.flt with
      sticky := setBit s.flt.sticky e.src, lasting := if lastingSource e.src then setBit s.flt.lasting e.src else s.flt.lasting } }) ∧
  (∀ (e : Ev) (r : Nat) (cls : BitVec 2) (s x : State), e.src < 120 → unrecorded s e.src = false →
    ((openWindows s).any fun w => lists s.flt w e.src) = false → classOf s e.src ≠ 0 → x = raise [e] s → r = appliedReact s e →
    cls = (if r = 6 then 2 else classOf s e.src) →
    x.flt.sticky = setBit s.flt.sticky e.src ∧ x.flt.conseq = s.flt.conseq ∧
    (s.flt.first.valid = false →
      x.flt.first = ⟨true, s.flt.first.ovf, e.forced, noStrobe s, cls, e.cause, BitVec.ofNat 3 r, e.src, s.dtime⟩ ∧ x.flt.ovfcnt = s.flt.ovfcnt) ∧
    (s.flt.first.valid = true → x.flt.first = { s.flt.first with ovf := true } ∧ x.flt.ovfcnt = sat 255 (s.flt.ovfcnt + 1)) ∧
    x.flt.fsrc = (if cls = 2 ∧ s.flt.fsrc = 0x7F then e.src else s.flt.fsrc) ∧
    (e.src < s.flt.records.length → healthAllowed x = false ∧ x.flt.records.getD e.src Record.reset =
      if s.flt.safe then
        (if inForce (s.flt.records.getD e.src Record.reset) then { s.flt.records.getD e.src Record.reset with state := .held }
          else ⟨.held, 0, false, false⟩)
      else ⟨.held, BitVec.ofNat 3 r, entryPerm (entryOf s e.src), decide (2 ≤ r) && decide (r ≤ 4) && (retryClass e.src).isSome⟩) ∧
    (s.nvs.dropped = 0 → s.nvs.image.length < 15 →
      x.nvs.image = s.nvs.image ++ [mkRec s (eventRec e (noStrobe s) cls r)])) ∧
  (∀ (e : Ev) (s : State), e.src < 120 → unrecorded s e.src = false → ((openWindows s).any fun w => lists s.flt w e.src) = false →
    classOf s e.src ≠ 0 → appliedReact s e = 6 → (raise [e] s).flt.safe = true) ∧
  (∀ (e : Ev) (r : Nat) (s : State), e.src < 120 → unrecorded s e.src = false → ((openWindows s).any fun w => lists s.flt w e.src) = false →
    classOf s e.src ≠ 0 → s.flt.safe = false → r = appliedReact s e → r ≠ 6 →
    ∃ y : State, raise [e] s = forEach (owners s e r) (reactOn e.src e.cause r (entryPerm (entryOf s e.src)))
        (if r = 1 then forEach (cutUnits y (owners s e r)) cutUnit y else y) ∧
      y.flt.holds = s.flt.holds ∧ y.flt.windows = s.flt.windows ∧ y.chans = s.chans ∧ y.now = s.now ∧ y.clk = s.clk ∧ y.limp = s.limp) ∧
  (∀ (src owner react : Nat) (cause : BitVec 3) (perm : Bool) (h : Hold) (s x : State), 2 ≤ react → react ≤ 5 →
    h = ⟨src, owner, reactScope s react owner, react == 5, perm, decide (react ≤ 4) && (retryClass src).isSome⟩ →
    x = reactOn src cause react perm owner s →
    (h ∉ s.flt.holds → x.flt.holds = s.flt.holds ++ [h] ∧ x.flt.windows = s.flt.windows ++
      [⟨react - 1, if react = 5 then allChans else reactScope s react owner, guardNow s + 10 * fld s.flt.cfg 9 0, []⟩] ++
      (if perm then [⟨kindPerm, allChans, guardNow s + 10 * fld s.flt.cfg 9 0, []⟩] else [])) ∧
    (h ∈ s.flt.holds → x.flt.holds = s.flt.holds ∧ x.flt.windows = s.flt.windows) ∧
    (react = 5 → s.dev.struct = true → x.limp.active = true)) ∧
  (∀ (src owner : Nat) (cause : BitVec 3) (s x : State), x = reactOn src cause 1 false owner s →
    x.chans = s.chans ∧ x.flt.holds = s.flt.holds ∧
    x.flt.windows = s.flt.windows ++ [⟨0, reactScope s 1 owner, guardNow s + 10 * fld s.flt.cfg 9 0, []⟩]) ∧
  (∀ (src owner : Nat) (cause : BitVec 3) (s x : State), x = reactOn src cause 0 true owner s →
    (⟨src, owner, 0, false, true, false⟩ : Hold) ∉ s.flt.holds →
    x.flt.holds = s.flt.holds ++ [⟨src, owner, 0, false, true, false⟩] ∧ x.chans = s.chans ∧
    x.flt.windows = s.flt.windows ++ [⟨kindPerm, allChans, guardNow s + 10 * fld s.flt.cfg 9 0, []⟩]) ∧
  (∀ (h : Hold) (m : Nat) (s : State), h ∈ s.flt.holds →
    (h.scope.getLsbD m = true → rank3 s m = true) ∧ (h.perm = true → permitsAllowed s = false) ∧ (h.limp = true → exitOk s = false)) ∧
  (∀ (src : Nat) (s : State), s.clk.guardStop = false → src < s.flt.records.length → (s.flt.records.getD src Record.reset).state = .held →
    ((settleRecords s).flt.records.getD src Record.reset).state =
      if present s src = false ∧ dryApplies s src (s.flt.records.getD src Record.reset) = true then .drying (guardNow s + dryUs s src) else .held) ∧
  (∀ (src t0 : Nat) (s : State), s.clk.guardStop = false → src < s.flt.records.length → (s.flt.records.getD src Record.reset).state = .drying t0 →
    ((settleRecords s).flt.records.getD src Record.reset).state = if present s src = true then .held else .drying t0) ∧
  (∀ s : State, openWindows s = if s.clk.guardStop then [] else s.flt.windows) ∧
  (∀ (src : Nat) (s : State), s.clk.guardStop = false → src < s.flt.records.length → (s.flt.records.getD src Record.reset).state = .held → s.flt.safe = true →
    present s src = false → dryApplies s src (s.flt.records.getD src Record.reset) = true →
    ((settleRecords s).flt.records.getD src Record.reset).state = .drying (guardNow s + dryUs s src)) ∧
  (∀ r : Record, inForce r = true ↔ (r.state ≠ .clear ∧ r.state ≠ .lifted)) ∧
  (∀ (s : State) (k owner react : Nat), owner < 12 → k < 12 → (react = 1 ∨ react = 2) →
    ((s.ch k).baseMode = 3 → (reactScope s react owner).getLsbD k = decide (k = owner ∨ leader s k = leader s owner)) ∧
    ((s.ch k).baseMode ≠ 3 → (reactScope s react owner).getLsbD k = decide (k = owner))) ∧
  (∀ (s : State) (k owner : Nat), owner < 12 → k < 12 →
    ((s.ch k).baseMode ≠ 3 → (reactScope s 3 owner).getLsbD k = decide (k / 2 = owner / 2) ∧
      (reactScope s 4 owner).getLsbD k = decide (k / 6 = owner / 6)) ∧
    ((s.ch k).baseMode = 3 →
      ((reactScope s 3 owner).getLsbD k = true ↔ ∃ j, j < 12 ∧ j / 2 = owner / 2 ∧ (j = k ∨ leader s j = leader s k)) ∧
      ((reactScope s 4 owner).getLsbD k = true ↔ ∃ j, j < 12 ∧ j / 6 = owner / 6 ∧ (j = k ∨ leader s j = leader s k)))) ∧
  (∀ (s : State) (owner : Nat), reactScope s 0 owner = 0 ∧ reactScope s 5 owner = 0 ∧ reactScope s 6 owner = 0) ∧
  (∀ (src : Nat) (s : State), (1 ≤ entryDry (entryOf s src) → dryUs s src = 100 * 2 ^ (entryDry (entryOf s src) - 1)) ∧
    entryDry (entryOf s src) = if src % 2 = 0 then fld (s.flt.rx.getD (src / 2) 0) 9 6 else fld (s.flt.rx.getD (src / 2) 0) 23 20) ∧
  (∀ (src : Nat) (r : Record) (s : State), dryApplies s src r = true ↔
    entryDry (entryOf s src) ≠ 0 ∧ r.retryHeld = false ∧ ((2 ≤ r.react.toNat ∧ r.react.toNat ≤ 5) ∨ r.perm = true)) ∧
  (∀ (src : Nat) (s : State), present s src = true ↔ s.flt.force.getLsbD src = true ∨ s.flt.lasting.getLsbD src = true ∨
    (src < 96 ∧ chanPresent s (src / 8) (src % 8) = true) ∨ (96 ≤ src ∧ globalPresent s src = true)) ∧
  (∀ (src : Nat) (s : State), s.clk.guardStop = true → src < s.flt.records.length →
    (settleRecords s).flt.records.getD src Record.reset = s.flt.records.getD src Record.reset) ∧
  (∀ (src react : Nat), startsRetry src react = true ↔ (∃ c, retryClass src = some c) ∧ 2 ≤ react ∧ react ≤ 4)

/-- R159, R208, R211, R212, R213: an acknowledgement with the latch's source clears the latch and every outstanding source that is not present, and no other; with another source it is DENIED, and with ACK = 0 it is OK and changes nothing; a clean self-check changes nothing, a corrupted word raises FLT_SELF (115), and a corrupted matrix entry does too and under COMPAT_ESCALATE is replaced first; under COMPAT_ESCALATE an event of class U whose record is not CLEAR takes the reaction one above the record's, SAFE the highest, and any other the one its entry names, an event that its channel's machine takes in PROBE among them, one of a retry class whose entry is channel off, pair off or bank off. What the model chose or read by inference here: logs 12, 144 and 163, and log 75 for a source whose retry is in PROBE, which takes its entry's own reaction. -/
def Obligations.AcknowledgementAndSelfCheck : Prop :=
  (∀ s : State, Gives (.collectorSelfCheck .ok) s s) ∧
  (∀ s : State, s.clk.guardStop = false → s.dev.phase ≠ .reset → Raises (.collectorSelfCheck .word) s s [115]) ∧
  (∀ (src : Fin 120) (s : State), s.clk.guardStop = false → s.dev.phase ≠ .reset →
    Raises (.collectorSelfCheck (.entry src)) s (if bitAt s.flt.cfg 27 then defaultEntryOf src s else s) [115]) ∧
  (∀ (h : Port) (d : D28) (s : State), MayCommit s h 0x084 → fld d 27 8 = 0 → bitAt d 0 = true → fld d 7 1 = s.flt.first.src → s.clk.guardStop = false →
    GivesStatus (.fltAck h d) s sOk (forEach (List.range 120) ackSource (s.onFlt fun f =>
      { f with first := { f.first with valid := false, ovf := false, forced := false, tsusp := false, src := 0x7F }, ovfcnt := 0 }))) ∧
  (∀ (src : Nat) (s : State), src < 120 → s.flt.records.length = 120 → outstanding s.flt src = true →
    ((forEach (List.range 120) ackSource s).flt.records.getD src Record.reset).state =
      if present s src then (s.flt.records.getD src Record.reset).state else .clear) ∧
  (∀ (h : Port) (d : D28) (s : State), MayCommit s h 0x084 → fld d 27 8 = 0 → bitAt d 0 = true → fld d 7 1 ≠ s.flt.first.src →
    GivesStatus (.fltAck h d) s sDenied (noteLast h 3 0x084 sDenied s)) ∧
  (∀ (h : Port) (d : D28) (s : State), MayCommit s h 0x084 → fld d 27 8 = 0 → bitAt d 0 = false → s.clk.guardStop = false →
    GivesStatus (.fltAck h d) s sOk s) ∧
  (∀ (src : Nat) (s : State), s.flt.rx.length = 60 → src < 120 → entryOf (defaultEntryOf src s) src = defaultEntry src ∧
    ∀ (k : Nat), k ≠ src → k < 120 → entryOf (defaultEntryOf src s) k = entryOf s k) ∧
  (∀ (e : Ev) (s : State), s.flt.safe = false → classOf s e.src = 1 → bitAt s.flt.cfg 27 = true →
    (s.flt.records.getD e.src Record.reset).state ≠ .clear →
    ¬(startsRetry e.src (entryReact (entryOf s e.src)) = true ∧ ∃ n ∈ owners s e (entryReact (entryOf s e.src)), (s.ch n).retry.state = .probe) →
    appliedReact s e = min 6 ((s.flt.records.getD e.src Record.reset).react.toNat + 1)) ∧
  (∀ (e : Ev) (s : State), s.flt.safe = false → classOf s e.src = 1 →
    (bitAt s.flt.cfg 27 = false ∨ (s.flt.records.getD e.src Record.reset).state = .clear ∨
      (startsRetry e.src (entryReact (entryOf s e.src)) = true ∧ ∃ n ∈ owners s e (entryReact (entryOf s e.src)), (s.ch n).retry.state = .probe)) →
    appliedReact s e = entryReact (entryOf s e.src)) ∧
  (∀ (e : Ev) (s : State), (s.flt.safe = true ∨ classOf s e.src = 0 → appliedReact s e = 0) ∧
    (s.flt.safe = false → classOf s e.src = 2 → appliedReact s e = 6)) ∧
  (∀ (e : Ev) (r : Nat) (s : State), e.src < 120 → unrecorded s e.src = false → ((openWindows s).any fun w => lists s.flt w e.src) = false →
    s.flt.safe = false → classOf s e.src = 1 → bitAt s.flt.cfg 27 = true → (s.flt.records.getD e.src Record.reset).state ≠ .clear →
    (s.flt.records.getD e.src Record.reset).react.toNat = r → (retryClass e.src).isSome = false → e.src < s.flt.records.length →
    ((raise [e] s).flt.records.getD e.src Record.reset).react = BitVec.ofNat 3 (min 6 (r + 1)) ∧ (5 ≤ r → (raise [e] s).flt.safe = true)) ∧
  (∀ (e : Ev) (s : State), s.flt.safe = false → classOf s e.src = 1 → bitAt s.flt.cfg 27 = true →
    (s.flt.records.getD e.src Record.reset).state ≠ .clear → (entryReact (entryOf s e.src) < 2 ∨ 4 < entryReact (entryOf s e.src)) →
    appliedReact s e = min 6 ((s.flt.records.getD e.src Record.reset).react.toNat + 1))

/-- R198, R214, R215, R216, R356: the key unlocks injection for the port whose certificate allows it, any other value or 60 s locks it and clears every force bit; a rising force bit raises its source, and while locked FLT_FORCE is DENIED. With GUARD stopped injection and its bits stand, and FLT_PRES shows PRESENT as it was at the stop. What the model chose or read by inference here: logs 12, 87, 134 and 172. -/
def Obligations.FaultInjection : Prop :=
  (∀ (h : Port) (s : State), MayCommit s h 0x086 → s.clk.guardStop = false →
    GivesStatus (.injUnlock h 0xA5C1242) s sOk { s with flt := { s.flt with inj := true, injBy := some (h, guardNow s) } }) ∧
  (∀ (h : Port) (d : D28) (s : State), MayCommit s h 0x086 → d ≠ 0xA5C1242 → s.clk.guardStop = false →
    GivesStatus (.injUnlock h d) s sOk { s with flt := { s.flt with inj := false, injBy := none, force := 0 } }) ∧
  (∀ (h : Port) (t0 : Nat) (s : State), s.flt.injBy = some (h, t0) → guardSince s t0 60000000 = true → s.clk.guardStop = false →
    Gives .injTimeout s { s with flt := { s.flt with inj := false, injBy := none, force := 0 } }) ∧
  (∀ (h : Port) (w : Fin 5) (d : D28) (s : State), MayCommit s h (0x0A4 + w) → fld d 27 24 = 0 → s.flt.inj = false →
    GivesStatus (.fltForce h w d) s sDenied (noteLast h 3 (0x0A4 + w) sDenied s)) ∧
  (∀ (h : Port) (w : Fin 5) (d : D28) (s : State), MayCommit s h (0x0A4 + w) → fld d 27 24 = 0 → s.flt.inj = true → s.clk.guardStop = false →
    ∃ t, exec (.fltForce h w d) s = .next t ∧ t.status = sOk ∧
      (∀ i, i < 120 → t.flt.force.getLsbD i = if i / 24 = w then bitAt d (i % 24) else s.flt.force.getLsbD i) ∧
      (∀ i, i < 120 → t.flt.force.getLsbD i = true → s.flt.force.getLsbD i = false → seen t i)) ∧
  (∀ s : State, s.clk.guardStop = true → injEnd s = s ∧ Gives .injTimeout s s) ∧
  (∀ (w src : Nat) (s : State), w < 5 → fltData s (0x15 + w) = some (word24 (shownPresent s) w) ∧
    shownPresent s src = if s.clk.guardStop = true then s.flt.presHeld.getLsbD src else present s src) ∧
  (∀ s : State, watching s .guard = true → s.clk.guardStop = false → ∃ t, exec (.clockStopDetect .guard) s = .next t ∧
    (∀ k, k < 120 → t.flt.presHeld.getLsbD k = present s k) ∧ t.flt.force = s.flt.force ∧ t.flt.inj = s.flt.inj)

/-! ### Power-up, clocks, supplies (13, 15, 17) -/

/-- R258, R260, R343, R354, R380, R383, R387: reset's release starts the charge; the PLL's lock starts the microsecond clock and arms the monitors, completes an interrupted anti-rollback advance, reads the OTP, and the generator gives the start key; without one a retry comes every 100 ms; a lock that does not come within 2 ms of the release, or is lost, raises its sources and LOCKLOST; GUARD arms its monitor of SENSE 100 µs after the release. What the model chose or read by inference here: logs 55, 64 and 134, and log 10 for the start key, whose random draw is a free value, one a draw. -/
def Obligations.PowerUpCommands : Prop :=
  (∀ s : State, s.dev.phase = .reset →
    Gives .resetRelease s { s with
      dev := { s.dev with phase := .clocks }, pins := { s.pins with rstN := true },
      sup := { s.sup with vddc := true, vddio := true, vdrv := true }, hold := { s.hold with state := .charging } }) ∧
  (∀ s : State, s.dev.phase = .clocks → newestShadow s.store = none →
    Gives (.pllLock false) s { s with now := 0, dev := { s.dev with phase := .otp }, clk := { s.clk with locked := true, armed := true },
                                      otpRead := s.otp, trust := { s.trust with rbgAt := 0 } }) ∧
  (∀ s : State, s.dev.phase = .clocks → ∃ t, exec (.pllLock true) s = .next t ∧ t.now = 0 ∧ t.dev.phase = .otp ∧
    t.clk.locked = true ∧ t.clk.armed = true ∧ t.trust.key = startKey (Config.random s.free)) ∧
  (∀ s : State, s.trust.key = none → s.coreRuns = true → s.since s.trust.rbgAt 100000 = true →
    Gives (.rbgRetry true) s { s with free := s.free + 1, trust := { s.trust with rbgAt := s.now, key := startKey (Config.random s.free) } } ∧
    Gives (.rbgRetry false) s { s with trust := { s.trust with rbgAt := s.now } }) ∧
  (∀ s : State, s.dev.phase = .clocks → guardSince s 0 2000 = true → s.clk.guardStop = false →
    Raises .pllLockTimeout s { s with clk := { s.clk with flags := setBit s.clk.flags 8 } } [112]) ∧
  (∀ s : State, s.clk.armed = true → s.clk.locked = true → s.clk.guardStop = false →
    Raises .pllLockLoss s { s with clk := { s.clk with locked := false, flags := setBit s.clk.flags 8 } } [112, 113]) ∧
  (∀ s : State, s.dev.phase ≠ .reset → s.sup.ritesWait = none → guardSince s 0 100 = true → s.clk.guardStop = false →
    Gives .senseMonitorArm s { s with clk := { s.clk with senseArmed := true } }) ∧
  (∀ (b : Bool) (c : Copy Nat) (s : State), s.dev.phase = .clocks → newestShadow s.store = some c → s.otp.arbfuse < c.val →
    ∃ t, exec (.pllLock b) s = .next t ∧ t.otp = { s.otp with arbfuse := c.val } ∧ t.otpRead = t.otp ∧ t.dev.phase = .otp) ∧
  (∀ (b : Bool) (s : State), s.dev.phase ≠ .reset → s.dev.phase ≠ .clocks →
    Gives (.pllLock b) s { s with clk := { s.clk with locked := true } }) ∧
  (∀ (b : Bool) (s : State), s.since s.trust.rbgAt 100000 = false → Gives (.rbgRetry b) s s) ∧
  (∀ s : State, (tick s).dev.phase = match s.dev.phase with
    | .otp => if s.trust.advance = .idle then .flash else .otp
    | .apply => .arming
    | x => x) ∧
  (∀ s : State, (s.dev.phase ≠ .clocks ∨ guardNow s < 2000) → Gives .pllLockTimeout s s) ∧
  (∀ s : State, (s.dev.phase = .reset ∨ s.sup.ritesWait ≠ none ∨ guardNow s < 100 ∨ s.clk.guardStop = true) → Gives .senseMonitorArm s s)

/-- R381, R392, R398 to R401, R420, R429, R445: a reset leaves the start state with OTP, store, RST_N's level and waiting commands kept, and the TAP's registers but at a power-on reset, and a power-on reset during a program leaves its page corrupted. RST_N and a supply's failure bring last rites: the RITES record takes a place in the open image, a pending map and then the image are programmed where the energy covers each, and the reset follows, at once when no page program runs and after that program's end else; a supply that fails in rites which RST_N began raises SUP and begins nothing anew, and a second trigger of rites that a supply began is ignored. GUARD's own times go on in the rites, so a window closes in them (R344). Running self-tests stop before the event, without a result. With CORE stopped the rites are the reset alone, and with GUARD stopped as well there are none. What the model chose or read by inference here: logs 4, 20, 26, 84, 97, 134 and 158, and log 159 for rites before the scan of the store, which program no log page. -/
def Obligations.ResetsAndLastRites : Prop :=
  (∀ s : State, s.nvs.running = none →
    Gives .powerOnReset s { State.start s.otp s.store with pending := s.pending, free := s.free, pins := { Pins.reset with rstN := s.pins.rstN } }) ∧
  (∀ (env : RitesEnv) (s : State), s.dev.phase ≠ .reset → s.sup.ritesWait = none → s.nvs.running = none → s.clk.coreStop = false →
    Gives (.rstNFall env) s (ritesEnd 1 env (ritesPlace 1 (ritesStop (enterSafe (ritesAbandon { s with pins := { s.pins with rstN := false } }))))) ∧
    ∃ (st : Store) (t : State), exec (.rstNFall env) s = .next t ∧
      t.still = ({ State.start s.otp st with
        pending := s.pending, free := s.free, pins := { Pins.reset with rstN := false }, tap := { s.tap with out := [], halt := false } } : State).still) ∧
  (∀ (env : RitesEnv) (s : State), s.dev.phase = .reset → Gives (.rstNFall env) s { s with pins := { s.pins with rstN := false } }) ∧
  (∀ (env : RitesEnv) (p : Program) (s : State), s.dev.phase ≠ .reset → s.sup.ritesWait = none → s.nvs.running = some p → s.clk.coreStop = false →
    ∃ t, exec (.rstNFall env) s = .next t ∧ t.sup.ritesWait = some 1 ∧ t.flt.safe = true ∧ t.pins.rstN = false ∧
      t.clk.armed = false ∧ t.ses.h0.established = false ∧ t.ses.h1.established = false) ∧
  (∀ (x : Supply) (env : RitesEnv) (s : State), s.dev.phase ≠ .reset → s.sup.ritesWait = none → s.nvs.running = none → s.clk.coreStop = false →
    Gives (.supFail x env) s (ritesEnd (supCause x) env (ritesPlace (supCause x) (ritesStop (enterSafe (ritesAbandon
      (raise [ev 116] (ritesAbandon (setSup x false s)))))))) ∧
    ∃ (st : Store) (t : State), exec (.supFail x env) s = .next t ∧
      t.still = ({ State.start s.otp st with
        pending := s.pending, free := s.free, pins := { Pins.reset with rstN := s.pins.rstN }, tap := { s.tap with out := [], halt := false } } : State).still) ∧
  (∀ (x : Supply) (env : RitesEnv) (p : Program) (s : State), s.dev.phase ≠ .reset → s.sup.ritesWait = none → s.nvs.running = some p →
    s.clk.guardStop = false → s.clk.coreStop = false →
    ∃ t, exec (.supFail x env) s = .next t ∧ t.sup.ritesWait = some (supCause x) ∧ t.flt.safe = true ∧ seen t 116) ∧
  (∀ (reads : Bool) (env : RitesEnv) (p : Program) (cause : BitVec 3) (s : State), s.nvs.running = some p → s.sup.ritesWait = some cause → s.clk.coreStop = false →
    Gives (.pageProgramDone reads env) s (ritesEnd cause env (programDone reads s)) ∧
    ∃ (st : Store) (t : State), exec (.pageProgramDone reads env) s = .next t ∧
      t.still = ({ State.start s.otp st with
        pending := s.pending, free := s.free, pins := { Pins.reset with rstN := s.pins.rstN }, tap := { s.tap with out := [], halt := false } } : State).still) ∧
  (∀ (p : Program) (s : State), s.nvs.running = some p → (area p).1 ≤ s.nvs.page →
    Gives .powerOnReset s { State.start s.otp (tornPage p s.nvs.page s.store) with
      pending := s.pending, free := s.free, pins := { Pins.reset with rstN := s.pins.rstN } }) ∧
  (∀ (x : Supply) (env : RitesEnv) (s : State), s.dev.phase ≠ .reset → s.sup.ritesWait = some 1 → supOk s x = true →
    s.clk.guardStop = false → Raises (.supFail x env) s (setSup x false s) [116]) ∧
  (∀ (x : Supply) (env : RitesEnv) (s : State), (s.dev.phase = .reset ∨ (s.sup.ritesWait.isSome = true ∧ (supOk s x = false ∨ s.sup.ritesWait ≠ some 1))) →
    Gives (.supFail x env) s (setSup x false s)) ∧
  (∀ (cause : BitVec 3) (s : State), s.nvs.image.length < 14 → s.nvs.dropped = 0 →
    (ritesPlace cause s).nvs.image = s.nvs.image ++ [mkRec s (at_ 24 2 + at_ 21 cause.toNat)]) ∧
  (∀ (cause : BitVec 3) (s : State), s.nvs.image.length = 15 → s.nvs.running = none → s.nvs.programmed < 15 →
    (ritesPlace cause s).nvs.image = s.nvs.image.take 14 ++ [mkRec s (at_ 24 2 + at_ 21 cause.toNat)] ∧
    (ritesPlace cause s).nvs.queue = (s.nvs.image.drop 14 ++ s.nvs.queue).take 32 ∧
    (ritesPlace cause s).nvs.dropped = s.nvs.dropped + (((s.nvs.image.drop 14 ++ s.nvs.queue).drop 32).map lostWith).sum) ∧
  (∀ (cause : BitVec 3) (s : State) (i : Nat) (r : Rec), s.nvs.image[i]? = some r → fld r.r0 27 24 = 2 → s.nvs.programmed ≤ i →
    (ritesFill cause s).nvs.image[i]? = some { r with r0 := d28 (at_ 24 2 + at_ 21 cause.toNat + at_ 20 (b2n (!s.nvs.mapPend)) +
      at_ 12 (sat 255 (recordsLost s.nvs)) + at_ 5 (s.flt.fsrc % 128)) }) ∧
  (∀ (env : RitesEnv) (s : State), (s.nvs.mapPend = false ∨ ritesOk s env.vholdMap = false) → ritesMap env s = s) ∧
  (∀ (env : RitesEnv) (pg : Nat) (s : State), s.nvs.mapPend = true → ritesOk s env.vholdMap = true → env.mapReads = true →
    targetPage s .map = some pg → s.store.map.length = 16 → s.chans.length = 12 →
    (∀ c, newestMap s.store = some c → c.gen + 1 < 2 ^ 28) →
    newestMap (ritesMap env s).store = some ⟨pg, ((newestMap s.store).map Copy.gen).getD 0 + 1, s.chans.map Chan.retired⟩ ∧
    (ritesMap env s).nvs.mapPend = false) ∧
  (∀ (env : RitesEnv) (cause : BitVec 3) (pg : Nat) (s : State), s.nvs.scanned = true → ritesOk s env.vholdLog = true → env.logReads = true →
    targetPage s .log = some pg → (logPage (ritesLog cause env s).store pg).recs = (ritesFill cause s).nvs.image) ∧
  (∀ (cause : BitVec 3) (env : RitesEnv) (s : State), ritesEnd cause env s = toReset (ritesLog cause env (ritesMap env s)) ∧
    (toReset s).store = s.store ∧ (toReset s).otp = s.otp) ∧
  (∀ (env : RitesEnv) (x : Supply) (s : State), s.dev.phase ≠ .reset → s.sup.ritesWait = none → s.clk.coreStop = true → s.clk.guardStop = false →
    Gives (.rstNFall env) s (toReset (interrupted { s with pins := { s.pins with rstN := false } })) ∧
    Gives (.supFail x env) s (toReset (interrupted (raise [ev 116] (ritesAbandon (setSup x false s)))))) ∧
  (∀ (env : RitesEnv) (x : Supply) (s : State), lightsOut s = true →
    Gives (.rstNFall env) s { s with pins := { s.pins with rstN := false } } ∧ Gives (.supFail x env) s (setSup x false s)) ∧
  (∀ s : State, (raise [ev 116] (ritesAbandon s)).bist.res = s.bist.res) ∧
  (∀ (p : Program) (s : State), s.nvs.running = some p → (area p).1 ≤ s.nvs.page → (interrupted s).store = tornPage p s.nvs.page s.store) ∧
  (∀ v : Nvs, recordsLost v = v.dropped + v.queue.length +
    ((v.queue.filter fun r => fld r.r0 27 24 == 4).map fun r => fld r.r0 23 8).sum) ∧
  (∀ (env : RitesEnv) (cause : BitVec 3) (s : State), s.nvs.scanned = false → (ritesLog cause env s).store = s.store) ∧
  (∀ r : Rec, lostWith r = 1 + if fld r.r0 27 24 = 4 then fld r.r0 23 8 else 0) ∧
  (∀ (w : Window) (s : State), s.sup.ritesWait ≠ none → s.dev.phase ≠ .reset → s.clk.timeStop = true → s.clk.guardStop = false →
    s.flt.windows = [w] → w.closeAt ≤ guardNow s + 1 →
    ∃ t, exec .microsecondTick s = .next t ∧ t.now = s.now ∧ guardNow t = guardNow s + 1 ∧ Gives .sillageClose t (closeWindow w t))

/-- R183, R189, R198, R200, R201, R345, R351 to R353, R355, R384, R445: a complete window's count shows in its field; a count out of range sets its flag and raises its source, one in range does not; a stopped clock sets its flag, stops its domain and raises its source: 112 CLK_CORE, 113 CLK_TIME, 114 CLK_SENSE, 111 CLK_GUARD. A lost heartbeat holds every gate off, and once it has run 10 µs since its last loss the units that are still on turn on again; a lost keep-alive holds its pin low until it has run 10 µs, and first permit is given when structure, self-test and a lease of the holder stand and there is no safe state: the permits rise where no PERM hold and no limp-home bars them, and HEALTH where no source is outstanding. Keep-alives of both domains lost together, up to two ticks of the microsecond clock after GUARD's loss and three after CORE's, stop both: permits and HEALTH fall, every gate is held off, nothing is recorded, no port is served, and no first permit is given. A gate that the lost heartbeat holds off counts as on when its unit turns off, so that the freewheel stage follows. TIME's stop found late leaves TSUSP on its event. What the model chose or read by inference here: logs 25, 26, 43, 114, 122 and 134. -/
def Obligations.ClockMonitorsAndKeepAlives : Prop :=
  (∀ (m : Monitor) (count : Nat) (s : State), monitoring s m = true → countPasses m count = true →
    Gives (.clockMonitorWindow m count) s { s with clk := setCount m count s.clk }) ∧
  (∀ (m : Monitor) (count : Nat) (s : State), monitoring s m = true → countPasses m count = false → s.clk.guardStop = false →
    Raises (.clockMonitorWindow m count) s
      { s with clk := { setCount m count s.clk with flags := setBit s.clk.flags (freqFault m).1 } } [(freqFault m).2]) ∧
  (∀ (d : Domain) (late : Bool) (s : State), watching s d = true → stopped s.clk d = false → s.clk.guardStop = false →
    ∃ t, exec (.clockStopDetect d late) s = .next t ∧ stopped t.clk d = true ∧ t.clk.flags = setBit s.clk.flags (stopFault d).1 ∧
      seen t (stopFault d).2) ∧
  (countPasses .guardCore 607 = false ∧ countPasses .guardCore 608 = true ∧ countPasses .guardCore 672 = true ∧ countPasses .guardCore 673 = false) ∧
  (∀ s : State, s.dev.phase ≠ .reset → ∃ t, exec .heartbeatLoss s = .next t ∧ t.pins.heart = true ∧
    (∀ c ∈ t.chans, c.hs = 0) ∧ t.still = ({ s with pins := { s.pins with heart := true, heartAt := guardNow s } } : State).still) ∧
  (∀ s : State, s.clk.guardStop = false → s.pins.heart = true → guardSince s s.pins.heartAt 10 = true →
    Gives .heartbeatRestore s (forEach (leaders s) heartUnit { s with pins := { s.pins with heart := false } })) ∧
  (∀ (k : KeepAlive) (s : State), s.dev.phase ≠ .reset → lostTogether (loseKeepAlive k s.pins) s.clk = false →
    Gives (.keepaliveLoss k) s { s with pins := loseKeepAlive k s.pins }) ∧
  (∀ s : State, s.dev.phase ≠ .reset → ∃ t, exec (.keepaliveLoss .permit0) s = .next t ∧ t.pins.permit0 = false) ∧
  (∀ s : State, s.dev.phase ≠ .reset → ∃ t, exec (.keepaliveLoss .permit1) s = .next t ∧ t.pins.permit1 = false) ∧
  (∀ s : State, s.dev.phase ≠ .reset → ∃ t, exec (.keepaliveLoss .healthGuard) s = .next t ∧ t.flt.health = false) ∧
  (∀ s : State, s.dev.phase ≠ .reset → ∃ t, exec (.keepaliveLoss .healthCore) s = .next t ∧ t.flt.health = false) ∧
  (∀ s : State, s.dev.phase = .arming → s.dev.struct = true → s.dev.stok = true → leaseOk s = true → s.flt.safe = false → s.clk.coreStop = false →
    Gives .firstPermit s { s with dev := { s.dev with fpermit := true, phase := .service } }) ∧
  (freqFault .guardCore = (0, 112) ∧ freqFault .guardTime = (2, 113) ∧ freqFault .guardSense = (4, 114) ∧ freqFault .coreSense = (4, 114) ∧
    freqFault .coreGuard = (6, 111) ∧ stopFault .core = (1, 112) ∧ stopFault .time = (3, 113) ∧ stopFault .sense = (5, 114) ∧
    stopFault .guard = (7, 111)) ∧
  (countPasses .guardTime 607 = false ∧ countPasses .guardTime 672 = true ∧ countPasses .guardSense 486 = false ∧
    countPasses .guardSense 487 = true ∧ countPasses .guardSense 537 = true ∧ countPasses .guardSense 538 = false ∧
    countPasses .coreSense 778 = false ∧ countPasses .coreSense 779 = true ∧ countPasses .coreSense 860 = true ∧
    countPasses .coreSense 861 = false ∧ countPasses .coreGuard 2488 = false ∧ countPasses .coreGuard 2489 = true ∧
    countPasses .coreGuard 2631 = true ∧ countPasses .coreGuard 2632 = false) ∧
  (∀ (u : Nat) (s : State), (s.ch u).drive = .steady → blocked (s.ch u) = false → (s.ch u).dt ≠ .toHigh → (∀ m ∈ legs s u, (s.ch m).hs = 0) →
    ∀ m ∈ legs s u, m < s.chans.length → ((heartUnit u s).ch m).hs = ~~~(s.ch m).retired) ∧
  (∀ s : State, s.clk.guardStop = false →
    (s.pins.lost0 = true → (tick s).pins.lost0 = decide (s.pins.back0 < 9) ∧ (s.pins.back0 < 9 → (tick s).pins.back0 = s.pins.back0 + 1)) ∧
    (s.pins.lostHG = true → (tick s).pins.lostHG = decide (s.pins.backHG < 9) ∧ (s.pins.backHG < 9 → (tick s).pins.backHG = s.pins.backHG + 1))) ∧
  (∀ s : State, s.coreRuns = true →
    (s.pins.lost1 = true → (tick s).pins.lost1 = decide (s.pins.back1 < 9) ∧ (s.pins.back1 < 9 → (tick s).pins.back1 = s.pins.back1 + 1)) ∧
    (s.pins.lostHC = true → (tick s).pins.lostHC = decide (s.pins.backHC < 9) ∧ (s.pins.backHC < 9 → (tick s).pins.backHC = s.pins.backHC + 1))) ∧
  (∀ (k : KeepAlive) (s : State), s.dev.phase ≠ .reset → lostTogether (loseKeepAlive k s.pins) s.clk = true →
    Gives (.keepaliveLoss k) s (stopTogether { s with pins := loseKeepAlive k s.pins }) ∧
    ∃ t, exec (.keepaliveLoss k) s = .next t ∧ t.clk.guardStop = true ∧ t.clk.coreStop = true ∧ t.pins.permit0 = false ∧
      t.pins.permit1 = false ∧ t.flt.health = false ∧ ∀ c ∈ t.chans, c.hs = 0) ∧
  (∀ (es : List Ev) (h : Port) (s : State), lightsOut s = true →
    raise es s = s ∧ linkUp s h = false ∧ receiving s h = false ∧ recoveryServed s = false) ∧
  (∀ s : State, watching s .time = true → s.clk.timeStop = false → s.clk.guardStop = false → s.flt.first.valid = false →
    ((openWindows s).any fun w => lists s.flt w 113) = false →
    ∃ t, exec (.clockStopDetect .time true) s = .next t ∧ t.flt.first.src = 113 ∧ t.flt.first.tsusp = true) ∧
  (∀ (u : Nat) (s : State), u < s.chans.length → s.pins.heart = true → driveAsks (s.ch u) = true → blocked (s.ch u) = false →
    (s.ch u).dt ≠ .toHigh → (s.ch u).fwOpt ≠ 0 → ((gatesOff u s).ch u).dt = .toFreewheel) ∧
  (∀ s : State, s.dev.phase = .arming → s.dev.struct = true → s.dev.stok = true → leaseOk s = true → s.flt.safe = false → s.clk.coreStop = false →
    permHold s.flt = false → (s.limp.active = false ∨ s.limp.permKeep = true) → leaseLost s = false →
    ∃ t, exec .firstPermit s = .next t ∧ t.pins.permit0 = !s.pins.lost0 ∧ t.pins.permit1 = !s.pins.lost1 ∧
      t.flt.health = (noneOutstanding s.flt && !s.pins.lostHG && !s.pins.lostHC)) ∧
  (∀ s : State, s.clk.coreStop = true → Gives .firstPermit s s) ∧
  (∀ s : State, watching s .sense = true → s.clk.senseStop = false → ∃ t, exec (.clockStopDetect .sense) s = .next t ∧ t.clk.senseAt = s.now) ∧
  (∀ s : State, watching s .guard = true → s.clk.guardStop = false → ∃ t, exec (.clockStopDetect .guard) s = .next t ∧ t.clk.guardAt = s.now) ∧
  (∀ (p : Pins) (c : Clk), lostTogether p c = true ↔
    ((p.lost0 = true ∧ p.back0 ≤ 2) ∨ (p.lostHG = true ∧ p.backHG ≤ 2) ∨ c.guardStop = true) ∧
    ((p.lost1 = true ∧ p.back1 ≤ 3) ∨ (p.lostHC = true ∧ p.backHC ≤ 3) ∨ c.coreStop = true)) ∧
  (∀ s : State, s.pins.heart = true → guardSince s s.pins.heartAt 10 = false → Gives .heartbeatRestore s s) ∧
  (∀ s : State, s.clk.guardStop = false → s.clk.coreStop = false → s.clk.timeStop = false → s.clocked = true → s.pins.lost1 = true → s.pins.back1 ≤ 2 →
    ∃ t u, exec .microsecondTick s = .next t ∧ exec (.keepaliveLoss .permit0) t = .next u ∧ u.clk.guardStop = true ∧ u.clk.coreStop = true ∧
      u.pins.permit0 = false ∧ u.pins.permit1 = false ∧ u.flt.health = false) ∧
  (∀ s : State, firstPermitOk s = true ↔ s.dev.phase = .arming ∧ s.dev.struct = true ∧ s.dev.stok = true ∧ leaseOk s = true ∧
    s.flt.safe = false ∧ s.clk.coreStop = false) ∧
  (∀ s : State, (leaseOk s = true ↔ ∃ p, s.auth.holder = some p ∧ (s.ses.get p).leaseSeen = true) ∧
    (firstPermitOk s = false → Gives .firstPermit s s)) ∧
  (∀ s : State, s.dev.phase = .clocks → s.sup.ritesWait = none → s.clk.guardStop = false → s.pins.heart = true →
    s.pins.heartAt + 9 ≤ guardNow s →
    ∃ t u, exec .microsecondTick s = .next t ∧ exec .heartbeatRestore t = .next u ∧ u.pins.heart = false)

/-! ### Loading (08, 10) -/

/-- R127, R195, R246, R248, R251, R291 to R293, R296, R377, R383: flash detection chooses the read mode, its command and the last aperture page, from a Read SFDP of at most 256 bytes whose 8D-8D-8D read fails with a lost F_DQS edge; and the load begins with reel A; a reel that fails its check leaves its code and position in DEV_LOADA or DEV_LOADB, the first of the eight checks that fails with its code; after A the load tries B and after B the start ends without structure; a reel that passes applies its structure, with each calibration word of the store, or its nominal value where that word is no data, each register with its word of the image, and in a safe state entered before it the stages take the FLT_SAFEFW that comes with it. What the model chose or read by inference here: logs 47 and 55. -/
def Obligations.LoadCommands : Prop :=
  (∀ (f : FlashProbe) (s : State), s.dev.phase = .flash → s.coreRuns = true → (detect f).1 ≠ 0 →
    Gives (.flashDetect f) s { s with dev := { s.dev with phase := .load, reel := 1 }, flash := { s.flash with
      sfdp := sfdpFound f, sfdpBytes := min f.sfdpBytes 256, read := arrayRead f,
      mode := (detect f).1, dummy := (detect f).2, densLog := f.densLog, lastPg := lastPage f.densLog,
      dqsto := s.flash.dqsto || (!f.sfdp1S && f.dqsTimeout) } }) ∧
  (∀ (f : FlashProbe) (s : State), s.dev.phase = .flash → s.coreRuns = true → (detect f).1 = 0 →
    Gives (.flashDetect f) s { s with
      dev := { s.dev with phase := .load, reel := 1 },
      flash := { s.flash with sfdp := none, sfdpBytes := 0, read := none, mode := 0, dqsto := s.flash.dqsto || (!f.sfdp1S && f.dqsTimeout) } }) ∧
  (∀ f : FlashProbe, (f.sfdp1S = true → f.quadDeclared = true → f.quadMatch = true → detect f = (2, f.dummyQuad)) ∧
    (f.sfdp1S = true → (f.quadDeclared = false ∨ f.quadMatch = false) → detect f = (1, 0)) ∧
    (f.sfdp1S = false → f.sfdp8D = true → f.dqsTimeout = false → detect f = (3, f.dummyOctal.getD 20)) ∧
    (f.sfdp1S = false → (f.sfdp8D = false ∨ f.dqsTimeout = true) → detect f = (0, 0))) ∧
  (∀ (r : ReelRead) (v : Verdict) (s : State), s.dev.phase = .load → s.coreRuns = true → s.dev.reel = 1 → s.sup.ritesWait = none →
    v = checkReel s.otpRead (s.flash.mode ≠ 0) 0 s.flash.densLog (readAs r s) → v.plan = none →
    ∃ t, exec (.reelLoadDone r) s = .next t ∧ t.dev.loadA = d28 (65536 * v.code + v.pos) ∧ t.dev.phase = .load ∧ t.dev.reel = 2 ∧
      t.dev.struct = s.dev.struct ∧ t.dev.loadB = s.dev.loadB ∧ t.flash.dqsto = (s.flash.dqsto || (r.dqsTimeout && s.flash.mode == 3))) ∧
  (∀ (r : ReelRead) (v : Verdict) (s : State), s.dev.phase = .load → s.coreRuns = true → s.dev.reel = 2 → s.sup.ritesWait = none →
    v = checkReel s.otpRead (s.flash.mode ≠ 0) 0x40000 s.flash.densLog (readAs r s) → v.plan = none →
    ∃ t, exec (.reelLoadDone r) s = .next t ∧ t.dev.loadB = d28 (65536 * v.code + v.pos) ∧ t.dev.phase = .nostruct ∧ t.dev.reel = 0 ∧
      t.dev.struct = s.dev.struct) ∧
  (∀ (r : ReelRead) (v : Verdict) (p : Plan) (s : State), s.dev.phase = .load → s.coreRuns = true → (s.dev.reel = 1 ∨ s.dev.reel = 2) →
    s.sup.ritesWait = none →
    v = checkReel s.otpRead (s.flash.mode ≠ 0) (if s.dev.reel = 1 then 0 else 0x40000) s.flash.densLog (readAs r s) → v.plan = some p →
    ∃ t, exec (.reelLoadDone r) s = .next t ∧ t.dev.struct = true ∧ t.dev.phase = .apply ∧ t.dev.reel = s.dev.reel ∧
      t.dev.image = dw (r.words.map wData) 3 ∧ t.bist.setPhase = .running ∧ t.auth.cfg = dw p.session 4 ∧ t.trust.owner = v.key ∧
      ∀ n, n < s.chans.length → (t.ch n).topo = dw p.topo n ∧ (t.ch n).scth = dw p.prot (7 * n + 1) ∧ (t.ch n).i2t = dw p.prot (7 * n + 2) ∧
        (t.ch n).limp = dw p.limp (1 + n)) ∧
  (∀ f : FlashProbe,
    (f.sfdp1S = true → f.quadDeclared = true → f.quadMatch = true →
      arrayRead f = some ⟨f.codeQuad, none, 24, 1, 4, 4, false, f.modeQuad, f.dummyQuad, 100000, none⟩) ∧
    (f.sfdp1S = true → (f.quadDeclared = false ∨ f.quadMatch = false) → arrayRead f = some ⟨0x03, none, 24, 1, 1, 1, false, 0, 0, 50000, none⟩) ∧
    (f.sfdp1S = false → f.sfdp8D = true → f.dqsTimeout = false →
      arrayRead f = some ⟨0xEE, some 0x11, 32, 8, 8, 8, true, 0, f.dummyOctal.getD 20, 100000, none⟩)) ∧
  (∀ (p : Plan) (ws : List D28) (n : Nat) (s : State), n < s.chans.length →
    ((applyPlan p ws s).ch n).ilim = dw p.prot (7 * n) ∧ ((applyPlan p ws s).ch n).ilimSh = dw p.prot (7 * n) ∧
    ((applyPlan p ws s).ch n).i2tUse = dw p.prot (7 * n + 2) ∧ ((applyPlan p ws s).ch n).pcfg = dw p.prot (7 * n + 3) ∧ ((applyPlan p ws s).ch n).rpolA = dw p.prot (7 * n + 4) ∧
    ((applyPlan p ws s).ch n).rpolB = dw p.prot (7 * n + 5) ∧ ((applyPlan p ws s).ch n).rpolC = dw p.prot (7 * n + 6) ∧
    ((applyPlan p ws s).ch n).retired = (((newestMap s.store).map fun c => c.val.getD n 0).getD 0)) ∧
  (∀ (p : Plan) (ws : List D28) (t : Nat) (s : State), t < s.timers.length →
    ((applyPlan p ws s).tm t).cfg = dw p.route (5 * t) ∧ ((applyPlan p ws s).tm t).per = dw p.route (5 * t + 1) ∧
    ((applyPlan p ws s).tm t).duty = dw p.route (5 * t + 2) ∧ ((applyPlan p ws s).tm t).phase = dw p.route (5 * t + 3) ∧
    ((applyPlan p ws s).tm t).edge = dw p.route (5 * t + 4)) ∧
  (∀ (p : Plan) (ws : List D28) (s : State), (applyPlan p ws s).flt.rx = p.react.take 60 ∧ (applyPlan p ws s).flt.safefw = dw p.react 73 ∧
    (applyPlan p ws s).meas.fresh = p.meas.take 8 ∧ (applyPlan p ws s).meas.trig = p.meas.drop 8 ∧
    (applyPlan p ws s).ports.h0.cfg = dw p.session 0 ∧ (applyPlan p ws s).ports.h1.cfg = dw p.session 2 ∧
    (applyPlan p ws s).tbase.routes = (p.route.drop 100).take 3 ∧ (applyPlan p ws s).limp.tripCfg = dw p.prot 84 ∧
    (applyPlan p ws s).dev.image = dw ws 3) ∧
  (∀ (p : Plan) (ws : List D28) (u : Nat) (s x : State), s.flt.safe = true → s.limp.asserted = false → s.chans.length = 12 → x = applyStructure p ws s →
    x.flt.safefw = dw p.react 73 ∧
    (isBridge x u = true → u ∈ leaders x →
      (x.ch u).bridge = if fld (dw p.react 73) (2 * u + 1) (2 * u) = 2 ∧ fld (dw p.react 73) (2 * u + 3) (2 * u + 2) = 2 then .brake else .coast)) ∧
  (∀ ws : List W36, (∀ i, 4 ≤ i → i < 32 → imgWordOk ws i = true) → keyFails ws false = some 4 ∧
    (keyFails ws true = if fld (wData (ws.getD 17 0)) 7 0 ≠ 0 then some 17 else if fld (wData (ws.getD 31 0)) 7 0 ≠ 0 then some 31 else none)) ∧
  (∀ ds : List D28, sigFails ds false = some 32 ∧
    sigFails ds true = if fld (dw ds 45) 7 0 ≠ 0 then some 45 else if fld (dw ds 59) 7 0 ≠ 0 then some 59 else none) ∧
  (∀ f : FlashProbe, (f.sfdp1S = true → sfdpFound f = some ⟨0x5A, none, 24, 1, 1, 1, false, 0, 8, 12500, some 256⟩) ∧
    (f.sfdp1S = false → f.sfdp8D = true → f.dqsTimeout = false → sfdpFound f = some ⟨0x5A, some 0xA5, 32, 8, 8, 8, true, 0, 20, 25000, some 256⟩) ∧
    (f.sfdp1S = false → (f.sfdp8D = false ∨ f.dqsTimeout = true) → sfdpFound f = none) ∧ sfdpFetched f ≤ 256) ∧
  (∀ (r : ReelRead) (s : State), (readAs r s).words = r.words ∧ (readAs r s).failed = r.failed ∧ (readAs r s).nibble = r.nibble ∧
    (readAs r s).dqsTimeout = (r.dqsTimeout && s.flash.mode == 3)) ∧
  (∀ (ws : List W36), (slateBad ws 0 = true ↔ imgWordOk ws 0 = false ∨ fld (wData (ws.getD 0 0)) 27 12 ≠ 0x51A7 ∨
      fld (wData (ws.getD 0 0)) 11 8 ≠ 1 ∨ fld (wData (ws.getD 0 0)) 7 0 ≠ 0) ∧
    (slateBad ws 1 = true ↔ imgWordOk ws 1 = false ∨ fld (wData (ws.getD 1 0)) 27 12 < 80 ∨ 58254 < fld (wData (ws.getD 1 0)) 27 12 ∨
      fld (wData (ws.getD 1 0)) 11 6 < 3 ∨ 11 < fld (wData (ws.getD 1 0)) 11 6 ∨ fld (wData (ws.getD 1 0)) 5 0 ≠ 0) ∧
    (slateBad ws 2 = true ↔ imgWordOk ws 2 = false ∨ fld (wData (ws.getD 2 0)) 27 12 ≠ 0x1242 ∨ 0x10 < fld (wData (ws.getD 2 0)) 11 4 ∨
      fld (wData (ws.getD 2 0)) 3 0 ≠ 0) ∧
    (slateBad ws 3 = true ↔ imgWordOk ws 3 = false ∨ 64 < fld (wData (ws.getD 3 0)) 27 21)) ∧
  (∀ (otp : Otp) (base dens : Nat) (r : ReelRead), checkReel otp false base dens r = ⟨1, 0, none, none⟩ ∧
    (reelRoom base dens = none → (r.failed = true ∨ r.dqsTimeout = true) → checkReel otp true base dens r = ⟨1, r.words.length, none, none⟩) ∧
    (∀ (k : Nat), reelRoom base dens = some k → (checkReel otp true base dens r).code = 1 ∧ (checkReel otp true base dens r).pos ≤ k ∧
      (r.failed = false → r.dqsTimeout = false → (checkReel otp true base dens r).pos = k))) ∧
  (∀ (otp : Otp) (base dens i n : Nat) (r : ReelRead) (v : Verdict) (ws : List W36) (ds : List D28) (key : Nat × Nat),
    reelRoom base dens = none → r.failed = false → r.dqsTimeout = false → v = checkReel otp true base dens r →
    n = fld (wData (r.words.getD 1 0)) 27 12 → ws = r.words.take n → ds = ws.map wData →
    key = (join384 (group14 ds 4 0), join384 (group14 ds 4 1)) →
    (i < 4 → slateBad r.words i = true → v.code = 2 ∧ v.pos ≤ i ∧ slateBad r.words v.pos = true) ∧
    ((∀ j, j < 4 → slateBad r.words j = false) →
      (4 ≤ i → i < 32 → (imgWordOk ws i = false ∨ ((i = 17 ∨ i = 31) ∧ fld (wData (ws.getD i 0)) 7 0 ≠ 0)) → v.code = 3 ∧ v.pos ≤ i) ∧
      ((otp.okhlock = false ∨ onCurve key = false ∨ keyHash key ≠ otp.okh) → v.code = 3) ∧
      ((∀ j, 4 ≤ j → j < 32 → imgWordOk ws j = true ∧ ((j = 17 ∨ j = 31) → fld (wData (ws.getD j 0)) 7 0 = 0)) →
        otp.okhlock = true → onCurve key = true → keyHash key = otp.okh → v = checkRest otp key ws r.nibble n (fld (wData (r.words.getD 1 0)) 11 6)))) ∧
  (∀ (otp : Otp) (n nsec i : Nat) (nib : BitVec 4) (ws : List W36) (ds : List D28) (key : Nat × Nat) (v : Verdict),
    v = checkRest otp key ws nib n nsec → ds = ws.map wData → v.key = some key ∧
    (32 ≤ i → i < n → imgWordOk ws i = false → v.code = 4 ∧ v.pos ≤ i ∧ imgWordOk ws v.pos = false) ∧
    ((∀ j, 32 ≤ j → j < n → imgWordOk ws j = true) →
      (ecdsaVerify key (signedMessage ws nib) (join384 (group14 ds 32 0)) (join384 (group14 ds 32 1)) = false → v.code = 5 ∧ v.pos = 32) ∧
      (ecdsaVerify key (signedMessage ws nib) (join384 (group14 ds 32 0)) (join384 (group14 ds 32 1)) = true →
        (fld (dw ds 45) 7 0 ≠ 0 → v.code = 5 ∧ v.pos = 45) ∧ (fld (dw ds 45) 7 0 = 0 → fld (dw ds 59) 7 0 ≠ 0 → v.code = 5 ∧ v.pos = 59) ∧
        (fld (dw ds 45) 7 0 = 0 → fld (dw ds 59) 7 0 = 0 →
          (fld (dw ds 3) 27 21 < otp.arbfuse → v.code = 6 ∧ v.pos = 3) ∧
          (otp.arbfuse ≤ fld (dw ds 3) 27 21 →
            (∀ p, lowest (layoutFails ds n nsec) = some p → v.code = 8 ∧ v.pos = p) ∧
            (layoutFails ds n nsec = [] →
              (∀ c p, sectionsFail ds (planOf ds (directory ds nsec)) (directory ds nsec) = some (c, p) → v.code = c ∧ v.pos = p) ∧
              (sectionsFail ds (planOf ds (directory ds nsec)) (directory ds nsec) = none →
                v = ⟨0, 0, some key, some (planOf ds (directory ds nsec))⟩))))))) ∧
  (∀ (a b : List DirEntry) (e : DirEntry) (p : Nat) (ds : List D28) (pl : Plan), (∀ x ∈ a, sectionFails ds pl x = []) →
    lowest (sectionFails ds pl e) = some p → sectionsFail ds pl (a ++ e :: b) = some (8 + e.typ, p)) ∧
  (∀ (kind addr : Nat) (w : W36) (c : Cal), (isData addr w = false → calWordInUse kind addr w c = { c with valid := false }) ∧
    (isData addr w = true → calWordInUse kind addr w c = ⟨if kind = 0 ∨ kind = 2 ∨ kind = 5 ∨ kind = 7 ∨ kind = 9 then (fld (wData w) 15 0 : Int)
      else (BitVec.ofNat 16 (fld (wData w) 15 0)).toInt, true⟩)) ∧
  (∀ (p : Plan) (ws : List D28) (k i : Nat) (cs : List Cal) (cw : List W36) (c : Cal) (s : State), nominalCal[k]? = some cs → cs[i]? = some c →
    s.store.cal[k]? = some cw → k < s.store.cal.length → s.store.cal.length = 12 →
    ((applyPlan p ws s).meas.cal.getD k [])[i]? =
      some (calWordInUse k (((nominalCal.take k).map List.length).sum + i) (cw.getD i 0) c))

/-! ### Hold-up and the store (15) -/

/-- R344, R387, R388, R389: the start charge ends or times out; the flacon test gives C as 40 µC over the drop, VALID within 20 µF to 300 µF and CAPRANGE outside; a conversion of VHOLD gives the nearest millivolt and the energy above 8 V, ½ × 0.95 × C × (V² − 64 V²) rounded down to a whole microjoule and 0 up to 8 V; with CORE stopped none of it happens. A value half-way between two codes may take either (log 7). What the model chose or read by inference here: logs 49 and 54. -/
def Obligations.HoldUpCommands : Prop :=
  (∀ s : State, s.hold.state = .charging → s.hold.charged = false → s.sup.ritesWait = none → s.clk.coreStop = false →
    Gives .startChargeEnd s { s with hold := { s.hold with charged := true } }) ∧
  (∀ s : State, s.hold.state = .charging → s.hold.charged = false → s.sup.ritesWait = none → s.hold.capValid = false → s.hold.low = false →
    s.clk.coreStop = false →
    Raises .chargeTimeout s { s with hold := { s.hold with state := .fault, chgto := true, judged := true, eav := 0, low := true } } [117]) ∧
  (∀ (a b : Nat) (s : State), s.hold.charged = true → s.hold.tested = false → s.sup.ritesWait = none → s.clk.coreStop = false → capInRange a b = true →
    ∃ (c : Nat) (t : State), exec (.flaconTestComplete a b) s = .next t ∧ |(c : Rat) - 25600000 / ((a : Rat) - b)| ≤ 1 / 2 ∧
      t.hold.cap = c ∧ t.hold.capValid = true ∧ t.hold.state = .ready ∧ t.hold.tested = true ∧ t.hold.caprange = s.hold.caprange) ∧
  (∀ (a b : Nat) (s : State), s.hold.charged = true → s.hold.tested = false → s.sup.ritesWait = none → s.clk.coreStop = false → capInRange a b = false →
    ∃ t, exec (.flaconTestComplete a b) s = .next t ∧ t.hold.capValid = false ∧ t.hold.state = .fault ∧ t.hold.tested = true ∧
      t.hold.caprange = true ∧ t.hold.eav = 0) ∧
  (∀ (code : Nat) (s : State), s.dev.phase ≠ .reset → s.clk.coreStop = false → code < 16384 →
    ∃ (v : Nat) (t : State), exec (.vholdConversion code) s = .next t ∧ |(v : Rat) - 5 * code / 2| ≤ 1 / 2 ∧
      t.hold.vhold = some ⟨BitVec.ofNat 16 v, 0, s.now, 0⟩ ∧ t.hold.eav = (if s.hold.capValid then eavOf s.hold.cap v else 0)) ∧
  (∀ (a b code : Nat) (reads : Bool) (env : RitesEnv) (s : State), s.clk.coreStop = true →
    Gives .startChargeEnd s s ∧ Gives .chargeTimeout s s ∧ Gives (.flaconTestComplete a b) s s ∧ Gives (.vholdConversion code) s s ∧
    Gives (.pageProgramDone reads env) s s ∧ Gives .programRetry s s ∧ Gives .logProgramDue s s) ∧
  (∀ c v : Nat, (v ≤ 8000 → eavOf c v = 0) ∧
    (8000 < v → (eavOf c v : Rat) ≤ 1 / 2 * (95 / 100) * (c / 100) * ((v / 1000) ^ 2 - 8 ^ 2) ∧
      1 / 2 * (95 / 100) * ((c : Rat) / 100) * ((v / 1000) ^ 2 - 8 ^ 2) < eavOf c v + 1))

/-- R43, R390, R391, R394: a waiting program starts when the flacon covers it, 2,620 µJ on a conversion of the flacon with a VALID test, no more than 50 µs old, and is deferred else; the log's own program starts when it is due, and not within 100 ms of the one before; a map record that found no good page waits with the others; of several that wait, the owner's shadow is taken first, then the retirement map, the counters page and the fault log, one at a time. What the model chose or read by inference here: logs 3, 21, 80 and 159, and log 61 for the owner's shadow, which R391 does not rank and the model takes first. -/
def Obligations.ProgramsStartOrAreDeferred : Prop :=
  (∀ (p : Program) (s : State), s.coreRuns = true → s.since s.nvs.triedAt 1000 = true → s.nvs.running = none → s.sup.ritesWait = none →
    waiting { s.nvs with mapRest := false } = some p → flaconOk s = true →
    ∃ t, exec .programRetry s = .next t ∧ t.nvs.running = some p ∧ t.nvs.page = (targetPage s p).getD 0 ∧ t.nvs.defcnt = s.nvs.defcnt) ∧
  (∀ (p : Program) (s : State), s.coreRuns = true → s.since s.nvs.triedAt 1000 = true → s.nvs.running = none → s.sup.ritesWait = none →
    waiting { s.nvs with mapRest := false } = some p → flaconOk s = false →
    Gives .programRetry s { s with nvs := { s.nvs with mapRest := false, defer := true, defcnt := sat 255 (s.nvs.defcnt + 1), triedAt := s.now } }) ∧
  (∀ s : State, s.coreRuns = true → logDueNow s = true → s.nvs.running = none → s.sup.ritesWait = none → waiting s.nvs = none →
    flaconOk s = true →
    ∃ t, exec .logProgramDue s = .next t ∧ t.nvs.running = some .log ∧ t.nvs.lastLog = some s.now ∧ t.nvs.inflight = s.nvs.image.length) ∧
  (∀ (t0 : Nat) (s : State), s.nvs.lastLog = some t0 → s.since t0 100000 = false → Gives .logProgramDue s s) ∧
  (∀ v : Nvs, v.shadowPend = false →
    (v.mapPend = true → v.mapRest = false → waiting v = some .map) ∧
    ((v.mapPend = false ∨ v.mapRest = true) → v.cntPend = true → waiting v = some .counters) ∧
    ((v.mapPend = false ∨ v.mapRest = true) → v.cntPend = false → v.logDue = true → waiting v = some .log) ∧
    ((v.mapPend = false ∨ v.mapRest = true) → v.cntPend = false → v.logDue = false → waiting v = none)) ∧
  (∀ v : Nvs, v.shadowPend = true → waiting v = some .shadow) ∧
  (∀ (p : Program) (s : State), s.nvs.running = none → s.sup.ritesWait = none → s.clk.coreStop = false → waiting s.nvs = some p →
    (flaconOk s = true → (tryProgram s).nvs.running = some p ∧ (tryProgram s).nvs.page = (targetPage s p).getD 0) ∧
    (flaconOk s = false → (tryProgram s).nvs.running = none ∧ (tryProgram s).nvs.defcnt = sat 255 (s.nvs.defcnt + 1))) ∧
  (∀ s : State, (s.nvs.running.isSome = true ∨ waiting s.nvs = none) → tryProgram s = s) ∧
  (∀ s : State, flaconOk s = true ↔ 2620 ≤ s.hold.eav ∧ ∃ v, s.hold.vhold = some v ∧ s.now ≤ v.tc + 50) ∧
  (∀ (code : Nat) (s : State), s.dev.phase ≠ .reset → s.clk.coreStop = false → s.hold.capValid = false →
    ∃ t, exec (.vholdConversion code) s = .next t ∧ flaconOk t = false) ∧
  (∀ s : State, s.nvs.scanned = false → Gives .logProgramDue s s)

/-- R43, R390, R392 to R395: a program that reads back leaves its page as the newest copy, one generation on, each word of it tagged over its store address, and a copy with a word that is no data is none; one that does not raises NVS_FAIL, lists its page as bad, leaves it corrupted and is repeated on the next good page when the flacon covers it, and waits else; a log page waits for its 100 ms, and a map record without a good page for the next check. What the model chose or read by inference here: logs 21, 80 and 99. -/
def Obligations.ProgramsCompleteOrFail : Prop :=
  (∀ (env : RitesEnv) (s : State), s.nvs.running = some .counters → s.sup.ritesWait = none → s.clk.coreStop = false → waiting s.nvs = none → 80 ≤ s.nvs.page →
    Gives (.pageProgramDone true env) s { s with
      store := { s.store with counters := putCopy counterLayout 80 s.nvs.page (s.sup.starts, s.nvs.bad) s.store.counters },
      nvs := { s.nvs with running := none } }) ∧
  (∀ (env : RitesEnv) (s : State), s.nvs.running = some .map → s.sup.ritesWait = none → s.clk.coreStop = false → waiting s.nvs = none → 64 ≤ s.nvs.page →
    ∃ t, exec (.pageProgramDone true env) s = .next t ∧ t.nvs.running = none ∧
      t.store = { s.store with map := putCopy mapLayout 64 s.nvs.page s.nvs.mapImage s.store.map } ∧
      ∀ n, n < s.chans.length → (t.ch n).retPend = ((s.ch n).retPend && s.nvs.mapImage.getD n 0 != (s.ch n).retired)) ∧
  (∀ (env : RitesEnv) (l : Nat) (s : State), s.nvs.running = some .shadow → s.sup.ritesWait = none → s.clk.coreStop = false → waiting s.nvs = none → 96 ≤ s.nvs.page →
    s.trust.advance = .shadow l →
    Gives (.pageProgramDone true env) s { s with
      store := { s.store with shadow := putCopy shadowLayout 96 s.nvs.page l s.store.shadow },
      trust := { s.trust with advance := .fuses l }, nvs := { s.nvs with running := none } }) ∧
  (∀ (env : RitesEnv) (s : State), s.nvs.running = some .log → s.sup.ritesWait = none → s.clk.coreStop = false → 512 ≤ s.nvs.page →
    ∃ t, exec (.pageProgramDone true env) s = .next t ∧
      (logPage t.store s.nvs.page).recs = s.nvs.image.take s.nvs.inflight ∧
      (logPage t.store s.nvs.page).cycles = sat 0xFFFFFFF ((logPage s.store s.nvs.page).cycles + 1) ∧
      ∀ pg, pg ≠ s.nvs.page → logPage t.store pg = logPage s.store pg) ∧
  (∀ (env : RitesEnv) (p : Program) (pg : Nat) (s x : State), s.nvs.running = some p → s.sup.ritesWait = none → s.clk.coreStop = false → (area p).1 ≤ s.nvs.page →
    waiting s.nvs = none → s.nvs.mapRest = false → p ≠ .log → flaconOk s = true →
    x = { s with store := tornPage p s.nvs.page s.store, nvs := { s.nvs with bad := s.nvs.bad ++ [s.nvs.page] } } → targetPage x p = some pg →
    ∃ t, exec (.pageProgramDone false env) s = .next t ∧ t.nvs.fail = true ∧ t.nvs.bad = s.nvs.bad ++ [s.nvs.page] ∧
      t.nvs.running = some p ∧ t.nvs.page = pg ∧ seen t 118) ∧
  (∀ (env : RitesEnv) (p : Program) (s x : State), s.nvs.running = some p → s.sup.ritesWait = none → s.clk.coreStop = false → (area p).1 ≤ s.nvs.page →
    flaconOk s = false → x = { s with store := tornPage p s.nvs.page s.store, nvs := { s.nvs with bad := s.nvs.bad ++ [s.nvs.page] } } →
    (targetPage x p).isSome = true → s.nvs.mapRest = false → p ≠ .log →
    ∃ t, exec (.pageProgramDone false env) s = .next t ∧ t.nvs.fail = true ∧ t.nvs.bad = s.nvs.bad ++ [s.nvs.page] ∧
      t.store = tornPage p s.nvs.page s.store ∧ t.nvs.running = none ∧ (waiting t.nvs).isSome = true ∧ seen t 118) ∧
  (∀ (base pg v : Nat) (l : List Slot), base ≤ pg → pg < base + l.length → v < 2 ^ 28 →
    (∀ c, newest shadowLayout base l = some c → c.gen + 1 < 2 ^ 28) →
    newest shadowLayout base (putCopy shadowLayout base pg v l) = some ⟨pg, ((newest shadowLayout base l).map Copy.gen).getD 0 + 1, v⟩) ∧
  (∀ (p : Program) (pg : Nat) (st : Store), p ≠ .log → (tornPage p pg st).log = st.log) ∧
  (∀ (pg : Nat) (st : Store), (logPage (tornPage .log pg st) pg).recs = []) ∧
  (∀ (env : RitesEnv) (s : State), s.nvs.running = some .log → s.sup.ritesWait = none → s.clk.coreStop = false → 512 ≤ s.nvs.page →
    waiting s.nvs = none →
    ∃ t, exec (.pageProgramDone false env) s = .next t ∧ t.nvs.fail = true ∧ t.nvs.bad = s.nvs.bad ++ [s.nvs.page] ∧
      t.store = tornPage .log s.nvs.page s.store ∧ t.nvs.running = none ∧ t.nvs.logDue = false ∧ t.nvs.lastLog = s.nvs.lastLog ∧ seen t 118) ∧
  (∀ (env : RitesEnv) (s x : State), s.nvs.running = some .map → s.sup.ritesWait = none → s.clk.coreStop = false → 64 ≤ s.nvs.page →
    waiting s.nvs = none →
    x = { s with store := tornPage .map s.nvs.page s.store, nvs := { s.nvs with bad := s.nvs.bad ++ [s.nvs.page] } } →
    targetPage x .map = none →
    ∃ t, exec (.pageProgramDone false env) s = .next t ∧ t.nvs.mapPend = true ∧ t.nvs.mapRest = true ∧ t.nvs.triedAt = s.now ∧
      t.nvs.running = none ∧ seen t 118) ∧
  (∀ (base pg : Nat) (v : List Mask42) (l : List Slot), base ≤ pg → pg < base + l.length → v.length = 12 →
    (∀ c, newest mapLayout base l = some c → c.gen + 1 < 2 ^ 28) →
    newest mapLayout base (putCopy mapLayout base pg v l) = some ⟨pg, ((newest mapLayout base l).map Copy.gen).getD 0 + 1, v⟩) ∧
  (∀ (pg i : Nat) (w : W36) (ds : List D28), (pageWords pg ds)[i]? = some w → isData ((64 * pg + i) % 4096) w = true) ∧
  (∀ (pg i k : Nat) (r : Rec) (rs : List Rec), rs[i]? = some r → k < 4 →
    isData ((64 * pg + 4 + 4 * i + k) % 4096) ((recWords pg rs).getD (4 * i + k) 0) = true) ∧
  (∀ (pg i : Nat) (w : W36) (ws : List W36), ws[i]? = some w → isData ((64 * pg + i) % 4096) w = false →
    readCopy shadowLayout pg (.copy ws) = none ∧ readCopy mapLayout pg (.copy ws) = none ∧ readCopy counterLayout pg (.copy ws) = none)

/-- R344, R394, R395, R397, R398, R403: a record goes into the open image of 15, then into the queue of 32, then is dropped and counted with LOSS, and the next one that finds a place comes after a LOST record with the count; the scan of LOAD drops none while the page that it leaves, the image and the queue have room; each carries a SEQ above every earlier one, the device time and the start count; a bad page is never chosen; NVS_LOGSEL starts a fetch, during which the record's words read void IDLE, and the fetch's end gives the record of that SEQ, or none, and waits with CORE stopped. What the model chose or read by inference here: logs 21 and 158. -/
def Obligations.FaultLogRecordsAndFetches : Prop :=
  (∀ (r0 : Nat) (s : State), s.nvs.image.length ≤ 15 → s.nvs.queue.length ≤ 32 →
    (logPut r0 s).nvs.image.length ≤ 15 ∧ (logPut r0 s).nvs.queue.length ≤ 32) ∧
  (∀ (r0 : Nat) (s : State), s.nvs.dropped = 0 → s.nvs.image.length < 15 →
    (logPut r0 s).nvs.image = s.nvs.image ++ [mkRec s r0] ∧ (logPut r0 s).nvs.queue = s.nvs.queue) ∧
  (∀ (r0 : Nat) (s : State), s.nvs.dropped = 0 → 15 ≤ s.nvs.image.length → s.nvs.queue.length < 32 →
    (logPut r0 s).nvs.queue = s.nvs.queue ++ [mkRec s r0] ∧ (logPut r0 s).nvs.image = s.nvs.image) ∧
  (∀ (r0 : Nat) (s : State), s.nvs.dropped = 0 → 15 ≤ s.nvs.image.length → 32 ≤ s.nvs.queue.length →
    (logPut r0 s).nvs = { s.nvs with dropped := 1, loss := true }) ∧
  (∀ (r0 : Nat) (s : State), nextSeq s < 2 ^ 28 → (mkRec s r0).r1.toNat = nextSeq s ∧ s.nvs.seq < nextSeq s ∧
    ∀ p ∈ s.store.log, ∀ r ∈ p.recs, r.r1.toNat < nextSeq s) ∧
  (∀ (p : Program) (cur pg : Nat) (bad : List Nat), goodPage p cur bad = some pg →
    pg ∉ bad ∧ (area p).1 ≤ pg ∧ pg < (area p).1 + (area p).2) ∧
  (∀ (a : Access) (d : D28) (s : State), MayStore s a 0x6C3 →
    GivesStatus (.logFetch a d) s sOk { s with nvs := { s.nvs with sel := some d, fetching := true, fetched := none } }) ∧
  (∀ (d : D28) (s : State), s.nvs.fetching = true → s.nvs.sel = some d → s.clk.coreStop = false →
    Gives .logFetchDone s { s with nvs := { s.nvs with fetching := false, fetched := findRec s d } }) ∧
  (∀ (d : D28) (k : Nat) (v : Nvs), v.sel = some d → v.fetched = none → logRec v k = .void sIdle) ∧
  (∀ (d : D28) (ws : List ReadWord) (s : State), findRec s d = some ws → ws[1]? = some (.data d)) ∧
  (∀ (r0 : Nat) (s : State), (mkRec s r0).r0 = d28 r0 ∧ (mkRec s r0).time = s.dtime ∧ fld (mkRec s r0).r3 27 20 = s.sup.starts % 256) ∧
  (∀ (d : D28) (p : LogPage) (i : Nat) (s : State), p ∈ s.store.log → p.torn = false → i < p.words.length / 4 →
    isData (recAddr p.page i 1) (p.word i 1) = true → wData (p.word i 1) = d → (findRec s d).isSome = true) ∧
  (∀ (d : D28) (r : Rec) (s : State), r ∈ s.nvs.image → r.r1 = d → (findRec s d).isSome = true) ∧
  (∀ (r0 : Nat) (s : State), s.nvs.dropped ≠ 0 → s.nvs.image.length < 14 →
    ∃ x : Rec, (logPut r0 s).nvs.image = s.nvs.image ++ [mkRec s (at_ 24 4 + at_ 8 (sat 65535 s.nvs.dropped)), x] ∧ x.r0 = d28 r0 ∧
      (logPut r0 s).nvs.dropped = 0) ∧
  (∀ s : State, s.clk.coreStop = true → Gives .logFetchDone s s) ∧
  (∀ s : State, (scanStore s).nvs.queue.length ≤ 32 ∧ (scanStore s).nvs.image.length ≤ 15) ∧
  (∀ (rs : List Rec) (v : Nvs), (boundQueue rs v).queue = rs.take 32 ∧
    (boundQueue rs v).dropped = v.dropped + ((rs.drop 32).map lostWith).sum ∧ (boundQueue rs v).loss = (v.loss || decide (32 < rs.length))) ∧
  (∀ (p : LogPage) (s : State), (newestRec s.store).map Prod.fst = some p → p.recs.length = 15 →
    s.nvs.image.length + s.nvs.queue.length ≤ 47 →
    (scanStore s).nvs.dropped = s.nvs.dropped ∧
      (scanStore s).nvs.image ++ (scanStore s).nvs.queue = (s.nvs.image ++ s.nvs.queue).map (stampStart (scanStore s).sup.starts))

/-! ### Trust, aperture and debug (09, 14) -/

/-- R255, R257, R258, R344: with the OTP unlocked, a write of the key word in recovery mode checks reel A and starts the programming of its key's hash, or fails; any other word, and every write with the OTP locked, is DENIED; the programming's end locks the OTP. A committed advance above the fuses and within the device's ARB programs the shadow first and then the fuses, which are never lowered; beyond the ARB it is DENIED, at or below the fuses it does nothing, and without energy it is DEFERRED; last rites abandon the fuses, and with CORE stopped no programming ends. What the model chose or read by inference here: logs 60, 61, 100 and 154. -/
def Obligations.OtpProgramming : Prop :=
  (∀ (r : ReelRead) (k : Nat × Nat) (s : State), recoveryServed s = true → s.recovery.taken = false → s.otp.okhlock = false → s.trust.prov ≠ 1 →
    provisionKey (s.flash.mode ≠ 0) s.flash.densLog (readAs r s) = some k →
    Gives (.provision 0x0C3A7E5 r) s { s with
      flash := { s.flash with dqsto := s.flash.dqsto || (r.dqsTimeout && s.flash.mode == 3) },
      trust := { s.trust with prov := 1, provKey := some (keyHash k) }, recovery := ⟨0x02, sOk, [], true⟩ }) ∧
  (∀ (r : ReelRead) (s : State), recoveryServed s = true → s.recovery.taken = false → s.otp.okhlock = false → s.trust.prov ≠ 1 →
    provisionKey (s.flash.mode ≠ 0) s.flash.densLog (readAs r s) = none →
    Gives (.provision 0x0C3A7E5 r) s { s with
      flash := { s.flash with dqsto := s.flash.dqsto || (r.dqsTimeout && s.flash.mode == 3) },
      trust := { s.trust with prov := 3, provKey := none }, recovery := ⟨0x02, sOk, [], true⟩ }) ∧
  (∀ (d : D28) (r : ReelRead) (s : State), recoveryServed s = true → s.recovery.taken = false → d ≠ 0x0C3A7E5 →
    Gives (.provision d r) s { s with recovery := ⟨0x02, sDenied, [], true⟩ }) ∧
  (∀ (d : D28) (r : ReelRead) (s : State), recoveryServed s = true → s.recovery.taken = false → s.otp.okhlock = true →
    Gives (.provision d r) s { s with recovery := ⟨0x02, sDenied, [], true⟩ }) ∧
  (∀ (k : BitVec 384) (s : State), s.trust.provKey = some k → s.trust.prov = 1 → s.clk.coreStop = false →
    Gives .provisionDone s { s with otp := { s.otp with okh := k, okhlock := true }, trust := { s.trust with prov := 2 } }) ∧
  (∀ (h : Port) (d : D28) (s : State), MayCommit s h 0x781 → fld d 27 7 = 0 → s.dev.struct = true → fld d 6 0 ≤ deviceArb s →
    s.otp.arbfuse < fld d 6 0 → flaconOk s = true → s.trust.advance = .idle → s.nvs.running = none → s.sup.ritesWait = none →
    ∃ t, exec (.arbAdvance h d) s = .next t ∧ t.status = sOk ∧ t.trust.advance = .shadow (fld d 6 0) ∧ t.nvs.running = some .shadow ∧
      t.otp = s.otp) ∧
  (∀ (h : Port) (d : D28) (s : State), MayCommit s h 0x781 → fld d 27 7 = 0 → (s.dev.struct = false ∨ deviceArb s < fld d 6 0) →
    GivesStatus (.arbAdvance h d) s sDenied (noteLast h 3 0x781 sDenied s)) ∧
  (∀ (h : Port) (d : D28) (s : State), MayCommit s h 0x781 → fld d 27 7 = 0 → s.dev.struct = true → fld d 6 0 ≤ deviceArb s →
    fld d 6 0 ≤ s.otp.arbfuse → GivesStatus (.arbAdvance h d) s sOk s) ∧
  (∀ (h : Port) (d : D28) (s : State), MayCommit s h 0x781 → fld d 27 7 = 0 → s.dev.struct = true → fld d 6 0 ≤ deviceArb s →
    s.otp.arbfuse < fld d 6 0 → flaconOk s = false →
    GivesStatus (.arbAdvance h d) s sDeferred { s with nvs := { s.nvs with defer := true, defcnt := sat 255 (s.nvs.defcnt + 1), triedAt := s.now } }) ∧
  (∀ (l : Nat) (s : State), s.trust.advance = .fuses l → s.sup.ritesWait = none → s.clk.coreStop = false →
    Gives .arbFusesDone s { s with otp := { s.otp with arbfuse := max s.otp.arbfuse l }, trust := { s.trust with advance := .idle } }) ∧
  (∀ s : State, s.sup.ritesWait.isSome = true → Gives .arbFusesDone s s) ∧
  (∀ (d : D28) (r : ReelRead) (s : State), (recoveryServed s = false ∨ s.recovery.taken = true) → Gives (.provision d r) s s) ∧
  (∀ (r : ReelRead) (s : State), recoveryServed s = true → s.recovery.taken = false → s.otp.okhlock = false → s.trust.prov = 1 →
    Gives (.provision 0x0C3A7E5 r) s { s with recovery := ⟨0x02, sOk, [], true⟩ }) ∧
  (∀ s : State, s.clk.coreStop = true → Gives .provisionDone s s ∧ Gives .arbFusesDone s s) ∧
  (∀ s : State, flaconOk s = true ↔ 2620 ≤ s.hold.eav ∧ ∃ v, s.hold.vhold = some v ∧ s.now ≤ v.tc + 50)

/-- R268, R296 to R299: selecting an available page starts its check, which takes the digital units from CRYPTO and MARCH; a page that matches its DIGEST opens the aperture, one that does not, or whose read fails, closes it; a waiting test of the digital units may run 10 ms after the check's end (16 R419). What the model chose or read by inference here: logs 9, 77 and 98. -/
def Obligations.ApertureCommands : Prop :=
  (∀ (a : Access) (d : D28) (s : State), MayStore s a 0x740 → fld d 27 11 = 0 → fld d 10 0 ≤ s.flash.lastPg →
    CompletesStatus (.fpageSelect a d) s sOk
      { s with trust := { s.trust with apState := 1, apPage := fld d 10 0, apWords := [] },
               bist := { s.bist with
                 yieldCrypto := s.bist.yieldCrypto || (runningTests s.bist).any fun r => r.test == 30,
                 yieldMarch := s.bist.yieldMarch || (runningTests s.bist).any fun r => r.test == 31 } }) ∧
  (∀ (h : Port) (d : D28) (s : State), MayStore s (.write h) 0x740 → fld d 27 11 = 0 → s.flash.lastPg < fld d 10 0 →
    GivesStatus (.fpageSelect (.write h) d) s sFormat (noteLast h 1 0x740 sFormat s)) ∧
  (∀ (ws : List W36) (s : State), s.trust.apState = 1 → s.coreRuns = true → pageVerifies s ws = true →
    Gives (.apertureVerifyDone (.words ws)) s (unitsServed true { s with trust := { s.trust with apState := 2, apWords := ws } })) ∧
  (∀ (ws : List W36) (s : State), s.trust.apState = 1 → s.coreRuns = true → pageVerifies s ws = false →
    Gives (.apertureVerifyDone (.words ws)) s (unitsServed true { s with trust := { s.trust with apState := 3 } })) ∧
  (∀ (dqs : Bool) (s : State), s.trust.apState = 1 → s.coreRuns = true →
    Gives (.apertureVerifyDone (.failed dqs)) s (unitsServed true { s with
      trust := { s.trust with apState := 3 }, flash := { s.flash with rdfail := true, dqsto := s.flash.dqsto || (dqs && s.flash.mode == 3) } })) ∧
  (∀ (march : Bool) (s : State), s.bist.yieldMarch = true → (unitsServed march s).bist.againMarch = if march then s.now + 10000 else s.bist.againMarch) ∧
  (∀ (march : Bool) (s : State), s.bist.yieldCrypto = true →
    (unitsServed march s).bist.again = if enginesAsked s then s.bist.again else s.now + 10000) ∧
  (∀ (march : Bool) (s : State), s.bist.yieldCrypto = false → (unitsServed march s).bist.again = s.bist.again) ∧
  (∀ (ws : List W36) (s : State), pageVerifies s ws = true ↔
    ∃ e, s.trust.digests.find? (fun e => e.1 == s.trust.apPage) = some e ∧ e.1 = s.trust.apPage ∧ sha384 (pack ws) = e.2)

/-- R269, R270, R371, R372, 13 R344: the instruction register takes the opcode of its instruction; EXTEST and SAMPLE/PRELOAD act while RST_N is low and every channel is off, whenever their opcode came, and as BYPASS else; a scan of the data register captures the pins, shifts and updates the cells, which the pads show in reset, and one of the bypass register captures a zero; opcode, bypass bit and cells outlast a reset but at power-on; the challenge is the hash of the start key's point, and without a start key a free value; a token replaces the one before and is accepted only with its format, this start's challenge, an ARB range that holds the device's, and the owner's signature, and none is judged with CORE stopped; TRST_N drops the token and selects BYPASS; DBG_ACC refuses words that are no data with FORMAT and an access without its right with DENIED, changing nothing else, and with its right a read captures the word and a write acts without the holder's right. What the model chose or read by inference here: logs 9, 24, 34, 66, 78, 84, 85 and 170. -/
def Obligations.TapAndDebugAccess : Prop :=
  (∀ s : State, Gives .extest s { s with tap := { s.tap with opcode := 0x00 } } ∧
    Gives .samplePreload s { s with tap := { s.tap with opcode := 0x01 } } ∧
    (scanAllowed s = true → s.tap.opcode = 0x00 → tapActs s = .extest ∧ scanActs s = true) ∧
    (scanAllowed s = true → s.tap.opcode = 0x01 → tapActs s = .samplePreload ∧ scanActs s = true)) ∧
  (∀ s : State, scanAllowed s = false → (s.tap.opcode = 0x00 ∨ s.tap.opcode = 0x01) → tapActs s = .bypass ∧ scanActs s = false) ∧
  (∀ (op : BitVec 8) (s : State), op ∉ [0x00, 0x01, 0x10, 0x11, 0x12] →
    Gives (.bypass op) s { s with tap := { s.tap with opcode := op } }) ∧
  (∀ (k : Nat × (Nat × Nat)) (s : State), s.trust.key = some k →
    Gives .dbgChal s { s with tap := { s.tap with opcode := 0x10, out := words384 (keyHash k.2) } }) ∧
  (∀ (ws : List W36) (s : State), tokenOk s ws = true → s.clk.coreStop = false →
    Completes (.dbgToken ws) s { s with
      tap := { s.tap with opcode := 0x11 },
      trust := { s.trust with token := some (BitVec.ofNat 3 (fld (wData (ws.getD 0 0)) 2 0)) } }) ∧
  (∀ (ws : List W36) (s : State), tokenOk s ws = false → s.clk.coreStop = false →
    Completes (.dbgToken ws) s { s with tap := { s.tap with opcode := 0x11 }, trust := { s.trust with token := none } }) ∧
  (∀ s : State, Gives .trstAssert s { s with
    trust := { s.trust with token := none }, tap := { s.tap with opcode := 0xFF, out := [] },
    dlatch := { s.dlatch with dbg := none }, flatch := { s.flatch with dbg := none } }) ∧
  (∀ (w0 w1 : W36) (s : State), s.coreRuns = true → isData 0 w0 = true → isData 1 w1 = false →
    Gives (.dbgAcc w0 w1) s { s with tap := { s.tap with
      opcode := 0x12, out := [dataWord 0 (pack28 [(16, fld (wData w0) 11 0), (0, 9)]), dataWord 1 0] } }) ∧
  (∀ (w0 w1 : W36) (s : State), s.coreRuns = true → isData 0 w0 = true → isData 1 w1 = true →
    (fld (wData w0) 26 12 ≠ 0 ∨ tokenRight s (if bitAt (wData w0) 27 then 2 else 1) = false) →
    Gives (.dbgAcc w0 w1) s { s with tap := { s.tap with
      opcode := 0x12, out := [dataWord 0 (pack28 [(16, fld (wData w0) 11 0), (0, 3)]), dataWord 1 0] } }) ∧
  (∀ (w0 w1 : W36) (s x : State), s.coreRuns = true → isData 0 w0 = true → isData 1 w1 = true → fld (wData w0) 26 12 = 0 →
    bitAt (wData w0) 27 = false → tokenRight s 1 = true → x = { s with tap := { s.tap with opcode := 0x12 } } →
    Gives (.dbgAcc w0 w1) s
      (dbgCapture (fld (wData w0) 11 0) sOk (asWord 1 (readReg .dbg (fld (wData w0) 11 0) x).1) (readReg .dbg (fld (wData w0) 11 0) x).2)) ∧
  (∀ (w0 w1 : W36) (s x : State), s.coreRuns = true → isData 0 w0 = true → isData 1 w1 = true → fld (wData w0) 26 12 = 0 →
    bitAt (wData w0) 27 = true → tokenRight s 2 = true → x = { s with tap := { s.tap with opcode := 0x12 } } →
    Gives (.dbgAcc w0 w1) s
      (dbgCapture (fld (wData w0) 11 0) (dbgWord (fld (wData w0) 11 0) (wData w1) x).1 (dataWord 1 0)
        (dbgWord (fld (wData w0) 11 0) (wData w1) x).2)) ∧
  (∀ s : State, s.trust.key = none →
    Gives .dbgChal s { s with
      free := s.free + 1,
      tap := { s.tap with opcode := 0x10, out := words384 (Config.random s.free) } }) ∧
  (∀ (op : BitVec 8) (s : State), op ∈ [0x00, 0x01, 0x10, 0x11, 0x12] → Gives (.bypass op) s s) ∧
  (∀ (w0 w1 : W36) (s : State), s.coreRuns = false →
    Gives (.dbgAcc w0 w1) s { s with tap := { s.tap with opcode := 0x12 } }) ∧
  (∀ (ws : List W36) (s : State), s.clk.coreStop = true →
    Gives (.dbgToken ws) s { s with tap := { s.tap with opcode := 0x11 } }) ∧
  (∀ s : State, scanAllowed s = true ↔ s.pins.rstN = false ∧ ∀ c ∈ s.chans, c.hs = 0 ∧ c.fw = .off) ∧
  (∀ s : State, s.tap.opcode ≠ 0x00 → s.tap.opcode ≠ 0x01 → tapActs s = tapInstr s.tap.opcode ∧ scanActs s = false) ∧
  (∀ op : BitVec 8, op ∉ [0x00, 0x01, 0x10, 0x11, 0x12] → tapInstr op = .bypass) ∧
  (∀ s : State, (toReset s).tap.opcode = s.tap.opcode ∧ (toReset s).tap.bypass = s.tap.bypass ∧ (toReset s).tap.cells = s.tap.cells ∧
    ((s.tap.opcode = 0x00 ∨ s.tap.opcode = 0x01) → s.pins.rstN = false → scanActs (toReset s) = true ∧ tapActs (toReset s) = tapInstr s.tap.opcode)) ∧
  (∀ s : State, scanActs s = true → s.dev.phase = .reset → padsOf s = scanPads s.tap.cells ∧
    (padsOf s).dout0 = .scan [cellLevel s.tap.cells (.dout .h0)] ∧ (padsOf s).syncOut = .scan [cellLevel s.tap.cells .syncOut]) ∧
  (∀ (w0 w1 : W36) (s : State), s.coreRuns = true → isData 0 w0 = false →
    Gives (.dbgAcc w0 w1) s { s with
      free := s.free + 1,
      tap := { s.tap with opcode := 0x12, out := [dataWord 0 (pack28 [(16, (Config.random s.free).toNat % 4096), (0, 9)]), dataWord 1 0] } }) ∧
  (∀ (ws : List W36) (ds : List D28) (s : State), ds = ws.map wData →
    (tokenOk s ws = true ↔ ws.length = 44 ∧ (∀ i, i < 44 → isData i (ws.getD i 0) = true) ∧
      fld (dw ds 0) 27 12 = 0xDB61 ∧ fld (dw ds 0) 11 8 = 1 ∧ fld (dw ds 0) 7 3 = 0 ∧ fld (dw ds 1) 13 0 = 0 ∧
      fld (dw ds 1) 27 21 ≤ 64 ∧ fld (dw ds 1) 20 14 ≤ 64 ∧ fld (dw ds 1) 27 21 ≤ fld (dw ds 1) 20 14 ∧
      fld (dw ds 15) 7 0 = 0 ∧ fld (dw ds 29) 7 0 = 0 ∧ fld (dw ds 43) 7 0 = 0 ∧
      fld (dw ds 1) 27 21 ≤ deviceArb s ∧ deviceArb s ≤ fld (dw ds 1) 20 14 ∧
      ∃ k owner, s.trust.key = some k ∧ s.trust.owner = some owner ∧ join384 (group14 ds 2 0) = (keyHash k.2).toNat ∧
        ecdsaVerify owner (packData (ds.take 16)) (join384 (group14 ds 16 0)) (join384 (group14 ds 16 1)) = true)) ∧
  (∀ s : State, deviceArb s = if s.dev.struct then fld s.dev.image 27 21 else s.otp.arbfuse) ∧
  (∀ (pins bits : List Bool) (i : Instr) (op : BitVec 8) (x s : State),
    ((i = .extest pins bits ∧ op = 0x00) ∨ (i = .samplePreload pins bits ∧ op = 0x01)) → x = { s with tap := { s.tap with opcode := op } } →
    (scanActs x = true → bits ≠ [] → Gives i s { x with tap := { x.tap with
      cells := shiftIn bits (capturedCells pins s), tdo := shiftOut bits (capturedCells pins s) } }) ∧
    (scanActs x = false → bits ≠ [] → Gives i s { x with tap := { x.tap with
      bypass := bits.getLast?.getD false, tdo := (false :: bits).take bits.length } }) ∧
    (bits = [] → Gives i s x)) ∧
  (∀ (op : BitVec 8) (bits : List Bool) (s : State), op ∉ [0x00, 0x01, 0x10, 0x11, 0x12] → bits ≠ [] →
    Gives (.bypass op bits) s { s with tap := { s.tap with
      opcode := op, bypass := bits.getLast?.getD false, tdo := (false :: bits).take bits.length } }) ∧
  (∀ (bits reg : List Bool) (k : Nat), (shiftIn bits reg).length = reg.length ∧ (shiftOut bits reg).length = bits.length ∧
    (k < reg.length → (shiftIn bits reg)[k]? = if k < bits.length then bits[bits.length - 1 - k]? else reg[k - bits.length]?) ∧
    (k < bits.length → (shiftOut bits reg)[k]? = if k < reg.length then reg[reg.length - 1 - k]? else bits[k - reg.length]?)) ∧
  (∀ (pins : List Bool) (i : Nat) (c : ScanCell) (s : State), scanOrder[i]? = some c →
    (capturedCells pins s)[i]? = some (if c = .rstN then s.pins.rstN else pins.getD i false))

/-! ### Ports and recovery mode (10) -/

/-- R272, R273, R277, R279, R280 to R284, R301: select's fall opens a window, taking a committed BITS, and one before the gap time is ignored; words leave from the queue of eight, one for each that arrives, FILL between frames, the previous word where one is late, whichever word of a frame it is, with the words that follow in their order, each one position later; the window ends at BITS or at select's rise, and one cut in mid-word hands on the cut word, flushes the queue and the cut frame's rest, and counts them, the word whose repeat the cut falls in together with every word that was queued behind it; with CORE stopped received words fill the queue of eight and then overrun; a port may commit its own window length of 36 bits or more. What the model chose or read by inference here: logs 11, 27, 67, 123 and 156. -/
def Obligations.PortWindows : Prop :=
  (∀ (gapKept : Bool) (s : State), portSeen s .h1 = true → s.ports.h1.sel = false →
    Gives (.selectFall .h1 gapKept) s (s.onPort .h1 (openSelect s.dev.struct (served s .h1) gapKept))) ∧
  (∀ (struct serves : Bool) (d : D28) (q x : PortSt), q.lenNext = some d → x = openSelect struct serves true q →
    x.len = d ∧ x.sel = true ∧ x.ignored = false ∧ x.stat = q.stat ∧ x.ended = false ∧ x.line = [] ∧ x.heard = 0 ∧ x.normal = (q.normal || struct)) ∧
  (∀ (h : Port) (w : WindowEnd) (s : State), portSeen s h = true → (s.ports.get h).sel = true → (s.ports.get h).ignored = false →
    (s.ports.get h).normal = true → (s.ports.get h).ended = false → w.rise = true → w.inFrame = false → w.early = false → w.lagShort = false →
    w.bits ≤ (s.ports.get h).windowBits → w.bits % 36 = 0 →
    Gives (.selectRise h w) s (seqEnd h (s.onPort h fun q =>
      sendTo s.coreRuns (w.bits / 36) { q with sel := false, ignored := false, ended := false, line := q.line.take (w.bits / 36) }))) ∧
  (∀ (h : Port) (w : WindowEnd) (s : State), portSeen s h = true → (s.ports.get h).sel = true → (s.ports.get h).ignored = false →
    (s.ports.get h).normal = true → (s.ports.get h).ended = false → w.rise = true → w.inFrame = false →
    w.bits ≤ (s.ports.get h).windowBits → w.bits % 36 ≠ 0 →
    ∃ t, exec (.selectRise h w) s = .next t ∧ (t.ports.get h).trunccnt = (s.ports.get h).trunccnt + 1 ∧
      (t.ports.get h).stat.getLsbD 2 = true ∧ (t.ports.get h).stat.getLsbD 3 = true ∧ (t.ports.get h).sel = false ∧
      (t.ports.get h).cutWord = some (BitVec.ofNat 36 (w.tail.toNat % 2 ^ (w.bits % 36)))) ∧
  (∀ (h : Port) (w : W36) (q : PortSt) (s : State), undrained s h = true → q = s.ports.get h →
    (q.rxq.length < 8 → Gives (.rxOverrun ⟨h, w⟩) s (s.onPort h fun q => { q with rxq := q.rxq ++ [w] })) ∧
    (8 ≤ q.rxq.length → Gives (.rxOverrun ⟨h, w⟩) s (s.onPort h fun q => { q with stat := setBit q.stat 1 }))) ∧
  (∀ (h : Port) (d : D28) (s : State), MayCommit s h (0x702 + 16 * portIx h) → fld d 27 12 = 0 → 36 ≤ fld d 11 0 →
    GivesStatus (.portLenCommit h h d) s sOk (s.onPort h fun q => { q with lenNext := some d })) ∧
  (∀ (h : Port) (d : D28) (s : State), MayCommit s h (0x702 + 16 * portIx h) → fld d 27 12 = 0 → fld d 11 0 < 36 →
    GivesStatus (.portLenCommit h h d) s sFormat (noteLast h 3 (0x702 + 16 * portIx h) sFormat s)) ∧
  (∀ (h p : Port) (d : D28) (s : State), h ≠ p → linkUp s h = true →
    GivesStatus (.portLenCommit h p d) s sDenied (noteLast h 2 (0x702 + 16 * portIx p) sDenied s)) ∧
  (∀ (gapKept : Bool) (s : State), portSeen s .h0 = true → s.ports.h0.sel = false →
    Gives (.selectFall .h0 gapKept) s { (s.onPort .h0 (openSelect s.dev.struct (served s .h0) gapKept)) with
      recovery := { s.recovery with taken := false } }) ∧
  (∀ (struct serves : Bool) (q : PortSt), (openSelect struct serves false q).sel = true ∧ (openSelect struct serves false q).ignored = true ∧
    (openSelect struct serves false q).stat.getLsbD 6 = (q.stat.getLsbD 6 || serves)) ∧
  (∀ (h : Port) (w : WindowEnd) (s : State), portSeen s h = true → (s.ports.get h).sel = true →
    (w.rise = true → Gives (.selectRise h w) s (seqEnd h (selectRise h w s))) ∧
    (w.rise = false → Gives (.selectRise h w) s (seqEnd h (bitsReached h w s)))) ∧
  (∀ (h : Port) (w : WindowEnd) (s : State), transferring (s.ports.get h) = true →
    ((s.ports.get h).windowBits ≤ w.bits → bitsReached h w s = windowOver h w (s.onPort h fun q => { q with ended := true })) ∧
    (w.bits < (s.ports.get h).windowBits → bitsReached h w s = s)) ∧
  (∀ (h : Port) (w : WindowEnd) (s : State), w.inFrame = true → s.coreRuns = true → (s.ses.get h).established = false →
    ((windowOver h w s).ses.get h).partialCnt = (s.ses.get h).partialCnt + 1) ∧
  (∀ (h : Port) (w : WindowEnd) (s : State), (s.ports.get h).ignored = false → (s.ports.get h).normal = true → (s.ports.get h).ended = true →
    ((selectRise h w s).ports.get h).stat = let q := s.ports.get h
      let st := if hostClocked q && w.lagShort then setBit q.stat 5 else q.stat
      if hostClocked q && q.windowBits < w.bits then setBit st 7 else st) ∧
  (∀ (w : W36) (r : List W36) (q : PortSt), q.txq = w :: r →
    (sendWord false q).txq = r ∧ (sendWord false q).last = w ∧ (sendWord false q).line = q.line ++ [w] ∧
      (sendWord true q).last = w ∧ (sendWord true q).line = q.line ++ [w] ∧ (sendWord true q).stream = r ++ q.rest ++ q.tx.flatten) ∧
  (∀ q : PortSt, q.txq = [] → sendWord true q = { q with last := 0x840000005, line := q.line ++ [0x840000005] } ∧
    sendWord false q = { q with stat := setBit q.stat 0, undercnt := q.undercnt + 1, line := q.line ++ [q.last] }) ∧
  (∀ (core : Bool) (k : Nat) (q : PortSt), sendTo core (q.line.length + k) q = Nat.repeat (sendWord core) k q) ∧
  (∀ (k : Nat) (tail : W36) (q : PortSt), (cutWindow false false k tail q).txq = [] ∧ (cutWindow false false k tail q).stream = q.tx.flatten ∧
    (cutWindow false false k tail q).txlost = 1 + (q.txq.drop 1).length ∧
    (cutWindow true false k tail q).stream = (fillQueue 1 { q with txq := q.txq.drop 1 }).tx.flatten) ∧
  (∀ (n : Nat) (q : PortSt), q.txq.length ≤ 8 → (fillQueue n q).stream = q.stream ∧ (fillQueue n q).txq.length ≤ 8) ∧
  (∀ (h : Port) (sent : Nat) (s : State), transferring (s.ports.get h) = true → s.sup.ritesWait = none →
    Gives (.txUnderrun ⟨h, sent⟩) s (s.onPort h (lateWord s.coreRuns sent))) ∧
  (∀ (sent : Nat) (q : PortSt), sent ≤ q.line.length →
    ((q.txq ≠ [] ∨ q.rest ≠ [] ∨ q.tx ≠ []) → lateWord true sent q = repeatWord q) ∧
    (q.txq = [] → q.rest = [] → q.tx = [] → lateWord true sent q = q) ∧
    (q.txq = [] → lateWord false sent q = repeatWord q) ∧ (q.txq ≠ [] → lateWord false sent q = q)) ∧
  (∀ (h : Port) (w : W36) (s : State), undrained s h = false → Gives (.rxOverrun ⟨h, w⟩) s s) ∧
  (∀ (k : Nat) (q x : PortSt), x = sendTo true (q.line.length + k) q → x.stream ≠ [] →
    (lateWord true (q.line.length + k) q).line = x.line ++ [x.last] ∧ (lateWord true (q.line.length + k) q).stream = x.stream ∧
    (lateWord true (q.line.length + k) q).undercnt = x.undercnt + 1 ∧ (lateWord true (q.line.length + k) q).stat.getLsbD 0 = true) ∧
  (∀ (h : Port) (ws : List W36) (q x : PortSt) (s : State), q = s.ports.get h → x = (hear h ws s).ports.get h →
    x.heard = q.heard + ws.length ∧ x.line.length = max q.line.length (q.heard + ws.length) ∧
    (hear h ws s).ses = s.ses ∧ x.rxq = q.rxq) ∧
  (∀ (h : Port) (ws : List W36) (s : State), (s.ports.get h).txq = [] → (s.ports.get h).line.length ≤ (s.ports.get h).heard →
    ((hear h ws s).ports.get h).line = (s.ports.get h).line ++
      List.replicate ((s.ports.get h).heard - (s.ports.get h).line.length + ws.length) 0x840000005) ∧
  (∀ (core : Bool) (k : Nat) (tail : W36) (q : PortSt), q.txq.length = 8 ∨ core = false ∨ (q.rest = [] ∧ q.tx = []) →
    (cutWindow core true k tail q).txlost = 1 + q.txq.length ∧ (cutWindow core true k tail q).trunccnt = q.trunccnt + 1 ∧
    (cutWindow core true k tail q).stream = q.tx.flatten) ∧
  (∀ (core : Bool) (w : WindowEnd) (q : PortSt), w.bits ≤ q.windowBits → w.bits % 36 ≠ 0 →
    endWindow core w q = cutWindow core (decide (w.bits / 36 < q.line.length)) (w.bits % 36) w.tail
      (sendTo core (w.bits / 36) { q with line := q.line.take (w.bits / 36) })) ∧
  (∀ (core : Bool) (w : WindowEnd) (q x : PortSt), (q.txq ≠ [] ∨ q.rest ≠ [] ∨ q.tx ≠ []) → core = true →
    x = lateWord core q.line.length q → w.bits ≤ q.windowBits → w.bits = 36 * q.line.length + w.bits % 36 → w.bits % 36 ≠ 0 →
    x.txq.length = 8 ∨ (x.rest = [] ∧ x.tx = []) → (endWindow core w x).txlost = 1 + x.txq.length)

/-- R284 to R287: in recovery mode a window serves one transfer. RDREG clocks out the words from its address, aperture words as void DENIED; WRREG answers FORMAT for a bad word and DENIED for every register but TRUST_PROV, whose write is judged by the key and the lock; RDSTAT gives the last command and status; any other command is noted; H0_DOUT is driven once a RDREG or RDSTAT has come; a window that has had its transfer ignores the rest. What the model chose or read by inference here: logs 65, 86, 100, 124 and 155. -/
def Obligations.RecoveryCommands : Prop :=
  (∀ (a : BitVec 12) (count : Nat) (s : State), recoveryServed s = true → s.recovery.taken = false → a.toNat < 0x800 →
    ∃ t, exec (.rdreg a count) s = .next t ∧ t.recovery.cmd = 0x0B ∧ t.recovery.status = s.recovery.status ∧ t.recovery.taken = true ∧
      t.recovery.out = (readRun (.host .h0) a.toNat count s).1.mapIdx fun i w => asWord (a.toNat + i) w) ∧
  (∀ (a : BitVec 12) (count : Nat) (s : State), recoveryServed s = true → s.recovery.taken = false → 0x800 ≤ a.toNat → a.toNat + count ≤ 0x1000 →
    Gives (.rdreg a count) s { s with recovery := { s.recovery with
      cmd := 0x0B, out := (List.range count).map fun i => voidWord (a.toNat + i) sDenied, taken := true } }) ∧
  (∀ (a : BitVec 12) (w : W36) (r : ReelRead) (s : State), recoveryServed s = true → s.recovery.taken = false → isData a.toNat w = true →
    a.toNat ≠ 0x782 → Gives (.wrreg ⟨some a, some w⟩ r) s { s with recovery := ⟨0x02, sDenied, [], true⟩ }) ∧
  (∀ (w : RecoveryWrite) (r : ReelRead) (s : State), recoveryServed s = true → s.recovery.taken = false →
    (w.addr = none ∨ w.word = none ∨ ∃ a x, w.addr = some a ∧ w.word = some x ∧ isData a.toNat x = false) →
    Gives (.wrreg w r) s { s with recovery := ⟨0x02, sFormat, [], true⟩ }) ∧
  (∀ s : State, recoveryServed s = true → s.recovery.taken = false →
    Gives .rdstat s { s with recovery := { s.recovery with
      cmd := 0x05, out := [dataWord 0 (pack28 [(8, 0x05), (0, s.recovery.status.toNat)])], taken := true } }) ∧
  (∀ (cmd : BitVec 8) (s : State), recoveryServed s = true → s.recovery.taken = false → cmd ≠ 0x0B → cmd ≠ 0x02 → cmd ≠ 0x05 →
    Gives (.recoveryOtherCommand cmd) s { s with recovery := { s.recovery with cmd := cmd, out := [], taken := true } }) ∧
  (∀ (w : W36) (r : ReelRead) (s : State), recoveryServed s = true → s.recovery.taken = false → isData 0x782 w = true →
    Gives (.wrreg ⟨some 0x782, some w⟩ r) s { (writeProv (wData w) r s).2 with
      recovery := ⟨0x02, (writeProv (wData w) r s).1, [], true⟩ }) ∧
  (∀ (a : BitVec 12) (count : Nat) (w : RecoveryWrite) (r : ReelRead) (cmd : BitVec 8) (s : State),
    (recoveryServed s = false ∨ s.recovery.taken = true) →
    Gives (.rdreg a count) s s ∧ Gives (.wrreg w r) s s ∧ Gives .rdstat s s ∧ Gives (.recoveryOtherCommand cmd) s s) ∧
  (∀ s : State, s.ports.h0.normal = false → s.sup.ritesWait = none → doutPad s .h0 =
    if recoveryServed s = true ∧ s.recovery.taken = true ∧ (s.recovery.cmd = 0x0B ∨ s.recovery.cmd = 0x05) then .active else .highZ)

/-! ### Session link (09, 11) -/

/-- R309, stated: a SEQ up to 1,024 above H is new and becomes H, an unmarked one down to H − 31 is accepted out of order, a marked one is a duplicate and every other is out of window; every accepted SEQ is marked, and the marks of H − 31 to H are kept. -/
def Obligations.SeqIsAcceptedOnce : Prop :=
  (∀ (h x : Nat) (m : BitVec 32), h < x → x ≤ h + 1024 → ∃ m', seqCheck h m x = .accepted x m') ∧
  (∀ (h x : Nat) (m : BitVec 32), x ≤ h → h < x + 32 → m.getLsbD (h - x) = false → ∃ m', seqCheck h m x = .accepted h m') ∧
  (∀ (h x : Nat) (m : BitVec 32), x ≤ h → h < x + 32 → m.getLsbD (h - x) = true → seqCheck h m x = .duplicate) ∧
  (∀ (h x : Nat) (m : BitVec 32), (h + 1024 < x ∨ x + 32 ≤ h) → seqCheck h m x = .outOfWindow) ∧
  (∀ (h x r y : Nat) (m m' : BitVec 32), seqCheck h m x = .accepted r m' → y ≤ r → r < y + 32 →
    (m'.getLsbD (r - y) = true ↔ y = x ∨ (y ≤ h ∧ m.getLsbD (h - y) = true))) ∧
  (∀ (h x r : Nat) (m m' : BitVec 32), seqCheck h m x = .accepted r m' → seqCheck r m' x = .duplicate)

/-- R266, R273, R302, R303, R306, R308, R311, R312, R316: a MAC frame of the device joins the transmit stream as header, payload, trailer with its next SEQ, and the CMAC of the whole under KDH, and the SEQ counts up; a frame of a host that breaks off, fails its check, repeats a SEQ or falls outside the window is discarded and counted, and does nothing else but its session error; one whose format fails is refused, and leaves the numbering as it was where its trailer is no data word; a HELLO or KEY has no place in the numbering; with CORE stopped its words wait in the receive queue. A frame that verifies only under the key that a renewal replaced is discarded without a trace while that key's window runs; each direction's numbering gives its warning once. What the model chose or read by inference here: logs 9, 59, 68, 85 and 123, and log 136 for the trailer that is no data word. -/
def Obligations.FramesOutAndBadFramesIn : Prop :=
  (∀ (h : Port) (hd : D28) (pl : List W36) (ref ovr : Bool) (ks : Keys) (s : State), (s.ses.get h).keys = some ks →
    ∃ body, body = dataWord 0 hd :: pl ++ [dataWord (pl.length + 1) (trailer s h (s.ses.get h).txseq ref ovr)] ∧
      ((sendMac h hd pl ref ovr s).ports.get h).stream = (s.ports.get h).stream ++
        (body ++ [dataWord body.length (macHalves (mac56 ks.kdh (pack body))).1,
                  dataWord (body.length + 1) (macHalves (mac56 ks.kdh (pack body))).2]) ∧
      ((sendMac h hd pl ref ovr s).ses.get h).txseq = (s.ses.get h).txseq + 1) ∧
  (∀ (h : Port) (k : FrameKind) (i : Instr) (ws : List W36) (p : Nat) (s : State),
    ((k = .lease ∧ i = .lease h ws) ∨ (k = .read ∧ i = .read h ws) ∨ (k = .write ∧ i = .write h ws) ∨ (k = .arm ∧ i = .arm h ws) ∨
      (k = .commit ∧ i = .commit h ws) ∨ (k = .retire ∧ i = .retire h ws) ∨
      (k = .handover ∧ ((i = .give h ws ∧ fld (payloadAt ws 0) 1 0 = 0) ∨ (i = .take h ws ∧ fld (payloadAt ws 0) 1 0 = 1) ∨
        (i = .request h ws ∧ fld (payloadAt ws 0) 1 0 = 2) ∨ (i = .refuse h ws ∧ fld (payloadAt ws 0) 1 0 = 3)))) →
    receiving s h = true → startsFrame k (ws.getD 0 0) = true → p = payloadLen k (wData (ws.getD 0 0)) →
    (ws.length < p + 4 →
      Gives i s (seqEnd h (sessionError h ((hear h ws s).onSes h fun e => { e with partialCnt := e.partialCnt + 1 })))) ∧
    (p + 4 ≤ ws.length → authCheck s (s.ses.get h) k ws p = .bad →
      Gives i s (seqEnd h (sessionError h ((hear h ws s).onSes h fun e => { e with authfail := e.authfail + 1 })))) ∧
    (p + 4 ≤ ws.length → authCheck s (s.ses.get h) k ws p = .ok →
      seqOf (s.ses.get h) ws p = .duplicate →
      Gives i s (seqEnd h ((hear h ws s).onSes h fun e => { e with dup := e.dup + 1 }))) ∧
    (p + 4 ≤ ws.length → authCheck s (s.ses.get h) k ws p = .ok →
      seqOf (s.ses.get h) ws p = .outOfWindow →
      Gives i s (seqEnd h (sessionError h ((hear h ws s).onSes h fun e => { e with oow := e.oow + 1 })))) ∧
    (∀ (r : Nat) (m : BitVec 32), p + 4 ≤ ws.length → authCheck s (s.ses.get h) k ws p = .ok →
      seqOf (s.ses.get h) ws p = .accepted r m →
      formatOk (s.ses.get h) s.now k ws p = false →
      Gives i s (seqEnd h (refuseFormat h k (wData (ws.getD 0 0)) (noted (hear h ws s) h r m))))) ∧
  (∀ (h : Port) (k : FrameKind) (i : Instr) (ws : List W36) (p : Nat) (s : State),
    ((k = .hello ∧ i = .hello h ws) ∨ (k = .key ∧ i = .key h ws)) →
    receiving s h = true → startsFrame k (ws.getD 0 0) = true → p = hdCount (wData (ws.getD 0 0)) →
    (ws.length < p + 4 →
      Gives i s (seqEnd h (sessionError h ((hear h ws s).onSes h fun e => { e with partialCnt := e.partialCnt + 1 })))) ∧
    (p + 4 ≤ ws.length → authIs ws p (crcHalves (crc32 (authInput ws p))) = false →
      Gives i s (seqEnd h (sessionError h ((hear h ws s).onSes h fun e => { e with authfail := e.authfail + 1 })))) ∧
    (p + 4 ≤ ws.length → authIs ws p (crcHalves (crc32 (authInput ws p))) = true → formatOk (s.ses.get h) s.now k ws p = false →
      Gives i s (seqEnd h (refuseFormat h k (wData (ws.getD 0 0)) (hear h ws s))))) ∧
  (∀ (h : Port) (k : FrameKind) (i : Instr) (ws : List W36) (s : State),
    ((k = .hello ∧ i = .hello h ws) ∨ (k = .key ∧ i = .key h ws) ∨ (k = .lease ∧ i = .lease h ws) ∨ (k = .read ∧ i = .read h ws) ∨
      (k = .write ∧ i = .write h ws) ∨ (k = .arm ∧ i = .arm h ws) ∨ (k = .commit ∧ i = .commit h ws) ∨ (k = .retire ∧ i = .retire h ws)) →
    (undrained s h = true → Gives i s (s.onPort h fun q => ws.foldl arriveWord q)) ∧
    (undrained s h = false → startsFrame k (ws.getD 0 0) = false → Gives i s (if receiving s h then hear h ws s else s))) ∧
  (∀ (h : Port) (k : FrameKind) (d : D28) (s : State), (s.ses.get h).established = false →
    ((refuseFormat h k d s).ses.get h).fmterr = (s.ses.get h).fmterr + 1) ∧
  (∀ (h : Port) (k : FrameKind) (i : Instr) (ws : List W36) (s : State),
    ((k = .lease ∧ i = .lease h ws) ∨ (k = .read ∧ i = .read h ws) ∨ (k = .write ∧ i = .write h ws) ∨ (k = .arm ∧ i = .arm h ws) ∨
      (k = .commit ∧ i = .commit h ws) ∨ (k = .retire ∧ i = .retire h ws) ∨ (k = .event ∧ i = .hostEventFrame h ws) ∨
      (k = .handover ∧ ((i = .give h ws ∧ fld (payloadAt ws 0) 1 0 = 0) ∨ (i = .take h ws ∧ fld (payloadAt ws 0) 1 0 = 1) ∨
        (i = .request h ws ∧ fld (payloadAt ws 0) 1 0 = 2) ∨ (i = .refuse h ws ∧ fld (payloadAt ws 0) 1 0 = 3)))) →
    receiving s h = true → startsFrame k (ws.getD 0 0) = true → payloadLen k (wData (ws.getD 0 0)) + 4 ≤ ws.length →
    authCheck s (s.ses.get h) k ws (payloadLen k (wData (ws.getD 0 0))) = .oldKey → Gives i s (seqEnd h (hear h ws s))) ∧
  (∀ (k : FrameKind) (ks : Keys) (old : BitVec 128) (t0 p : Nat) (ws : List W36) (e : Ses) (s : State), carriesCrc k = false →
    e.established = true → e.keys = some ks → e.oldKhd = some (old, t0) → authIs ws p (macHalves (mac56 ks.khd (authInput ws p))) = false →
    authCheck s e k ws p = if s.now < t0 ∧ authIs ws p (macHalves (mac56 old (authInput ws p))) = true then .oldKey else .bad) ∧
  (∀ (h : Port) (e : Ses) (s : State), e = s.ses.get h → e.established = true → e.rxseq < 0xFFFFFF → e.txseq ≤ 0xFFFFFF →
    (0xF00000 < e.rxseq → e.rxWarn = false → (e.txseq ≤ 0xF00001 ∨ e.txWarn = true) →
      seqEnd h s = eventAt h 27 (s.onSes h fun e => { e with rxWarn := true })) ∧
    (0xF00001 < e.txseq → e.txWarn = false → (e.rxseq ≤ 0xF00000 ∨ e.rxWarn = true) →
      seqEnd h s = eventAt h 27 (s.onSes h fun e => { e with txWarn := true })) ∧
    ((e.rxseq ≤ 0xF00000 ∨ e.rxWarn = true) → (e.txseq ≤ 0xF00001 ∨ e.txWarn = true) → seqEnd h s = s)) ∧
  (∀ (e : Ses) (ws : List W36) (p : Nat),
    (isData (p + 1) (ws.getD (p + 1) 0) = true → seqOf e ws p = seqCheck e.rxseq e.marks (trSeq (wData (ws.getD (p + 1) 0)))) ∧
    (isData (p + 1) (ws.getD (p + 1) 0) = false → seqOf e ws p = .accepted e.rxseq e.marks))

/-- R318, R311: the eighth session error within 100 ms tears the session down: keys, numbering, rights and lease end, every context is free and every event tag cleared, each with last generation 7 (tags 30 and 31, which are never sent, hold nothing), the port's snapshot ends, and its injection while GUARD runs, and the holder stays the holder. So does a direction whose numbering ends: H at 0xFFFFFF, or a next SEQ beyond it; short of that the session and its keys stay. What the model chose or read by inference here: logs 35 and 172. -/
def Obligations.EighthErrorTearsDown : Prop :=
  (∀ (h : Port) (s : State), (s.ses.get h).established = true → 7 ≤ ((s.ses.get h).errs.filter fun t => s.now ≤ t + 100000).length →
    let e := (sessionError h s).ses.get h
    e.established = false ∧ e.keys = none ∧ e.oldKhd = none ∧ e.rxseq = 0 ∧ e.txseq = 0 ∧ e.leaseValid = false ∧ e.auth = false ∧
      e.inj = false ∧ occupied e = 0 ∧ e.tearcnt = (s.ses.get h).tearcnt + 1 ∧ (sessionError h s).auth = s.auth ∧
      (sessionError h s).meas.snaps.get h = none ∧
    e.ctxs = List.replicate 24 ⟨.free, 7⟩ ∧ e.evs = List.replicate 6 ⟨7, false, false, false, 0⟩ ∧
      (∀ (t0 : Nat), s.clk.guardStop = false → s.flt.injBy = some (h, t0) → (sessionError h s).flt.inj = false ∧ (sessionError h s).flt.force = 0)) ∧
  (∀ (h : Port) (s : State), (s.ses.get h).established = true → (0xFFFFFF ≤ (s.ses.get h).rxseq ∨ 0xFFFFFF < (s.ses.get h).txseq) →
    let e := (seqEnd h s).ses.get h
    e.established = false ∧ e.keys = none ∧ e.rxseq = 0 ∧ e.txseq = 0 ∧ e.leaseValid = false ∧ e.auth = false ∧
      occupied e = 0 ∧ e.tearcnt = (s.ses.get h).tearcnt + 1 ∧ (seqEnd h s).auth = s.auth) ∧
  (∀ (h : Port) (s : State), (s.ses.get h).established = true → (s.ses.get h).rxseq < 0xFFFFFF → (s.ses.get h).txseq ≤ 0xFFFFFF →
    ((seqEnd h s).ses.get h).established = true ∧ ((seqEnd h s).ses.get h).keys = (s.ses.get h).keys ∧
      ((seqEnd h s).ses.get h).tearcnt = (s.ses.get h).tearcnt) ∧
  (∀ (h : Port) (s : State), (s.ses.get h).established = false → seqEnd h s = s)

/-- R261 to R265, R315 to R317, R330, R344, 16 R417, R419: a HELLO with a valid point is answered by M2 and opens an exchange, on an established port too, whose session stands until M4; without an owner key, or with a point off the curve, it fails with its code; a KEY's certificate waits for its check; the check's end is M4 and new keys, or a failure with the code of the first check that fails, of the certificate's format, its key, its signature, the device's ARB, the port and the transcript's signature, which is a session error of an established session; M4 leaves write authority as it stands but in two cases: a certificate with AUTH 0 releases the holder's, and a fresh session with AUTH 1 on the primary port takes one that nobody holds; the check's end gives back the units of the self-test that the KEY took, also when nothing waits for it (logs 77 and 98, read by inference and chosen); an exchange without KEY ends after 1 s, and a renewal's old key after 1 ms; with CORE stopped none of it goes on. What the model chose or read by inference here: logs 9, 10, 58, 77, 98, 101, 123 and 134. -/
def Obligations.ExchangeCommands : Prop :=
  (∀ (h : Port) (ws : List W36) (o pub qh : Nat × Nat) (priv : Nat) (m1 m2 : List D28) (s : State), PassesCrc s h .hello ws →
    (s.ses.get h).established = false → s.trust.owner = some o → s.trust.key = some (priv, pub) →
    m1 = (payloadOf ws 43).map wData → qh = helloKey m1 → onCurve qh = true → m2 = m2Payload h (Config.random s.free) pub →
    ∃ t, exec (.hello h ws) s = .next t ∧
      (t.ses.get h).xch = some ⟨m1, m2, ecdh priv qh, BitVec.ofNat 384 (join384 (group14 m1 1 0)), Config.random s.free, s.now, none⟩ ∧
      (t.ports.get h).stream.length = ((hear h ws s).ports.get h).stream.length + 47 ∧
      ((t.ports.get h).stream.drop (((hear h ws s).ports.get h).stream.length + 1)).take 43 = dataWords m2) ∧
  (∀ (h : Port) (ws : List W36) (s : State), PassesCrc s h .hello ws → (s.ses.get h).established = false → s.trust.owner = none →
    ∃ t, exec (.hello h ws) s = .next t ∧ (t.ses.get h).fail = 8 ∧ (t.ses.get h).xch = none) ∧
  (∀ (h : Port) (ws : List W36) (x : Exchange) (s : State), PassesCrc s h .key ws → (s.ses.get h).established = false →
    (s.ses.get h).xch = some x →
    Completes (.key h ws) s (takeUnits true false true ((hear h ws s).onSes h fun e => { e with xch := some { x with cert := some ((payloadOf ws 87).map wData) } }))) ∧
  (∀ (h : Port) (x : Exchange) (c : List D28) (s : State), s.coreRuns = true → (s.ses.get h).xch = some x → x.cert = some c →
    keyVerdict s h x c = 0 →
    Gives (.keyComplete h) s (unitsServed false (establish h x c s)) ∧
    ∃ t, exec (.keyComplete h) s = .next t ∧ (t.ses.get h).established = true ∧ (t.ses.get h).keys = some (sessionKeys x c) ∧
      (t.ses.get h).xch = none ∧ (t.ses.get h).rxseq = 1 ∧ (t.ses.get h).auth = bitAt (dw c 1) 11 ∧ (t.ses.get h).inj = bitAt (dw c 1) 10) ∧
  (∀ (h : Port) (x : Exchange) (c : List D28) (s : State), s.coreRuns = true → (s.ses.get h).xch = some x → x.cert = some c →
    keyVerdict s h x c ≠ 0 → (s.ses.get h).established = false →
    Gives (.keyComplete h) s (unitsServed false
      (s.onSes h fun e => { e with fail := keyVerdict s h x c, xch := none, authfail := e.authfail + 1 }))) ∧
  (∀ (h : Port) (x : Exchange) (s : State), (s.ses.get h).xch = some x → x.cert = none → s.since x.at_ 1000000 = true → s.clk.coreStop = false →
    Gives (.exchangeTimeout h) s (s.onSes h fun e => { e with xch := none })) ∧
  (∀ (h : Port) (k : BitVec 128) (t0 : Nat) (s : State), (s.ses.get h).oldKhd = some (k, t0) → s.since t0 0 = true → s.clk.coreStop = false →
    Gives (.oldKeyWindowEnd h) s (s.onSes h fun e => { e with oldKhd := none })) ∧
  (∀ (h : Port) (ws : List W36) (o k : Nat × Nat) (priv : Nat) (m1 : List D28) (s : State), PassesCrc s h .hello ws →
    s.trust.owner = some o → s.trust.key = some (priv, k) → m1 = (payloadOf ws 43).map wData → onCurve (helloKey m1) = false →
    ∃ t, exec (.hello h ws) s = .next t ∧ (t.ses.get h).fail = 1 ∧ (t.ses.get h).xch = none ∧
      (t.ports.get h).stream.length = ((hear h ws s).ports.get h).stream.length) ∧
  (∀ (h : Port) (ws : List W36) (o pub : Nat × Nat) (priv : Nat) (m1 : List D28) (s : State), PassesCrc s h .hello ws →
    (s.ses.get h).established = true → (s.ses.get h).rxseq ≤ 0xF00000 → (s.ses.get h).txseq ≤ 0xF00000 → s.trust.owner = some o →
    s.trust.key = some (priv, pub) → m1 = (payloadOf ws 43).map wData → onCurve (helloKey m1) = true →
    ∃ t, exec (.hello h ws) s = .next t ∧ (t.ses.get h).established = true ∧ (t.ses.get h).keys = (s.ses.get h).keys ∧
      (t.ses.get h).rxseq = (s.ses.get h).rxseq ∧ (t.ses.get h).txseq = (s.ses.get h).txseq ∧
      (t.ses.get h).xch = some ⟨m1, m2Payload h (Config.random s.free) pub, ecdh priv (helloKey m1),
        BitVec.ofNat 384 (join384 (group14 m1 1 0)), Config.random s.free, s.now, none⟩) ∧
  (∀ (h : Port) (ws : List W36) (x : Exchange) (s : State), PassesCrc s h .key ws → (s.ses.get h).established = true →
    (s.ses.get h).rxseq ≤ 0xF00000 → (s.ses.get h).txseq ≤ 0xF00000 → (s.ses.get h).xch = some x →
    Completes (.key h ws) s (takeUnits true false true ((hear h ws s).onSes h fun e => { e with xch := some { x with cert := some ((payloadOf ws 87).map wData) } }))) ∧
  (∀ (h : Port) (x : Exchange) (c : List D28) (ks : Keys) (s : State), s.coreRuns = true → (s.ses.get h).xch = some x → x.cert = some c →
    keyVerdict s h x c = 0 → (s.ses.get h).established = true → (s.ses.get h).keys = some ks →
    ∃ t, exec (.keyComplete h) s = .next t ∧ (t.ses.get h).oldKhd = some (ks.khd, s.now + 1000) ∧ (t.ses.get h).txseq = 2 ∧
      (t.ses.get h).leaseAt = (s.ses.get h).leaseAt ∧ (t.ses.get h).ctxs.length = (s.ses.get h).ctxs.length) ∧
  (∀ (h : Port) (x : Exchange) (c : List D28) (s : State), s.coreRuns = true → (s.ses.get h).xch = some x → x.cert = some c →
    keyVerdict s h x c ≠ 0 → (s.ses.get h).established = true →
    Gives (.keyComplete h) s (unitsServed false (sessionError h
      (s.onSes h fun e => { e with fail := keyVerdict s h x c, xch := none, authfail := e.authfail + 1 })))) ∧
  (∀ (h : Port) (s : State), (∀ x, (s.ses.get h).xch = some x → x.cert = none) → s.coreRuns = true →
    Gives (.keyComplete h) s (unitsServed false s)) ∧
  (∀ (h : Port) (s : State), (s.ses.get h).xch = none → Gives (.exchangeTimeout h) s s) ∧
  (∀ (h : Port) (s : State), (s.ses.get h).oldKhd = none → Gives (.oldKeyWindowEnd h) s s) ∧
  (∀ (h : Port) (x : Exchange) (c : List D28) (s : State), s.coreRuns = true → (s.ses.get h).xch = some x → x.cert = some c →
    keyVerdict s h x c = 0 → ∃ t, exec (.keyComplete h) s = .next t ∧
      t.auth = (m4Authority h (!(s.ses.get h).established) (bitAt (dw c 1) 11) s).auth ∧
      ((s.ses.get h).established = false → (t.ses.get h).leaseValid = (!s.clk.guardStop) ∧ (t.ses.get h).leaseAt = guardNow s)) ∧
  (∀ (h : Port) (fresh certAuth : Bool) (s : State), (m4Authority h fresh certAuth s).auth =
    if s.auth.holder = some h ∧ certAuth = false then { s.auth with holder := none }
    else if fresh = true ∧ certAuth = true ∧ (s.auth.holder = some h ∨ (s.auth.holder = none ∧ h = if bitAt s.auth.cfg 16 then .h1 else .h0))
      then { s.auth with holder := some h, granted := true } else s.auth) ∧
  (∀ (h : Port) (fresh : Bool) (t : Fin 24) (s : State), s.auth.holder = some h →
    ctxArmed (ctxAt ((m4Authority h fresh false s).ses.get h) t) = false) ∧
  (∀ (h : Port) (s : State), s.clk.coreStop = true →
    Gives (.exchangeTimeout h) s s ∧ Gives (.oldKeyWindowEnd h) s s ∧ Gives (.keyComplete h) s s) ∧
  (∀ (h : Port) (x : Exchange) (c : List D28) (s : State),
    (certFormat c = false → keyVerdict s h x c = 2) ∧
    (certFormat c = true → onCurve (certKey c) = false → keyVerdict s h x c = 3) ∧
    (certFormat c = true → onCurve (certKey c) = true → s.trust.owner = none → keyVerdict s h x c = 4)) ∧
  (∀ (h : Port) (x : Exchange) (c : List D28) (owner : Nat × Nat) (s : State), certFormat c = true → onCurve (certKey c) = true →
    s.trust.owner = some owner →
    (ecdsaVerify owner (packData (c.take 31)) (join384 (group14 c 31 0)) (join384 (group14 c 31 1)) = false → keyVerdict s h x c = 4) ∧
    (ecdsaVerify owner (packData (c.take 31)) (join384 (group14 c 31 0)) (join384 (group14 c 31 1)) = true →
      ((deviceArb s < fld (dw c 1) 27 21 ∨ fld (dw c 1) 20 14 < deviceArb s) → keyVerdict s h x c = 5) ∧
      (fld (dw c 1) 27 21 ≤ deviceArb s → deviceArb s ≤ fld (dw c 1) 20 14 →
        (bitAt (dw c 1) (if h = .h0 then 12 else 13) = false → keyVerdict s h x c = 6) ∧
        (bitAt (dw c 1) (if h = .h0 then 12 else 13) = true →
          keyVerdict s h x c = if ecdsaVerify (certKey c) (packData (x.m1 ++ x.m2 ++ c.take 59)) (join384 (group14 c 59 0)) (join384 (group14 c 59 1))
            then 0 else 7)))) ∧
  (∀ c : List D28, certFormat c = true ↔ fld (dw c 0) 27 12 = 0xC3A7 ∧ fld (dw c 0) 11 8 = 1 ∧ fld (dw c 0) 7 0 = 0 ∧
    fld (dw c 1) 27 21 ≤ 64 ∧ fld (dw c 1) 20 14 ≤ 64 ∧ fld (dw c 1) 27 21 ≤ fld (dw c 1) 20 14 ∧ fld (dw c 1) 9 0 = 0 ∧
    fld (dw c 2) 7 0 = 0 ∧ fld (dw c 16) 7 0 = 0 ∧ fld (dw c 30) 7 0 = 0 ∧ fld (dw c 44) 7 0 = 0 ∧ fld (dw c 58) 7 0 = 0)

/-- R319, R320, R322, R323, R360: a READ or WRITE that opens its context occupies it with its generation and is answered with the words read, or with one status per word; on an occupied context a READ, WRITE or ARM is refused with TAG_BUSY, with all 24 occupied with CONTEXT_FULL, and one whose GEN does not follow is discarded as superseded. What the model chose or read by inference here: logs 68 and 123. -/
def Obligations.ReadAndWriteFrames : Prop :=
  (∀ (h : Port) (ws : List W36) (r : Nat) (m : BitVec 32) (d : D28) (s x : State), Passes s h .read ws r m → d = wData (ws.getD 0 0) →
    Opens s h d → x = setCtx h (hdTag d) ⟨.done, hdGen d⟩ (noted (hear h ws s) h r m) →
    Gives (.read h ws) s (seqEnd h (sendMac h (answerHeader d (hdCount d))
      ((readRun (.host h) (hdAddr .read d) (hdCount d) x).1.mapIdx fun i w => asWord (i + 1) w) false (overruns (hdAddr .read d) (hdCount d))
      (readRun (.host h) (hdAddr .read d) (hdCount d) x).2))) ∧
  (∀ (h : Port) (ws : List W36) (r : Nat) (m : BitVec 32) (d : D28) (s x y : State) (sts : List D28), Passes s h .write ws r m →
    d = wData (ws.getD 0 0) → Opens s h d → x = setCtx h (hdTag d) ⟨.done, hdGen d⟩ (noted (hear h ws s) h r m) →
    mapState (writePayload h (hdAddr .write d)) 1 (payloadOf ws (hdCount d)) x = (sts, y) →
    Gives (.write h ws) s (seqEnd h (answer h d sts (overruns (hdAddr .write d) (hdCount d)) y))) ∧
  (∀ (h : Port) (d : D28) (serve : State → State) (s : State),
    let e := s.ses.get h
    let c := ctxAt e (hdTag d)
    (hdGen d ≠ c.gen → hdGen d ≠ c.gen + 1 → newOp h d serve s = s.onSes h fun e => { e with stalegen := e.stalegen + 1 }) ∧
    (hdGen d = c.gen → ctxBusy c = false → newOp h d serve s = s.onSes h fun e => { e with stalegen := e.stalegen + 1 }) ∧
    (hdGen d = c.gen + 1 → occupied e = 24 →
      newOp h d serve s = refuse h d sCtxFull (s.onSes h fun e => { e with ctxRefused := e.ctxRefused + 1 })) ∧
    (hdGen d = c.gen + 1 → occupied e ≠ 24 → ctxBusy c = true →
      newOp h d serve s = refuse h d sTagBusy (s.onSes h fun e => { e with tagRefused := e.tagRefused + 1 }))) ∧
  (∀ (h : Port) (k : FrameKind) (i : Instr) (ws : List W36) (r : Nat) (m : BitVec 32) (d : D28) (e : Ses) (s y : State),
    ((k = .read ∧ i = .read h ws) ∨ (k = .write ∧ i = .write h ws) ∨ (k = .arm ∧ i = .arm h ws)) → Passes s h k ws r m →
    d = wData (ws.getD 0 0) → e = s.ses.get h → y = noted (hear h ws s) h r m →
    (hdGen d = (ctxAt e (hdTag d)).gen ∨ hdGen d = (ctxAt e (hdTag d)).gen + 1) → ctxBusy (ctxAt e (hdTag d)) = true →
    (occupied e = 24 → Gives i s (seqEnd h (refuse h d sCtxFull (y.onSes h fun e => { e with ctxRefused := e.ctxRefused + 1 })))) ∧
    (occupied e ≠ 24 → Gives i s (seqEnd h (refuse h d sTagBusy (y.onSes h fun e => { e with tagRefused := e.tagRefused + 1 }))))) ∧
  (∀ (h : Port) (k : FrameKind) (i : Instr) (ws : List W36) (r : Nat) (m : BitVec 32) (d : D28) (e : Ses) (s y : State),
    ((k = .read ∧ i = .read h ws) ∨ (k = .write ∧ i = .write h ws) ∨ (k = .arm ∧ i = .arm h ws)) → Passes s h k ws r m →
    d = wData (ws.getD 0 0) → e = s.ses.get h → y = noted (hear h ws s) h r m → hdGen d ≠ (ctxAt e (hdTag d)).gen + 1 →
    (hdGen d ≠ (ctxAt e (hdTag d)).gen ∨ ctxBusy (ctxAt e (hdTag d)) = false) →
    Gives i s (seqEnd h (y.onSes h fun e => { e with stalegen := e.stalegen + 1 }))) ∧
  (∀ (h : Port) (d : D28) (reason : BitVec 8) (s : State),
    refuse h d reason s = sendMac h (answerHeader d 1) [voidWord 1 reason] true false s)

/-- R312, R326, R327, R328, R344: an ARM whose pairs all pass holds them under its digest for 5 ms, counted from its answer's entry into the transmit queue; a COMMIT with that digest writes them in order, and one that comes later finds the arm discarded; with another digest it is DENIED, on a context that holds no arm IDLE, and a stale one is counted; an ARM with a refused pair answers each pair's status and a digest of zeros and holds nothing; an arm that lapses is discarded and named by the ARMEXP event, but not with CORE stopped. What the model chose or read by inference here: logs 9, 85 and 123; log 85 for the address that a pair without a usable address word names, a free value, and log 25 for an arm that lapses with TIME stopped. -/
def Obligations.ArmAndCommitFrames : Prop :=
  (∀ (h : Port) (ws : List W36) (r : Nat) (m : BitVec 32) (d : D28) (s x y : State) (js : List (BitVec 12 × BitVec 8)), Passes s h .arm ws r m →
    d = wData (ws.getD 0 0) → Opens s h d → x = setCtx h (hdTag d) ⟨.done, hdGen d⟩ (noted (hear h ws s) h r m) →
    mapState (armPair h) 0 (pairsOf (payloadOf ws (hdCount d))) x = (js, y) → (js.all fun j => j.2 = sOk) = true →
    Gives (.arm h ws) s (seqEnd h (answer h d
      ((js.map fun j => statusWord j.1.toNat j.2) ++ [(macHalves (armDigest (y.ses.get h) ws (hdCount d))).1, (macHalves (armDigest (y.ses.get h) ws (hdCount d))).2])
      false (setCtx h (hdTag d) ⟨.armed ((pairsOf (payloadOf ws (hdCount d))).map fun p => (BitVec.ofNat 12 (fld (wData p.1) 11 0), p.2))
        (armDigest (y.ses.get h) ws (hdCount d)) 0, hdGen d⟩ y)))) ∧
  (∀ (h : Port) (ws : List W36) (r : Nat) (m : BitVec 32) (d : D28) (s y : State) (pairs : List (BitVec 12 × W36)) (dig : BitVec 56)
    (t0 : Nat) (sts : List D28), Passes s h .commit ws r m → d = wData (ws.getD 0 0) →
    ctxAt (s.ses.get h) (hdTag d) = ⟨.armed pairs dig t0, hdGen d⟩ → t0 ≤ 5000 → (payloadAt ws 0, payloadAt ws 1) = macHalves dig →
    mapState (commitPayload h) 0 pairs (setCtx h (hdTag d) ⟨.done, hdGen d⟩ (noted (hear h ws s) h r m)) = (sts, y) →
    Gives (.commit h ws) s (seqEnd h (answer h d sts false y))) ∧
  (∀ (h : Port) (ws : List W36) (r : Nat) (m : BitVec 32) (d : D28) (s : State) (pairs : List (BitVec 12 × W36)) (dig : BitVec 56) (t0 : Nat),
    Passes s h .commit ws r m → d = wData (ws.getD 0 0) → ctxAt (s.ses.get h) (hdTag d) = ⟨.armed pairs dig t0, hdGen d⟩ → t0 ≤ 5000 →
    (payloadAt ws 0, payloadAt ws 1) ≠ macHalves dig →
    Gives (.commit h ws) s (seqEnd h (sessionError h
      ((refuse h d sDenied (setCtx h (hdTag d) ⟨.done, hdGen d⟩ (noted (hear h ws s) h r m))).onSes h fun e => { e with fmterr := e.fmterr + 1 })))) ∧
  (∀ (h : Port) (tag : Fin 24) (pairs : List (BitVec 12 × W36)) (dig : BitVec 56) (g : BitVec 3) (t0 : Nat) (s : State),
    ctxAt (s.ses.get h) tag = ⟨.armed pairs dig t0, g⟩ → (5000 ≤ t0 ∨ s.clk.timeStop = true) → s.clk.coreStop = false →
    Completes (.armExpiry h tag) s ((setCtx h tag ⟨.done, g⟩ s).onSes h fun e => { e with armexp := setBit e.armexp tag })) ∧
  (∀ (h : Port) (ws : List W36) (r : Nat) (m : BitVec 32) (d : D28) (s x y : State) (js : List (BitVec 12 × BitVec 8)), Passes s h .arm ws r m →
    d = wData (ws.getD 0 0) → Opens s h d → x = setCtx h (hdTag d) ⟨.done, hdGen d⟩ (noted (hear h ws s) h r m) →
    mapState (armPair h) 0 (pairsOf (payloadOf ws (hdCount d))) x = (js, y) → (js.all fun j => j.2 = sOk) = false →
    Gives (.arm h ws) s (seqEnd h (answer h d ((js.map fun j => statusWord j.1.toNat j.2) ++ [0, 0]) false y))) ∧
  (∀ (h : Port) (i a : Nat) (w v : W36) (st : BitVec 8) (s : State), isData (2 * i + 1) w = true → a = fld (wData w) 11 0 →
    st = (if !isData (2 * i + 2) v || fld (wData w) 27 12 ≠ 0 then sFormat else (armJudge h a s).getD sOk) →
    armPair h i (w, v) s = ((BitVec.ofNat 12 a, st), noteLast h 2 a st s)) ∧
  (∀ (h : Port) (a : Nat) (s : State),
    (classesAt s a = none → armJudge h a s = some sNoReg) ∧
    (∀ cs, classesAt s a = some cs → armJudge h a s = if mayWrite s h a = false ∨ hasA cs = false then some sDenied else none)) ∧
  (∀ (h : Port) (ws : List W36) (r : Nat) (m : BitVec 32) (d : D28) (s : State), Passes s h .commit ws r m → d = wData (ws.getD 0 0) →
    ctxAt (s.ses.get h) (hdTag d) = ⟨.done, hdGen d⟩ → Gives (.commit h ws) s (seqEnd h (refuse h d sIdle (noted (hear h ws s) h r m)))) ∧
  (∀ (h : Port) (ws : List W36) (r : Nat) (m : BitVec 32) (d : D28) (s : State), Passes s h .commit ws r m → d = wData (ws.getD 0 0) →
    (hdGen d ≠ (ctxAt (s.ses.get h) (hdTag d)).gen ∨ (ctxAt (s.ses.get h) (hdTag d)).state = .free) →
    Gives (.commit h ws) s (seqEnd h ((noted (hear h ws s) h r m).onSes h fun e => { e with stalegen := e.stalegen + 1 }))) ∧
  (∀ (h : Port) (tag : Fin 24) (s : State), ctxArmed (ctxAt (s.ses.get h) tag) = false → Gives (.armExpiry h tag) s s) ∧
  (∀ (h : Port) (tag : Fin 24) (s : State), s.clk.coreStop = true → Gives (.armExpiry h tag) s s) ∧
  (∀ (h : Port) (ws : List W36) (r : Nat) (m : BitVec 32) (d : D28) (s : State) (pairs : List (BitVec 12 × W36)) (dig : BitVec 56) (t0 : Nat),
    Passes s h .commit ws r m → d = wData (ws.getD 0 0) → ctxAt (s.ses.get h) (hdTag d) = ⟨.armed pairs dig t0, hdGen d⟩ → 5000 < t0 →
    Gives (.commit h ws) s (seqEnd h (refuse h d sIdle (expireArm h (hdTag d) (noted (hear h ws s) h r m))))) ∧
  (∀ (h : Port) (tag : Fin 24) (pairs : List (BitVec 12 × W36)) (dig : BitVec 56) (g : BitVec 3) (t0 : Nat) (s : State),
    ctxAt (s.ses.get h) tag = ⟨.armed pairs dig t0, g⟩ → t0 < 5000 → s.clk.timeStop = false → Gives (.armExpiry h tag) s s) ∧
  (∀ (h : Port) (tag : Fin 24) (pairs : List (BitVec 12 × W36)) (dig : BitVec 56) (g : BitVec 3) (t0 : Nat) (s : State),
    ctxAt (s.ses.get h) tag = ⟨.armed pairs dig t0, g⟩ → ctxAt ((tick s).ses.get h) tag =
      ⟨.armed pairs dig (if (s.ports.get h).tx.any (armAnswer tag g) then t0 else t0 + 1), g⟩) ∧
  (∀ (h : Port) (i a : Nat) (w v : W36) (s : State), isData (2 * i + 1) w = false → a = (Config.random s.free).toNat % 4096 →
    armPair h i (w, v) s = ((BitVec.ofNat 12 a, sFormat), noteLast h 2 a sFormat { s with free := s.free + 1 }))

/-- R12, R321, R324, R329, R330, R333, R334, R344: RETIRE answers one status per entry, which repeats the entry's DATA[7:0], a free value for an entry that is no data word, frees an operation tag of its generation, and retires an event tag, whose pending event is then due; a LEASE with the next beat renews the port's lease and its beat, its beat alone while GUARD, which times the lease, is stopped; a lease lapses after its period and an unserved offer or request after 100 ms while CORE runs; with GUARD stopped no lease event arises and LEFT stands. What the model chose or read by inference here: logs 57, 85, 101, 123, 134 and 169. -/
def Obligations.RetireAndLeaseFrames : Prop :=
  (∀ (h : Port) (ws : List W36) (r : Nat) (m : BitVec 32) (d : D28) (s y : State) (sts : List D28), Passes s h .retire ws r m →
    d = wData (ws.getD 0 0) → mapState (retireEntry h) 1 (payloadOf ws (hdCount d)) (noted (hear h ws s) h r m) = (sts, y) →
    Gives (.retire h ws) s (seqEnd h (answer h d sts false y))) ∧
  (∀ (h : Port) (i : Nat) (w : W36) (g : BitVec 3) (t : Nat) (s : State), isData i w = true → fld (wData w) 27 8 = 0 → t = fld (wData w) 7 3 →
    g = BitVec.ofNat 3 (fld (wData w) 2 0) → t < 24 →
    (retireEntry h i w s).2 = if g = (ctxAt (s.ses.get h) t).gen then setCtx h t ⟨.free, g⟩ s else s) ∧
  (∀ (h : Port) (ws : List W36) (r : Nat) (m : BitVec 32) (d : D28) (b : BitVec 24) (s y : State), Passes s h .lease ws r m →
    d = wData (ws.getD 0 0) → b = BitVec.ofNat 24 (fld (payloadAt ws 0) 23 0) →
    ((s.ses.get h).beatSeen = false ∨ b = (s.ses.get h).beat + 1) →
    y = ((hear h ws s).onSes h fun e =>
      { e with rxseq := r, marks := m, leaseValid := true, leaseAt := guardNow s, leaseWarn := false, beat := b, beatSeen := true, leaseSeen := true }) → s.clk.guardStop = false →
    Gives (.lease h ws) s (seqEnd h (answer h d [sesLease y h] false y))) ∧
  (∀ (h : Port) (ws : List W36) (r : Nat) (m : BitVec 32) (d : D28) (b : BitVec 24) (s : State), Passes s h .lease ws r m →
    d = wData (ws.getD 0 0) → b = BitVec.ofNat 24 (fld (payloadAt ws 0) 23 0) → (s.ses.get h).beatSeen = true → b ≠ (s.ses.get h).beat + 1 →
    Gives (.lease h ws) s (seqEnd h (refuseFormat h .lease d (noted (hear h ws s) h r m)))) ∧
  (∀ (h : Port) (s : State), (s.ses.get h).leaseValid = true → s.clk.guardStop = false →
    (s.ses.get h).leaseAt + leaseUs s ≤ guardNow s → ∃ t, exec (.leaseExpiry h) s = .next t ∧ t.still = (s.onSes h fun e => { e with leaseValid := false }).still ∧ t.flt.leaseLost = leaseLost t) ∧
  (∀ (t0 : Nat) (s : State), s.auth.offer = some t0 → s.auth.request = none → s.since t0 100000 = true → s.clk.coreStop = false →
    Completes .handoverLapse s { s with auth := { s.auth with offer := none } }) ∧
  (∀ (t0 : Nat) (s : State), s.auth.request = some t0 → s.auth.offer = none → s.since t0 100000 = true → s.clk.coreStop = false →
    Completes .handoverLapse s { s with auth := { s.auth with request := none } }) ∧
  (∀ (h : Port) (i : Nat) (w : W36) (d : D28) (t : Nat) (g : BitVec 3) (st : BitVec 8) (s : State), d = wData w → t = fld d 7 3 →
    g = BitVec.ofNat 3 (fld d 2 0) →
    isData i w = true → st = (if fld d 27 8 ≠ 0 ∨ 30 ≤ t then sFormat
      else if g ≠ (if t < 24 then (ctxAt (s.ses.get h) t).gen else ((s.ses.get h).evs.getD (t - 24) EvTag.reset).gen) then sDenied else sOk) →
    (retireEntry h i w s).1 = pack28 [(8, fld d 7 0), (0, st.toNat)] ∧ (st ≠ sOk → (retireEntry h i w s).2 = s)) ∧
  (∀ (h : Port) (i t : Nat) (w : W36) (v : EvTag) (s : State), isData i w = true → fld (wData w) 27 8 = 0 → t = fld (wData w) 7 3 →
    24 ≤ t → t < 30 → (s.ses.get h).evs[t - 24]? = some v → v.gen = BitVec.ofNat 3 (fld (wData w) 2 0) → v.out = true →
    ((retireEntry h i w s).2.ses.get h).evs[t - 24]? = some { v with out := false, due := v.pend, pend := false }) ∧
  (∀ (h : Port) (s : State), ((s.ses.get h).leaseValid = false ∨ s.clk.guardStop = true) → Gives (.leaseExpiry h) s s) ∧
  (∀ (h : Port) (ws : List W36) (r : Nat) (m : BitVec 32) (d : D28) (b : BitVec 24) (s y : State), Passes s h .lease ws r m →
    d = wData (ws.getD 0 0) → b = BitVec.ofNat 24 (fld (payloadAt ws 0) 23 0) →
    ((s.ses.get h).beatSeen = false ∨ b = (s.ses.get h).beat + 1) →
    y = ((hear h ws s).onSes h fun e => { e with rxseq := r, marks := m, beat := b, beatSeen := true, leaseSeen := true }) → s.clk.guardStop = true →
    Gives (.lease h ws) s (seqEnd h (answer h d [sesLease y h] false y))) ∧
  (∀ s : State, s.clk.coreStop = true → Gives .handoverLapse s s) ∧
  (∀ (h : Port) (s : State), s.clk.guardStop = true → warnLease h s = s ∧ ((s.ses.get h).leaseValid = true →
    sesLease s h = pack28 [(11, ((s.ses.get h).leaseAt + leaseUs s - guardNow s - 1) / 1000), (0, fld s.auth.cfg 27 17)])) ∧
  (∀ (h : Port) (s : State), s.clk.guardStop = false → (s.ses.get h).leaseValid = true → (s.ses.get h).leaseWarn = false →
    4 * ((s.ses.get h).leaseAt + leaseUs s) < leaseUs s + 4 * guardNow s → ((warnLease h s).ses.get h).leaseWarn = true) ∧
  (∀ (h : Port) (i : Nat) (w : W36) (s : State), isData i w = false →
    retireEntry h i w s = (pack28 [(8, (Config.random s.free).toNat % 256), (0, 9)], { s with free := s.free + 1 }))

/-- R331, R332: with HANDOVER = 0 no action is served, and else each where R331 serves it; GIVE opens an offer, TAKE moves authority to a port with AUTH and a lease on an open offer or when the holder has no lease, REQUEST opens a request and REFUSE closes one; each is answered with SES_AUTH and brings the AUTH event, and one that may not be served is DENIED. A TAKE ends injection while GUARD runs (R214). What the model chose or read by inference here: logs 57, 69, 123 and 172. -/
def Obligations.AuthorityFrames : Prop :=
  (∀ (h : Port) (i : Instr) (a : Nat) (ws : List W36) (r : Nat) (m : BitVec 32) (d : D28) (s x : State),
    ((a = 0 ∧ i = .give h ws) ∨ (a = 1 ∧ i = .take h ws) ∨ (a = 2 ∧ i = .request h ws) ∨ (a = 3 ∧ i = .refuse h ws)) →
    Passes s h .handover ws r m → fld (payloadAt ws 0) 1 0 = a → d = wData (ws.getD 0 0) → actionServed h a s = true →
    x = actionEffect h a { noted (hear h ws s) h r m with auth := { s.auth with lastAct := BitVec.ofNat 2 a } } →
    Gives i s (seqEnd h (event 26 (answer h d [sesAuth x] false x)))) ∧
  (∀ (h : Port) (i : Instr) (a : Nat) (ws : List W36) (r : Nat) (m : BitVec 32) (d : D28) (s : State),
    ((a = 0 ∧ i = .give h ws) ∨ (a = 1 ∧ i = .take h ws) ∨ (a = 2 ∧ i = .request h ws) ∨ (a = 3 ∧ i = .refuse h ws)) →
    Passes s h .handover ws r m → fld (payloadAt ws 0) 1 0 = a → d = wData (ws.getD 0 0) → actionServed h a s = false →
    Gives i s (seqEnd h (refuse h d sDenied (noted (hear h ws s) h r m)))) ∧
  (∀ (h : Port) (s : State), (actionEffect h 0 s).auth = { s.auth with offer := some s.now, request := none } ∧
    (actionEffect h 1 s).auth = { s.auth with holder := some h, granted := true, offer := none, request := none, moves := s.auth.moves + 1 } ∧
    (s.clk.guardStop = false → (actionEffect h 1 s).flt.inj = false ∧ (actionEffect h 1 s).flt.force = 0) ∧
    (actionEffect h 2 s).auth = { s.auth with request := some s.now } ∧ (actionEffect h 3 s).auth = { s.auth with request := none }) ∧
  (∀ (p h : Port) (t : Fin 24) (s : State), s.auth.holder = some p →
    ctxArmed (ctxAt ((actionEffect h 1 s).ses.get p) t) = false) ∧
  (∀ (h : Port) (a : Nat) (s : State), bitAt s.auth.cfg 15 = false → actionServed h a s = false) ∧
  (∀ (h : Port) (s : State), bitAt s.auth.cfg 15 = true →
    (actionServed h 0 s = true ↔ s.auth.holder = some h) ∧
    (actionServed h 1 s = true ↔ s.auth.holder ≠ some h ∧ (s.ses.get h).auth = true ∧ (s.ses.get h).leaseValid = true ∧
      ((∃ t0, s.auth.offer = some t0 ∧ s.now < t0 + 100000) ∨ s.auth.holder = none ∨
        ∃ p, s.auth.holder = some p ∧ (s.ses.get p).leaseValid = false)) ∧
    (actionServed h 2 s = true ↔ s.auth.holder ≠ some h ∧ (s.ses.get h).auth = true ∧
      ¬∃ t0, s.auth.request = some t0 ∧ s.now < t0 + 100000) ∧
    (actionServed h 3 s = true ↔ s.auth.holder = some h ∧ ∃ t0, s.auth.request = some t0 ∧ s.now < t0 + 100000))

/-- R302, R333, R334: a due event is sent with its next generation and stays out until its RETIRE; an unretired one is sent again after 10 ms with the same generation, an ARMEXP with the arms discarded since as well; an event frame from a host that verifies is refused with FORMAT. What the model chose or read by inference here: log 123. -/
def Obligations.EventCommands : Prop :=
  (∀ (h : Port) (i : Fin 6) (s : State), linkUp s h = true → (evTag s h i).due = true → i ≠ 4 →
    Gives (.eventSend h i) s (sendEvent h i (s.onSes h fun e =>
      { e with evs := e.evs.modify i fun v => { v with gen := v.gen + 1, out := true, due := false } }))) ∧
  (∀ (h : Port) (s : State), linkUp s h = true → (evTag s h 4).due = true →
    Gives (.eventSend h 4) s (sendEvent h 4 (s.onSes h fun e =>
      { e with evs := e.evs.modify 4 fun v => { v with gen := v.gen + 1, out := true, due := false }, armsent := e.armexp, armexp := 0 }))) ∧
  (∀ (h : Port) (i : Fin 6) (s : State), linkUp s h = true → (evTag s h i).out = true → s.since (evTag s h i).sentAt 10000 = true →
    Gives (.eventResend h i) s (sendEvent h i s)) ∧
  (∀ (h : Port) (i : Fin 6) (ks : Keys) (s : State), (s.ses.get h).keys = some ks → (s.ses.get h).established = true →
    (s.ses.get h).rxseq < 0xF00000 → (s.ses.get h).txseq < 0xF00000 →
    (((sendEvent h i s).ses.get h).txseq = (s.ses.get h).txseq + 1 ∧ (evTag (sendEvent h i s) h i).gen = (evTag s h i).gen)) ∧
  (∀ (h : Port) (ws : List W36) (r : Nat) (m : BitVec 32) (d : D28) (s : State), receiving s h = true → startsFrame .event (ws.getD 0 0) = true →
    d = wData (ws.getD 0 0) → hdCount d + 4 ≤ ws.length → authCheck s (s.ses.get h) .event ws (hdCount d) = .ok →
    seqOf (s.ses.get h) ws (hdCount d) = .accepted r m →
    Gives (.hostEventFrame h ws) s (seqEnd h (refuseFormat h .event d (noted (hear h ws s) h r m)))) ∧
  (∀ (h : Port) (s : State), eventPayload h 4 s = [d28 ((s.ses.get h).armsent ||| (s.ses.get h).armexp).toNat]) ∧
  (∀ (h : Port) (i : Fin 6) (s : State), (linkUp s h = false ∨ (evTag s h i).due = false) → Gives (.eventSend h i) s s) ∧
  (∀ (h : Port) (i : Fin 6) (s : State), (linkUp s h = false ∨ (evTag s h i).out = false) → Gives (.eventResend h i) s s)

/-! ### Self-test (16) -/

/-- R405 to R407, R410 to R412, R414, R416 to R419, R421: BIST_CMD starts the set in ARMING, where none runs, aborts command and in-service tests, or queues one; a test starts in its lane when it is next, of the set in its lane's order, of the queue in its order, then in service after its interval in ascending order, each within the converters and the power that are free and, of a channel, once that has been off for 1 ms; its steps are judged by their limits, its result is recorded with its time, and a failure raises BIST_FAIL; TLOGIC takes its slices one by one, and a slice of a command's run that the set has overtaken counts for neither, its command waiting for the set's end; the set ends with each test's PASS or FAIL, and a set without a FAIL sets STOK; a test that has taken twice its time, for TLOGIC that of twelve slices, ends INCOMPLETE. A request for service ends the running test that its rule names with INCOMPLETE and its detail, and queues a command's test again: a turn-on of a unit with the channel under test, MEAS_ZERO naming CURRn's channel, a snapshot MARCH, a HELLO with keys to check it, a KEY, a token or the check of a page CRYPTO, the last MARCH too; another test goes on. What the model chose or read by inference here: logs 22, 23, 98 and 113; log 25 for a test that ends INCOMPLETE with TIME stopped, and log 77 for which HELLO, KEY or token takes CRYPTO and for the command's test that goes back to the head of the queue. -/
def Obligations.SelfTestCommands : Prop :=
  (∀ (a : Access) (s : State), MayStore s a 0x680 → s.dev.phase = .arming → s.bist.setPhase ≠ .running →
    CompletesStatus (.bistStartup a) s sOk (startSet s)) ∧
  (∀ (h : Port) (s : State), MayStore s (.write h) 0x680 → (s.dev.phase ≠ .arming ∨ s.bist.setPhase = .running) →
    GivesStatus (.bistStartup (.write h)) s sDenied (noteLast h 1 0x680 sDenied s)) ∧
  (∀ (a : Access) (s : State), MayStore s a 0x680 → GivesStatus (.bistAbort a) s sOk (abortTests s)) ∧
  (∀ s : State, (abortTests s).bist.queue = [] ∧ ∀ l r, (abortTests s).bist.lane l = some r → r.origin = 0) ∧
  (∀ (a : Access) (test : Fin 32) (s : State), MayStore s a 0x680 → s.bist.queue.contains test.val = false → laneRunning s.bist test = none →
    GivesStatus (.bistRun a test) s sOk { s with bist := { s.bist with queue := s.bist.queue ++ [test.val] } }) ∧
  (∀ (test : Fin 32) (s : State), setStarts s test = true → Gives (.bistTestStart test) s (startTest (setLane test) 0 test s)) ∧
  (∀ (test : Fin 32) (l : Lane) (s : State), setStarts s test = false → commandStarts s test = true → freeLane s.bist test = some l →
    Gives (.bistTestStart test) s (startTest l 2 test s)) ∧
  (∀ (test : Fin 32) (l : Lane) (run : Running) (r : TestEnd) (s : State), laneRunning s.bist test = some (l, run) →
    s.since run.at_ (testUs test) = true → takenUs s run ≤ limitUs test → s.coreRuns = true → test.val ≠ 29 → run.origin ≠ 0 →
    s.bist.setPhase ≠ .running →
    ((∃ vs, r = .steps vs ∧ test.val < 29 ∧ vs.length = stepCount test ∧ firstBad s test vs = none) ∨ (r = .signature true ∧ 29 < test.val)) →
    Gives (.bistTestDone test r) s { s with bist := { (s.bist.setLane l none) with
      res := s.bist.res.set run.test (some ⟨1, run.origin, 0, 0⟩), when_ := s.bist.when_.set run.test (some s.now),
      fails := clearBit s.bist.fails run.test } }) ∧
  (∀ (test : Fin 32) (l : Lane) (run : Running) (r : TestEnd) (i : Nat) (det : BitVec 2) (s : State), laneRunning s.bist test = some (l, run) →
    s.since run.at_ (testUs test) = true → takenUs s run ≤ limitUs test → s.coreRuns = true → test.val ≠ 29 →
    ((∃ vs, r = .steps vs ∧ test.val < 29 ∧ vs.length = stepCount test ∧ firstBad s test vs = some i ∧ det = 1) ∨
      (r = .signature false ∧ 29 < test.val ∧ i = 0 ∧ det = 2)) →
    Gives (.bistTestDone test r) s (testResult run (some (i, det)) { s with bist := s.bist.setLane l none }) ∧
    ∃ t, exec (.bistTestDone test r) s = .next t ∧ t.bist.fails.getLsbD test = true ∧ t.bist.newfail = true ∧ seen t 119) ∧
  (∀ (test : Fin 32) (l : Lane) (run : Running) (s : State), laneRunning s.bist test = some (l, run) → s.coreRuns = true →
    (limitUs test ≤ takenUs s run ∨ s.clk.timeStop = true) → Gives (.bistTestTimeout test) s (bistIncomplete l 0 s)) ∧
  (∀ (test : Fin 32) (l : Lane) (run : Running) (r : TestEnd) (s : State), laneRunning s.bist test = some (l, run) →
    s.since run.at_ (testUs test) = true → s.coreRuns = true → limitUs test < takenUs s run →
    Gives (.bistTestDone test r) s (bistIncomplete l 0 s)) ∧
  (∀ (l : Lane) (run : Running) (ok : Bool) (s : State), laneRunning s.bist 29 = some (l, run) → s.since run.at_ 2000 = true →
    takenUs s run ≤ 48000 → s.coreRuns = true →
    Gives (.bistTestDone 29 (.signature ok)) s (keepCommand run (sliceDone l run (!ok) s))) ∧
  (∀ (l : Lane) (run : Running) (bad : Bool) (n : Nat) (b : Bist) (s : State), s.bist.slice = some n → overtaken run s = false → setBit s.bist.slices n ≠ allChans →
    b = (sliceDone l run bad s).bist →
    b.slices = setBit s.bist.slices n ∧ b.slice = none ∧ b.sliceUs = takenUs s run ∧ b.lane l = none ∧ b.res = s.bist.res ∧
      b.sliceBad = if bad then some (s.bist.sliceBad.getD n) else s.bist.sliceBad) ∧
  (∀ (l : Lane) (run : Running) (bad : Bool) (n : Nat) (s : State), s.bist.slice = some n → overtaken run s = false → setBit s.bist.slices n = allChans →
    sliceDone l run bad s = testResult run
      ((if bad then some (s.bist.sliceBad.getD n) else s.bist.sliceBad).map fun i => (i, 2))
      { s with bist := { (s.bist.setLane l none) with slices := 0, slice := none, sliceBad := none, sliceUs := 0 } }) ∧
  (∀ (run : Running) (s : State), takenUs s run = if run.test = 29 then s.bist.sliceUs + (s.now - run.at_) else s.now - run.at_) ∧
  (∀ test : Nat, test < 32 → limitUs test = if test < 24 then 5000 else if test < 28 then 2000 else
    if test = 28 then 12000 else if test = 29 then 48000 else if test = 30 then 8000 else 24000) ∧
  (∀ (l : Lane) (det : BitVec 2) (r : Running) (b : Bist) (s : State), s.bist.lane l = some r → b = (bistIncomplete l det s).bist →
    b.lane l = none ∧ b.res = s.bist.res.set r.test (some ⟨3, r.origin, 0, det⟩) ∧ b.when_ = s.bist.when_ ∧
      b.queue = (if det = 1 ∧ r.origin = 2 then r.test :: s.bist.queue else s.bist.queue) ∧
      b.again = (if det = 1 ∧ r.test = 30 then s.now + 10000 else s.bist.again) ∧
      b.againMarch = (if det = 1 ∧ r.test = 31 then s.now + 10000 else s.bist.againMarch) ∧
      b.slices = (if r.test = 29 ∧ det ≠ 1 then 0 else s.bist.slices)) ∧
  (∀ s : State, startSet s = { s with bist := { s.bist with
    setPhase := .running, setLeft := List.range 32, setFail := false, slices := 0, sliceBad := none, sliceUs := 0 } }) ∧
  (∀ (l : Lane) (origin : BitVec 2) (test : Nat) (s : State),
    (startTest l origin test s).bist.lane l = some ⟨test, origin, s.now⟩ ∧
    (startTest l origin test s).bist.queue = (if origin = 2 then s.bist.queue.filter (· ≠ test) else s.bist.queue) ∧
    (startTest l origin test s).bist.slice = (if test = 29 then nextSlice s else s.bist.slice) ∧
    (s.trust.apState = 2 → (startTest l origin 31 s).trust.apState = 0 ∧ (startTest l origin 31 s).trust.apWords = []) ∧
    ((test ≠ 31 ∨ s.trust.apState ≠ 2) → (startTest l origin test s).trust = s.trust)) ∧
  (∀ (q : Nat) (s : State), q ∈ s.bist.queue → q < s.bist.res.length → laneRunning s.bist q = none →
    (abortTests s).bist.res[q]? = some (some ⟨3, 2, 0, 2⟩)) ∧
  (∀ (test : Fin 32) (l : Lane) (s : State), setStarts s test = false → commandStarts s test = false → serviceStarts s test = true →
    freeLane s.bist test = some l → Gives (.bistTestStart test) s (startTest l 1 test s)) ∧
  (∀ (test : Fin 32) (s : State), setStarts s test = false → commandStarts s test = false → serviceStarts s test = false →
    Gives (.bistTestStart test) s s) ∧
  (∀ (test : Fin 32) (r : TestEnd) (s : State), laneRunning s.bist test = none →
    Gives (.bistTestDone test r) s s ∧ Gives (.bistTestTimeout test) s s) ∧
  (∀ (a : Access) (test : Fin 32) (s : State), MayStore s a 0x680 → (s.bist.queue.contains test.val = true ∨ laneRunning s.bist test ≠ none) →
    GivesStatus (.bistRun a test) s sOk s) ∧
  (∀ (c : Chan) (i : Nat) (v : Int), i < 42 → compStep c i v = (c.retired.getLsbD i || decide ((v - 12000).natAbs ≤ 1200))) ∧
  (∀ (c : Chan) (v : Int), compStep c 42 v = decide ((v - 1000 * fld c.scth 7 0).natAbs ≤ 50 * fld c.scth 7 0 + 1000)) ∧
  (∀ (test : Fin 32) (l : Lane) (run : Running) (r : TestEnd) (s : State), laneRunning s.bist test = some (l, run) →
    s.since run.at_ (testUs test) = true → takenUs s run ≤ limitUs test → s.coreRuns = true → test.val ≠ 29 → run.origin = 0 →
    ((∃ vs, r = .steps vs ∧ test.val < 29 ∧ vs.length = stepCount test ∧ firstBad s test vs = none) ∨ (r = .signature true ∧ 29 < test.val)) →
    Gives (.bistTestDone test r) s (setEnd { s with bist := { (s.bist.setLane l none) with
      res := s.bist.res.set run.test (some ⟨1, 0, 0, 0⟩), when_ := s.bist.when_.set run.test (some s.now),
      fails := clearBit s.bist.fails run.test, setLeft := s.bist.setLeft.filter (· ≠ run.test) } })) ∧
  (∀ s : State, s.bist.setPhase = .running →
    (s.bist.setLeft ≠ [] → setEnd s = s) ∧
    (s.bist.setLeft = [] → (setEnd s).bist.setPhase = (if s.bist.setFail then .failed else .passed) ∧
      (setEnd s).dev.stok = (s.dev.stok || !s.bist.setFail))) ∧
  (∀ (run : Running) (fail : Option (Nat × BitVec 2)) (s : State),
    (testResult run fail s).bist.setLeft = (if run.origin = 0 then s.bist.setLeft.filter (· ≠ run.test) else s.bist.setLeft) ∧
    (testResult run fail s).bist.setFail = (s.bist.setFail || (run.origin == 0 && fail.isSome))) ∧
  (∀ (l : Lane) (run : Running) (bad : Bool) (n : Nat) (s : State), s.bist.slice = some n → overtaken run s = true →
    sliceDone l run bad s = { s with bist := { (s.bist.setLane l none) with slice := none } }) ∧
  (∀ (run : Running) (s : State), run.test = 29 → run.origin = 2 → s.bist.setPhase = .running →
    overtaken run s = true ∧ keepCommand run s = { s with bist := { s.bist with queue := 29 :: s.bist.queue } }) ∧
  (∀ (l : Lane) (r : Running) (n u : Nat) (s : State), s.bist.lane l = some r → (∀ k, k ≠ l → s.bist.lane k = none) → testChannel s.bist r = some n →
    (n ∈ members s u → returnUnit u s = bistIncomplete l 1 s ∧ (attempt u s).bist = (bistIncomplete l 1 s).bist ∧
      (gatesOn true u s).bist = (bistIncomplete l 1 s).bist) ∧
    (n ∉ members s u → returnUnit u s = s)) ∧
  (∀ (l : Lane) (r : Running) (u : Nat) (s : State), s.bist.lane l = some r → (∀ k, k ≠ l → s.bist.lane k = none) → testChannel s.bist r = none → returnUnit u s = s) ∧
  (∀ (l : Lane) (r : Running) (d : D28) (s : State), s.bist.lane l = some r → (∀ k, k ≠ l → s.bist.lane k = none) →
    (writeZero d s).bist = if 12 ≤ r.test ∧ r.test < 24 ∧ bitAt d (r.test - 12) = true then (bistIncomplete l 1 s).bist else s.bist) ∧
  (∀ (l : Lane) (r : Running) (p : Port) (d : D28) (s : State), s.bist.lane l = some r → (∀ k, k ≠ l → s.bist.lane k = none) → bitAt d 1 = false → bitAt d 0 = true →
    (writeMeasCtl p d s).bist = if r.test = 31 then (bistIncomplete l 1 s).bist else s.bist) ∧
  (∀ (l : Lane) (r : Running) (crypto march later : Bool) (s : State), s.bist.lane l = some r → (∀ k, k ≠ l → s.bist.lane k = none) →
    (takeUnits crypto march later s).bist =
      { (if (crypto = true ∧ r.test = 30) ∨ (march = true ∧ r.test = 31) then (bistIncomplete l 1 s).bist else s.bist) with
        yieldCrypto := s.bist.yieldCrypto || (later && crypto && decide (r.test = 30))
        yieldMarch := s.bist.yieldMarch || (later && march && decide (r.test = 31)) }) ∧
  (∀ (h : Port) (ws : List W36) (d : D28) (s : State),
    (s.trust.owner.isSome = true → s.trust.key.isSome = true → (serveHello h ws d s).bist = (takeUnits true false false s).bist) ∧
    ((s.trust.owner = none ∨ s.trust.key = none) → (serveHello h ws d s).bist = s.bist) ∧
    (serveKey h ws d s).bist = (takeUnits true false true s).bist) ∧
  (∀ (r : Running) (s : State), (testChannel s.bist r = if r.test < 12 then some r.test else if r.test < 24 then some (r.test - 12)
    else if r.test = 29 then s.bist.slice else none)) ∧
  (∀ (d : D28) (s : State), (writeFpage d s).2.bist = if fld d 10 0 ≤ s.flash.lastPg then (takeUnits true true true s).bist else s.bist) ∧
  (∀ (ws : List W36) (s : State), s.clk.coreStop = false →
    Gives (.dbgToken ws) s (onTrust (fun t => { t with token := if tokenOk s ws then some (BitVec.ofNat 3 (fld (wData (ws.getD 0 0)) 2 0)) else none })
      (takeUnits true false false { s with tap := { s.tap with opcode := 0x11 } }))) ∧
  (setOrder .a = [0, 1, 2, 3, 4, 5, 6, 7, 8, 9, 10, 11, 24, 25, 26, 27, 28] ∧ setOrder .b = [18, 19, 20, 21, 22, 23, 12, 13, 14, 15, 16, 17] ∧
    setOrder .d = [29, 30, 31] ∧ ∀ (k : Nat), k < 32 → k ∈ setOrder (setLane k)) ∧
  (∀ (test : Nat) (s : State), setStarts s test = true ↔ s.bist.setPhase = .running ∧ s.bist.lane (setLane test) = none ∧
    ∃ a b, setOrder (setLane test) = a ++ test :: b ∧ test ∈ s.bist.setLeft ∧ testReady s test = true ∧
      ∀ k ∈ a, k ∈ s.bist.setLeft → testReady s k = false) ∧
  (∀ (test : Nat) (s : State), commandStarts s test = true ↔ s.bist.setPhase ≠ .running ∧ (freeLane s.bist test).isSome = true ∧
    ∃ a b, s.bist.queue = a ++ test :: b ∧ testReady s test = true ∧
      ∀ k ∈ a, testReady s k = false ∨ freeLane s.bist k = none) ∧
  (∀ (test : Nat) (s : State), serviceStarts s test = true ↔ (s.bist.setPhase = .passed ∨ s.bist.setPhase = .failed) ∧
    (∀ k ∈ s.bist.queue, testReady s k = false ∨ freeLane s.bist k = none) ∧ (freeLane s.bist test).isSome = true ∧
    test < 29 ∧ testDue s test = true ∧ testReady s test = true ∧
    ∀ k, k < test → testDue s k = false ∨ testReady s k = false ∨ freeLane s.bist k = none) ∧
  (∀ (test : Nat) (s : State), testDue s test = true ↔ ∃ i, testInterval test = some i ∧
    ∀ t0, s.bist.when_.getD test none = some t0 → s.since t0 i = true) ∧
  (∀ k : Nat, (k < 24 → testInterval k = some 600000000) ∧ (24 ≤ k → k < 28 → testInterval k = some 1000000) ∧
    testInterval 28 = some 10000000 ∧ (29 ≤ k → testInterval k = none)) ∧
  (∀ (test : Nat) (b : Bist), (test < 29 → freeLane b test = if b.laneA = none then some .a else if b.laneB = none then some .b else none) ∧
    (29 ≤ test → freeLane b test = if b.laneD = none then some .d else none)) ∧
  (∀ (test : Nat) (s : State), testReady s test = true → s.dev.struct = true ∧ s.coreRuns = true ∧ s.flt.safe = false ∧ s.tbase.frozen = false ∧
    s.sup.ritesWait = none ∧
    (∀ r ∈ runningTests s.bist, r.test ≠ test ∧ (testConverter test ≠ none → testConverter r.test ≠ testConverter test)) ∧
    extraPower s.bist + testPower test ≤ 180 ∧ (test < 12 → channelFree s test = true) ∧ (12 ≤ test → test < 24 → channelFree s (test - 12) = true) ∧
    (test = 29 → (nextSlice s).isSome = true) ∧ (test = 30 → s.bist.again ≤ s.now ∧ enginesAsked s = false) ∧
    (test = 31 → s.bist.againMarch ≤ s.now ∧ s.trust.apState ≠ 1 ∧ s.meas.snaps.h0 = none ∧ s.meas.snaps.h1 = none)) ∧
  (∀ (n : Nat) (s : State), channelFree s n = true ↔ underTest s n = false ∧ ∃ t0, s.bist.offSince.getD n none = some t0 ∧ s.since t0 1000 = true)

/-! ### Register access (00, 05, 14) -/

/-- R3, R326, R348, R365, R366, R369, R372: a written word is NO_REG where no register stands, then FORMAT for a nonzero reserved bit, then DENIED without the right or the class; a refused word changes nothing but its record; the ARM and the COMMIT judge in the same order, and a COMMIT reaches no field of class L, Q, K or X, unless the image overrides its class: every such row is DENIED at its ARM; a one clears a bit of class K and a zero keeps it; a word for a stopped domain is held, and the mirror of a K bit clears at once. What the model chose or read by inference here: logs 12, 42 and 101. -/
def Obligations.RegisterWriteIsJudgedInOrder : Prop :=
  (∀ (h : Port) (addr : BitVec 12) (d : D28) (s : State), linkUp s h = true → classesAt s addr.toNat = none →
    GivesStatus (.registerWrite (.write h) addr d) s sNoReg (noteLast h 1 addr.toNat sNoReg s) ∧
    GivesStatus (.registerWrite (.commit h) addr d) s sNoReg (noteLast h 2 addr.toNat sNoReg s)) ∧
  (∀ (h : Port) (addr : BitVec 12) (d : D28) (cs : List Cls) (s : State), linkUp s h = true → classesAt s addr.toNat = some cs →
    resv (reservedAt s addr.toNat) d = true →
    GivesStatus (.registerWrite (.write h) addr d) s sFormat (noteLast h 1 addr.toNat sFormat s)) ∧
  (∀ (h : Port) (addr : BitVec 12) (d : D28) (cs : List Cls) (s : State), linkUp s h = true → classesAt s addr.toNat = some cs →
    resv (reservedAt s addr.toNat) d = false → (mayWrite s h addr.toNat = false ∨ hasDirect cs = false) →
    GivesStatus (.registerWrite (.write h) addr d) s sDenied (noteLast h 1 addr.toNat sDenied s)) ∧
  (∀ (h : Port) (addr : BitVec 12) (d : D28) (cs : List Cls) (s : State), linkUp s h = true → classesAt s addr.toNat = some cs →
    (mayWrite s h addr.toNat = false ∨ hasA cs = false) →
    GivesStatus (.registerWrite (.commit h) addr d) s sDenied (noteLast h 2 addr.toNat sDenied s)) ∧
  (∀ (addr : BitVec 12) (d : D28) (cs : List Cls) (s : State), s.coreRuns = true → tokenRight s 2 = true →
    classesAt s addr.toNat = some cs → resv (reservedAt s addr.toNat) d = false → hasDirect cs = false →
    GivesStatus (.registerWrite .dbg addr d) s sDenied s) ∧
  (∀ (a : Access) (t : Fin 20) (d : D28) (s : State), MayStore s a (0x102 + 8 * t) → fld d 27 24 = 0 → (s.tm t).tick = true →
    (s.tm t).func = 1 →
    GivesStatus (.registerWrite a (BitVec.ofNat 12 (0x102 + 8 * t)) d) s sOk (s.onTm t fun m => { m with dutySh := d })) ∧
  (∀ (a : Access) (d : D28) (s : State), MayStore s a 0x1A1 → fld d 27 5 = 0 → s.clk.timeStop = false →
    GivesStatus (.registerWrite a 0x1A1 d) s sOk { s with tbase := { s.tbase with lost := s.tbase.lost && !bitAt d 3 } }) ∧
  (∀ (h : Port) (i : Instr) (addr : Nat) (s : State), linkUp s h = true → overrideOf s addr = none →
    ((∃ n : Fin 12, (i = .ctlOn (.commit h) n ∨ i = .ctlOff (.commit h) n ∨ ∃ c, i = .brcmdWrite (.commit h) n c) ∧ addr = 0x200 + 32 * n) ∨
      (∃ (n : Fin 12) (d : D28), i = .ilimWrite (.commit h) n d ∧ addr = 0x204 + 32 * n) ∨
      (∃ (t : Fin 20) (d : D28), i = .tmrPerWrite (.commit h) t d ∧ addr = 0x101 + 8 * t) ∨
      (∃ (t : Fin 20) (d : D28), i = .tmrEdgeWrite (.commit h) t d ∧ addr = 0x104 + 8 * t) ∨
      (((∃ k, i = .clapper (.commit h) k) ∨ i = .clapUnr (.commit h)) ∧ addr = 0x1A0) ∨
      ((∃ d, i = .measCalsel (.commit h) d) ∧ addr = 0x3CE) ∨
      (((∃ g, i = .snapshot (.commit h) g) ∨ i = .snapshotRelease (.commit h)) ∧ addr = 0x3C0) ∨
      ((∃ d, i = .logFetch (.commit h) d) ∧ addr = 0x6C3) ∨ ((∃ d, i = .fpageSelect (.commit h) d) ∧ addr = 0x740) ∨
      ((i = .bistStartup (.commit h) ∨ i = .bistAbort (.commit h) ∨ ∃ k, i = .bistRun (.commit h) k) ∧ addr = 0x680)) →
    GivesStatus i s sDenied (noteLast h 2 addr sDenied s)) ∧
  (∀ (a : Access) (d : D28) (s : State), MayStore s a 0x1A1 → fld d 27 5 = 0 → s.clk.timeStop = true →
    GivesStatus (.registerWrite a 0x1A1 d) s sOk { s with
      heldWords := s.heldWords ++ [(0x1A1, d)], tbase := { s.tbase with lost := s.tbase.lost && !bitAt d 3 } }) ∧
  (∀ (w : Nat) (m : BitVec w) (d : D28) (lo i : Nat), i < w → (clearOnes m d lo).getLsbD i = (m.getLsbD i && !bitAt d (lo + i))) ∧
  (∀ (m : BitVec 120) (w i : Nat) (d : D28), i < 120 → (clearWord m w d).getLsbD i = (m.getLsbD i && !(decide (i / 24 = w) && bitAt d (i % 24)))) ∧
  (∀ (a : Access) (addr : BitVec 12) (w : Fin 5) (d : D28) (s : State), addr.toNat = 0x090 + w.val → MayStore s a addr.toNat → fld d 27 24 = 0 → s.clk.guardStop = false →
    GivesStatus (.registerWrite a addr d) s sOk (s.onFlt fun f => { f with sticky := clearWord f.sticky w d })) ∧
  (∀ (a : Access) (addr : BitVec 12) (w : Fin 5) (d : D28) (s : State), addr.toNat = 0x09F + w.val → MayStore s a addr.toNat → fld d 27 24 = 0 → s.clk.guardStop = false →
    GivesStatus (.registerWrite a addr d) s sOk (s.onFlt fun f => { f with conseq := clearWord f.conseq w d })) ∧
  (∀ (a : Access) (addr : BitVec 12) (n : Fin 12) (d : D28) (s : State), addr.toNat = 0x20C + 32 * n.val → MayStore s a addr.toNat → fld d 27 11 = 0 →
    GivesStatus (.registerWrite a addr d) s sOk (s.onCh n fun c => { c with prot := { c.prot with bits := clearOnes c.prot.bits d 0 } })) ∧
  (∀ (a : Access) (addr : BitVec 12) (t : Fin 20) (d : D28) (s : State), addr.toNat = 0x105 + 8 * t.val → MayStore s a addr.toNat → fld d 18 0 = 0 → s.clk.timeStop = false →
    GivesStatus (.registerWrite a addr d) s sOk (s.onTm t fun m => { m with
      claprepl := m.claprepl && !bitAt d 25, loadReject := m.loadReject && !bitAt d 24 })) ∧
  (∀ (a : Access) (addr : BitVec 12) (p : Port) (d : D28) (s : State), addr.toNat = 0x703 + 16 * portIx p → MayStore s a addr.toNat → fld d 24 8 = 0 →
    GivesStatus (.registerWrite a addr d) s sOk (s.onPort p fun q => { q with stat := clearOnes q.stat d 0 })) ∧
  (∀ (a : Access) (d : D28) (s : State),
    (MayStore s a 0x6C0 → GivesStatus (.registerWrite a 0x6C0 d) s sOk { s with nvs := { s.nvs with
      loss := s.nvs.loss && !bitAt d 18, fail := s.nvs.fail && !bitAt d 17, defer := s.nvs.defer && !bitAt d 16 } }) ∧
    (MayStore s a 0x6E0 → fld d 21 0 = 0 → GivesStatus (.registerWrite a 0x6E0 d) s sOk { s with hold := { s.hold with
      chgto := s.hold.chgto && !bitAt d 23, caprange := s.hold.caprange && !bitAt d 22 } }) ∧
    (MayStore s a 0x7C0 → fld d 27 12 = 0 → bitAt d 0 = false →
      GivesStatus (.registerWrite a 0x7C0 d) s sOk { s with clk := { s.clk with flags := clearOnes s.clk.flags d 1 } }) ∧
    (MayStore s a 0x682 → GivesStatus (.registerWrite a 0x682 d) s sOk { s with bist := { s.bist with newfail := s.bist.newfail && !bitAt d 7 } }) ∧
    (MayStore s a 0x741 → fld d 13 11 = 0 → GivesStatus (.registerWrite a 0x741 d) s sOk { s with flash := { s.flash with
      rdfail := s.flash.rdfail && !bitAt d 15, dqsto := s.flash.dqsto && !bitAt d 14 } }) ∧
    (MayStore s a 0x3CD → fld d 27 24 = 0 → GivesStatus (.registerWrite a 0x3CD d) s sOk { s with
      chans := s.chans.mapIdx fun n c => { c with zfail := c.zfail && !bitAt d (12 + n) } })) ∧
  (∀ (a : Access) (addr : BitVec 12) (w : Fin 5) (d : D28) (s : State), addr.toNat = 0x090 + w.val → MayStore s a addr.toNat → fld d 27 24 = 0 → s.clk.guardStop = true →
    GivesStatus (.registerWrite a addr d) s sOk (holdWord addr.toNat d (s.onFlt fun f => { f with sticky := clearWord f.sticky w d }))) ∧
  (∀ (a : Access) (addr : BitVec 12) (t : Fin 20) (d : D28) (s : State), addr.toNat = 0x105 + 8 * t.val → MayStore s a addr.toNat → fld d 18 0 = 0 → s.clk.timeStop = true →
    GivesStatus (.registerWrite a addr d) s sOk (holdWord addr.toNat d (s.onTm t fun m => { m with
      claprepl := m.claprepl && !bitAt d 25, loadReject := m.loadReject && !bitAt d 24 })))

/-- R11, stated, with R10's codes: a word is data when its CHK is the normal one, void when it is that one XOR 0xA5 and its DATA is a reason code that is not reserved, and no word is both; a word made for an address is such a word there, and one that stands at the next position is not data. -/
def Obligations.TaggedWordsTellDataFromVoid : Prop :=
  (∀ (a : Nat) (w : W36), isData a w = true ↔ wChk w = chk a (wData w)) ∧
  (∀ (a : Nat) (w : W36), isVoid a w = true ↔
    wChk w = chk a (wData w) ^^^ 0xA5 ∧ fld (wData w) 27 8 = 0 ∧ 1 ≤ fld (wData w) 7 0 ∧ fld (wData w) 7 0 ≤ 9) ∧
  (∀ (a : Nat) (w : W36), isData a w = true → isVoid a w = false) ∧
  (∀ (a : Nat) (d : D28), isData a (dataWord a d) = true ∧ wData (dataWord a d) = d) ∧
  (∀ (a : Nat) (r : BitVec 8), 1 ≤ r.toNat → r.toNat ≤ 9 → isVoid a (voidWord a r) = true ∧ wData (voidWord a r) = d28 r.toNat) ∧
  (∀ (p : Nat) (d : D28), p < 4095 → isData (p + 1) (dataWord p d) = false)

/-- R133, R135, R136, R271: a host path reads a sample word as void STALE exactly when its age exceeds its limit, and as data else; a word that arrived corrupted reads with its wrong check; DBG_ACC judges no freshness; a word never written is void IDLE. -/
def Obligations.FreshnessOfSampleWords : Prop :=
  (∀ (h : Port) (limit : Nat) (w : Sample) (s : State),
    (w.tc + limit < s.now → readSample s (.host h) limit (some w) = .void sStale) ∧
    (s.now ≤ w.tc + limit → w.diff = 0 → readSample s (.host h) limit (some w) = .data (sampleData w))) ∧
  (∀ (limit : Nat) (w : Sample) (s : State), w.diff = 0 → readSample s .dbg limit (some w) = .data (sampleData w)) ∧
  (∀ (p : Path) (limit : Nat) (s : State), readSample s p limit none = .void sIdle) ∧
  (∀ (h : Port) (i : Nat) (x : Snap) (s : State), s.meas.snaps.get h = some x → x.seg = false → i < 100 →
    wordAt s (.host h) (0x600 + i) = some (readSample s (.host h) (freshLimit s (rushKind i)) (x.words.getD i none))) ∧
  (∀ (h : Port) (i : Nat) (s : State), s.meas.snaps.get h = none → i < 100 →
    wordAt s (.host h) (0x600 + i) = some (readSample s (.host h) (freshLimit s (rushKind i)) (s.meas.rushes.getD i none))) ∧
  (∀ (h : Port) (i : Nat) (s : State), s.meas.snaps.get h = none → i < 504 →
    wordAt s (.host h) (0x400 + i) = some (readSample s (.host h) (freshLimit s 5) (s.meas.seg.getD i none))) ∧
  (∀ s : State, freshLimit s 0 = fld (s.meas.fresh.getD 0 0) 8 0 ∧ freshLimit s 5 = 2000 + fld (s.meas.fresh.getD 5 0) 8 0) ∧
  (∀ (p : Path) (limit : Nat) (w : Sample) (s : State), w.diff ≠ 0 → (p = .dbg ∨ s.now ≤ w.tc + limit) →
    readSample s p limit (some w) = .corrupt (sampleData w) w.diff) ∧
  (∀ (a : Nat) (w : Sample), w.diff ≠ 0 → isData a (asWord a (.corrupt (sampleData w) w.diff)) = false)

/-- R360, stated: the blocks are the rows of the address map; the words of a READ or a WRITE stand at rising addresses, past the last word of the first address's block a read word is void NO_REG and a written word has no effect but its status and its record in DEV_LAST, NO_REG where it is data, and FORMAT, as anywhere, where it is none (11 R323, 14 R365); the trailer's ADDR_OVERRUN bit says so. -/
def Obligations.AccessStopsAtTheBlockEnd : Prop :=
  (∀ (lo hi a : Nat), (lo, hi) ∈ [(0x000, 0x03F), (0x040, 0x07F), (0x080, 0x0FF), (0x100, 0x19F), (0x1A0, 0x1BF), (0x1C0, 0x1FF), (0x200, 0x37F),
      (0x380, 0x3BF), (0x3C0, 0x3FF), (0x400, 0x5F7), (0x5F8, 0x5FF), (0x600, 0x67F), (0x680, 0x6BF), (0x6C0, 0x6FF), (0x700, 0x77F),
      (0x780, 0x7BF), (0x7C0, 0x7FF), (0x800, 0xFFF)] → lo ≤ a → a ≤ hi → blockEnd a = hi) ∧
  (∀ (p : Path) (a k : Nat) (s : State), (readRun p a k s).1.length = k) ∧
  (∀ (p : Path) (a k i : Nat) (s : State), i < k → blockEnd a < a + i → (readRun p a k s).1[i]? = some (.void sNoReg)) ∧
  (∀ (p : Path) (a k i : Nat) (s : State), i < k → a + i ≤ blockEnd a → twoWord (a + i) = none →
    (readRun p a k s).1[i]? = some ((wordAt s p (a + i)).getD (.void sNoReg))) ∧
  (∀ (h : Port) (a i : Nat) (w : W36) (s : State), isData (i + 1) w = true → blockEnd a < a + i →
    writePayload h a (i + 1) w s = (statusWord ((a + i) % 4096) sNoReg, noteLast h 1 (a + i) sNoReg s)) ∧
  (∀ (h : Port) (a i : Nat) (w : W36) (s : State), a + i ≤ blockEnd a → isData (i + 1) w = true →
    writePayload h a (i + 1) w s = (statusWord ((a + i) % 4096) (hostWrite h (a + i) (wData w) s).1, (hostWrite h (a + i) (wData w) s).2)) ∧
  (∀ (h : Port) (a i : Nat) (w : W36) (s : State), isData (i + 1) w = false →
    writePayload h a (i + 1) w s = (statusWord ((a + i) % 4096) sFormat, noteLast h 1 (a + i) sFormat s)) ∧
  (∀ a k : Nat, 1 ≤ k → (overruns a k = true ↔ ∃ i, i < k ∧ blockEnd a < a + i)) ∧
  (∀ (h : Port) (seq : Nat) (ref ovr : Bool) (s : State), bitAt (trailer s h seq ref ovr) 2 = ovr)

/-! ### Reset -/

/-- The reset values of the register tables (02 to 15): what a read finds right after reset, for registers whose reset value is not zero, the same for every unit's OTP and store but those that show them. -/
def Obligations.ResetRegisterValues : Prop :=  ∀ (otp : Otp) (store : Store) (p : Path), let s := State.start otp store
    wordAt s p 0x000 = some (.data 0x1242100) ∧ wordAt s p 0x001 = some (.data 0) ∧ wordAt s p 0x003 = some (.data 0x0140000) ∧
    wordAt s p 0x004 = some (.data 0x0140000) ∧ wordAt s p 0x080 = some (.data 0x0FE0000) ∧ wordAt s p 0x081 = some (.data 0x000FE00) ∧
    wordAt s p 0x085 = some (.data 0xFE00000) ∧ wordAt s p 0x087 = some (.data 0x0000005) ∧ wordAt s p 0x1A8 = some (.data 0x1FFFFFF) ∧
    wordAt s p 0x1AC = some (.data 0x000001F) ∧
    (∀ n, n < 12 → wordAt s p (0x201 + 32 * n) = some (.data 0x0000007) ∧ wordAt s p (0x207 + 32 * n) = some (.data 0x000001F) ∧
      wordAt s p (0x21C + 32 * n) = some (.data 0x001F800)) ∧
    wordAt s p 0x3C4 = some (.data 0x0000014) ∧ wordAt s p 0x3C9 = some (.data 0x00001F4) ∧ wordAt s p 0x400 = some (.void sIdle) ∧
    wordAt s p 0x600 = some (.void sIdle) ∧ wordAt s p 0x690 = some (.void sIdle) ∧ wordAt s p 0x6E2 = some (.void sIdle) ∧
    wordAt s p 0x701 = some (.data 0x002850A) ∧ wordAt s p 0x702 = some (.data 0x0000E10)

/-- The safety conditions, the provisioning invariant and the order of the log hold right after reset, the last for a store whose log is in order, as the store as delivered is (01 R18, 07 R200, R201, 15 R394). -/
def Obligations.ResetIsSafe : Prop :=  ∀ (otp : Otp) (store : Store), Safe (State.start otp store) ∧ ProvSound (State.start otp store) ∧
    (LogStored store → LogOk (State.start otp store))

/-! ### Rules over the whole machine -/

/-- 01 R18, 02 R23, R32, R44, R49, 06 R142, 07 R183, R195, R200, R201, 13 R345, R445: whatever state a command finds, it leaves the gates and the lease's judgement safe, and each permit high exactly after first permit, out of the safe state, with no PERM hold, out of limp-home or with its PERMKEEP, while its keep-alive runs, and HEALTH exactly after first permit, out of the safe state, with every record CLEAR, while both its keep-alives run, and a step keeps them so. What the model chose or read by inference here: logs 4, 43 and 88. That a hold of rank 3 on one half of a bridge holds that half's gates off is the model's choice (log 128). -/
def Obligations.EveryStepKeepsSafe : Prop :=
  (∀ (i : Instr) (s t : State), exec i s = .next t → Safe t) ∧ (∀ s t : State, Safe s → step s = .next t → Safe t) ∧
  (∀ (i : Instr) (s t : State), exec i s = .next t →
    (t.pins.permit0 = true ↔ t.dev.fpermit = true ∧ t.flt.safe = false ∧ (∀ h ∈ t.flt.holds, h.perm = false) ∧
      (t.limp.active = false ∨ t.limp.permKeep = true) ∧ t.pins.lost0 = false) ∧
    (t.pins.permit1 = true ↔ t.dev.fpermit = true ∧ t.flt.safe = false ∧ (∀ h ∈ t.flt.holds, h.perm = false) ∧
      (t.limp.active = false ∨ t.limp.permKeep = true) ∧ t.pins.lost1 = false) ∧
    (t.flt.health = true ↔ t.dev.fpermit = true ∧ t.flt.safe = false ∧ (∀ r ∈ t.flt.records, r.state = .clear) ∧
      t.pins.lostHG = false ∧ t.pins.lostHC = false))

/-- 09 R254, R255, R257: no command unlocks the OTP, changes a locked owner-key hash, or lowers the anti-rollback count. The premise, that a locked OTP has no programming under way, is itself kept. What the model chose or read by inference here: log 60. -/
def Obligations.OtpNeverGoesBack : Prop :=  ∀ (i : Instr) (s t : State), exec i s = .next t → ProvSound s →
    ProvSound t ∧ s.otp.arbfuse ≤ t.otp.arbfuse ∧ (s.otp.okhlock = true → t.otp.okhlock = true ∧ t.otp.okh = s.otp.okh)

/-- 15 R384, 07 R200, 12 R337: first permit is given by its own command alone, in ARMING, with structure, self-test and a lease accepted from the holder, out of the safe state, and only a reset takes it back. -/
def Obligations.FirstPermitOnlyByItsCommand : Prop :=  ∀ (i : Instr) (s t : State), exec i s = .next t →
    (s.dev.fpermit = false → t.dev.fpermit = true → i = .firstPermit ∧ firstPermitOk s = true ∧ s.dev.phase = .arming ∧ s.dev.struct = true ∧ s.dev.stok = true ∧
      (∃ p, s.auth.holder = some p ∧ (s.ses.get p).leaseSeen = true) ∧ s.flt.safe = false ∧ s.clk.coreStop = false) ∧
    (s.dev.fpermit = true → t.dev.fpermit = true ∨ t.dev.phase = .reset)

/-- 07 R195, 15 R381: the safe state is left only by a reset. -/
def Obligations.SafeStateLeftOnlyByReset : Prop :=  ∀ (i : Instr) (s t : State), exec i s = .next t → s.flt.safe = true → t.flt.safe = true ∨ t.dev.phase = .reset

/-- 04 R88: device time counts up by MICROSECOND_TICK alone, starts from zero at the PLL's lock, and is changed by nothing else but a reset. What the model chose or read by inference here: logs 3 and 25. -/
def Obligations.DeviceTimeOnlyTicks : Prop :=  ∀ (i : Instr) (s t : State), exec i s = .next t →
    t.now = s.now ∨ (i = .microsecondTick ∧ t.now = s.now + 1) ∨ (∃ b, i = .pllLock b ∧ t.now = 0) ∨ t.dev.phase = .reset

/-- 15 R394: the log's pages stay in page order within their area, one entry a page, with no more than 15 records each, and the image and the queue keep within 15 and 32. What the model chose or read by inference here: log 21. -/
def Obligations.EveryStepKeepsTheLogInOrder : Prop :=
  (∀ (i : Instr) (s t : State), exec i s = .next t → LogOk s → LogOk t) ∧ (∀ s t : State, LogOk s → step s = .next t → LogOk t)
end

