-- ==== Sys2Proof/Laws/Access.lean ====
section
/-! SUPPORT. What the shared paths of commands do: a register-write row, a session frame that passes its checks, a new operation. The meanings of the rows are one call of these each. -/

namespace Sys2Proof.Machine

/-! ### Register writes (14 R365) -/

/-- Without an override, a register's classes are those of the index. -/
theorem classesAt_base {s : State} {a : Nat} (h : overrideOf s a = none) : classesAt s a = (baseInfo s a).map Prod.fst := by
  simp [classesAt, h]

/-- DEV_LASTWh records neither OK nor DEFERRED. -/
@[simp] theorem noteLast_ok (h : Port) (src addr : Nat) (s : State) : noteLast h src addr sOk s = s := by simp [noteLast]

@[simp] theorem noteLast_deferred (h : Port) (src addr : Nat) (s : State) : noteLast h src addr sDeferred s = s := by simp [noteLast]

/-- Where the access is not open, a register-write row does nothing. -/
theorem writeRow_closed {a : Access} {addr : Nat} {d : D28} {s : State} (h : accessOpen s a = false) : writeRow a addr d s = s := by
  simp [writeRow, h]

/-- A WRITE's row is one judged word with its status. -/
theorem writeRow_write {h : Port} {addr : Nat} {d : D28} {s : State} (hl : linkUp s h = true) :
    writeRow (.write h) addr d s = { (hostWrite h addr d s).2 with status := (hostWrite h addr d s).1 } := by
  simp [writeRow, accessOpen, accessWord, hl]

/-- A commit's row is one judged pair with its status. -/
theorem writeRow_commit {h : Port} {addr : Nat} {d : D28} {s : State} (hl : linkUp s h = true) :
    writeRow (.commit h) addr d s = { (armCommit h addr d s).2 with status := (armCommit h addr d s).1 } := by
  simp [writeRow, accessOpen, accessWord, hl]

/-- DBG_ACC's row is one judged word with its status. -/
theorem writeRow_dbg {addr : Nat} {d : D28} {s : State} (hc : s.coreRuns = true) (ht : tokenRight s 2 = true) :
    writeRow .dbg addr d s = { (dbgWord addr d s).2 with status := (dbgWord addr d s).1 } := by
  simp [writeRow, accessOpen, accessWord, hc, ht]

/-- A word that passes steps 2 to 5 has its register's effect. -/
theorem hostWrite_effect {h : Port} {addr : Nat} {d : D28} {s : State} {cs : List Cls} (hk : classesAt s addr = some cs)
    (hr : resv (reservedAt s addr) d = false) (hw : mayWrite s h addr = true) (hd : hasDirect cs = true) :
    hostWrite h addr d s = ((effect (.write h) addr d s).1, noteLast h 1 addr (effect (.write h) addr d s).1 (effect (.write h) addr d s).2) := by
  simp [hostWrite, writeWord, hk, hr, hw, hd]

/-- A pair that passes its ARM and step 3 has its register's effect. -/
theorem armCommit_effect {h : Port} {addr : Nat} {d : D28} {s : State} {cs : List Cls} (hk : classesAt s addr = some cs)
    (hr : resv (reservedAt s addr) d = false) (hw : mayWrite s h addr = true) (ha : hasA cs = true) :
    armCommit h addr d s = ((effect (.commit h) addr d s).1, noteLast h 3 addr (effect (.commit h) addr d s).1 (effect (.commit h) addr d s).2) := by
  simp [armCommit, hostCommit, commitPair, armJudge, hk, hr, hw, ha]

/-- A word for a running domain has its block's own effect. -/
theorem effect_own {a : Access} {addr : Nat} {d : D28} {s : State} (h : domainStopped s addr = false) : effect a addr d s = ownEffect a addr d s := by
  simp [effect, h]

/-- A word that its block takes for a stopped domain is held, with status OK; the CORE mirror of a K register shows its ones cleared (13 R348, 14 R369). -/
theorem effect_held {a : Access} {addr : Nat} {d : D28} {s : State} (h : domainStopped s addr = true) (he : isEdge addr = false)
    (hc : isCtl addr = false) (ho : (ownEffect a addr d s).1 = sOk) :
    effect a addr d s = (sOk, holdWord addr d (if mirrored addr then (ownEffect a addr d s).2 else s)) := by
  simp [effect, heldEffect, h, he, hc, ho]

/-- A word of TMRt_EDGE for a stopped TIME is held, unjudged (14 R368). -/
theorem effect_edge {a : Access} {addr : Nat} {d : D28} {s : State} (h : domainStopped s addr = true) (he : isEdge addr = true) :
    effect a addr d s = (sOk, holdWord addr d s) := by
  simp [effect, heldEffect, h, he]

/-- A word stored under MayStore whose register takes it: its effect, with status OK. -/
theorem writeRow_stores {a : Access} {addr : Nat} {d : D28} {s x : State} {cs : List Cls} (hm : MayStore s a addr)
    (hk : (baseInfo s addr).map Prod.fst = some cs) (hr : resv (reservedAt s addr) d = false) (hd : hasDirect cs = true)
    (he : effect a addr d s = (sOk, x)) : writeRow a addr d s = { x with status := sOk } := by
  obtain ⟨ho, hm⟩ := hm
  have hk' : classesAt s addr = some cs := (classesAt_base ho).trans hk
  cases a with
  | write h =>
    rw [writeRow_write hm.1, hostWrite_effect hk' hr hm.2 hd, he]
    simp
  | commit h => exact hm.elim
  | dbg =>
    rw [writeRow_dbg hm.1 hm.2]
    simp [dbgWord, hk', hr, hd, he]

/-- A word stored under MayStore that its register turns away: the status and its record. -/
theorem writeRow_turned {h : Port} {addr : Nat} {d : D28} {s x : State} {cs : List Cls} {st : BitVec 8} (hm : MayStore s (.write h) addr)
    (hk : (baseInfo s addr).map Prod.fst = some cs) (hr : resv (reservedAt s addr) d = false) (hd : hasDirect cs = true)
    (he : effect (.write h) addr d s = (st, x)) : writeRow (.write h) addr d s = { noteLast h 1 addr st x with status := st } := by
  obtain ⟨ho, hm⟩ := hm
  rw [writeRow_write hm.1, hostWrite_effect ((classesAt_base ho).trans hk) hr hm.2 hd, he]

/-- A committed pair under MayCommit: its register's effect, status and record. -/
theorem writeRow_commits {h : Port} {addr : Nat} {d : D28} {s x : State} {cs : List Cls} {st : BitVec 8} (hm : MayCommit s h addr)
    (hk : (baseInfo s addr).map Prod.fst = some cs) (hr : resv (reservedAt s addr) d = false) (ha : hasA cs = true)
    (he : effect (.commit h) addr d s = (st, x)) : writeRow (.commit h) addr d s = { noteLast h 3 addr st x with status := st } := by
  obtain ⟨ho, hl, hw⟩ := hm
  rw [writeRow_commit hl, armCommit_effect ((classesAt_base ho).trans hk) hr hw ha, he]

/-! ### Session frames (11 R312) -/

/-! What the words that leave beside a frame's own touch: the port alone (10 R272). -/

@[simp] theorem hear_ses (h : Port) (ws : List W36) (s : State) : (hear h ws s).ses = s.ses := by cases h <;> rfl
@[simp] theorem hear_now (h : Port) (ws : List W36) (s : State) : (hear h ws s).now = s.now := by cases h <;> rfl
@[simp] theorem hear_auth (h : Port) (ws : List W36) (s : State) : (hear h ws s).auth = s.auth := by cases h <;> rfl
@[simp] theorem hear_chans (h : Port) (ws : List W36) (s : State) : (hear h ws s).chans = s.chans := by cases h <;> rfl
@[simp] theorem hear_flt (h : Port) (ws : List W36) (s : State) : (hear h ws s).flt = s.flt := by cases h <;> rfl
@[simp] theorem hear_clk (h : Port) (ws : List W36) (s : State) : (hear h ws s).clk = s.clk := by cases h <;> rfl
@[simp] theorem hear_pending (h : Port) (ws : List W36) (s : State) : (hear h ws s).pending = s.pending := by cases h <;> rfl

/-- A frame is checked against the state before its words were heard. -/
@[simp] theorem authCheck_hear (h : Port) (v : List W36) (s : State) (e : Ses) (k : FrameKind) (ws : List W36) (p : Nat) :
    authCheck (hear h v s) e k ws p = authCheck s e k ws p := by
  simp only [authCheck, hear_now]

/-- A frame that does not start is heard and skipped. -/
theorem receive_skips {h : Port} {k : FrameKind} {ws : List W36} {serve : D28 → State → State} {s : State}
    (hr : receiving s h = true) (hs : startsFrame k (ws.getD 0 0) = false) : receive h k ws serve s = hear h ws s := by
  simp only [receive, hr, hs, Bool.false_eq_true, if_true, if_false]

/-- A frame that nobody receives does nothing. -/
theorem receive_unheard {h : Port} {k : FrameKind} {ws : List W36} {serve : D28 → State → State} {s : State}
    (hr : receiving s h = false) (hu : undrained s h = false) : receive h k ws serve s = s := by
  simp only [receive, hr, hu, Bool.false_eq_true, if_false]

/-- With CORE stopped a frame's words stay in the receive queue as far as there is room (10 R273). -/
theorem receive_queues {h : Port} {k : FrameKind} {ws : List W36} {serve : D28 → State → State} {s : State} (hu : undrained s h = true) :
    receive h k ws serve s = s.onPort h fun q => ws.foldl arriveWord q := by
  have hr : receiving s h = false := by
    simp only [undrained, receiving, Bool.and_eq_true, Bool.not_eq_true'] at hu ⊢
    simp [hu.1.1]
  simp only [receive, hr, hu, Bool.false_eq_true, if_true, if_false]

/-- Moving words to the transmit queue keeps the stream (10 R272, 11 R301). -/
@[simp] theorem fillQueue_stream (k : Nat) (q : PortSt) : (fillQueue k q).stream = q.stream := by
  induction k generalizing q with
  | zero => rfl
  | succ k ih =>
    unfold fillQueue
    split
    · rfl
    · split
      · rw [ih]; simp_all [PortSt.stream]
      · rw [ih]; simp_all [PortSt.stream]
      · rfl

/-- A frame joins the stream whole, behind what the port has still to send (11 R301). -/
theorem queueFrame_stream (h : Port) (ws : List W36) (s : State) :
    ((queueFrame h ws s).ports.get h).stream = (s.ports.get h).stream ++ ws := by
  have hg (q : PortSt) : ({ q with tx := q.tx ++ [ws] } : PortSt).stream = q.stream ++ ws := by simp [PortSt.stream]
  cases h <;> exact (fillQueue_stream _ _).trans (hg _)

/-- A frame that passes is served on the state that has heard its words and noted its SEQ. -/
theorem receive_passes {h : Port} {k : FrameKind} {ws : List W36} {r : Nat} {m : BitVec 32} {s : State} (hp : Passes s h k ws r m)
    (serve : D28 → State → State) : receive h k ws serve s = seqEnd h (serve (wData (ws.getD 0 0)) (noted (hear h ws s) h r m)) := by
  obtain ⟨hr, hst, hc, hl, ha, hq, hf⟩ := hp
  have hf' : formatOk ((noted (hear h ws s) h r m).ses.get h) (noted (hear h ws s) h r m).now k ws
      (payloadLen k (wData (ws.getD 0 0))) = true := by
    have hx : ((noted (hear h ws s) h r m).ses.get h).xch = (s.ses.get h).xch := by cases h <;> rfl
    have hn : (noted (hear h ws s) h r m).now = s.now := by cases h <;> rfl
    rw [hn, ← hf]
    simp only [formatOk, typeOk, hx]
  have hl' : ¬ws.length < payloadLen k (wData (ws.getD 0 0)) + 4 := by omega
  have hq' : seqOf (s.ses.get h) ws (payloadLen k (wData (ws.getD 0 0))) = .accepted r m := by
    have hd : isData (payloadLen k (wData (ws.getD 0 0)) + 1) (ws.getD (payloadLen k (wData (ws.getD 0 0)) + 1) 0) = true := by
      simp only [formatOk, Bool.and_eq_true] at hf
      exact hf.1.1.1.1
    simp only [seqOf, hd, if_true, hq]
  unfold noted at hf' ⊢
  unfold receive judgeFrame serveFormat
  simp only [authCheck_hear, hear_ses, hr, hst, hl', ha, hc, hq', hf', Bool.false_eq_true, if_true, if_false]

/-- A HELLO or KEY that passes is served on the state that has heard its words. -/
theorem receive_passesCrc {h : Port} {k : FrameKind} {ws : List W36} {s : State} (hp : PassesCrc s h k ws)
    (serve : D28 → State → State) : receive h k ws serve s = seqEnd h (serve (wData (ws.getD 0 0)) (hear h ws s)) := by
  obtain ⟨hr, hst, hc, hl, ha, hf⟩ := hp
  have hl' : ¬ws.length < payloadLen k (wData (ws.getD 0 0)) + 4 := by omega
  unfold receive judgeFrame serveFormat
  simp only [authCheck_hear, hear_ses, hear_now, hr, hst, hl', ha, hc, hf, if_true, if_false]

/-- A new operation whose context is ready occupies it and is served. -/
theorem newOp_opens {h : Port} {d : D28} {s : State} (ho : Opens s h d) (serve : State → State) :
    newOp h d serve s = serve (setCtx h (hdTag d) ⟨.done, hdGen d⟩ s) := by
  obtain ⟨hg, hb, hn⟩ := ho
  have e1 : hdGen d - (ctxAt (s.ses.get h) (hdTag d)).gen = 1 := by rw [hg]; bv_omega
  unfold newOp
  simp [e1, hb, hn]

/-! ### Stores of one port or element -/

@[simp] theorem get_set_same {α : Type} (t : Two α) (p : Port) (v : α) : (t.set p v).get p = v := by cases p <;> rfl

theorem get_set_other {α : Type} (t : Two α) {p q : Port} (v : α) (h : p ≠ q) : (t.set p v).get q = t.get q := by
  cases p <;> cases q <;> first | rfl | exact absurd rfl h

end Sys2Proof.Machine
end

