-- ==== Sys2Proof/Laws/Settle.lean ====
section
/-! SUPPORT. What the shared operations leave alone: every operation that follows a command keeps `State.still`. -/

namespace Sys2Proof.Machine

/-! ### Parts of the state -/

theorem still_onCh (s : State) (n : Nat) (f : Chan → Chan) (h : ∀ c, (f c).still = c.still) : (s.onCh n f).still = s.still := by
  have : (s.chans.modify n f).map Chan.still = s.chans.map Chan.still := by
    apply List.ext_getElem? ; intro i
    simp only [List.getElem?_map, List.getElem?_modify]
    split <;> cases s.chans[i]? <;> simp [h]
  simp [State.onCh, State.still, this]

theorem still_onChans (s : State) (f : Chan → Chan) (h : ∀ c, (f c).still = c.still) : (s.onChans f).still = s.still := by
  simp [State.onChans, State.still, h]

theorem still_onTm (s : State) (n : Nat) (f : Timer → Timer) (h : ∀ c, (f c).still = c.still) : (s.onTm n f).still = s.still := by
  have : (s.timers.modify n f).map Timer.still = s.timers.map Timer.still := by
    apply List.ext_getElem? ; intro i
    simp only [List.getElem?_map, List.getElem?_modify]
    split <;> cases s.timers[i]? <;> simp [h]
  simp [State.onTm, State.still, this]

theorem still_onFlt (s : State) (f : Flt → Flt) (h : ∀ c, (f c).still = c.still) : (s.onFlt f).still = s.still := by
  simp [State.onFlt, State.still, h]

theorem still_onNvs (s : State) (f : Nvs → Nvs) (h : ∀ c, (f c).still = c.still) : (s.onNvs f).still = s.still := by
  simp [State.onNvs, State.still, h]

theorem still_onSes (s : State) (p : Port) (f : Ses → Ses) (h : ∀ c, (f c).still = c.still) : (s.onSes p f).still = s.still := by
  cases p <;> simp [State.onSes, State.still, Two.modify, Two.set, Two.get, h]

theorem still_forEach {α : Type} (l : List α) (f : α → State → State) (h : ∀ a s, (f a s).still = s.still) (s : State) :
    (forEach l f s).still = s.still := by
  induction l generalizing s with
  | nil => rfl
  | cons a l ih => simp only [forEach, List.foldl_cons] at *; rw [ih, h]

theorem still_onCh' {s s0 : State} {n : Nat} {f : Chan → Chan} (h : ∀ c, (f c).still = c.still) (hs : s.still = s0.still) :
    (s.onCh n f).still = s0.still := (still_onCh s n f h).trans hs

theorem still_onTm' {s s0 : State} {n : Nat} {f : Timer → Timer} (h : ∀ c, (f c).still = c.still) (hs : s.still = s0.still) :
    (s.onTm n f).still = s0.still := (still_onTm s n f h).trans hs

theorem still_onFlt' {s s0 : State} {f : Flt → Flt} (h : ∀ c, (f c).still = c.still) (hs : s.still = s0.still) :
    (s.onFlt f).still = s0.still := (still_onFlt s f h).trans hs

theorem still_onNvs' {s s0 : State} {f : Nvs → Nvs} (h : ∀ c, (f c).still = c.still) (hs : s.still = s0.still) :
    (s.onNvs f).still = s0.still := (still_onNvs s f h).trans hs

theorem still_onSes' {s s0 : State} {p : Port} {f : Ses → Ses} (h : ∀ c, (f c).still = c.still) (hs : s.still = s0.still) :
    (s.onSes p f).still = s0.still := (still_onSes s p f h).trans hs

theorem still_forEach' {α : Type} {l : List α} {f : α → State → State} {s s0 : State} (h : ∀ a s, (f a s).still = s.still)
    (hs : s.still = s0.still) : (forEach l f s).still = s0.still := (still_forEach l f h s).trans hs

theorem still_forEachCh {l : List Nat} {f : State → Nat → Chan → Chan} {s s0 : State} (h : ∀ s n c, (f s n c).still = c.still)
    (hs : s.still = s0.still) : (forEach l (fun n s => s.onCh n (f s n)) s).still = s0.still :=
  still_forEach' (fun _ _ => still_onCh _ _ _ (h _ _)) hs

theorem still_ite {b : Prop} [Decidable b] {x y s0 : State} (hx : x.still = s0.still) (hy : y.still = s0.still) :
    (if b then x else y).still = s0.still := by split <;> assumption

theorem Chan.still_ite {b : Prop} [Decidable b] {x y c : Chan} (hx : x.still = c.still) (hy : y.still = c.still) :
    (if b then x else y).still = c.still := by split <;> assumption

theorem Timer.still_ite {b : Prop} [Decidable b] {x y c : Timer} (hx : x.still = c.still) (hy : y.still = c.still) :
    (if b then x else y).still = c.still := by split <;> assumption

theorem Bist.still_ite {b : Prop} [Decidable b] {x y c : Bist} (hx : x.still = y.still) (hy : y.still = c.still) :
    (if b then x else y).still = c.still := by split <;> simp_all

/-! ### Events, log records and self-tests -/

@[simp] theorem still_eventAt (p : Port) (tag : Nat) (s : State) : (eventAt p tag s).still = s.still := by
  unfold eventAt
  exact still_ite (still_onSes _ _ _ fun _ => rfl) rfl

@[simp] theorem still_event (tag : Nat) (s : State) : (event tag s).still = s.still := by simp [event]

@[simp] theorem still_logStore (r : Rec) (s : State) : (logStore r s).still = s.still := by
  unfold logStore
  exact still_ite (still_onNvs _ _ fun _ => rfl) (still_ite (still_onNvs _ _ fun _ => rfl) (still_onNvs _ _ fun _ => rfl))

@[simp] theorem still_logPut (r0 : Nat) (s : State) : (logPut r0 s).still = s.still := by
  simp only [logPut, still_logStore]
  exact still_ite (still_onNvs' (fun _ => rfl) (still_logStore _ _)) rfl

@[simp] theorem still_setLane (b : Bist) (l : Lane) (r : Option Running) : (b.setLane l r).still = b.still := by
  cases l <;> rfl

theorem still_bist {s : State} {b : Bist} (h : b.still = s.bist.still) : ({ s with bist := b } : State).still = s.still := by
  simp [State.still, h]

@[simp] theorem still_bistIncomplete (l : Lane) (d : BitVec 2) (s : State) : (bistIncomplete l d s).still = s.still := by
  unfold bistIncomplete
  split
  · rfl
  · refine still_bist ?_
    simp only [still_setLane]
    exact Bist.still_ite rfl (Bist.still_ite rfl (Bist.still_ite rfl (Bist.still_ite rfl (Bist.still_ite rfl rfl))))

@[simp] theorem still_bistAbortAll (d : BitVec 2) (s : State) : (bistAbortAll d s).still = s.still :=
  still_forEach _ _ (fun _ _ => still_bistIncomplete _ _ _) s

@[simp] theorem still_bistPreempt (hit : Running → Bool) (s : State) : (bistPreempt hit s).still = s.still := by
  refine still_forEach _ _ (fun l s => ?_) s
  split
  · exact still_ite (still_bistIncomplete _ _ _) rfl
  · rfl

/-! ### Gates -/

@[simp] theorem still_returnUnit (u : Nat) (s : State) : (returnUnit u s).still = s.still := still_bistPreempt _ _

@[simp] theorem still_gatesOn (b : Bool) (u : Nat) (s : State) : (gatesOn b u s).still = s.still := by
  refine still_forEach' (fun n t => still_onCh _ _ _ fun c => ?_) (still_returnUnit u s)
  simp only [chanOn, openBlank]
  split
  · split <;> rfl
  · rfl

@[simp] theorem still_gatesOff (u : Nat) (s : State) : (gatesOff u s).still = s.still := by
  unfold gatesOff
  exact still_onCh' (fun _ => rfl) (still_forEachCh (fun _ _ _ => rfl) rfl)

@[simp] theorem still_resume (b : Bool) (u : Nat) (s : State) : (resume b u s).still = s.still := by
  unfold resume
  exact still_ite (still_onCh' (fun _ => rfl) (still_gatesOn _ _ _)) rfl

@[simp] theorem still_startLadder (u : Nat) (s : State) : (startLadder u s).still = s.still := by
  unfold startLadder
  exact (still_gatesOn _ _ _).trans (still_onCh' (fun _ => rfl) (still_forEachCh (fun _ _ _ => rfl) rfl))

@[simp] theorem still_advance (c : Chan) (k : Nat) : (advance c k).still = c.still := by
  unfold advance
  exact Chan.still_ite rfl rfl

@[simp] theorem still_ladderChop (u : Nat) (s : State) : (ladderChop u s).still = s.still := by
  unfold ladderChop
  exact still_onCh' (fun _ => rfl)
    (still_ite (still_forEachCh (fun _ _ _ => still_advance _ _) (still_gatesOff _ _)) (still_gatesOff _ _))

@[simp] theorem still_unitOff (u : Nat) (s : State) : (unitOff u s).still = s.still := by
  unfold unitOff
  exact still_onCh' (fun _ => rfl) (still_forEachCh (fun _ _ _ => rfl) rfl)

@[simp] theorem still_beginUnit (u : Nat) (s : State) : (beginUnit u s).still = s.still := by
  unfold beginUnit
  refine still_ite ?_ (still_ite ?_ ?_)
  · split
    · exact still_onCh _ _ _ fun _ => rfl
    · rfl
  · split
    · exact still_onCh _ _ _ fun _ => Chan.still_ite rfl rfl
    · exact still_startLadder _ _
    · rfl
  · split
    · exact still_onCh _ _ _ fun _ => rfl
    · exact (still_gatesOn _ _ _).trans (still_onCh _ _ _ fun _ => rfl)
    · rfl

@[simp] theorem still_proceed (u : Nat) (s : State) : (proceed u s).still = s.still := by
  unfold proceed
  exact still_ite (still_onCh _ _ _ fun _ => rfl) (still_beginUnit _ _)

@[simp] theorem still_attempt (u : Nat) (s : State) : (attempt u s).still = s.still := by
  unfold attempt
  exact still_ite (still_onCh' (fun _ => rfl) (still_returnUnit _ _)) ((still_proceed _ _).trans (still_returnUnit _ _))

@[simp] theorem still_settleUnit (u : Nat) (s : State) : (settleUnit u s).still = s.still := by
  unfold settleUnit
  have h (w : Want) (lp : Bool) : (s.onCh u fun c => { c with want := w, byLimp := lp }).still = s.still :=
    still_onCh _ _ _ fun _ => rfl
  refine still_ite (still_ite (h _ _) ((still_unitOff _ _).trans (h _ _)))
    (still_ite (still_ite (still_onCh' (fun _ => rfl) (h _ _)) ((still_attempt _ _).trans (h _ _))) (still_ite rfl ?_))
  split
  · exact still_ite ((still_attempt _ _).trans (h _ _)) (h _ _)
  · exact (still_startLadder _ _).trans (h _ _)
  · exact still_onCh' (fun _ => rfl) (h _ _)
  · have k : (((s.onCh u fun c => { c with want := (wantOf s u).1, byLimp := (wantOf s u).2 }).onCh u fun c =>
        { c with drive := .steady, pulse := .off, cutPeriod := false, dt := .none })).still = s.still :=
      still_onCh' (fun _ => rfl) (h _ _)
    exact still_ite k ((still_resume _ _ _).trans k)
  · exact h _ _

@[simp] theorem still_legHeld (u : Nat) (s : State) : (legHeld u s).still = s.still := still_onCh _ _ _ fun _ => rfl

@[simp] theorem still_settleHalves (u : Nat) (s : State) : (settleHalves u s).still = s.still := by
  unfold settleHalves
  refine still_ite rfl ?_
  have h : (forEach (members s u) (fun n t => t.onCh n fun c => { c with half := rank3 t n }) s).still = s.still :=
    still_forEachCh (fun _ _ _ => rfl) rfl
  exact still_ite h (still_ite (((still_attempt _ _).trans (still_unitOff _ _)).trans h) (still_ite ((still_legHeld _ _).trans h) h))

@[simp] theorem still_settleUnits (s : State) : (settleUnits s).still = s.still :=
  still_forEach _ _ (fun u t => (still_settleUnit u _).trans (still_settleHalves u t)) s

/-! ### Periods -/

@[simp] theorem still_startRefresh (u : Nat) (s : State) : (startRefresh u s).still = s.still := by
  unfold startRefresh
  exact still_onCh' (fun _ => rfl) (still_onCh' (fun _ => rfl) (still_gatesOff _ _))

@[simp] theorem still_offInterval (u : Nat) (s : State) : (offInterval u s).still = s.still := by
  unfold offInterval
  refine still_ite rfl (still_forEach _ _ (fun _ _ => still_onCh _ _ _ fun c => ?_) s)
  exact Chan.still_ite rfl rfl

@[simp] theorem still_timedPeriod (t u : Nat) (s : State) : (timedPeriod t u s).still = s.still := by
  unfold timedPeriod
  have h (b : Bool) (p : Pulse) : ((if b then gatesOff u s else s).onCh u fun c =>
      { c with drive := .timed t, cutPeriod := false, pulse := p }).still = s.still :=
    still_onCh' (fun _ => rfl) (still_ite (still_gatesOff _ _) rfl)
  refine still_ite (still_ite (h _ _) ((still_offInterval _ _).trans (still_onCh' (fun _ => rfl) (h _ _))))
    (still_ite ((still_startRefresh _ _).trans (h _ _)) (still_ite (h _ _) ?_))
  exact still_onCh' (fun _ => rfl) (still_forEachCh (fun _ _ _ => rfl) ((still_returnUnit _ _).trans (h _ _)))

@[simp] theorem still_coastUnit (u : Nat) (s : State) : (coastUnit u s).still = s.still := by
  unfold coastUnit
  exact still_onCh' (fun _ => rfl) (still_forEachCh (fun _ _ _ => rfl) rfl)

@[simp] theorem still_brakeUnit (r : Option Bridge) (u : Nat) (s : State) : (brakeUnit r u s).still = s.still := by
  unfold brakeUnit
  refine still_onCh' (fun _ => rfl) (still_forEach _ _ (fun _ _ => still_onCh _ _ _ fun c => ?_) s)
  exact Chan.still_ite rfl rfl

@[simp] theorem still_bridgeCommand (u : Nat) (s : State) : (bridgeCommand u s).still = s.still := by
  unfold bridgeCommand
  refine still_ite rfl ?_
  split
  · rfl
  · exact still_coastUnit _ _
  · exact still_onCh _ _ _ fun _ => rfl
  · exact still_brakeUnit _ _ _
  · exact still_brakeUnit _ _ _
  · exact still_brakeUnit _ _ _
  · exact still_ite (still_onCh _ _ _ fun _ => rfl) rfl
  · rfl

@[simp] theorem still_bridgeEnter (t : Nat) (d : Bridge) (u : Nat) (s : State) : (bridgeEnter t d u s).still = s.still := by
  unfold bridgeEnter
  have h (opp : Nat) : ((forEach [u, u + 1] (fun n s => s.onCh n fun c =>
      { c with zeroI := false, fw := if n == opp then driveFw c else c.fw }) (returnUnit u s)).onCh u fun c =>
      { c with bridge := d, revTo := none }).still = s.still :=
    still_onCh' (fun _ => rfl) (still_forEachCh (fun _ _ _ => rfl) (still_returnUnit _ _))
  exact still_ite ((still_startLadder _ _).trans (h _)) ((still_timedPeriod _ _ _).trans (h _))

@[simp] theorem still_bridgePeriod (t : Nat) (r : Bool) (u : Nat) (s : State) : (bridgePeriod t r u s).still = s.still := by
  unfold bridgePeriod
  simp only []
  split
  · exact still_ite (still_bridgeEnter _ _ _ _) rfl
  · exact still_ite rfl (still_ite (still_ite rfl (still_brakeUnit _ _ _)) (still_ite (still_timedPeriod _ _ _) (still_bridgeEnter _ _ _ _)))

@[simp] theorem still_applyTimerLatch (t : Nat) (s : State) : (applyTimerLatch t s).still = s.still := by
  unfold applyTimerLatch
  split
  · rfl
  · exact still_onTm _ _ _ fun tm => Timer.still_ite rfl rfl

@[simp] theorem still_applyLatch (t : Nat) (s : State) : (applyLatch t s).still = s.still := by
  unfold applyLatch
  exact still_forEach' (fun u t' => still_ite (still_bridgeCommand _ _) rfl) (still_forEachCh (fun _ _ _ => rfl) (still_applyTimerLatch _ _))

@[simp] theorem still_trigger (t : Nat) (b : Bool) (s : State) : (trigger t b s).still = s.still :=
  still_forEach _ _ (fun _ _ => by simp only []; exact still_ite rfl rfl) s

@[simp] theorem still_endLinger (u : Nat) (s : State) : (endLinger u s).still = s.still := still_onCh _ _ _ fun _ => rfl

@[simp] theorem still_unitPeriod (t : Nat) (r : List Nat) (u : Nat) (s : State) : (unitPeriod t r u s).still = s.still := by
  unfold unitPeriod
  refine still_ite (still_endLinger _ _) (still_ite ?_ (still_ite ((still_resume _ _ _).trans (still_onCh _ _ _ fun _ => rfl)) rfl))
  split
  · exact still_startLadder _ _
  · exact still_ite (still_bridgePeriod _ _ _ _) (still_timedPeriod _ _ _)
  · exact still_ite (still_bridgePeriod _ _ _ _) (still_timedPeriod _ _ _)
  · rfl

@[simp] theorem still_countSkip (t k : Nat) (s : State) : (countSkip t k s).still = s.still := by
  unfold countSkip
  split
  · exact still_onTm _ _ _ fun _ => rfl
  · exact still_onTm _ _ _ fun _ => rfl
  · rfl

@[simp] theorem still_countSkips (t : Nat) (s : State) : (countSkips t s).still = s.still := by
  unfold countSkips
  split
  · exact still_countSkip _ _ _
  · exact still_forEach _ _ (fun _ _ => still_countSkip _ _ _) s
  · rfl

@[simp] theorem still_applySync (t : Nat) (s : State) : (applySync t s).still = s.still := by
  unfold applySync
  split <;> rfl

@[simp] theorem still_startCount (t : Nat) (s : State) : (startCount t s).still = s.still := by
  unfold startCount
  refine still_ite (still_onTm _ _ _ fun _ => rfl) (still_onTm' (fun _ => rfl) ?_)
  have : (s.timers.mapIdx fun m (x : Timer) =>
      if m ≠ t && masterOf s m == t && x.run then { x with begun := false } else x).map Timer.still = s.timers.map Timer.still := by
    apply List.ext_getElem?; intro i
    simp only [List.getElem?_map, List.getElem?_mapIdx]
    cases s.timers[i]? with
    | none => rfl
    | some x => exact congrArg some (Timer.still_ite rfl rfl)
  simp only [State.still, this]

theorem still_syncOut (t : Nat) (x : State) :
    (if fld x.tbase.syncOut 4 0 == t then { x with tbase := { x.tbase with pulses := x.tbase.pulses + 1 } } else x).still = x.still :=
  still_ite rfl rfl

@[simp] theorem still_beginPeriod (t : Nat) (below : Mask12) (near : BitVec 20) (s : State) : (beginPeriod t below near s).still = s.still := by
  unfold beginPeriod
  refine (still_countSkips _ _).trans (still_forEach' (fun _ _ => still_unitPeriod _ _ _ _) ?_)
  refine (still_ite (still_trigger _ _ _) rfl).trans ?_
  refine (still_syncOut _ _).trans (still_onTm' (fun _ => rfl) ?_)
  have h : (applySync t (startCount t s)).still = s.still := (still_applySync _ _).trans (still_startCount _ _)
  exact still_ite (still_ite ((still_applyLatch _ _).trans h) h) (still_forEach' (fun _ _ => still_applyLatch _ _) h)

@[simp] theorem still_settleTimer (t : Nat) (s : State) : (settleTimer t s).still = s.still := by
  unfold settleTimer
  refine still_ite (still_ite rfl (still_ite ?_ ((still_beginPeriod _ _ _ _).trans ?_))) (still_ite ?_ rfl)
  all_goals exact still_onTm _ _ _ fun _ => rfl

@[simp] theorem still_settleTimers (s : State) : (settleTimers s).still = s.still := by
  unfold settleTimers
  exact still_ite (still_forEach _ _ still_settleTimer s) rfl

/-! ### The collector -/

@[simp] theorem still_endFreeze (s : State) : (endFreeze s).still = s.still := by
  simp [endFreeze, State.still, Timer.still, Function.comp_def]

@[simp] theorem still_safeUnit (u : Nat) (s : State) : (safeUnit u s).still = s.still := by
  unfold safeUnit
  exact still_onCh' (fun _ => rfl) (still_unitOff _ _)

@[simp] theorem still_enterSafe (s : State) : (enterSafe s).still = s.still := by
  unfold enterSafe
  refine still_ite rfl (still_forEach' still_safeUnit ?_)
  refine Eq.trans (b := (bistAbortAll 3 (endFreeze (s.onFlt fun f => { f with safe := true }))).still) (still_onChans _ _ fun _ => rfl) ?_
  rw [still_bistAbortAll, still_endFreeze]
  exact still_onFlt _ _ fun _ => rfl

@[simp] theorem still_enterLimp (s : State) : (enterLimp s).still = s.still := by
  unfold enterLimp
  refine still_ite rfl ?_
  rw [still_event, still_endFreeze]
  exact still_onChans s limpChan fun _ => rfl

@[simp] theorem still_openWindow (k : Nat) (m : Mask12) (s : State) : (openWindow k m s).still = s.still :=
  still_onFlt _ _ fun _ => rfl

@[simp] theorem still_retryTake (n : Nat) (cls : RetryClass) (src : Nat) (cause : BitVec 3) (s : State) :
    (retryTake n cls src cause s).still = s.still := by
  refine still_onCh _ _ _ fun c => ?_
  simp only []
  split <;> rfl

@[simp] theorem still_cutUnit (u : Nat) (s : State) : (cutUnit u s).still = s.still := by
  unfold cutUnit
  simp only []
  split
  · exact still_ladderChop _ _
  · exact still_onCh' (fun _ => rfl) (still_gatesOff _ _)
  · exact still_onCh' (fun _ => Chan.still_ite rfl rfl) (still_gatesOff _ _)
  · rfl

@[simp] theorem still_reactOn (src : Nat) (cause : BitVec 3) (react : Nat) (perm : Bool) (owner : Nat) (s : State) :
    (reactOn src cause react perm owner s).still = s.still := by
  have h1 (b : Prop) [Decidable b] (m : Mask12) : (if b then openWindow 0 m s else s).still = s.still :=
    still_ite (still_openWindow _ _ _) rfl
  have h2 (b b1 b2 : Prop) [Decidable b] [Decidable b1] [Decidable b2] (hd : Hold) (k : Nat) (m : Mask12) (x : State)
      (hx : x.still = s.still) : (if b then x else
        let s := x.onFlt fun f => { f with holds := f.holds ++ [hd] }
        let s := if b1 then openWindow k m s else s
        if b2 then openWindow kindPerm allChans s else s).still = s.still := by
    have h3 : (x.onFlt fun f => { f with holds := f.holds ++ [hd] }).still = s.still := still_onFlt' (fun _ => rfl) hx
    have h4 : (if b1 then openWindow k m (x.onFlt fun f => { f with holds := f.holds ++ [hd] })
        else x.onFlt fun f => { f with holds := f.holds ++ [hd] }).still = s.still :=
      still_ite ((still_openWindow _ _ _).trans h3) h3
    exact still_ite hx (still_ite ((still_openWindow _ _ _).trans h4) h4)
  have h5 (b : Prop) [Decidable b] (x : State) (hx : x.still = s.still) : (if b then enterLimp x else x).still = s.still :=
    still_ite ((still_enterLimp _).trans hx) hx
  unfold reactOn
  simp only []
  split
  · exact (still_retryTake _ _ _ _ _).trans (h5 _ _ (h2 _ _ _ _ _ _ _ (h1 _ _)))
  · exact h5 _ _ (h2 _ _ _ _ _ _ _ (h1 _ _))

@[simp] theorem still_issue (e : Ev) (react : Nat) (perm : Bool) (s : State) : (issue e react perm s).still = s.still := by
  unfold issue
  exact still_ite (still_enterSafe _)
    (still_forEach' (fun _ _ => still_reactOn _ _ _ _ _ _) (still_ite (still_forEach _ _ still_cutUnit s) rfl))

@[simp] theorem still_latchEvent (e : Ev) (cls : BitVec 2) (react : Nat) (s : State) : (latchEvent e cls react s).still = s.still := by
  refine still_onFlt _ _ fun f => ?_
  simp only []
  split <;> split <;> rfl

@[simp] theorem still_recordEvent (e : Ev) (s : State) : (recordEvent e s).still = s.still := by
  unfold recordEvent
  have h1 : (s.onFlt fun f => { f with sticky := setBit f.sticky e.src }).still = s.still := still_onFlt _ _ fun _ => rfl
  refine still_ite h1 (still_ite ?_ ((still_issue _ _ _ _).trans ?_))
  all_goals rw [still_event, still_logPut, still_latchEvent]; exact still_onFlt' (fun _ => rfl) h1

@[simp] theorem still_conseqEvent (e : Ev) (s : State) : (conseqEvent e s).still = s.still := still_onFlt _ _ fun _ => rfl

@[simp] theorem still_raise (evs : List Ev) (s : State) : (raise evs s).still = s.still := by
  refine still_forEach _ _ (fun e t => ?_) s
  have h : (if lastingSource e.src = true then t.onFlt fun f => { f with lasting := setBit f.lasting e.src } else t).still = t.still :=
    still_ite (still_onFlt _ _ fun _ => rfl) rfl
  exact still_ite ((still_conseqEvent _ _).trans h) ((still_recordEvent _ _).trans h)

/-! ### The aftermath of a command -/

@[simp] theorem still_settleLease (s : State) : (settleLease s).still = s.still := by
  unfold settleLease
  exact still_onFlt' (fun _ => rfl) (still_ite (still_raise _ _) rfl)

@[simp] theorem still_settleRecords (s : State) : (settleRecords s).still = s.still := still_onFlt _ _ fun _ => rfl

theorem still_mapIdx (s : State) (f : Nat → Chan → Chan) (h : ∀ n c, (f n c).still = c.still) :
    ({ s with chans := s.chans.mapIdx f } : State).still = s.still := by
  have : (s.chans.mapIdx f).map Chan.still = s.chans.map Chan.still := by
    apply List.ext_getElem?; intro i
    simp only [List.getElem?_map, List.getElem?_mapIdx]
    cases s.chans[i]? <;> simp [h]
  simp only [State.still, this]

@[simp] theorem still_clampGates (s : State) : (clampGates s).still = s.still := still_mapIdx _ _ fun _ _ => rfl

@[simp] theorem still_rezeroWatch (c : Chan) : (rezeroWatch c).still = c.rezero.still := by
  unfold rezeroWatch
  split <;> simp [Rezero.still, *]

@[simp] theorem still_noteGates (s : State) : (noteGates s).still = s.still :=
  still_onChans _ _ fun c => by simp [Chan.still]

@[simp] theorem still_noteQuiet (s : State) : (noteQuiet s).still = s.still := rfl

@[simp] theorem still_warnLease (p : Port) (s : State) : (warnLease p s).still = s.still := by
  unfold warnLease
  exact still_ite ((still_eventAt _ _ _).trans (still_onSes _ _ _ fun _ => rfl)) rfl

@[simp] theorem still_driveHealth (s : State) : (driveHealth s).still = s.still := by
  unfold driveHealth
  exact still_ite rfl ((still_event _ _).trans (still_onFlt _ _ fun _ => rfl))

@[simp] theorem still_drivePermits (s : State) : (drivePermits s).still = s.still := rfl

@[simp] theorem still_drivePads (s : State) : (drivePads s).still = s.still := rfl

/-- The aftermath of a command keeps everything that `State.still` keeps. -/
@[simp] theorem still_settle (s : State) : (settle s).still = s.still := by simp [settle]

end Sys2Proof.Machine
end

