-- ==== Sys2Proof/Laws/Faults.lean ====
section
/-! SUPPORT. What the collector keeps: operations on gates and timers leave it alone, and neither a recorded event nor the aftermath of a command takes back a sticky or consequential bit, the safe state or the first fault. -/

namespace Sys2Proof.Machine

/-! ### Operations that leave the collector alone -/

theorem flt_forEach {α : Type} (l : List α) (f : α → State → State) (h : ∀ a s, (f a s).flt = s.flt) (s : State) :
    (forEach l f s).flt = s.flt := by
  induction l generalizing s with
  | nil => rfl
  | cons a l ih => simp only [forEach, List.foldl_cons] at *; rw [ih, h]

theorem flt_onCh' {s s0 : State} {n : Nat} {f : Chan → Chan} (hs : s.flt = s0.flt) : (s.onCh n f).flt = s0.flt := hs

theorem flt_onTm' {s s0 : State} {n : Nat} {f : Timer → Timer} (hs : s.flt = s0.flt) : (s.onTm n f).flt = s0.flt := hs

theorem flt_forEach' {α : Type} {l : List α} {f : α → State → State} {s s0 : State} (h : ∀ a s, (f a s).flt = s.flt)
    (hs : s.flt = s0.flt) : (forEach l f s).flt = s0.flt := (flt_forEach l f h s).trans hs

theorem flt_forEachCh {l : List Nat} {f : State → Nat → Chan → Chan} {s s0 : State} (hs : s.flt = s0.flt) :
    (forEach l (fun n s => s.onCh n (f s n)) s).flt = s0.flt := flt_forEach' (fun _ _ => rfl) hs

theorem flt_ite {b : Prop} [Decidable b] {x y s0 : State} (hx : x.flt = s0.flt) (hy : y.flt = s0.flt) :
    (if b then x else y).flt = s0.flt := by split <;> assumption

@[simp] theorem flt_eventAt (p : Port) (tag : Nat) (s : State) : (eventAt p tag s).flt = s.flt := by
  unfold eventAt
  exact flt_ite rfl rfl

@[simp] theorem flt_event (tag : Nat) (s : State) : (event tag s).flt = s.flt := by simp [event]

@[simp] theorem flt_logStore (r : Rec) (s : State) : (logStore r s).flt = s.flt := by
  unfold logStore
  exact flt_ite rfl (flt_ite rfl rfl)

@[simp] theorem flt_logPut (r0 : Nat) (s : State) : (logPut r0 s).flt = s.flt := by
  simp only [logPut, flt_logStore]
  exact flt_ite (flt_logStore _ _) rfl

@[simp] theorem flt_bistIncomplete (l : Lane) (d : BitVec 2) (s : State) : (bistIncomplete l d s).flt = s.flt := by
  unfold bistIncomplete
  split <;> rfl

@[simp] theorem flt_bistAbortAll (d : BitVec 2) (s : State) : (bistAbortAll d s).flt = s.flt :=
  flt_forEach _ _ (fun _ _ => flt_bistIncomplete _ _ _) s

@[simp] theorem flt_bistPreempt (hit : Running → Bool) (s : State) : (bistPreempt hit s).flt = s.flt := by
  refine flt_forEach _ _ (fun l s => ?_) s
  split
  · exact flt_ite (flt_bistIncomplete _ _ _) rfl
  · rfl

@[simp] theorem flt_endFreeze (s : State) : (endFreeze s).flt = s.flt := rfl

/-! ### Gates -/

@[simp] theorem flt_returnUnit (u : Nat) (s : State) : (returnUnit u s).flt = s.flt := flt_bistPreempt _ _

@[simp] theorem flt_gatesOn (b : Bool) (u : Nat) (s : State) : (gatesOn b u s).flt = s.flt := flt_forEach' (fun _ _ => rfl) (flt_returnUnit u s)

@[simp] theorem flt_gatesOff (u : Nat) (s : State) : (gatesOff u s).flt = s.flt := by
  unfold gatesOff
  exact flt_onCh' (flt_forEachCh rfl)

@[simp] theorem flt_resume (b : Bool) (u : Nat) (s : State) : (resume b u s).flt = s.flt := by
  unfold resume
  exact flt_ite (flt_onCh' (flt_gatesOn _ _ _)) rfl

@[simp] theorem flt_startLadder (u : Nat) (s : State) : (startLadder u s).flt = s.flt := by
  unfold startLadder
  exact (flt_gatesOn _ _ _).trans (flt_onCh' (flt_forEachCh rfl))

@[simp] theorem flt_ladderChop (u : Nat) (s : State) : (ladderChop u s).flt = s.flt := by
  unfold ladderChop
  exact flt_onCh'
    (flt_ite (flt_forEachCh (flt_gatesOff _ _)) (flt_gatesOff _ _))

@[simp] theorem flt_unitOff (u : Nat) (s : State) : (unitOff u s).flt = s.flt := by
  unfold unitOff
  exact flt_onCh' (flt_forEachCh rfl)

@[simp] theorem flt_beginUnit (u : Nat) (s : State) : (beginUnit u s).flt = s.flt := by
  unfold beginUnit
  refine flt_ite ?_ (flt_ite ?_ ?_)
  · split
    · exact rfl
    · rfl
  · split
    · exact rfl
    · exact flt_startLadder _ _
    · rfl
  · split
    · exact rfl
    · exact (flt_gatesOn _ _ _).trans (rfl)
    · rfl

@[simp] theorem flt_proceed (u : Nat) (s : State) : (proceed u s).flt = s.flt := by
  unfold proceed
  exact flt_ite (rfl) (flt_beginUnit _ _)

@[simp] theorem flt_attempt (u : Nat) (s : State) : (attempt u s).flt = s.flt := by
  unfold attempt
  exact flt_ite (flt_onCh' (flt_returnUnit _ _)) ((flt_proceed _ _).trans (flt_returnUnit _ _))

@[simp] theorem flt_settleUnit (u : Nat) (s : State) : (settleUnit u s).flt = s.flt := by
  unfold settleUnit
  have h (w : Want) (lp : Bool) : (s.onCh u fun c => { c with want := w, byLimp := lp }).flt = s.flt :=
    rfl
  refine flt_ite (flt_ite (h _ _) ((flt_unitOff _ _).trans (h _ _)))
    (flt_ite (flt_ite (flt_onCh' (h _ _)) ((flt_attempt _ _).trans (h _ _))) (flt_ite rfl ?_))
  split
  · exact flt_ite ((flt_attempt _ _).trans (h _ _)) (h _ _)
  · exact (flt_startLadder _ _).trans (h _ _)
  · exact flt_onCh' (h _ _)
  · exact flt_ite (flt_onCh' (h _ _)) ((flt_resume _ _ _).trans (flt_onCh' (h _ _)))
  · exact h _ _

@[simp] theorem flt_settleHalves (u : Nat) (s : State) : (settleHalves u s).flt = s.flt := by
  unfold settleHalves
  refine flt_ite rfl ?_
  have h : (forEach (members s u) (fun n t => t.onCh n fun c => { c with half := rank3 t n }) s).flt = s.flt := flt_forEachCh rfl
  exact flt_ite h (flt_ite (((flt_attempt _ _).trans (flt_unitOff _ _)).trans h) (flt_ite h h))

@[simp] theorem flt_settleUnits (s : State) : (settleUnits s).flt = s.flt :=
  flt_forEach _ _ (fun u t => (flt_settleUnit u _).trans (flt_settleHalves u t)) s

/-! ### Periods -/

@[simp] theorem flt_startRefresh (u : Nat) (s : State) : (startRefresh u s).flt = s.flt := by
  unfold startRefresh
  exact flt_onCh' (flt_onCh' (flt_gatesOff _ _))

@[simp] theorem flt_offInterval (u : Nat) (s : State) : (offInterval u s).flt = s.flt := by
  unfold offInterval
  exact flt_ite rfl (flt_forEachCh rfl)

@[simp] theorem flt_timedPeriod (t u : Nat) (s : State) : (timedPeriod t u s).flt = s.flt := by
  unfold timedPeriod
  have h (b : Bool) (p : Pulse) : ((if b then gatesOff u s else s).onCh u fun c =>
      { c with drive := .timed t, cutPeriod := false, pulse := p }).flt = s.flt := flt_onCh' (flt_ite (flt_gatesOff _ _) rfl)
  refine flt_ite (flt_ite (h _ _) ((flt_offInterval _ _).trans (flt_onCh' (h _ _))))
    (flt_ite ((flt_startRefresh _ _).trans (h _ _)) (flt_ite (h _ _) ?_))
  exact flt_onCh' (flt_forEachCh ((flt_returnUnit _ _).trans (h _ _)))

@[simp] theorem flt_coastUnit (u : Nat) (s : State) : (coastUnit u s).flt = s.flt := by
  unfold coastUnit
  exact flt_onCh' (flt_forEachCh rfl)

@[simp] theorem flt_brakeUnit (r : Option Bridge) (u : Nat) (s : State) : (brakeUnit r u s).flt = s.flt := by
  unfold brakeUnit
  exact flt_onCh' (flt_forEachCh rfl)

@[simp] theorem flt_bridgeCommand (u : Nat) (s : State) : (bridgeCommand u s).flt = s.flt := by
  unfold bridgeCommand
  refine flt_ite rfl ?_
  split
  · rfl
  · exact flt_coastUnit _ _
  · exact rfl
  · exact flt_brakeUnit _ _ _
  · exact flt_brakeUnit _ _ _
  · exact flt_brakeUnit _ _ _
  · exact flt_ite (rfl) rfl
  · rfl

@[simp] theorem flt_bridgeEnter (t : Nat) (d : Bridge) (u : Nat) (s : State) : (bridgeEnter t d u s).flt = s.flt := by
  unfold bridgeEnter
  have h (opp : Nat) : ((forEach [u, u + 1] (fun n s => s.onCh n fun c =>
      { c with zeroI := false, fw := if n == opp then driveFw c else c.fw }) (returnUnit u s)).onCh u fun c =>
      { c with bridge := d, revTo := none }).flt = s.flt :=
    flt_onCh' (flt_forEachCh (flt_returnUnit _ _))
  exact flt_ite ((flt_startLadder _ _).trans (h _)) ((flt_timedPeriod _ _ _).trans (h _))

@[simp] theorem flt_bridgePeriod (t : Nat) (r : Bool) (u : Nat) (s : State) : (bridgePeriod t r u s).flt = s.flt := by
  unfold bridgePeriod
  simp only []
  split
  · exact flt_ite (flt_bridgeEnter _ _ _ _) rfl
  · exact flt_ite rfl (flt_ite (flt_ite rfl (flt_brakeUnit _ _ _)) (flt_ite (flt_timedPeriod _ _ _) (flt_bridgeEnter _ _ _ _)))

@[simp] theorem flt_applyTimerLatch (t : Nat) (s : State) : (applyTimerLatch t s).flt = s.flt := by
  unfold applyTimerLatch
  split <;> rfl

@[simp] theorem flt_applyLatch (t : Nat) (s : State) : (applyLatch t s).flt = s.flt := by
  unfold applyLatch
  exact flt_forEach' (fun u t' => flt_ite (flt_bridgeCommand _ _) rfl) (flt_forEachCh (flt_applyTimerLatch _ _))

@[simp] theorem flt_trigger (t : Nat) (b : Bool) (s : State) : (trigger t b s).flt = s.flt :=
  flt_forEach _ _ (fun _ _ => by simp only []; exact flt_ite rfl rfl) s

@[simp] theorem flt_unitPeriod (t : Nat) (r : List Nat) (u : Nat) (s : State) : (unitPeriod t r u s).flt = s.flt := by
  unfold unitPeriod
  refine flt_ite rfl (flt_ite ?_ (flt_ite ((flt_resume _ _ _).trans (rfl)) rfl))
  split
  · exact flt_startLadder _ _
  · exact flt_ite (flt_bridgePeriod _ _ _ _) (flt_timedPeriod _ _ _)
  · exact flt_ite (flt_bridgePeriod _ _ _ _) (flt_timedPeriod _ _ _)
  · rfl

@[simp] theorem flt_countSkip (t k : Nat) (s : State) : (countSkip t k s).flt = s.flt := by
  unfold countSkip
  split <;> rfl

@[simp] theorem flt_countSkips (t : Nat) (s : State) : (countSkips t s).flt = s.flt := by
  unfold countSkips
  split
  · exact flt_countSkip _ _ _
  · exact flt_forEach _ _ (fun _ _ => flt_countSkip _ _ _) s
  · rfl

@[simp] theorem flt_applySync (t : Nat) (s : State) : (applySync t s).flt = s.flt := by
  unfold applySync
  split <;> rfl

@[simp] theorem flt_startCount (t : Nat) (s : State) : (startCount t s).flt = s.flt := by
  unfold startCount
  exact flt_ite rfl rfl

theorem flt_syncOut (t : Nat) (x : State) :
    (if fld x.tbase.syncOut 4 0 == t then { x with tbase := { x.tbase with pulses := x.tbase.pulses + 1 } } else x).flt = x.flt :=
  flt_ite rfl rfl

@[simp] theorem flt_beginPeriod (t : Nat) (below : Mask12) (near : BitVec 20) (s : State) : (beginPeriod t below near s).flt = s.flt := by
  unfold beginPeriod
  refine (flt_countSkips _ _).trans (flt_forEach' (fun _ _ => flt_unitPeriod _ _ _ _) ?_)
  refine (flt_ite (flt_trigger _ _ _) rfl).trans ?_
  refine (flt_syncOut _ _).trans (flt_onTm' ?_)
  have h : (applySync t (startCount t s)).flt = s.flt := (flt_applySync _ _).trans (flt_startCount _ _)
  exact flt_ite (flt_ite ((flt_applyLatch _ _).trans h) h) (flt_forEach' (fun _ _ => flt_applyLatch _ _) h)

@[simp] theorem flt_settleTimer (t : Nat) (s : State) : (settleTimer t s).flt = s.flt := by
  unfold settleTimer
  refine flt_ite (flt_ite rfl (flt_ite ?_ ((flt_beginPeriod _ _ _ _).trans ?_))) (flt_ite ?_ rfl)
  all_goals exact rfl

@[simp] theorem flt_settleTimers (s : State) : (settleTimers s).flt = s.flt := by
  unfold settleTimers
  exact flt_ite (flt_forEach _ _ flt_settleTimer s) rfl


@[simp] theorem flt_retryTake (n : Nat) (cls : RetryClass) (src : Nat) (cause : BitVec 3) (s : State) :
    (retryTake n cls src cause s).flt = s.flt := rfl

@[simp] theorem flt_cutUnit (u : Nat) (s : State) : (cutUnit u s).flt = s.flt := by
  unfold cutUnit
  simp only []
  split
  · exact flt_ladderChop _ _
  · exact flt_onCh' (flt_gatesOff _ _)
  · exact flt_onCh' (flt_gatesOff _ _)
  · rfl

/-! ### Bits of a word -/

theorem getLsbD_setBit {w : Nat} (m : BitVec w) (i j : Nat) : (setBit m i).getLsbD j = (m.getLsbD j || (decide (j < w) && decide (i = j))) := by
  rw [setBit, BitVec.getLsbD_or, BitVec.getLsbD_ofNat, Nat.testBit_two_pow]

theorem setBit_self {w : Nat} (m : BitVec w) {i : Nat} (h : i < w) : (setBit m i).getLsbD i = true := by
  simp [getLsbD_setBit, h]

theorem setBit_keeps {w : Nat} {m : BitVec w} {j : Nat} (i : Nat) (h : m.getLsbD j = true) : (setBit m i).getLsbD j = true := by
  simp [getLsbD_setBit, h]

/-! ### Growth -/

/-- No sticky, consequential or lasting bit, no safe state and no first fault of `a` is lost in `b`. -/
structure Grows (a b : Flt) : Prop where
  sticky : ∀ i, a.sticky.getLsbD i = true → b.sticky.getLsbD i = true
  conseq : ∀ i, a.conseq.getLsbD i = true → b.conseq.getLsbD i = true
  lasting : ∀ i, a.lasting.getLsbD i = true → b.lasting.getLsbD i = true
  safe : a.safe = true → b.safe = true
  first : a.first.valid = true → b.first = { a.first with ovf := b.first.ovf }

theorem Grows.refl (a : Flt) : Grows a a := ⟨fun _ h => h, fun _ h => h, fun _ h => h, id, fun _ => rfl⟩

theorem Grows.of_eq {a b : Flt} (h : b = a) : Grows a b := h ▸ Grows.refl a

theorem Grows.trans {a b c : Flt} (h : Grows a b) (k : Grows b c) : Grows a c where
  sticky i x := k.sticky i (h.sticky i x)
  conseq i x := k.conseq i (h.conseq i x)
  lasting i x := k.lasting i (h.lasting i x)
  safe x := k.safe (h.safe x)
  first x := by
    have hb := h.first x
    have : b.first.valid = true := by rw [hb]; exact x
    rw [k.first this, hb]

theorem Grows.seen {s t : State} (h : Grows s.flt t.flt) {src : Nat} (x : seen s src) : seen t src :=
  x.imp (h.sticky _) (h.conseq _)

theorem grows_forEach {α : Type} (l : List α) (f : α → State → State) (h : ∀ a s, Grows s.flt (f a s).flt) (s : State) :
    Grows s.flt (forEach l f s).flt := by
  induction l generalizing s with
  | nil => exact Grows.refl _
  | cons a l ih => exact (h a s).trans (ih (f a s))

theorem grows_ite {b : Prop} [Decidable b] {x y s : State} (hx : Grows s.flt x.flt) (hy : Grows s.flt y.flt) :
    Grows s.flt (if b then x else y).flt := by split <;> assumption

theorem grows_same {s t : State} (h : t.flt.sticky = s.flt.sticky) (h2 : t.flt.conseq = s.flt.conseq) (h3 : t.flt.lasting = s.flt.lasting)
    (h4 : t.flt.safe = s.flt.safe) (h5 : t.flt.first = s.flt.first) : Grows s.flt t.flt :=
  ⟨fun _ => by rw [h]; exact id, fun _ => by rw [h2]; exact id, fun _ => by rw [h3]; exact id, by rw [h4]; exact id, fun _ => by rw [h5]⟩

theorem grows_enterSafe (s : State) : Grows s.flt (enterSafe s).flt := by
  unfold enterSafe
  refine grows_ite (Grows.refl _) ?_
  have h : Grows s.flt (s.onFlt fun f => { f with safe := true }).flt :=
    ⟨fun _ x => x, fun _ x => x, fun _ x => x, fun _ => rfl, fun _ => rfl⟩
  refine h.trans (Grows.of_eq ?_)
  refine flt_forEach' (fun u t => (flt_onCh' (flt_unitOff _ _) : (safeUnit u t).flt = t.flt)) ?_
  exact flt_bistAbortAll 3 (endFreeze (s.onFlt fun f => { f with safe := true }))

theorem grows_enterLimp (s : State) : Grows s.flt (enterLimp s).flt := by
  unfold enterLimp
  exact grows_ite (Grows.refl _) (Grows.of_eq (flt_event _ _))

theorem grows_openWindow (k : Nat) (m : Mask12) (s : State) : Grows s.flt (openWindow k m s).flt := grows_same rfl rfl rfl rfl rfl

theorem grows_reactOn (src : Nat) (cause : BitVec 3) (react : Nat) (perm : Bool) (owner : Nat) (s : State) :
    Grows s.flt (reactOn src cause react perm owner s).flt := by
  have h1 (b : Prop) [Decidable b] (m : Mask12) : Grows s.flt (if b then openWindow 0 m s else s).flt :=
    grows_ite (grows_openWindow _ _ _) (Grows.refl _)
  have h2 (b b1 b2 : Prop) [Decidable b] [Decidable b1] [Decidable b2] (hd : Hold) (k : Nat) (m : Mask12) (x : State)
      (hx : Grows s.flt x.flt) : Grows s.flt (if b then x else
        let s := x.onFlt fun f => { f with holds := f.holds ++ [hd] }
        let s := if b1 then openWindow k m s else s
        if b2 then openWindow kindPerm allChans s else s).flt := by
    have h3 : Grows s.flt (x.onFlt fun f => { f with holds := f.holds ++ [hd] }).flt := hx.trans (grows_same rfl rfl rfl rfl rfl)
    have h4 : Grows s.flt (if b1 then openWindow k m (x.onFlt fun f => { f with holds := f.holds ++ [hd] })
        else x.onFlt fun f => { f with holds := f.holds ++ [hd] }).flt := grows_ite (h3.trans (grows_openWindow _ _ _)) h3
    exact grows_ite hx (grows_ite (h4.trans (grows_openWindow _ _ _)) h4)
  have h5 (b : Prop) [Decidable b] (x : State) (hx : Grows s.flt x.flt) : Grows s.flt (if b then enterLimp x else x).flt :=
    grows_ite (hx.trans (grows_enterLimp _)) hx
  unfold reactOn
  simp only []
  split
  · exact (h5 _ _ (h2 _ _ _ _ _ _ _ (h1 _ _))).trans (Grows.of_eq (flt_retryTake _ _ _ _ _))
  · exact h5 _ _ (h2 _ _ _ _ _ _ _ (h1 _ _))

theorem grows_issue (e : Ev) (react : Nat) (perm : Bool) (s : State) : Grows s.flt (issue e react perm s).flt := by
  unfold issue
  refine grows_ite (grows_enterSafe _) (Grows.trans ?_ (grows_forEach _ _ (fun _ _ => grows_reactOn _ _ _ _ _ _) _))
  exact grows_ite (grows_forEach _ _ (fun _ _ => Grows.of_eq (flt_cutUnit _ _)) s) (Grows.refl _)

theorem grows_latchEvent (e : Ev) (cls : BitVec 2) (react : Nat) (s : State) : Grows s.flt (latchEvent e cls react s).flt := by
  constructor <;> simp only [latchEvent, State.onFlt] <;> split <;> split <;> simp_all

theorem grows_sticky (i : Nat) (s : State) : Grows s.flt (s.onFlt fun f => { f with sticky := setBit f.sticky i }).flt :=
  ⟨fun _ x => setBit_keeps i x, fun _ x => x, fun _ x => x, fun x => x, fun _ => rfl⟩

/-- After the source's sticky bit has set, the rest of a recording only adds. -/
theorem grows_recordRest (e : Ev) (s : State) :
    Grows (s.onFlt fun f => { f with sticky := setBit f.sticky e.src }).flt (recordEvent e s).flt := by
  unfold recordEvent
  refine grows_ite (Grows.refl _) (grows_ite ?_ (Grows.trans ?_ (grows_issue _ _ _ _)))
  all_goals
    refine Grows.trans (Grows.trans ?_ (grows_latchEvent _ _ _ _)) (Grows.of_eq ((flt_event _ _).trans (flt_logPut _ _)))
    exact grows_same rfl rfl rfl rfl rfl

theorem grows_recordEvent (e : Ev) (s : State) : Grows s.flt (recordEvent e s).flt := (grows_sticky _ _).trans (grows_recordRest e s)

theorem recordEvent_sticky (e : Ev) (s : State) (h : e.src < 120) : (recordEvent e s).flt.sticky.getLsbD e.src = true :=
  (grows_recordRest e s).sticky _ (setBit_self _ h)

theorem grows_conseqEvent (e : Ev) (s : State) : Grows s.flt (conseqEvent e s).flt :=
  ⟨fun _ x => x, fun _ x => setBit_keeps e.src x, fun _ x => x, fun x => x, fun _ => rfl⟩

/-- What `raise` does with one event. -/
theorem grows_raiseOne (ws : List Window) (e : Ev) (s : State) :
    Grows s.flt (let s := if lastingSource e.src then s.onFlt fun f => { f with lasting := setBit f.lasting e.src } else s
      if ws.any fun w => lists s.flt w e.src then conseqEvent e s else recordEvent e s).flt := by
  have h : Grows s.flt (if lastingSource e.src = true then s.onFlt fun f => { f with lasting := setBit f.lasting e.src } else s).flt :=
    grows_ite ⟨fun _ x => x, fun _ x => x, fun _ x => setBit_keeps e.src x, fun x => x, fun _ => rfl⟩ (Grows.refl _)
  exact grows_ite (h.trans (grows_conseqEvent _ _)) (h.trans (grows_recordEvent _ _))

theorem grows_raise (evs : List Ev) (s : State) : Grows s.flt (raise evs s).flt :=
  grows_forEach _ _ (fun e t => grows_raiseOne _ e t) s

theorem raiseOne_seen (ws : List Window) (e : Ev) (s : State) (h : e.src < 120) :
    seen (let s := if lastingSource e.src then s.onFlt fun f => { f with lasting := setBit f.lasting e.src } else s
      if ws.any fun w => lists s.flt w e.src then conseqEvent e s else recordEvent e s) e.src := by
  generalize hs : (if lastingSource e.src = true then s.onFlt fun f => { f with lasting := setBit f.lasting e.src } else s) = s'
  show seen (if (ws.any fun w => lists s'.flt w e.src) = true then conseqEvent e s' else recordEvent e s') e.src
  by_cases hw : (ws.any fun w => lists s'.flt w e.src) = true
  · rw [if_pos hw]
    exact .inr (setBit_self s'.flt.conseq h)
  · rw [if_neg hw]
    exact .inl (recordEvent_sticky e s' h)

theorem forEach_seen {l : List Ev} {f : Ev → State → State} (hg : ∀ e s, Grows s.flt (f e s).flt)
    (hs : ∀ e s, e.src < 120 → seen (f e s) e.src) {e : Ev} (he : e ∈ l) (h : e.src < 120) (s : State) : seen (forEach l f s) e.src := by
  induction l generalizing s with
  | nil => cases he
  | cons a l ih =>
    rcases List.mem_cons.mp he with rfl | he
    · exact Grows.seen (grows_forEach l f hg (f e s)) (hs e s h)
    · exact ih he (f a s)

/-- A source that a list of events names is among those that `ranked` orders. -/
theorem ranked_mem (s : State) {evs : List Ev} {e : Ev} (he : e ∈ evs) (h : e.src < 120) : ∃ x ∈ ranked s evs, x.src = e.src := by
  have pick (f : Bool) (hf : (classOf s e.src == 2 || appliedReact s e == 6) = f) :
      ∃ x ∈ (List.range 120).filterMap (fun i => evs.find? fun e => e.src == i && (classOf s e.src == 2 || appliedReact s e == 6) == f),
        x.src = e.src := by
    cases hx : evs.find? (fun x => x.src == e.src && (classOf s x.src == 2 || appliedReact s x == 6) == f) with
    | none =>
      exact absurd (by simp only [hf, beq_self_eq_true, Bool.and_self]) (List.find?_eq_none.mp hx e he)
    | some x =>
      refine ⟨x, List.mem_filterMap.mpr ⟨e.src, List.mem_range.mpr h, hx⟩, ?_⟩
      have := List.find?_some hx
      simp at this
      exact this.1
  cases hf : (classOf s e.src == 2 || appliedReact s e == 6) with
  | true => obtain ⟨x, hx, h⟩ := pick true hf; exact ⟨x, List.mem_append_left _ hx, h⟩
  | false => obtain ⟨x, hx, h⟩ := pick false hf; exact ⟨x, List.mem_append_right _ hx, h⟩

/-- Every event that reaches the collector is recorded or marked consequential (07 R187, R204). -/
theorem raise_seen {evs : List Ev} {e : Ev} {s : State} (he : e ∈ evs) (h : e.src < 120)
    (hg : unrecorded s e.src = false) : seen (raise evs s) e.src := by
  have hm : e ∈ evs.filter fun e => !unrecorded s e.src := List.mem_filter.mpr ⟨he, by simp [hg]⟩
  obtain ⟨x, hx, hs⟩ := ranked_mem s hm h
  rw [← hs]
  exact forEach_seen (fun e t => grows_raiseOne _ e t) (fun e t h => raiseOne_seen _ e t h) hx (hs ▸ h) s

/-! ### The aftermath of a command -/

theorem grows_settleLease (s : State) : Grows s.flt (settleLease s).flt := by
  unfold settleLease
  exact Grows.trans (grows_ite (grows_raise _ _) (Grows.refl _)) (grows_same rfl rfl rfl rfl rfl)

theorem grows_settleRecords (s : State) : Grows s.flt (settleRecords s).flt := grows_same rfl rfl rfl rfl rfl

theorem grows_warnLease (p : Port) (s : State) : Grows s.flt (warnLease p s).flt := by
  unfold warnLease
  exact grows_ite (Grows.of_eq (flt_eventAt _ _ _)) (Grows.refl _)

theorem grows_driveHealth (s : State) : Grows s.flt (driveHealth s).flt := by
  unfold driveHealth
  exact grows_ite (Grows.refl _) (Grows.trans (b := (s.onFlt fun f => { f with health := healthAllowed s && !s.pins.lostHG && !s.pins.lostHC }).flt)
    (grows_same rfl rfl rfl rfl rfl) (Grows.of_eq (flt_event _ _)))

theorem grows_settle (s : State) : Grows s.flt (settle s).flt := by
  unfold settle
  refine Grows.trans ?_ (Grows.of_eq rfl : Grows (driveHealth _).flt (drivePads (drivePermits _)).flt)
  refine Grows.trans ?_ (grows_driveHealth _)
  refine Grows.trans ?_ (Grows.of_eq rfl : Grows (clampGates _).flt (noteQuiet (noteGates _)).flt)
  refine Grows.trans ?_ (Grows.of_eq rfl : Grows (settleTimers _).flt (clampGates _).flt)
  refine Grows.trans ?_ (Grows.of_eq (flt_settleTimers _))
  refine Grows.trans ?_ (Grows.of_eq (flt_settleUnits _))
  exact (grows_warnLease _ _).trans ((grows_warnLease _ _).trans ((grows_settleLease _).trans (grows_settleRecords _)))

theorem settle_seen {s : State} {src : Nat} (h : seen s src) : seen (settle s) src := Grows.seen (grows_settle s) h

end Sys2Proof.Machine
end

