-- ==== Sys2Proof/Laws/State.lean ====
section
/-! SUPPORT. What each update of one part of the state leaves in every other part, and reads of the part it changes. -/

namespace Sys2Proof.Machine

/-! ### onCh -/

@[simp] theorem onCh_pending (s : State) (n : Nat) (f : Chan → Chan) : (s.onCh n f).pending = s.pending := rfl
@[simp] theorem onCh_now (s : State) (n : Nat) (f : Chan → Chan) : (s.onCh n f).now = s.now := rfl
@[simp] theorem onCh_free (s : State) (n : Nat) (f : Chan → Chan) : (s.onCh n f).free = s.free := rfl
@[simp] theorem onCh_status (s : State) (n : Nat) (f : Chan → Chan) : (s.onCh n f).status = s.status := rfl
@[simp] theorem onCh_lastRead (s : State) (n : Nat) (f : Chan → Chan) : (s.onCh n f).lastRead = s.lastRead := rfl
@[simp] theorem onCh_dev (s : State) (n : Nat) (f : Chan → Chan) : (s.onCh n f).dev = s.dev := rfl
@[simp] theorem onCh_pins (s : State) (n : Nat) (f : Chan → Chan) : (s.onCh n f).pins = s.pins := rfl
@[simp] theorem onCh_timers (s : State) (n : Nat) (f : Chan → Chan) : (s.onCh n f).timers = s.timers := rfl
@[simp] theorem onCh_tbase (s : State) (n : Nat) (f : Chan → Chan) : (s.onCh n f).tbase = s.tbase := rfl
@[simp] theorem onCh_flt (s : State) (n : Nat) (f : Chan → Chan) : (s.onCh n f).flt = s.flt := rfl
@[simp] theorem onCh_limp (s : State) (n : Nat) (f : Chan → Chan) : (s.onCh n f).limp = s.limp := rfl
@[simp] theorem onCh_meas (s : State) (n : Nat) (f : Chan → Chan) : (s.onCh n f).meas = s.meas := rfl
@[simp] theorem onCh_ses (s : State) (n : Nat) (f : Chan → Chan) : (s.onCh n f).ses = s.ses := rfl
@[simp] theorem onCh_auth (s : State) (n : Nat) (f : Chan → Chan) : (s.onCh n f).auth = s.auth := rfl
@[simp] theorem onCh_ports (s : State) (n : Nat) (f : Chan → Chan) : (s.onCh n f).ports = s.ports := rfl
@[simp] theorem onCh_recovery (s : State) (n : Nat) (f : Chan → Chan) : (s.onCh n f).recovery = s.recovery := rfl
@[simp] theorem onCh_flash (s : State) (n : Nat) (f : Chan → Chan) : (s.onCh n f).flash = s.flash := rfl
@[simp] theorem onCh_dlatch (s : State) (n : Nat) (f : Chan → Chan) : (s.onCh n f).dlatch = s.dlatch := rfl
@[simp] theorem onCh_flatch (s : State) (n : Nat) (f : Chan → Chan) : (s.onCh n f).flatch = s.flatch := rfl
@[simp] theorem onCh_trust (s : State) (n : Nat) (f : Chan → Chan) : (s.onCh n f).trust = s.trust := rfl
@[simp] theorem onCh_tap (s : State) (n : Nat) (f : Chan → Chan) : (s.onCh n f).tap = s.tap := rfl
@[simp] theorem onCh_otp (s : State) (n : Nat) (f : Chan → Chan) : (s.onCh n f).otp = s.otp := rfl
@[simp] theorem onCh_otpRead (s : State) (n : Nat) (f : Chan → Chan) : (s.onCh n f).otpRead = s.otpRead := rfl
@[simp] theorem onCh_heldWords (s : State) (n : Nat) (f : Chan → Chan) : (s.onCh n f).heldWords = s.heldWords := rfl
@[simp] theorem onCh_store (s : State) (n : Nat) (f : Chan → Chan) : (s.onCh n f).store = s.store := rfl
@[simp] theorem onCh_nvs (s : State) (n : Nat) (f : Chan → Chan) : (s.onCh n f).nvs = s.nvs := rfl
@[simp] theorem onCh_hold (s : State) (n : Nat) (f : Chan → Chan) : (s.onCh n f).hold = s.hold := rfl
@[simp] theorem onCh_sup (s : State) (n : Nat) (f : Chan → Chan) : (s.onCh n f).sup = s.sup := rfl
@[simp] theorem onCh_clk (s : State) (n : Nat) (f : Chan → Chan) : (s.onCh n f).clk = s.clk := rfl
@[simp] theorem onCh_bist (s : State) (n : Nat) (f : Chan → Chan) : (s.onCh n f).bist = s.bist := rfl

/-! ### onChans -/

@[simp] theorem onChans_pending (s : State) (f : Chan → Chan) : (s.onChans f).pending = s.pending := rfl
@[simp] theorem onChans_now (s : State) (f : Chan → Chan) : (s.onChans f).now = s.now := rfl
@[simp] theorem onChans_free (s : State) (f : Chan → Chan) : (s.onChans f).free = s.free := rfl
@[simp] theorem onChans_status (s : State) (f : Chan → Chan) : (s.onChans f).status = s.status := rfl
@[simp] theorem onChans_lastRead (s : State) (f : Chan → Chan) : (s.onChans f).lastRead = s.lastRead := rfl
@[simp] theorem onChans_dev (s : State) (f : Chan → Chan) : (s.onChans f).dev = s.dev := rfl
@[simp] theorem onChans_pins (s : State) (f : Chan → Chan) : (s.onChans f).pins = s.pins := rfl
@[simp] theorem onChans_timers (s : State) (f : Chan → Chan) : (s.onChans f).timers = s.timers := rfl
@[simp] theorem onChans_tbase (s : State) (f : Chan → Chan) : (s.onChans f).tbase = s.tbase := rfl
@[simp] theorem onChans_flt (s : State) (f : Chan → Chan) : (s.onChans f).flt = s.flt := rfl
@[simp] theorem onChans_limp (s : State) (f : Chan → Chan) : (s.onChans f).limp = s.limp := rfl
@[simp] theorem onChans_meas (s : State) (f : Chan → Chan) : (s.onChans f).meas = s.meas := rfl
@[simp] theorem onChans_ses (s : State) (f : Chan → Chan) : (s.onChans f).ses = s.ses := rfl
@[simp] theorem onChans_auth (s : State) (f : Chan → Chan) : (s.onChans f).auth = s.auth := rfl
@[simp] theorem onChans_ports (s : State) (f : Chan → Chan) : (s.onChans f).ports = s.ports := rfl
@[simp] theorem onChans_recovery (s : State) (f : Chan → Chan) : (s.onChans f).recovery = s.recovery := rfl
@[simp] theorem onChans_flash (s : State) (f : Chan → Chan) : (s.onChans f).flash = s.flash := rfl
@[simp] theorem onChans_dlatch (s : State) (f : Chan → Chan) : (s.onChans f).dlatch = s.dlatch := rfl
@[simp] theorem onChans_flatch (s : State) (f : Chan → Chan) : (s.onChans f).flatch = s.flatch := rfl
@[simp] theorem onChans_trust (s : State) (f : Chan → Chan) : (s.onChans f).trust = s.trust := rfl
@[simp] theorem onChans_tap (s : State) (f : Chan → Chan) : (s.onChans f).tap = s.tap := rfl
@[simp] theorem onChans_otp (s : State) (f : Chan → Chan) : (s.onChans f).otp = s.otp := rfl
@[simp] theorem onChans_otpRead (s : State) (f : Chan → Chan) : (s.onChans f).otpRead = s.otpRead := rfl
@[simp] theorem onChans_heldWords (s : State) (f : Chan → Chan) : (s.onChans f).heldWords = s.heldWords := rfl
@[simp] theorem onChans_store (s : State) (f : Chan → Chan) : (s.onChans f).store = s.store := rfl
@[simp] theorem onChans_nvs (s : State) (f : Chan → Chan) : (s.onChans f).nvs = s.nvs := rfl
@[simp] theorem onChans_hold (s : State) (f : Chan → Chan) : (s.onChans f).hold = s.hold := rfl
@[simp] theorem onChans_sup (s : State) (f : Chan → Chan) : (s.onChans f).sup = s.sup := rfl
@[simp] theorem onChans_clk (s : State) (f : Chan → Chan) : (s.onChans f).clk = s.clk := rfl
@[simp] theorem onChans_bist (s : State) (f : Chan → Chan) : (s.onChans f).bist = s.bist := rfl

/-! ### onTm -/

@[simp] theorem onTm_pending (s : State) (n : Nat) (f : Timer → Timer) : (s.onTm n f).pending = s.pending := rfl
@[simp] theorem onTm_now (s : State) (n : Nat) (f : Timer → Timer) : (s.onTm n f).now = s.now := rfl
@[simp] theorem onTm_free (s : State) (n : Nat) (f : Timer → Timer) : (s.onTm n f).free = s.free := rfl
@[simp] theorem onTm_status (s : State) (n : Nat) (f : Timer → Timer) : (s.onTm n f).status = s.status := rfl
@[simp] theorem onTm_lastRead (s : State) (n : Nat) (f : Timer → Timer) : (s.onTm n f).lastRead = s.lastRead := rfl
@[simp] theorem onTm_dev (s : State) (n : Nat) (f : Timer → Timer) : (s.onTm n f).dev = s.dev := rfl
@[simp] theorem onTm_pins (s : State) (n : Nat) (f : Timer → Timer) : (s.onTm n f).pins = s.pins := rfl
@[simp] theorem onTm_chans (s : State) (n : Nat) (f : Timer → Timer) : (s.onTm n f).chans = s.chans := rfl
@[simp] theorem onTm_tbase (s : State) (n : Nat) (f : Timer → Timer) : (s.onTm n f).tbase = s.tbase := rfl
@[simp] theorem onTm_flt (s : State) (n : Nat) (f : Timer → Timer) : (s.onTm n f).flt = s.flt := rfl
@[simp] theorem onTm_limp (s : State) (n : Nat) (f : Timer → Timer) : (s.onTm n f).limp = s.limp := rfl
@[simp] theorem onTm_meas (s : State) (n : Nat) (f : Timer → Timer) : (s.onTm n f).meas = s.meas := rfl
@[simp] theorem onTm_ses (s : State) (n : Nat) (f : Timer → Timer) : (s.onTm n f).ses = s.ses := rfl
@[simp] theorem onTm_auth (s : State) (n : Nat) (f : Timer → Timer) : (s.onTm n f).auth = s.auth := rfl
@[simp] theorem onTm_ports (s : State) (n : Nat) (f : Timer → Timer) : (s.onTm n f).ports = s.ports := rfl
@[simp] theorem onTm_recovery (s : State) (n : Nat) (f : Timer → Timer) : (s.onTm n f).recovery = s.recovery := rfl
@[simp] theorem onTm_flash (s : State) (n : Nat) (f : Timer → Timer) : (s.onTm n f).flash = s.flash := rfl
@[simp] theorem onTm_dlatch (s : State) (n : Nat) (f : Timer → Timer) : (s.onTm n f).dlatch = s.dlatch := rfl
@[simp] theorem onTm_flatch (s : State) (n : Nat) (f : Timer → Timer) : (s.onTm n f).flatch = s.flatch := rfl
@[simp] theorem onTm_trust (s : State) (n : Nat) (f : Timer → Timer) : (s.onTm n f).trust = s.trust := rfl
@[simp] theorem onTm_tap (s : State) (n : Nat) (f : Timer → Timer) : (s.onTm n f).tap = s.tap := rfl
@[simp] theorem onTm_otp (s : State) (n : Nat) (f : Timer → Timer) : (s.onTm n f).otp = s.otp := rfl
@[simp] theorem onTm_otpRead (s : State) (n : Nat) (f : Timer → Timer) : (s.onTm n f).otpRead = s.otpRead := rfl
@[simp] theorem onTm_heldWords (s : State) (n : Nat) (f : Timer → Timer) : (s.onTm n f).heldWords = s.heldWords := rfl
@[simp] theorem onTm_store (s : State) (n : Nat) (f : Timer → Timer) : (s.onTm n f).store = s.store := rfl
@[simp] theorem onTm_nvs (s : State) (n : Nat) (f : Timer → Timer) : (s.onTm n f).nvs = s.nvs := rfl
@[simp] theorem onTm_hold (s : State) (n : Nat) (f : Timer → Timer) : (s.onTm n f).hold = s.hold := rfl
@[simp] theorem onTm_sup (s : State) (n : Nat) (f : Timer → Timer) : (s.onTm n f).sup = s.sup := rfl
@[simp] theorem onTm_clk (s : State) (n : Nat) (f : Timer → Timer) : (s.onTm n f).clk = s.clk := rfl
@[simp] theorem onTm_bist (s : State) (n : Nat) (f : Timer → Timer) : (s.onTm n f).bist = s.bist := rfl

/-! ### onSes -/

@[simp] theorem onSes_pending (s : State) (p : Port) (f : Ses → Ses) : (s.onSes p f).pending = s.pending := rfl
@[simp] theorem onSes_now (s : State) (p : Port) (f : Ses → Ses) : (s.onSes p f).now = s.now := rfl
@[simp] theorem onSes_free (s : State) (p : Port) (f : Ses → Ses) : (s.onSes p f).free = s.free := rfl
@[simp] theorem onSes_status (s : State) (p : Port) (f : Ses → Ses) : (s.onSes p f).status = s.status := rfl
@[simp] theorem onSes_lastRead (s : State) (p : Port) (f : Ses → Ses) : (s.onSes p f).lastRead = s.lastRead := rfl
@[simp] theorem onSes_dev (s : State) (p : Port) (f : Ses → Ses) : (s.onSes p f).dev = s.dev := rfl
@[simp] theorem onSes_pins (s : State) (p : Port) (f : Ses → Ses) : (s.onSes p f).pins = s.pins := rfl
@[simp] theorem onSes_chans (s : State) (p : Port) (f : Ses → Ses) : (s.onSes p f).chans = s.chans := rfl
@[simp] theorem onSes_timers (s : State) (p : Port) (f : Ses → Ses) : (s.onSes p f).timers = s.timers := rfl
@[simp] theorem onSes_tbase (s : State) (p : Port) (f : Ses → Ses) : (s.onSes p f).tbase = s.tbase := rfl
@[simp] theorem onSes_flt (s : State) (p : Port) (f : Ses → Ses) : (s.onSes p f).flt = s.flt := rfl
@[simp] theorem onSes_limp (s : State) (p : Port) (f : Ses → Ses) : (s.onSes p f).limp = s.limp := rfl
@[simp] theorem onSes_meas (s : State) (p : Port) (f : Ses → Ses) : (s.onSes p f).meas = s.meas := rfl
@[simp] theorem onSes_auth (s : State) (p : Port) (f : Ses → Ses) : (s.onSes p f).auth = s.auth := rfl
@[simp] theorem onSes_ports (s : State) (p : Port) (f : Ses → Ses) : (s.onSes p f).ports = s.ports := rfl
@[simp] theorem onSes_recovery (s : State) (p : Port) (f : Ses → Ses) : (s.onSes p f).recovery = s.recovery := rfl
@[simp] theorem onSes_flash (s : State) (p : Port) (f : Ses → Ses) : (s.onSes p f).flash = s.flash := rfl
@[simp] theorem onSes_dlatch (s : State) (p : Port) (f : Ses → Ses) : (s.onSes p f).dlatch = s.dlatch := rfl
@[simp] theorem onSes_flatch (s : State) (p : Port) (f : Ses → Ses) : (s.onSes p f).flatch = s.flatch := rfl
@[simp] theorem onSes_trust (s : State) (p : Port) (f : Ses → Ses) : (s.onSes p f).trust = s.trust := rfl
@[simp] theorem onSes_tap (s : State) (p : Port) (f : Ses → Ses) : (s.onSes p f).tap = s.tap := rfl
@[simp] theorem onSes_otp (s : State) (p : Port) (f : Ses → Ses) : (s.onSes p f).otp = s.otp := rfl
@[simp] theorem onSes_otpRead (s : State) (p : Port) (f : Ses → Ses) : (s.onSes p f).otpRead = s.otpRead := rfl
@[simp] theorem onSes_heldWords (s : State) (p : Port) (f : Ses → Ses) : (s.onSes p f).heldWords = s.heldWords := rfl
@[simp] theorem onSes_store (s : State) (p : Port) (f : Ses → Ses) : (s.onSes p f).store = s.store := rfl
@[simp] theorem onSes_nvs (s : State) (p : Port) (f : Ses → Ses) : (s.onSes p f).nvs = s.nvs := rfl
@[simp] theorem onSes_hold (s : State) (p : Port) (f : Ses → Ses) : (s.onSes p f).hold = s.hold := rfl
@[simp] theorem onSes_sup (s : State) (p : Port) (f : Ses → Ses) : (s.onSes p f).sup = s.sup := rfl
@[simp] theorem onSes_clk (s : State) (p : Port) (f : Ses → Ses) : (s.onSes p f).clk = s.clk := rfl
@[simp] theorem onSes_bist (s : State) (p : Port) (f : Ses → Ses) : (s.onSes p f).bist = s.bist := rfl

/-! ### onPort -/

@[simp] theorem onPort_pending (s : State) (p : Port) (f : PortSt → PortSt) : (s.onPort p f).pending = s.pending := rfl
@[simp] theorem onPort_now (s : State) (p : Port) (f : PortSt → PortSt) : (s.onPort p f).now = s.now := rfl
@[simp] theorem onPort_free (s : State) (p : Port) (f : PortSt → PortSt) : (s.onPort p f).free = s.free := rfl
@[simp] theorem onPort_status (s : State) (p : Port) (f : PortSt → PortSt) : (s.onPort p f).status = s.status := rfl
@[simp] theorem onPort_lastRead (s : State) (p : Port) (f : PortSt → PortSt) : (s.onPort p f).lastRead = s.lastRead := rfl
@[simp] theorem onPort_dev (s : State) (p : Port) (f : PortSt → PortSt) : (s.onPort p f).dev = s.dev := rfl
@[simp] theorem onPort_pins (s : State) (p : Port) (f : PortSt → PortSt) : (s.onPort p f).pins = s.pins := rfl
@[simp] theorem onPort_chans (s : State) (p : Port) (f : PortSt → PortSt) : (s.onPort p f).chans = s.chans := rfl
@[simp] theorem onPort_timers (s : State) (p : Port) (f : PortSt → PortSt) : (s.onPort p f).timers = s.timers := rfl
@[simp] theorem onPort_tbase (s : State) (p : Port) (f : PortSt → PortSt) : (s.onPort p f).tbase = s.tbase := rfl
@[simp] theorem onPort_flt (s : State) (p : Port) (f : PortSt → PortSt) : (s.onPort p f).flt = s.flt := rfl
@[simp] theorem onPort_limp (s : State) (p : Port) (f : PortSt → PortSt) : (s.onPort p f).limp = s.limp := rfl
@[simp] theorem onPort_meas (s : State) (p : Port) (f : PortSt → PortSt) : (s.onPort p f).meas = s.meas := rfl
@[simp] theorem onPort_ses (s : State) (p : Port) (f : PortSt → PortSt) : (s.onPort p f).ses = s.ses := rfl
@[simp] theorem onPort_auth (s : State) (p : Port) (f : PortSt → PortSt) : (s.onPort p f).auth = s.auth := rfl
@[simp] theorem onPort_recovery (s : State) (p : Port) (f : PortSt → PortSt) : (s.onPort p f).recovery = s.recovery := rfl
@[simp] theorem onPort_flash (s : State) (p : Port) (f : PortSt → PortSt) : (s.onPort p f).flash = s.flash := rfl
@[simp] theorem onPort_dlatch (s : State) (p : Port) (f : PortSt → PortSt) : (s.onPort p f).dlatch = s.dlatch := rfl
@[simp] theorem onPort_flatch (s : State) (p : Port) (f : PortSt → PortSt) : (s.onPort p f).flatch = s.flatch := rfl
@[simp] theorem onPort_trust (s : State) (p : Port) (f : PortSt → PortSt) : (s.onPort p f).trust = s.trust := rfl
@[simp] theorem onPort_tap (s : State) (p : Port) (f : PortSt → PortSt) : (s.onPort p f).tap = s.tap := rfl
@[simp] theorem onPort_otp (s : State) (p : Port) (f : PortSt → PortSt) : (s.onPort p f).otp = s.otp := rfl
@[simp] theorem onPort_otpRead (s : State) (p : Port) (f : PortSt → PortSt) : (s.onPort p f).otpRead = s.otpRead := rfl
@[simp] theorem onPort_heldWords (s : State) (p : Port) (f : PortSt → PortSt) : (s.onPort p f).heldWords = s.heldWords := rfl
@[simp] theorem onPort_store (s : State) (p : Port) (f : PortSt → PortSt) : (s.onPort p f).store = s.store := rfl
@[simp] theorem onPort_nvs (s : State) (p : Port) (f : PortSt → PortSt) : (s.onPort p f).nvs = s.nvs := rfl
@[simp] theorem onPort_hold (s : State) (p : Port) (f : PortSt → PortSt) : (s.onPort p f).hold = s.hold := rfl
@[simp] theorem onPort_sup (s : State) (p : Port) (f : PortSt → PortSt) : (s.onPort p f).sup = s.sup := rfl
@[simp] theorem onPort_clk (s : State) (p : Port) (f : PortSt → PortSt) : (s.onPort p f).clk = s.clk := rfl
@[simp] theorem onPort_bist (s : State) (p : Port) (f : PortSt → PortSt) : (s.onPort p f).bist = s.bist := rfl

/-! ### onFlt -/

@[simp] theorem onFlt_pending (s : State) (f : Flt → Flt) : (s.onFlt f).pending = s.pending := rfl
@[simp] theorem onFlt_now (s : State) (f : Flt → Flt) : (s.onFlt f).now = s.now := rfl
@[simp] theorem onFlt_free (s : State) (f : Flt → Flt) : (s.onFlt f).free = s.free := rfl
@[simp] theorem onFlt_status (s : State) (f : Flt → Flt) : (s.onFlt f).status = s.status := rfl
@[simp] theorem onFlt_lastRead (s : State) (f : Flt → Flt) : (s.onFlt f).lastRead = s.lastRead := rfl
@[simp] theorem onFlt_dev (s : State) (f : Flt → Flt) : (s.onFlt f).dev = s.dev := rfl
@[simp] theorem onFlt_pins (s : State) (f : Flt → Flt) : (s.onFlt f).pins = s.pins := rfl
@[simp] theorem onFlt_chans (s : State) (f : Flt → Flt) : (s.onFlt f).chans = s.chans := rfl
@[simp] theorem onFlt_timers (s : State) (f : Flt → Flt) : (s.onFlt f).timers = s.timers := rfl
@[simp] theorem onFlt_tbase (s : State) (f : Flt → Flt) : (s.onFlt f).tbase = s.tbase := rfl
@[simp] theorem onFlt_limp (s : State) (f : Flt → Flt) : (s.onFlt f).limp = s.limp := rfl
@[simp] theorem onFlt_meas (s : State) (f : Flt → Flt) : (s.onFlt f).meas = s.meas := rfl
@[simp] theorem onFlt_ses (s : State) (f : Flt → Flt) : (s.onFlt f).ses = s.ses := rfl
@[simp] theorem onFlt_auth (s : State) (f : Flt → Flt) : (s.onFlt f).auth = s.auth := rfl
@[simp] theorem onFlt_ports (s : State) (f : Flt → Flt) : (s.onFlt f).ports = s.ports := rfl
@[simp] theorem onFlt_recovery (s : State) (f : Flt → Flt) : (s.onFlt f).recovery = s.recovery := rfl
@[simp] theorem onFlt_flash (s : State) (f : Flt → Flt) : (s.onFlt f).flash = s.flash := rfl
@[simp] theorem onFlt_dlatch (s : State) (f : Flt → Flt) : (s.onFlt f).dlatch = s.dlatch := rfl
@[simp] theorem onFlt_flatch (s : State) (f : Flt → Flt) : (s.onFlt f).flatch = s.flatch := rfl
@[simp] theorem onFlt_trust (s : State) (f : Flt → Flt) : (s.onFlt f).trust = s.trust := rfl
@[simp] theorem onFlt_tap (s : State) (f : Flt → Flt) : (s.onFlt f).tap = s.tap := rfl
@[simp] theorem onFlt_otp (s : State) (f : Flt → Flt) : (s.onFlt f).otp = s.otp := rfl
@[simp] theorem onFlt_otpRead (s : State) (f : Flt → Flt) : (s.onFlt f).otpRead = s.otpRead := rfl
@[simp] theorem onFlt_heldWords (s : State) (f : Flt → Flt) : (s.onFlt f).heldWords = s.heldWords := rfl
@[simp] theorem onFlt_store (s : State) (f : Flt → Flt) : (s.onFlt f).store = s.store := rfl
@[simp] theorem onFlt_nvs (s : State) (f : Flt → Flt) : (s.onFlt f).nvs = s.nvs := rfl
@[simp] theorem onFlt_hold (s : State) (f : Flt → Flt) : (s.onFlt f).hold = s.hold := rfl
@[simp] theorem onFlt_sup (s : State) (f : Flt → Flt) : (s.onFlt f).sup = s.sup := rfl
@[simp] theorem onFlt_clk (s : State) (f : Flt → Flt) : (s.onFlt f).clk = s.clk := rfl
@[simp] theorem onFlt_bist (s : State) (f : Flt → Flt) : (s.onFlt f).bist = s.bist := rfl

/-! ### onNvs -/

@[simp] theorem onNvs_pending (s : State) (f : Nvs → Nvs) : (s.onNvs f).pending = s.pending := rfl
@[simp] theorem onNvs_now (s : State) (f : Nvs → Nvs) : (s.onNvs f).now = s.now := rfl
@[simp] theorem onNvs_free (s : State) (f : Nvs → Nvs) : (s.onNvs f).free = s.free := rfl
@[simp] theorem onNvs_status (s : State) (f : Nvs → Nvs) : (s.onNvs f).status = s.status := rfl
@[simp] theorem onNvs_lastRead (s : State) (f : Nvs → Nvs) : (s.onNvs f).lastRead = s.lastRead := rfl
@[simp] theorem onNvs_dev (s : State) (f : Nvs → Nvs) : (s.onNvs f).dev = s.dev := rfl
@[simp] theorem onNvs_pins (s : State) (f : Nvs → Nvs) : (s.onNvs f).pins = s.pins := rfl
@[simp] theorem onNvs_chans (s : State) (f : Nvs → Nvs) : (s.onNvs f).chans = s.chans := rfl
@[simp] theorem onNvs_timers (s : State) (f : Nvs → Nvs) : (s.onNvs f).timers = s.timers := rfl
@[simp] theorem onNvs_tbase (s : State) (f : Nvs → Nvs) : (s.onNvs f).tbase = s.tbase := rfl
@[simp] theorem onNvs_flt (s : State) (f : Nvs → Nvs) : (s.onNvs f).flt = s.flt := rfl
@[simp] theorem onNvs_limp (s : State) (f : Nvs → Nvs) : (s.onNvs f).limp = s.limp := rfl
@[simp] theorem onNvs_meas (s : State) (f : Nvs → Nvs) : (s.onNvs f).meas = s.meas := rfl
@[simp] theorem onNvs_ses (s : State) (f : Nvs → Nvs) : (s.onNvs f).ses = s.ses := rfl
@[simp] theorem onNvs_auth (s : State) (f : Nvs → Nvs) : (s.onNvs f).auth = s.auth := rfl
@[simp] theorem onNvs_ports (s : State) (f : Nvs → Nvs) : (s.onNvs f).ports = s.ports := rfl
@[simp] theorem onNvs_recovery (s : State) (f : Nvs → Nvs) : (s.onNvs f).recovery = s.recovery := rfl
@[simp] theorem onNvs_flash (s : State) (f : Nvs → Nvs) : (s.onNvs f).flash = s.flash := rfl
@[simp] theorem onNvs_dlatch (s : State) (f : Nvs → Nvs) : (s.onNvs f).dlatch = s.dlatch := rfl
@[simp] theorem onNvs_flatch (s : State) (f : Nvs → Nvs) : (s.onNvs f).flatch = s.flatch := rfl
@[simp] theorem onNvs_trust (s : State) (f : Nvs → Nvs) : (s.onNvs f).trust = s.trust := rfl
@[simp] theorem onNvs_tap (s : State) (f : Nvs → Nvs) : (s.onNvs f).tap = s.tap := rfl
@[simp] theorem onNvs_otp (s : State) (f : Nvs → Nvs) : (s.onNvs f).otp = s.otp := rfl
@[simp] theorem onNvs_otpRead (s : State) (f : Nvs → Nvs) : (s.onNvs f).otpRead = s.otpRead := rfl
@[simp] theorem onNvs_heldWords (s : State) (f : Nvs → Nvs) : (s.onNvs f).heldWords = s.heldWords := rfl
@[simp] theorem onNvs_store (s : State) (f : Nvs → Nvs) : (s.onNvs f).store = s.store := rfl
@[simp] theorem onNvs_hold (s : State) (f : Nvs → Nvs) : (s.onNvs f).hold = s.hold := rfl
@[simp] theorem onNvs_sup (s : State) (f : Nvs → Nvs) : (s.onNvs f).sup = s.sup := rfl
@[simp] theorem onNvs_clk (s : State) (f : Nvs → Nvs) : (s.onNvs f).clk = s.clk := rfl
@[simp] theorem onNvs_bist (s : State) (f : Nvs → Nvs) : (s.onNvs f).bist = s.bist := rfl

/-! ### onTrust -/

@[simp] theorem onTrust_pending (f : Trust → Trust) (s : State) : (onTrust f s).pending = s.pending := rfl
@[simp] theorem onTrust_now (f : Trust → Trust) (s : State) : (onTrust f s).now = s.now := rfl
@[simp] theorem onTrust_free (f : Trust → Trust) (s : State) : (onTrust f s).free = s.free := rfl
@[simp] theorem onTrust_status (f : Trust → Trust) (s : State) : (onTrust f s).status = s.status := rfl
@[simp] theorem onTrust_lastRead (f : Trust → Trust) (s : State) : (onTrust f s).lastRead = s.lastRead := rfl
@[simp] theorem onTrust_dev (f : Trust → Trust) (s : State) : (onTrust f s).dev = s.dev := rfl
@[simp] theorem onTrust_pins (f : Trust → Trust) (s : State) : (onTrust f s).pins = s.pins := rfl
@[simp] theorem onTrust_chans (f : Trust → Trust) (s : State) : (onTrust f s).chans = s.chans := rfl
@[simp] theorem onTrust_timers (f : Trust → Trust) (s : State) : (onTrust f s).timers = s.timers := rfl
@[simp] theorem onTrust_tbase (f : Trust → Trust) (s : State) : (onTrust f s).tbase = s.tbase := rfl
@[simp] theorem onTrust_flt (f : Trust → Trust) (s : State) : (onTrust f s).flt = s.flt := rfl
@[simp] theorem onTrust_limp (f : Trust → Trust) (s : State) : (onTrust f s).limp = s.limp := rfl
@[simp] theorem onTrust_meas (f : Trust → Trust) (s : State) : (onTrust f s).meas = s.meas := rfl
@[simp] theorem onTrust_ses (f : Trust → Trust) (s : State) : (onTrust f s).ses = s.ses := rfl
@[simp] theorem onTrust_auth (f : Trust → Trust) (s : State) : (onTrust f s).auth = s.auth := rfl
@[simp] theorem onTrust_ports (f : Trust → Trust) (s : State) : (onTrust f s).ports = s.ports := rfl
@[simp] theorem onTrust_recovery (f : Trust → Trust) (s : State) : (onTrust f s).recovery = s.recovery := rfl
@[simp] theorem onTrust_flash (f : Trust → Trust) (s : State) : (onTrust f s).flash = s.flash := rfl
@[simp] theorem onTrust_dlatch (f : Trust → Trust) (s : State) : (onTrust f s).dlatch = s.dlatch := rfl
@[simp] theorem onTrust_flatch (f : Trust → Trust) (s : State) : (onTrust f s).flatch = s.flatch := rfl
@[simp] theorem onTrust_tap (f : Trust → Trust) (s : State) : (onTrust f s).tap = s.tap := rfl
@[simp] theorem onTrust_otp (f : Trust → Trust) (s : State) : (onTrust f s).otp = s.otp := rfl
@[simp] theorem onTrust_otpRead (f : Trust → Trust) (s : State) : (onTrust f s).otpRead = s.otpRead := rfl
@[simp] theorem onTrust_heldWords (f : Trust → Trust) (s : State) : (onTrust f s).heldWords = s.heldWords := rfl
@[simp] theorem onTrust_store (f : Trust → Trust) (s : State) : (onTrust f s).store = s.store := rfl
@[simp] theorem onTrust_nvs (f : Trust → Trust) (s : State) : (onTrust f s).nvs = s.nvs := rfl
@[simp] theorem onTrust_hold (f : Trust → Trust) (s : State) : (onTrust f s).hold = s.hold := rfl
@[simp] theorem onTrust_sup (f : Trust → Trust) (s : State) : (onTrust f s).sup = s.sup := rfl
@[simp] theorem onTrust_clk (f : Trust → Trust) (s : State) : (onTrust f s).clk = s.clk := rfl
@[simp] theorem onTrust_bist (f : Trust → Trust) (s : State) : (onTrust f s).bist = s.bist := rfl

/-! ### onTap -/

@[simp] theorem onTap_pending (f : Tap → Tap) (s : State) : (onTap f s).pending = s.pending := rfl
@[simp] theorem onTap_now (f : Tap → Tap) (s : State) : (onTap f s).now = s.now := rfl
@[simp] theorem onTap_free (f : Tap → Tap) (s : State) : (onTap f s).free = s.free := rfl
@[simp] theorem onTap_status (f : Tap → Tap) (s : State) : (onTap f s).status = s.status := rfl
@[simp] theorem onTap_lastRead (f : Tap → Tap) (s : State) : (onTap f s).lastRead = s.lastRead := rfl
@[simp] theorem onTap_dev (f : Tap → Tap) (s : State) : (onTap f s).dev = s.dev := rfl
@[simp] theorem onTap_pins (f : Tap → Tap) (s : State) : (onTap f s).pins = s.pins := rfl
@[simp] theorem onTap_chans (f : Tap → Tap) (s : State) : (onTap f s).chans = s.chans := rfl
@[simp] theorem onTap_timers (f : Tap → Tap) (s : State) : (onTap f s).timers = s.timers := rfl
@[simp] theorem onTap_tbase (f : Tap → Tap) (s : State) : (onTap f s).tbase = s.tbase := rfl
@[simp] theorem onTap_flt (f : Tap → Tap) (s : State) : (onTap f s).flt = s.flt := rfl
@[simp] theorem onTap_limp (f : Tap → Tap) (s : State) : (onTap f s).limp = s.limp := rfl
@[simp] theorem onTap_meas (f : Tap → Tap) (s : State) : (onTap f s).meas = s.meas := rfl
@[simp] theorem onTap_ses (f : Tap → Tap) (s : State) : (onTap f s).ses = s.ses := rfl
@[simp] theorem onTap_auth (f : Tap → Tap) (s : State) : (onTap f s).auth = s.auth := rfl
@[simp] theorem onTap_ports (f : Tap → Tap) (s : State) : (onTap f s).ports = s.ports := rfl
@[simp] theorem onTap_recovery (f : Tap → Tap) (s : State) : (onTap f s).recovery = s.recovery := rfl
@[simp] theorem onTap_flash (f : Tap → Tap) (s : State) : (onTap f s).flash = s.flash := rfl
@[simp] theorem onTap_dlatch (f : Tap → Tap) (s : State) : (onTap f s).dlatch = s.dlatch := rfl
@[simp] theorem onTap_flatch (f : Tap → Tap) (s : State) : (onTap f s).flatch = s.flatch := rfl
@[simp] theorem onTap_trust (f : Tap → Tap) (s : State) : (onTap f s).trust = s.trust := rfl
@[simp] theorem onTap_otp (f : Tap → Tap) (s : State) : (onTap f s).otp = s.otp := rfl
@[simp] theorem onTap_otpRead (f : Tap → Tap) (s : State) : (onTap f s).otpRead = s.otpRead := rfl
@[simp] theorem onTap_heldWords (f : Tap → Tap) (s : State) : (onTap f s).heldWords = s.heldWords := rfl
@[simp] theorem onTap_store (f : Tap → Tap) (s : State) : (onTap f s).store = s.store := rfl
@[simp] theorem onTap_nvs (f : Tap → Tap) (s : State) : (onTap f s).nvs = s.nvs := rfl
@[simp] theorem onTap_hold (f : Tap → Tap) (s : State) : (onTap f s).hold = s.hold := rfl
@[simp] theorem onTap_sup (f : Tap → Tap) (s : State) : (onTap f s).sup = s.sup := rfl
@[simp] theorem onTap_clk (f : Tap → Tap) (s : State) : (onTap f s).clk = s.clk := rfl
@[simp] theorem onTap_bist (f : Tap → Tap) (s : State) : (onTap f s).bist = s.bist := rfl

/-! ### onDev -/

@[simp] theorem onDev_pending (f : Dev → Dev) (s : State) : (onDev f s).pending = s.pending := rfl
@[simp] theorem onDev_now (f : Dev → Dev) (s : State) : (onDev f s).now = s.now := rfl
@[simp] theorem onDev_free (f : Dev → Dev) (s : State) : (onDev f s).free = s.free := rfl
@[simp] theorem onDev_status (f : Dev → Dev) (s : State) : (onDev f s).status = s.status := rfl
@[simp] theorem onDev_lastRead (f : Dev → Dev) (s : State) : (onDev f s).lastRead = s.lastRead := rfl
@[simp] theorem onDev_pins (f : Dev → Dev) (s : State) : (onDev f s).pins = s.pins := rfl
@[simp] theorem onDev_chans (f : Dev → Dev) (s : State) : (onDev f s).chans = s.chans := rfl
@[simp] theorem onDev_timers (f : Dev → Dev) (s : State) : (onDev f s).timers = s.timers := rfl
@[simp] theorem onDev_tbase (f : Dev → Dev) (s : State) : (onDev f s).tbase = s.tbase := rfl
@[simp] theorem onDev_flt (f : Dev → Dev) (s : State) : (onDev f s).flt = s.flt := rfl
@[simp] theorem onDev_limp (f : Dev → Dev) (s : State) : (onDev f s).limp = s.limp := rfl
@[simp] theorem onDev_meas (f : Dev → Dev) (s : State) : (onDev f s).meas = s.meas := rfl
@[simp] theorem onDev_ses (f : Dev → Dev) (s : State) : (onDev f s).ses = s.ses := rfl
@[simp] theorem onDev_auth (f : Dev → Dev) (s : State) : (onDev f s).auth = s.auth := rfl
@[simp] theorem onDev_ports (f : Dev → Dev) (s : State) : (onDev f s).ports = s.ports := rfl
@[simp] theorem onDev_recovery (f : Dev → Dev) (s : State) : (onDev f s).recovery = s.recovery := rfl
@[simp] theorem onDev_flash (f : Dev → Dev) (s : State) : (onDev f s).flash = s.flash := rfl
@[simp] theorem onDev_dlatch (f : Dev → Dev) (s : State) : (onDev f s).dlatch = s.dlatch := rfl
@[simp] theorem onDev_flatch (f : Dev → Dev) (s : State) : (onDev f s).flatch = s.flatch := rfl
@[simp] theorem onDev_trust (f : Dev → Dev) (s : State) : (onDev f s).trust = s.trust := rfl
@[simp] theorem onDev_tap (f : Dev → Dev) (s : State) : (onDev f s).tap = s.tap := rfl
@[simp] theorem onDev_otp (f : Dev → Dev) (s : State) : (onDev f s).otp = s.otp := rfl
@[simp] theorem onDev_otpRead (f : Dev → Dev) (s : State) : (onDev f s).otpRead = s.otpRead := rfl
@[simp] theorem onDev_heldWords (f : Dev → Dev) (s : State) : (onDev f s).heldWords = s.heldWords := rfl
@[simp] theorem onDev_store (f : Dev → Dev) (s : State) : (onDev f s).store = s.store := rfl
@[simp] theorem onDev_nvs (f : Dev → Dev) (s : State) : (onDev f s).nvs = s.nvs := rfl
@[simp] theorem onDev_hold (f : Dev → Dev) (s : State) : (onDev f s).hold = s.hold := rfl
@[simp] theorem onDev_sup (f : Dev → Dev) (s : State) : (onDev f s).sup = s.sup := rfl
@[simp] theorem onDev_clk (f : Dev → Dev) (s : State) : (onDev f s).clk = s.clk := rfl
@[simp] theorem onDev_bist (f : Dev → Dev) (s : State) : (onDev f s).bist = s.bist := rfl

/-! ### onClk -/

@[simp] theorem onClk_pending (f : Clk → Clk) (s : State) : (onClk f s).pending = s.pending := rfl
@[simp] theorem onClk_now (f : Clk → Clk) (s : State) : (onClk f s).now = s.now := rfl
@[simp] theorem onClk_free (f : Clk → Clk) (s : State) : (onClk f s).free = s.free := rfl
@[simp] theorem onClk_status (f : Clk → Clk) (s : State) : (onClk f s).status = s.status := rfl
@[simp] theorem onClk_lastRead (f : Clk → Clk) (s : State) : (onClk f s).lastRead = s.lastRead := rfl
@[simp] theorem onClk_dev (f : Clk → Clk) (s : State) : (onClk f s).dev = s.dev := rfl
@[simp] theorem onClk_pins (f : Clk → Clk) (s : State) : (onClk f s).pins = s.pins := rfl
@[simp] theorem onClk_chans (f : Clk → Clk) (s : State) : (onClk f s).chans = s.chans := rfl
@[simp] theorem onClk_timers (f : Clk → Clk) (s : State) : (onClk f s).timers = s.timers := rfl
@[simp] theorem onClk_tbase (f : Clk → Clk) (s : State) : (onClk f s).tbase = s.tbase := rfl
@[simp] theorem onClk_flt (f : Clk → Clk) (s : State) : (onClk f s).flt = s.flt := rfl
@[simp] theorem onClk_limp (f : Clk → Clk) (s : State) : (onClk f s).limp = s.limp := rfl
@[simp] theorem onClk_meas (f : Clk → Clk) (s : State) : (onClk f s).meas = s.meas := rfl
@[simp] theorem onClk_ses (f : Clk → Clk) (s : State) : (onClk f s).ses = s.ses := rfl
@[simp] theorem onClk_auth (f : Clk → Clk) (s : State) : (onClk f s).auth = s.auth := rfl
@[simp] theorem onClk_ports (f : Clk → Clk) (s : State) : (onClk f s).ports = s.ports := rfl
@[simp] theorem onClk_recovery (f : Clk → Clk) (s : State) : (onClk f s).recovery = s.recovery := rfl
@[simp] theorem onClk_flash (f : Clk → Clk) (s : State) : (onClk f s).flash = s.flash := rfl
@[simp] theorem onClk_dlatch (f : Clk → Clk) (s : State) : (onClk f s).dlatch = s.dlatch := rfl
@[simp] theorem onClk_flatch (f : Clk → Clk) (s : State) : (onClk f s).flatch = s.flatch := rfl
@[simp] theorem onClk_trust (f : Clk → Clk) (s : State) : (onClk f s).trust = s.trust := rfl
@[simp] theorem onClk_tap (f : Clk → Clk) (s : State) : (onClk f s).tap = s.tap := rfl
@[simp] theorem onClk_otp (f : Clk → Clk) (s : State) : (onClk f s).otp = s.otp := rfl
@[simp] theorem onClk_otpRead (f : Clk → Clk) (s : State) : (onClk f s).otpRead = s.otpRead := rfl
@[simp] theorem onClk_heldWords (f : Clk → Clk) (s : State) : (onClk f s).heldWords = s.heldWords := rfl
@[simp] theorem onClk_store (f : Clk → Clk) (s : State) : (onClk f s).store = s.store := rfl
@[simp] theorem onClk_nvs (f : Clk → Clk) (s : State) : (onClk f s).nvs = s.nvs := rfl
@[simp] theorem onClk_hold (f : Clk → Clk) (s : State) : (onClk f s).hold = s.hold := rfl
@[simp] theorem onClk_sup (f : Clk → Clk) (s : State) : (onClk f s).sup = s.sup := rfl
@[simp] theorem onClk_bist (f : Clk → Clk) (s : State) : (onClk f s).bist = s.bist := rfl

/-! ### onPins -/

@[simp] theorem onPins_pending (f : Pins → Pins) (s : State) : (onPins f s).pending = s.pending := rfl
@[simp] theorem onPins_now (f : Pins → Pins) (s : State) : (onPins f s).now = s.now := rfl
@[simp] theorem onPins_free (f : Pins → Pins) (s : State) : (onPins f s).free = s.free := rfl
@[simp] theorem onPins_status (f : Pins → Pins) (s : State) : (onPins f s).status = s.status := rfl
@[simp] theorem onPins_lastRead (f : Pins → Pins) (s : State) : (onPins f s).lastRead = s.lastRead := rfl
@[simp] theorem onPins_dev (f : Pins → Pins) (s : State) : (onPins f s).dev = s.dev := rfl
@[simp] theorem onPins_chans (f : Pins → Pins) (s : State) : (onPins f s).chans = s.chans := rfl
@[simp] theorem onPins_timers (f : Pins → Pins) (s : State) : (onPins f s).timers = s.timers := rfl
@[simp] theorem onPins_tbase (f : Pins → Pins) (s : State) : (onPins f s).tbase = s.tbase := rfl
@[simp] theorem onPins_flt (f : Pins → Pins) (s : State) : (onPins f s).flt = s.flt := rfl
@[simp] theorem onPins_limp (f : Pins → Pins) (s : State) : (onPins f s).limp = s.limp := rfl
@[simp] theorem onPins_meas (f : Pins → Pins) (s : State) : (onPins f s).meas = s.meas := rfl
@[simp] theorem onPins_ses (f : Pins → Pins) (s : State) : (onPins f s).ses = s.ses := rfl
@[simp] theorem onPins_auth (f : Pins → Pins) (s : State) : (onPins f s).auth = s.auth := rfl
@[simp] theorem onPins_ports (f : Pins → Pins) (s : State) : (onPins f s).ports = s.ports := rfl
@[simp] theorem onPins_recovery (f : Pins → Pins) (s : State) : (onPins f s).recovery = s.recovery := rfl
@[simp] theorem onPins_flash (f : Pins → Pins) (s : State) : (onPins f s).flash = s.flash := rfl
@[simp] theorem onPins_dlatch (f : Pins → Pins) (s : State) : (onPins f s).dlatch = s.dlatch := rfl
@[simp] theorem onPins_flatch (f : Pins → Pins) (s : State) : (onPins f s).flatch = s.flatch := rfl
@[simp] theorem onPins_trust (f : Pins → Pins) (s : State) : (onPins f s).trust = s.trust := rfl
@[simp] theorem onPins_tap (f : Pins → Pins) (s : State) : (onPins f s).tap = s.tap := rfl
@[simp] theorem onPins_otp (f : Pins → Pins) (s : State) : (onPins f s).otp = s.otp := rfl
@[simp] theorem onPins_otpRead (f : Pins → Pins) (s : State) : (onPins f s).otpRead = s.otpRead := rfl
@[simp] theorem onPins_heldWords (f : Pins → Pins) (s : State) : (onPins f s).heldWords = s.heldWords := rfl
@[simp] theorem onPins_store (f : Pins → Pins) (s : State) : (onPins f s).store = s.store := rfl
@[simp] theorem onPins_nvs (f : Pins → Pins) (s : State) : (onPins f s).nvs = s.nvs := rfl
@[simp] theorem onPins_hold (f : Pins → Pins) (s : State) : (onPins f s).hold = s.hold := rfl
@[simp] theorem onPins_sup (f : Pins → Pins) (s : State) : (onPins f s).sup = s.sup := rfl
@[simp] theorem onPins_clk (f : Pins → Pins) (s : State) : (onPins f s).clk = s.clk := rfl
@[simp] theorem onPins_bist (f : Pins → Pins) (s : State) : (onPins f s).bist = s.bist := rfl

/-! ### onTBase -/

@[simp] theorem onTBase_pending (f : TBase → TBase) (s : State) : (onTBase f s).pending = s.pending := rfl
@[simp] theorem onTBase_now (f : TBase → TBase) (s : State) : (onTBase f s).now = s.now := rfl
@[simp] theorem onTBase_free (f : TBase → TBase) (s : State) : (onTBase f s).free = s.free := rfl
@[simp] theorem onTBase_status (f : TBase → TBase) (s : State) : (onTBase f s).status = s.status := rfl
@[simp] theorem onTBase_lastRead (f : TBase → TBase) (s : State) : (onTBase f s).lastRead = s.lastRead := rfl
@[simp] theorem onTBase_dev (f : TBase → TBase) (s : State) : (onTBase f s).dev = s.dev := rfl
@[simp] theorem onTBase_pins (f : TBase → TBase) (s : State) : (onTBase f s).pins = s.pins := rfl
@[simp] theorem onTBase_chans (f : TBase → TBase) (s : State) : (onTBase f s).chans = s.chans := rfl
@[simp] theorem onTBase_timers (f : TBase → TBase) (s : State) : (onTBase f s).timers = s.timers := rfl
@[simp] theorem onTBase_flt (f : TBase → TBase) (s : State) : (onTBase f s).flt = s.flt := rfl
@[simp] theorem onTBase_limp (f : TBase → TBase) (s : State) : (onTBase f s).limp = s.limp := rfl
@[simp] theorem onTBase_meas (f : TBase → TBase) (s : State) : (onTBase f s).meas = s.meas := rfl
@[simp] theorem onTBase_ses (f : TBase → TBase) (s : State) : (onTBase f s).ses = s.ses := rfl
@[simp] theorem onTBase_auth (f : TBase → TBase) (s : State) : (onTBase f s).auth = s.auth := rfl
@[simp] theorem onTBase_ports (f : TBase → TBase) (s : State) : (onTBase f s).ports = s.ports := rfl
@[simp] theorem onTBase_recovery (f : TBase → TBase) (s : State) : (onTBase f s).recovery = s.recovery := rfl
@[simp] theorem onTBase_flash (f : TBase → TBase) (s : State) : (onTBase f s).flash = s.flash := rfl
@[simp] theorem onTBase_dlatch (f : TBase → TBase) (s : State) : (onTBase f s).dlatch = s.dlatch := rfl
@[simp] theorem onTBase_flatch (f : TBase → TBase) (s : State) : (onTBase f s).flatch = s.flatch := rfl
@[simp] theorem onTBase_trust (f : TBase → TBase) (s : State) : (onTBase f s).trust = s.trust := rfl
@[simp] theorem onTBase_tap (f : TBase → TBase) (s : State) : (onTBase f s).tap = s.tap := rfl
@[simp] theorem onTBase_otp (f : TBase → TBase) (s : State) : (onTBase f s).otp = s.otp := rfl
@[simp] theorem onTBase_otpRead (f : TBase → TBase) (s : State) : (onTBase f s).otpRead = s.otpRead := rfl
@[simp] theorem onTBase_heldWords (f : TBase → TBase) (s : State) : (onTBase f s).heldWords = s.heldWords := rfl
@[simp] theorem onTBase_store (f : TBase → TBase) (s : State) : (onTBase f s).store = s.store := rfl
@[simp] theorem onTBase_nvs (f : TBase → TBase) (s : State) : (onTBase f s).nvs = s.nvs := rfl
@[simp] theorem onTBase_hold (f : TBase → TBase) (s : State) : (onTBase f s).hold = s.hold := rfl
@[simp] theorem onTBase_sup (f : TBase → TBase) (s : State) : (onTBase f s).sup = s.sup := rfl
@[simp] theorem onTBase_clk (f : TBase → TBase) (s : State) : (onTBase f s).clk = s.clk := rfl
@[simp] theorem onTBase_bist (f : TBase → TBase) (s : State) : (onTBase f s).bist = s.bist := rfl

/-! ### onLimp -/

@[simp] theorem onLimp_pending (f : Limp → Limp) (s : State) : (onLimp f s).pending = s.pending := rfl
@[simp] theorem onLimp_now (f : Limp → Limp) (s : State) : (onLimp f s).now = s.now := rfl
@[simp] theorem onLimp_free (f : Limp → Limp) (s : State) : (onLimp f s).free = s.free := rfl
@[simp] theorem onLimp_status (f : Limp → Limp) (s : State) : (onLimp f s).status = s.status := rfl
@[simp] theorem onLimp_lastRead (f : Limp → Limp) (s : State) : (onLimp f s).lastRead = s.lastRead := rfl
@[simp] theorem onLimp_dev (f : Limp → Limp) (s : State) : (onLimp f s).dev = s.dev := rfl
@[simp] theorem onLimp_pins (f : Limp → Limp) (s : State) : (onLimp f s).pins = s.pins := rfl
@[simp] theorem onLimp_chans (f : Limp → Limp) (s : State) : (onLimp f s).chans = s.chans := rfl
@[simp] theorem onLimp_timers (f : Limp → Limp) (s : State) : (onLimp f s).timers = s.timers := rfl
@[simp] theorem onLimp_tbase (f : Limp → Limp) (s : State) : (onLimp f s).tbase = s.tbase := rfl
@[simp] theorem onLimp_flt (f : Limp → Limp) (s : State) : (onLimp f s).flt = s.flt := rfl
@[simp] theorem onLimp_meas (f : Limp → Limp) (s : State) : (onLimp f s).meas = s.meas := rfl
@[simp] theorem onLimp_ses (f : Limp → Limp) (s : State) : (onLimp f s).ses = s.ses := rfl
@[simp] theorem onLimp_auth (f : Limp → Limp) (s : State) : (onLimp f s).auth = s.auth := rfl
@[simp] theorem onLimp_ports (f : Limp → Limp) (s : State) : (onLimp f s).ports = s.ports := rfl
@[simp] theorem onLimp_recovery (f : Limp → Limp) (s : State) : (onLimp f s).recovery = s.recovery := rfl
@[simp] theorem onLimp_flash (f : Limp → Limp) (s : State) : (onLimp f s).flash = s.flash := rfl
@[simp] theorem onLimp_dlatch (f : Limp → Limp) (s : State) : (onLimp f s).dlatch = s.dlatch := rfl
@[simp] theorem onLimp_flatch (f : Limp → Limp) (s : State) : (onLimp f s).flatch = s.flatch := rfl
@[simp] theorem onLimp_trust (f : Limp → Limp) (s : State) : (onLimp f s).trust = s.trust := rfl
@[simp] theorem onLimp_tap (f : Limp → Limp) (s : State) : (onLimp f s).tap = s.tap := rfl
@[simp] theorem onLimp_otp (f : Limp → Limp) (s : State) : (onLimp f s).otp = s.otp := rfl
@[simp] theorem onLimp_otpRead (f : Limp → Limp) (s : State) : (onLimp f s).otpRead = s.otpRead := rfl
@[simp] theorem onLimp_heldWords (f : Limp → Limp) (s : State) : (onLimp f s).heldWords = s.heldWords := rfl
@[simp] theorem onLimp_store (f : Limp → Limp) (s : State) : (onLimp f s).store = s.store := rfl
@[simp] theorem onLimp_nvs (f : Limp → Limp) (s : State) : (onLimp f s).nvs = s.nvs := rfl
@[simp] theorem onLimp_hold (f : Limp → Limp) (s : State) : (onLimp f s).hold = s.hold := rfl
@[simp] theorem onLimp_sup (f : Limp → Limp) (s : State) : (onLimp f s).sup = s.sup := rfl
@[simp] theorem onLimp_clk (f : Limp → Limp) (s : State) : (onLimp f s).clk = s.clk := rfl
@[simp] theorem onLimp_bist (f : Limp → Limp) (s : State) : (onLimp f s).bist = s.bist := rfl

/-! ### onHold -/

@[simp] theorem onHold_pending (f : HoldUp → HoldUp) (s : State) : (onHold f s).pending = s.pending := rfl
@[simp] theorem onHold_now (f : HoldUp → HoldUp) (s : State) : (onHold f s).now = s.now := rfl
@[simp] theorem onHold_free (f : HoldUp → HoldUp) (s : State) : (onHold f s).free = s.free := rfl
@[simp] theorem onHold_status (f : HoldUp → HoldUp) (s : State) : (onHold f s).status = s.status := rfl
@[simp] theorem onHold_lastRead (f : HoldUp → HoldUp) (s : State) : (onHold f s).lastRead = s.lastRead := rfl
@[simp] theorem onHold_dev (f : HoldUp → HoldUp) (s : State) : (onHold f s).dev = s.dev := rfl
@[simp] theorem onHold_pins (f : HoldUp → HoldUp) (s : State) : (onHold f s).pins = s.pins := rfl
@[simp] theorem onHold_chans (f : HoldUp → HoldUp) (s : State) : (onHold f s).chans = s.chans := rfl
@[simp] theorem onHold_timers (f : HoldUp → HoldUp) (s : State) : (onHold f s).timers = s.timers := rfl
@[simp] theorem onHold_tbase (f : HoldUp → HoldUp) (s : State) : (onHold f s).tbase = s.tbase := rfl
@[simp] theorem onHold_flt (f : HoldUp → HoldUp) (s : State) : (onHold f s).flt = s.flt := rfl
@[simp] theorem onHold_limp (f : HoldUp → HoldUp) (s : State) : (onHold f s).limp = s.limp := rfl
@[simp] theorem onHold_meas (f : HoldUp → HoldUp) (s : State) : (onHold f s).meas = s.meas := rfl
@[simp] theorem onHold_ses (f : HoldUp → HoldUp) (s : State) : (onHold f s).ses = s.ses := rfl
@[simp] theorem onHold_auth (f : HoldUp → HoldUp) (s : State) : (onHold f s).auth = s.auth := rfl
@[simp] theorem onHold_ports (f : HoldUp → HoldUp) (s : State) : (onHold f s).ports = s.ports := rfl
@[simp] theorem onHold_recovery (f : HoldUp → HoldUp) (s : State) : (onHold f s).recovery = s.recovery := rfl
@[simp] theorem onHold_flash (f : HoldUp → HoldUp) (s : State) : (onHold f s).flash = s.flash := rfl
@[simp] theorem onHold_dlatch (f : HoldUp → HoldUp) (s : State) : (onHold f s).dlatch = s.dlatch := rfl
@[simp] theorem onHold_flatch (f : HoldUp → HoldUp) (s : State) : (onHold f s).flatch = s.flatch := rfl
@[simp] theorem onHold_trust (f : HoldUp → HoldUp) (s : State) : (onHold f s).trust = s.trust := rfl
@[simp] theorem onHold_tap (f : HoldUp → HoldUp) (s : State) : (onHold f s).tap = s.tap := rfl
@[simp] theorem onHold_otp (f : HoldUp → HoldUp) (s : State) : (onHold f s).otp = s.otp := rfl
@[simp] theorem onHold_otpRead (f : HoldUp → HoldUp) (s : State) : (onHold f s).otpRead = s.otpRead := rfl
@[simp] theorem onHold_heldWords (f : HoldUp → HoldUp) (s : State) : (onHold f s).heldWords = s.heldWords := rfl
@[simp] theorem onHold_store (f : HoldUp → HoldUp) (s : State) : (onHold f s).store = s.store := rfl
@[simp] theorem onHold_nvs (f : HoldUp → HoldUp) (s : State) : (onHold f s).nvs = s.nvs := rfl
@[simp] theorem onHold_sup (f : HoldUp → HoldUp) (s : State) : (onHold f s).sup = s.sup := rfl
@[simp] theorem onHold_clk (f : HoldUp → HoldUp) (s : State) : (onHold f s).clk = s.clk := rfl
@[simp] theorem onHold_bist (f : HoldUp → HoldUp) (s : State) : (onHold f s).bist = s.bist := rfl

/-! ### onRecovery -/

@[simp] theorem onRecovery_pending (f : Recovery → Recovery) (s : State) : (onRecovery f s).pending = s.pending := rfl
@[simp] theorem onRecovery_now (f : Recovery → Recovery) (s : State) : (onRecovery f s).now = s.now := rfl
@[simp] theorem onRecovery_free (f : Recovery → Recovery) (s : State) : (onRecovery f s).free = s.free := rfl
@[simp] theorem onRecovery_status (f : Recovery → Recovery) (s : State) : (onRecovery f s).status = s.status := rfl
@[simp] theorem onRecovery_lastRead (f : Recovery → Recovery) (s : State) : (onRecovery f s).lastRead = s.lastRead := rfl
@[simp] theorem onRecovery_dev (f : Recovery → Recovery) (s : State) : (onRecovery f s).dev = s.dev := rfl
@[simp] theorem onRecovery_pins (f : Recovery → Recovery) (s : State) : (onRecovery f s).pins = s.pins := rfl
@[simp] theorem onRecovery_chans (f : Recovery → Recovery) (s : State) : (onRecovery f s).chans = s.chans := rfl
@[simp] theorem onRecovery_timers (f : Recovery → Recovery) (s : State) : (onRecovery f s).timers = s.timers := rfl
@[simp] theorem onRecovery_tbase (f : Recovery → Recovery) (s : State) : (onRecovery f s).tbase = s.tbase := rfl
@[simp] theorem onRecovery_flt (f : Recovery → Recovery) (s : State) : (onRecovery f s).flt = s.flt := rfl
@[simp] theorem onRecovery_limp (f : Recovery → Recovery) (s : State) : (onRecovery f s).limp = s.limp := rfl
@[simp] theorem onRecovery_meas (f : Recovery → Recovery) (s : State) : (onRecovery f s).meas = s.meas := rfl
@[simp] theorem onRecovery_ses (f : Recovery → Recovery) (s : State) : (onRecovery f s).ses = s.ses := rfl
@[simp] theorem onRecovery_auth (f : Recovery → Recovery) (s : State) : (onRecovery f s).auth = s.auth := rfl
@[simp] theorem onRecovery_ports (f : Recovery → Recovery) (s : State) : (onRecovery f s).ports = s.ports := rfl
@[simp] theorem onRecovery_flash (f : Recovery → Recovery) (s : State) : (onRecovery f s).flash = s.flash := rfl
@[simp] theorem onRecovery_dlatch (f : Recovery → Recovery) (s : State) : (onRecovery f s).dlatch = s.dlatch := rfl
@[simp] theorem onRecovery_flatch (f : Recovery → Recovery) (s : State) : (onRecovery f s).flatch = s.flatch := rfl
@[simp] theorem onRecovery_trust (f : Recovery → Recovery) (s : State) : (onRecovery f s).trust = s.trust := rfl
@[simp] theorem onRecovery_tap (f : Recovery → Recovery) (s : State) : (onRecovery f s).tap = s.tap := rfl
@[simp] theorem onRecovery_otp (f : Recovery → Recovery) (s : State) : (onRecovery f s).otp = s.otp := rfl
@[simp] theorem onRecovery_otpRead (f : Recovery → Recovery) (s : State) : (onRecovery f s).otpRead = s.otpRead := rfl
@[simp] theorem onRecovery_heldWords (f : Recovery → Recovery) (s : State) : (onRecovery f s).heldWords = s.heldWords := rfl
@[simp] theorem onRecovery_store (f : Recovery → Recovery) (s : State) : (onRecovery f s).store = s.store := rfl
@[simp] theorem onRecovery_nvs (f : Recovery → Recovery) (s : State) : (onRecovery f s).nvs = s.nvs := rfl
@[simp] theorem onRecovery_hold (f : Recovery → Recovery) (s : State) : (onRecovery f s).hold = s.hold := rfl
@[simp] theorem onRecovery_sup (f : Recovery → Recovery) (s : State) : (onRecovery f s).sup = s.sup := rfl
@[simp] theorem onRecovery_clk (f : Recovery → Recovery) (s : State) : (onRecovery f s).clk = s.clk := rfl
@[simp] theorem onRecovery_bist (f : Recovery → Recovery) (s : State) : (onRecovery f s).bist = s.bist := rfl

/-! ### Reads of the changed part -/

@[simp] theorem onFlt_flt (s : State) (f : Flt → Flt) : (s.onFlt f).flt = f s.flt := rfl
@[simp] theorem onNvs_nvs (s : State) (f : Nvs → Nvs) : (s.onNvs f).nvs = f s.nvs := rfl
@[simp] theorem onTrust_trust (f : Trust → Trust) (s : State) : (onTrust f s).trust = f s.trust := rfl
@[simp] theorem onTap_tap (f : Tap → Tap) (s : State) : (onTap f s).tap = f s.tap := rfl
@[simp] theorem onDev_dev (f : Dev → Dev) (s : State) : (onDev f s).dev = f s.dev := rfl
@[simp] theorem onClk_clk (f : Clk → Clk) (s : State) : (onClk f s).clk = f s.clk := rfl
@[simp] theorem onPins_pins (f : Pins → Pins) (s : State) : (onPins f s).pins = f s.pins := rfl
@[simp] theorem onTBase_tbase (f : TBase → TBase) (s : State) : (onTBase f s).tbase = f s.tbase := rfl
@[simp] theorem onLimp_limp (f : Limp → Limp) (s : State) : (onLimp f s).limp = f s.limp := rfl
@[simp] theorem onHold_hold (f : HoldUp → HoldUp) (s : State) : (onHold f s).hold = f s.hold := rfl
@[simp] theorem onRecovery_recovery (f : Recovery → Recovery) (s : State) : (onRecovery f s).recovery = f s.recovery := rfl

theorem two_get_set {α : Type} (t : Two α) (p : Port) (v : α) : (t.set p v).get p = v := by cases p <;> rfl

theorem two_get_set_ne {α : Type} (t : Two α) (p q : Port) (v : α) (h : p ≠ q) : (t.set p v).get q = t.get q := by
  cases p <;> cases q <;> first | rfl | exact absurd rfl h

@[simp] theorem onSes_get (s : State) (p : Port) (f : Ses → Ses) : (s.onSes p f).ses.get p = f (s.ses.get p) := by cases p <;> rfl

theorem onSes_get_ne (s : State) (p q : Port) (f : Ses → Ses) (h : p ≠ q) : (s.onSes p f).ses.get q = s.ses.get q :=
  two_get_set_ne _ _ _ _ h

@[simp] theorem onPort_get (s : State) (p : Port) (f : PortSt → PortSt) : (s.onPort p f).ports.get p = f (s.ports.get p) := by
  cases p <;> rfl

theorem onPort_get_ne (s : State) (p q : Port) (f : PortSt → PortSt) (h : p ≠ q) : (s.onPort p f).ports.get q = s.ports.get q :=
  two_get_set_ne _ _ _ _ h

@[simp] theorem onCh_length (s : State) (n : Nat) (f : Chan → Chan) : (s.onCh n f).chans.length = s.chans.length := by
  simp [State.onCh]

@[simp] theorem onTm_length (s : State) (n : Nat) (f : Timer → Timer) : (s.onTm n f).timers.length = s.timers.length := by
  simp [State.onTm]

/-- Channel n after an update of channel n. -/
theorem ch_onCh (s : State) (n : Nat) (f : Chan → Chan) (h : n < s.chans.length) : (s.onCh n f).ch n = f (s.ch n) := by
  simp [State.onCh, State.ch, List.getD, h]

theorem ch_onCh_ne (s : State) (n k : Nat) (f : Chan → Chan) (h : n ≠ k) : (s.onCh n f).ch k = s.ch k := by
  simp [State.onCh, State.ch, List.getD, h]

/-- A field that an update keeps reads the same on every channel. -/
theorem ch_onCh_keep {α : Type} (g : Chan → α) (s : State) (n k : Nat) (f : Chan → Chan) (h : ∀ c, g (f c) = g c) :
    g ((s.onCh n f).ch k) = g (s.ch k) := by
  simp only [State.onCh, State.ch, List.getD, List.getElem?_modify]
  split <;> cases s.chans[k]? <;> simp [h]

theorem tm_onTm (s : State) (n : Nat) (f : Timer → Timer) (h : n < s.timers.length) : (s.onTm n f).tm n = f (s.tm n) := by
  simp [State.onTm, State.tm, List.getD, h]

theorem tm_onTm_ne (s : State) (n k : Nat) (f : Timer → Timer) (h : n ≠ k) : (s.onTm n f).tm k = s.tm k := by
  simp [State.onTm, State.tm, List.getD, h]

@[simp] theorem onTm_ch (s : State) (n k : Nat) (f : Timer → Timer) : (s.onTm n f).ch k = s.ch k := rfl

@[simp] theorem onCh_tm (s : State) (n k : Nat) (f : Chan → Chan) : (s.onCh n f).tm k = s.tm k := rfl

end Sys2Proof.Machine
end

