-- ==== Sys2Proof/Laws/Store.lean ====
section
/-! SUPPORT. The stored fault log: putting a page keeps the canonical form, and a read after it finds that page and no other change. -/

namespace Sys2Proof.Machine

/-- A page put into the log is found there. -/
theorem logPage_put_same (st : Store) (p : LogPage) : logPage { st with log := putLogPage st.log p } p.page = p := by
  have h : (st.log.filter fun q => q.page < p.page).find? (fun q => q.page == p.page) = none := by
    rw [List.find?_eq_none]
    intro q hq
    have := (List.mem_filter.mp hq).2
    simp only [decide_eq_true_eq] at this
    simp only [beq_iff_eq]
    omega
  simp [logPage, putLogPage, List.find?_append, h]

/-- The entries below a page. -/
theorem find_below (l : List LogPage) (k pg : Nat) :
    (l.filter fun q => q.page < k).find? (fun q => q.page == pg) = if pg < k then l.find? (fun q => q.page == pg) else none := by
  induction l with
  | nil => simp
  | cons a l ih =>
    by_cases ha : a.page < k
    · by_cases hp : a.page = pg
      · subst hp
        simp [ha]
      · simp [ha, hp, ih]
    · by_cases hp : a.page = pg
      · subst hp
        simp [ha, ih]
      · simp [ha, hp, ih]

/-- The entries above a page. -/
theorem find_above (l : List LogPage) (k pg : Nat) :
    (l.filter fun q => k < q.page).find? (fun q => q.page == pg) = if k < pg then l.find? (fun q => q.page == pg) else none := by
  induction l with
  | nil => simp
  | cons a l ih =>
    by_cases ha : k < a.page
    · by_cases hp : a.page = pg
      · subst hp
        simp [ha]
      · simp [ha, hp, ih]
    · by_cases hp : a.page = pg
      · subst hp
        simp [ha, ih]
      · simp [ha, hp, ih]

/-- Every other page reads as before. -/
theorem logPage_put_other (st : Store) (p : LogPage) (pg : Nat) (h : pg ≠ p.page) :
    logPage { st with log := putLogPage st.log p } pg = logPage st pg := by
  have hb : (p.page == pg) = false := by simpa using fun e => h e.symm
  unfold logPage putLogPage
  simp only [List.find?_append, find_below, find_above, List.find?_cons, hb, List.find?_nil]
  rcases Nat.lt_or_gt_of_ne h with hl | hl
  · have : ¬p.page < pg := by omega
    simp [hl, this]
  · have : ¬pg < p.page := by omega
    simp [hl, this]

/-- The pages stay in rising order. -/
theorem putLogPage_sorted (l : List LogPage) (p : LogPage) (h : (l.map LogPage.page).Pairwise (· < ·)) :
    ((putLogPage l p).map LogPage.page).Pairwise (· < ·) := by
  rw [List.pairwise_map] at h ⊢
  unfold putLogPage
  rw [List.pairwise_append, List.pairwise_append]
  refine ⟨⟨h.filter _, List.pairwise_singleton _ _, ?_⟩, h.filter _, ?_⟩
  · intro a ha b hb
    have := (List.mem_filter.mp ha).2
    simp only [decide_eq_true_eq] at this
    simp only [List.mem_singleton] at hb
    subst hb
    exact this
  · intro a ha b hb
    have h2 := (List.mem_filter.mp hb).2
    simp only [decide_eq_true_eq] at h2
    rcases List.mem_append.mp ha with ha | ha
    · have h1 := (List.mem_filter.mp ha).2
      simp only [decide_eq_true_eq] at h1
      omega
    · simp only [List.mem_singleton] at ha
      subst ha
      exact h2

/-- Putting a page of the area with the words of no more than 15 records keeps the log in order. -/
theorem putLogPage_stored {st : Store} {p : LogPage} (h : LogStored st) (h1 : 512 ≤ p.page) (h2 : p.page < 2048) (h3 : p.header.length ≤ 4) (h4 : p.words.length ≤ 60) :
    LogStored { st with log := putLogPage st.log p } := by
  refine ⟨putLogPage_sorted _ _ h.1, ?_, h.2.2⟩
  intro q hq
  unfold putLogPage at hq
  rcases List.mem_append.mp hq with hq | hq
  · rcases List.mem_append.mp hq with hq | hq
    · exact h.2.1 q (List.mem_filter.mp hq).1
    · simp only [List.mem_singleton] at hq
      subst hq
      exact ⟨h1, h2, h3, h4⟩
  · exact h.2.1 q (List.mem_filter.mp hq).1

/-! ### Words of the store (15 R393) -/

theorem crcStep_lt (c : Nat) (b : Bool) : crcStep c b < 256 := by
  unfold crcStep
  dsimp only
  split
  · exact Nat.xor_lt_two_pow (n := 8) (Nat.mod_lt _ (by omega)) (by omega)
  · exact Nat.mod_lt _ (by omega)

theorem crcBits_lt (k x c : Nat) (h : c < 256) : crcBits k x c < 256 := by
  induction k generalizing c with
  | zero => exact h
  | succ k ih => exact ih _ (crcStep_lt _ _)

/-- A check is one byte (00 R7). -/
theorem chk_lt (addr : Nat) (d : D28) : chk addr d < 256 := crcBits_lt _ _ _ (by omega)

/-- A data word holds its DATA. -/
@[simp] theorem wData_dataWord (addr : Nat) (d : D28) : wData (dataWord addr d) = d := by
  have := chk_lt addr d
  apply BitVec.eq_of_toNat_eq
  simp only [wData, dataWord, d28, BitVec.toNat_ofNat]
  omega

/-- A data word reads as data at its address (00 R11). -/
@[simp] theorem isData_dataWord (addr : Nat) (d : D28) : isData addr (dataWord addr d) = true := by
  have h := chk_lt addr d
  unfold isData
  rw [wData_dataWord]
  have := d.isLt
  simp only [wChk, dataWord, BitVec.toNat_ofNat, beq_iff_eq]
  omega

/-- The words of a page read back as what they hold. -/
@[simp] theorem pageData_pageWords (pg : Nat) (ds : List D28) : pageData pg (pageWords pg ds) = some ds := by
  have h1 : ((pageWords pg ds).mapIdx fun k w => isData (pageAddr pg k) w).all id = true := by
    rw [List.all_eq_true]
    intro b hb
    obtain ⟨i, hi, rfl⟩ := List.mem_mapIdx.mp hb
    simp [pageWords]
  have h2 : (pageWords pg ds).map wData = ds := by
    apply List.ext_getElem <;> simp [pageWords]
  unfold pageData
  simp only [h1, h2, if_true]

/-- A copy reads back with its generation, when that is a 28-bit number, and what it holds. -/
theorem readCopy_copyWords {α : Type} (f : Layout α) (pg gen : Nat) (v : α) (h : gen < 2 ^ 28) :
    readCopy f pg (.copy (copyWords f pg gen v)) = some ⟨pg, gen, f.get (f.put v)⟩ := by
  simp [readCopy, copyWords, d28]
  omega

/-- A stored level reads back. -/
theorem shadowLayout_get (l : Nat) (h : l < 2 ^ 28) : shadowLayout.get (shadowLayout.put l) = l := by
  simp [shadowLayout, d28]
  omega

theorem splitBits_join (w : Nat) (l : List Nat) (h : ∀ x ∈ l, x < 2 ^ w) : splitBits w l.length (joinBits w l) = l := by
  induction l with
  | nil => rfl
  | cons d l ih =>
    have hd := h d (by simp)
    have h1 : (d + 2 ^ w * joinBits w l) % 2 ^ w = d := by rw [Nat.add_mul_mod_self_left, Nat.mod_eq_of_lt hd]
    have h2 : (d + 2 ^ w * joinBits w l) / 2 ^ w = joinBits w l := by
      rw [Nat.add_mul_div_left _ _ (by positivity), Nat.div_eq_of_lt hd, Nat.zero_add]
    simp only [List.length_cons, joinBits, splitBits, h1, h2, ih fun x hx => h x (by simp [hx])]

theorem joinBits_split (w n x : Nat) (h : x < 2 ^ (w * n)) : joinBits w (splitBits w n x) = x := by
  induction n generalizing x with
  | zero =>
    have : x = 0 := by simpa using h
    simp [splitBits, joinBits, this]
  | succ n ih =>
    have hx : x / 2 ^ w < 2 ^ (w * n) := by
      rw [Nat.div_lt_iff_lt_mul (by positivity), ← pow_add]
      exact h
    simp only [splitBits, joinBits, ih _ hx]
    exact Nat.mod_add_div x (2 ^ w)

theorem joinBits_lt (w : Nat) (l : List Nat) (h : ∀ x ∈ l, x < 2 ^ w) : joinBits w l < 2 ^ (w * l.length) := by
  induction l with
  | nil => simp [joinBits]
  | cons d l ih =>
    have hd := h d (by simp)
    have hl := ih fun x hx => h x (by simp [hx])
    have he : 2 ^ (w * (l.length + 1)) = 2 ^ w * 2 ^ (w * l.length) := by rw [← pow_add]; ring_nf
    have hm : 2 ^ w * (joinBits w l + 1) ≤ 2 ^ w * 2 ^ (w * l.length) := Nat.mul_le_mul_left _ hl
    simp only [joinBits, List.length_cons, he]
    rw [Nat.mul_add] at hm
    omega

theorem splitBits_lt (w n x : Nat) : ∀ y ∈ splitBits w n x, y < 2 ^ w := by
  induction n generalizing x with
  | zero => simp [splitBits]
  | succ n ih =>
    intro y hy
    rcases List.mem_cons.mp hy with rfl | hy
    · exact Nat.mod_lt _ (by positivity)
    · exact ih _ y hy

/-- A stored map of twelve channels reads back. -/
theorem mapLayout_get (m : List Mask42) (h : m.length = 12) : mapLayout.get (mapLayout.put m) = m := by
  have hm : ∀ x ∈ m.map BitVec.toNat, x < 2 ^ 42 := by
    intro x hx
    obtain ⟨b, -, rfl⟩ := List.mem_map.mp hx
    exact b.isLt
  have hl : (m.map BitVec.toNat).length = 12 := by simpa using h
  have hN : joinBits 42 (m.map BitVec.toNat) < 2 ^ (28 * 18) := by
    have := joinBits_lt 42 _ hm
    rw [hl] at this
    have he : 28 * 18 = 42 * 12 := rfl
    rwa [he]
  have hd : ((splitBits 28 18 (joinBits 42 (m.map BitVec.toNat))).map d28).map BitVec.toNat =
      splitBits 28 18 (joinBits 42 (m.map BitVec.toNat)) := by
    rw [List.map_map]
    refine (List.map_congr_left fun x hx => ?_).trans (List.map_id _)
    have := splitBits_lt 28 18 _ x hx
    simp only [Function.comp, d28, BitVec.toNat_ofNat, id]
    omega
  have hs : splitBits 42 12 (joinBits 42 (m.map BitVec.toNat)) = m.map BitVec.toNat := by
    have := splitBits_join 42 _ hm
    rwa [hl] at this
  simp only [mapLayout, hd, joinBits_split _ _ _ hN, hs, List.map_map]
  refine (List.map_congr_left fun b _ => ?_).trans (List.map_id _)
  simp

/-- The store as delivered is in order. -/
theorem reset_stored : LogStored Store.reset := by
  simp [LogStored, Store.reset]

end Sys2Proof.Machine
end

