-- ==== Sys2Proof/WellFormed.lean ====
section
/-! DEFINITION. Commands that the part's surroundings can present: the bounds that the spec sets on an event's own data. No meaning assumes them. -/

namespace Sys2Proof

/-- What a test can report (16 R406): an analogue test one value for each of its numbered checks, a digital test the match of its signature. -/
def TestEnd.wf (test : Nat) : TestEnd → Bool
  | .steps vs => vs.length == (if test < 12 then 47 else if test < 24 then 5 else if test < 28 then 2 else 3) && test < 29
  | .signature _ => 29 ≤ test

/-- Slots of SAR0 and SAR1 that hold a conversion (05 R123). -/
def sarSlotUsed (slot : Nat) : Bool := slot < 13 || (25 ≤ slot && slot < 38)

/-- An empty window holds no frame, and the lag time is judged at the rise of select (10 R277). -/
def WindowEnd.wf (w : WindowEnd) : Bool := !(w.inFrame && w.bits == 0) && (w.rise || !w.lagShort)

/-- A reel has at most the 65,535 words of LENGTH (08 R224), and a read whose F_DQS edge does not arrive fails (10 R293). -/
def ReelRead.wf (r : ReelRead) : Bool := r.words.length ≤ 65535 && (r.failed || !r.dqsTimeout)

/-- An aperture page has 2,048 words (09 R268). -/
def PageRead.wf : PageRead → Bool
  | .words ws => ws.length == 2048
  | .failed _ => true

/-- The command's own data lies within the bounds the spec gives. -/
def Instr.wf : Instr → Bool
  | .sarConversion _ slot _ _ _ => sarSlotUsed slot.val
  | .selectRise _ w => w.wf
  | .reelLoadDone r => r.wf
  | .provision _ r => r.wf
  | .wrreg _ r => r.wf
  | .apertureVerifyDone p => p.wf
  | .bistTestDone test r => r.wf test.val
  | .vholdConversion code => code < 16384
  | .flaconTestComplete a b => a ≤ 16 * 16383 && b ≤ 16 * 16383
  | .rdreg _ count => 1 ≤ count
  | .hello _ ws => 4 ≤ ws.length
  | .key _ ws => 4 ≤ ws.length
  | .read _ ws => ws.length == 4
  | .write _ ws => 5 ≤ ws.length
  | .arm _ ws => 5 ≤ ws.length
  | .commit _ ws => 5 ≤ ws.length
  | .retire _ ws => 5 ≤ ws.length
  | .lease _ ws => ws.length == 5
  | .give _ ws => ws.length == 5
  | .take _ ws => ws.length == 5
  | .request _ ws => ws.length == 5
  | .refuse _ ws => ws.length == 5
  | _ => true

end Sys2Proof
end

