-- ==== Sys2Proof/Tests/Slice0.lean ====
section
/-! SUPPORT. The model's own tests: ill-formed commands, worked values of the spec, and for every statement one theorem whose states and operands meet its hypotheses. -/

set_option Elab.async false
set_option linter.unusedVariables false

namespace Sys2Proof.Tests

open Sys2Proof Sys2Proof.Machine

/-! ### States -/

/-- A device in service 200 s after lock: structure applied, batteries in range, gate supplies up, and port 0 with a session under a zero key, a lease and write authority. -/
def busy : State := { State.reset with
  now := 200000000
  dev := { Dev.reset with phase := .service, struct := true, stok := true, fpermit := true, image := 0x1400000 }
  clk := { Clk.reset with locked := true, armed := true, senseArmed := true }
  sup := { Sup.reset with vddc := true, vddio := true, vdrv := true, vbatA := true, vbatB := true }
  chans := List.replicate 12 { Chan.reset with bstLow := false, bstUv := false }
  ses := ⟨{ Ses.reset with established := true, keys := some ⟨0, 0⟩, auth := true, inj := true, leaseValid := true, leaseAt := 199999000, leaseSeen := true },
    Ses.reset⟩
  auth := { Auth.reset with holder := some .h0, granted := true, cfg := 0x0C88000 }
  ports := ⟨{ PortSt.reset with cfg := 0x8000000, sel := true, normal := true }, { PortSt.reset with cfg := 0x8000000 }⟩ }

/-- Channel 0 changed. -/
def ch0 (f : Chan → Chan) : State := busy.onCh 0 f

/-- Channel 0 in step 1 of a ladder of two steps. -/
def ladState (f : Ladder → Ladder) : State :=
  let s := ch0 fun c => { c with drive := .ladder, lad := f { Ladder.reset with step := 1 }, hs := 1 }
  { s with dev := { s.dev with ladders := [[0x0080000, 0x28C8015, 0x8A00000, 0x28C8014, 0x8A00000]] } }

/-- Timer 0 changed. -/
def tm0 (f : Timer → Timer) : State := busy.onTm 0 f

/-- Port 0's session changed. -/
def ses0 (f : Ses → Ses) : State := busy.onSes .h0 f

/-- A token with some rights. -/
def token (r : BitVec 3) : State := { busy with trust := { busy.trust with token := some r } }

/-- The hold-up covers a program. -/
def charged (f : Nvs → Nvs) : State :=
  { busy with hold := { busy.hold with state := .ready, capValid := true, cap := 10000, eav := 20000, vhold := some ⟨24000, 0, 200000000, 0⟩ }, nvs := f busy.nvs }

/-- A start that ended without structure, with port 0 selected. -/
def recovery : State :=
  { State.reset with dev := { Dev.reset with phase := .nostruct }, flash := { State.reset.flash with mode := 1, densLog := 24, lastPg := 1819 }, ports := ⟨{ PortSt.reset with sel := true }, PortSt.reset⟩ }

/-- Some microseconds into the measurement cycle and the sweep that begin at `busy`. -/
def later (k : Nat) : State := { busy with now := 200000000 + k }

/-- Channels 0 and 1 with one TOPO word. -/
def duo (topo : D28) (f g : Chan → Chan) : State := (busy.onCh 1 fun c => g { c with topo := topo }).onCh 0 fun c => f { c with topo := topo }

/-- CH0 with all its segments engaged at 85 °C and nominal calibration words of its on-resistance. -/
def warm : State :=
  let s := busy.onCh 0 fun c => { c with hs := 0x3FFFFFFFFFF }
  { s with meas := { s.meas with
      seg := List.replicate 504 (some ⟨5440, 0, 0, 0⟩)
      cal := ((s.meas.cal.set 2 (List.replicate 12 ⟨24120, true⟩)).set 3 (List.replicate 12 ⟨444, true⟩)).set 4 (List.replicate 12 ⟨3112, true⟩) } }

/-- A start in a phase. -/
def starting (p : Phase) : State := { State.reset with dev := { Dev.reset with phase := p } }

/-! ### Frames, an image, a certificate and a token, made outside the model with OpenSSL and a P-384 of our own; every private key is 1, so that every public key is the base point -/

/-- A frame with the given authentication words. -/
def frame (hd : D28) (pl : List D28) (seq : Nat) (au : D28 × D28) : List W36 := frameOf (frameBody hd (dataWords pl) (d28 (16 * seq))) au

/-- A MAC frame with SEQ 1. -/
def macFrame (hd : D28) (pl : List D28) (mac : BitVec 56) : List W36 := frame hd pl 1 (macHalves mac)

def leaseF : List W36 := macFrame 0xD400001 [1] 0x7A5C87FF46095F
def leaseBadF : List W36 := macFrame 0xD400001 [0x1000001] 0xE212E9B67B9DF4
def readF : List W36 := macFrame 0x0000002 [] 0x8A6EAE0C148010
def writeF : List W36 := macFrame 0x8D08001 [8] 0x01EB5ECA4CB61A
def armF : List W36 := macFrame 0xC800002 [0x3CC, 1] 0x053F3C94B897BF
def commitF : List W36 := macFrame 0xCC00002 [0, 5] 0xF4DFA27816DDD8
def retireF : List W36 := macFrame 0xD000001 [7] 0x8D552D06564370
def giveF : List W36 := macFrame 0xD800001 [0] 0x5FB09A65F6358A
def eventF : List W36 := macFrame 0xDC00001 [0] 0x1EE53437C8CAA7

def helloF : List W36 := frame 0xC00002B (0x1000000 :: (split384 1 ++ split384 p384G.1 ++ split384 p384G.2)) 0 (crcHalves 0x5E84EB25)

def sigR : Nat := 0xdcb85e46aaca0bdec564fe9da03f4e8d3949feccba3be65ed01757f18203e8df3ca70113cc22431880b2ac710aac3cc7

/-- An owner-signed certificate for both ports with every right, and SIGT over an empty M1 and M2. -/
def certW : List D28 :=
  [0xC3A7100, 0x0103C00, 0x0000500] ++ split384 p384G.1 ++ split384 p384G.2 ++ split384 sigR ++
    split384 0xe55db37bf92de8a0e4dcfbf037954fe2703b9138b67708c15fef18eb61ec340975b683450b4dbe2abf6974a5dc5bf35b ++
    split384 sigR ++ split384 0xc824d3d888f8816b226e3ec7ece804825e1b60b21b3bc30eece1f46920a822aa5d17e3a79fa8325afb85c22d3ff03431

/-- A HELLO whose point is not on the curve. -/
def helloOffF : List W36 := frame 0xC00002B (0x1000000 :: (split384 1 ++ split384 p384G.1 ++ split384 p384G.1)) 0 (crcHalves 0xB1BAFA40)

def keyF : List W36 := frame 0xC400057 certW 1 (crcHalves 0x7851CACC)

/-- An image of sections TOPO, PROT and SESSION. -/
def imageW : List W36 :=
  ([0x51A7100, 0x00AB0C0, 0x1242000, 0] ++ split384 p384G.1 ++ split384 p384G.2 ++ split384 sigR ++
    split384 0x25f6eb4a354832f729e196752ad6d1c6cf121d946892a1efe2d4061718980cd4e1b48bae870d0256805c13a482621358 ++
    [0x0400042, 13, 0x0C0004F, 86, 0x20000A5, 6, 0x040000D] ++ List.replicate 12 0x0003C00 ++ [0x0C00056] ++
    (List.range 12).flatMap (fun _ => [40, 20, 8, 0x1F, 0, 0, 0]) ++ [0, 0x2000006, 0x8000000, 0, 0, 0, 0x0C88000]).mapIdx dataWord

def reel : ReelRead := ⟨imageW, 0, false, false⟩

def ownerHash : BitVec 384 := 0x8c4f262412b7f9ed867606705a130de5212fd048fbaf8c3842f4a240f4b45ba0c90f82194ccdda3ed89c96b0afe1d51d

def tokenW : List W36 :=
  ([0xDB61107, 0x0100000] ++ split384 ownerHash.toNat ++ split384 sigR ++
    split384 0xf79bb6f6e498e1c8716693109a5da21fd62baed12d0782ee8b3bcaf8e49e88874ab03eb67028c2db5458794333ae906f).mapIdx dataWord

/-- A drive that no turn-on waits for. -/
theorem not_waiting {d : Drive} (h : (match d with | .waiting _ => false | _ => true) = true) : ∀ t, d ≠ .waiting t := by
  intro t e
  subst e
  simp at h

/-! ### Shared parts of the witnesses -/

/-- A frame under the session's key verifies. -/
theorem auth_ok {s : State} {e : Ses} {k : FrameKind} {ws : List W36} {p q : Nat} {ks : Keys} (hc : carriesCrc k = false)
    (he : e.established = true) (hk : e.keys = some ks) (hp : p = q)
    (hm : authIs ws q (macHalves (mac56 ks.khd (authInput ws q))) = true) : authCheck s e k ws p = .ok := by
  subst hp
  simp [authCheck, hc, he, hk, hm]

/-- A HELLO's or KEY's CRC-32 is right. -/
theorem crc_ok {s : State} {e : Ses} {k : FrameKind} {ws : List W36} {p q : Nat} (hc : carriesCrc k = true) (hp : p = q)
    (hm : authIs ws q (crcHalves (crc32 (authInput ws q))) = true) : authCheck s e k ws p = .ok := by
  subst hp
  simp [authCheck, hc, hm]

/-- The bytes under the KEY frame's CRC-32, whose checksum is worked out in four parts. -/
def keyBytes : List Byte := authInput keyF 87

theorem keyBytes_split : keyBytes = keyBytes.take 100 ++ ((keyBytes.drop 100).take 100 ++ ((keyBytes.drop 200).take 100 ++ keyBytes.drop 300)) := by
  decide +kernel
theorem key_crc1 : List.foldl crc32Byte 0xFFFFFFFF (keyBytes.take 100) = 0x11dba1d8 := by decide +kernel
theorem key_crc2 : List.foldl crc32Byte 0x11dba1d8 ((keyBytes.drop 100).take 100) = 0x2b19b4ac := by decide +kernel
theorem key_crc3 : List.foldl crc32Byte 0x2b19b4ac ((keyBytes.drop 200).take 100) = 0xce294f0f := by decide +kernel
theorem key_crc4 : List.foldl crc32Byte 0xce294f0f (keyBytes.drop 300) ^^^ 0xFFFFFFFF = 0x7851CACC := by decide +kernel

theorem crc_parts {a b c d w : List Byte} {x y z v : Nat} (hw : w = a ++ (b ++ (c ++ d)))
    (h1 : List.foldl crc32Byte 0xFFFFFFFF a = x) (h2 : List.foldl crc32Byte x b = y) (h3 : List.foldl crc32Byte y c = z)
    (h4 : List.foldl crc32Byte z d ^^^ 0xFFFFFFFF = v) : crc32 w = v := by
  subst hw h1 h2 h3 h4
  simp only [crc32, List.foldl_append]

theorem key_crc : crc32 keyBytes = 0x7851CACC :=
  crc_parts keyBytes_split key_crc1 key_crc2 key_crc3 key_crc4

theorem crc_key : authIs keyF 87 (crcHalves (crc32 (authInput keyF 87))) = true := by
  change authIs keyF 87 (crcHalves (crc32 keyBytes)) = true
  rw [key_crc]
  decide +kernel

theorem pair_eta {α β : Type} (x : α × β) : x = (x.1, x.2) := rfl

theorem mac_lease : authIs leaseF 1 (macHalves (mac56 0 (authInput leaseF 1))) = true := by decide +kernel
theorem mac_leaseBad : authIs leaseBadF 1 (macHalves (mac56 0 (authInput leaseBadF 1))) = true := by decide +kernel
theorem mac_read : authIs readF 0 (macHalves (mac56 0 (authInput readF 0))) = true := by decide +kernel
theorem mac_write : authIs writeF 1 (macHalves (mac56 0 (authInput writeF 1))) = true := by decide +kernel
theorem mac_arm : authIs armF 2 (macHalves (mac56 0 (authInput armF 2))) = true := by decide +kernel
theorem mac_commit : authIs commitF 2 (macHalves (mac56 0 (authInput commitF 2))) = true := by decide +kernel
theorem mac_retire : authIs retireF 1 (macHalves (mac56 0 (authInput retireF 1))) = true := by decide +kernel
theorem mac_give : authIs giveF 1 (macHalves (mac56 0 (authInput giveF 1))) = true := by decide +kernel
theorem mac_event : authIs eventF 1 (macHalves (mac56 0 (authInput eventF 1))) = true := by decide +kernel

/-- The load of reel A, with the owner's hash in OTP. -/
def loading : State :=
  { starting .load with dev := { (starting .load).dev with reel := 1 }, otp := ⟨ownerHash, true, 0⟩, otpRead := ⟨ownerHash, true, 0⟩, flash := { State.reset.flash with mode := 1, densLog := 24, lastPg := 1819 } }

/-- A read without a lost edge stands as it is read. -/
theorem reel_as_read (s : State) : readAs reel s = reel := by
  have h : dqsMissed reel.dqsTimeout s = reel.dqsTimeout := rfl
  unfold readAs
  rw [h]

/-- The image passes every check of R246. -/
theorem reel_passes : (checkReel ⟨ownerHash, true, 0⟩ true 0 24 reel).plan.isSome = true := by decide +kernel

/-- The check of reel A as the load makes it. -/
theorem loading_verdict : checkReel ⟨ownerHash, true, 0⟩ true 0 24 reel =
    checkReel loading.otpRead (loading.flash.mode ≠ 0) (if loading.dev.reel = 1 then 0 else 0x40000) loading.flash.densLog (readAs reel loading) := by
  rw [reel_as_read]
  rfl

theorem reel_provisions : provisionKey (recovery.flash.mode ≠ 0) recovery.flash.densLog reel = some p384G := by decide +kernel

/-- A start whose challenge the token answers. -/
def tokenState : State := { busy with trust := { busy.trust with owner := some p384G, key := some (1, p384G) } }

theorem token_verifies : tokenOk tokenState tokenW = true := by decide +kernel

/-- Port 0 waits for the check of a certificate. -/
def checking : State :=
  { (ses0 fun e => { e with established := false, xch := some ⟨[], [], 0, 0, 0, 199000000, some certW⟩ }) with
    trust := { busy.trust with owner := some p384G, key := some (1, p384G) } }

theorem cert_verdict : keyVerdict checking .h0 ⟨[], [], 0, 0, 0, 199000000, some certW⟩ certW = 0 := by decide +kernel

/-- The verdict rests on trust, the image and the OTP alone. -/
theorem verdict_congr {s t : State} {h : Port} {x : Exchange} {c : List D28} (h1 : s.trust = t.trust) (h2 : s.dev = t.dev) (h3 : s.otp = t.otp) :
    keyVerdict s h x c = keyVerdict t h x c := by
  have ha : arbAdmits s = arbAdmits t := by
    funext d
    unfold arbAdmits deviceArb
    rw [h2, h3]
  unfold keyVerdict
  rw [h1, ha]

/-- The same certificate on a port with a session: a renewal. -/
def renewing : State := checking.onSes .h0 fun e => { e with established := true }

theorem renew_verdict : keyVerdict renewing .h0 ⟨[], [], 0, 0, 0, 199000000, some certW⟩ certW = 0 :=
  (verdict_congr rfl rfl rfl).trans cert_verdict

theorem reset_safe : Safe State.reset := by
  have key : ∀ c ∈ State.reset.chans, c.guarded (!State.reset.dev.struct || State.reset.flt.safe || State.reset.pins.heart) false := by
    simp only [Chan.guarded]
    decide +kernel
  refine ⟨fun n c h => ?_, ?_, ?_⟩
  · have held : ∀ n < 12, gatesHeld State.reset n = false := by decide +kernel
    rw [held n (List.getElem?_eq_some_iff.mp h).1]
    exact key c (List.mem_of_getElem? h)
  · simp only [PinsSafe]
    decide +kernel
  · simp only [LeaseJudged]
    decide +kernel

theorem reset_log : LogOk State.reset := by
  simp only [LogOk, LogStored]
  decide +kernel

/-- The lease frame under the old key of a renewal. -/
theorem mac_lease_new : authIs leaseF 1 (macHalves (mac56 1 (authInput leaseF 1))) = false := by decide +kernel

/-- A frame under the old key of a renewal verifies as such. -/
theorem auth_old {s : State} {e : Ses} {k : FrameKind} {ws : List W36} {p q : Nat} {ks : Keys} {old : BitVec 128} {t : Nat}
    (hc : carriesCrc k = false) (he : e.established = true) (hk : e.keys = some ks) (ho : e.oldKhd = some (old, t)) (hp : p = q)
    (ht : s.now < t) (hn : authIs ws q (macHalves (mac56 ks.khd (authInput ws q))) = false)
    (hm : authIs ws q (macHalves (mac56 old (authInput ws q))) = true) : authCheck s e k ws p = .oldKey := by
  subst hp
  simp [authCheck, hc, he, hk, ho, ht, hn, hm]

theorem cert_signed : ecdsaVerify p384G (packData (certW.take 31)) (join384 (group14 certW 31 0)) (join384 (group14 certW 31 1)) = true := by
  decide +kernel

theorem busy_dark : ∀ k, k < 12 → (busy.ch k).hs = 0 ∧ (busy.ch k).darkAt = some 0 := by decide +kernel

/-! ### Witnesses: for each clause of a statement that has hypotheses, operands and a state that meet them -/

theorem witness_StepRunsFrontOrIdles :
    (∃ (c : Instr) (rest : List Instr) (s : State), s.pending = c :: rest) ∧
    (∃ s : State, s.pending = []) :=
  ⟨⟨.bypass 0xFF, [], { State.reset with pending := [.bypass 0xFF] }, by decide +kernel⟩,
   ⟨State.reset, by decide +kernel⟩⟩

theorem witness_SegmentSafetyEvents :
    (∃ (n : Fin 12) (seg : Fin 42) (ns : Fin 1000) (s : State), (s.ch n).hs.getLsbD seg = true ∧ (s.ch n).desat = none ∧ (s.ch n).hs &&& ~~~(setBit 0 seg) ≠ 0) ∧
    (∃ (n : Fin 12) (seg : Fin 42) (ns : Fin 1000) (e : DesatEvent) (s : State), (s.ch n).hs.getLsbD seg = true ∧ (s.ch n).desat = some e ∧ e.channel = false ∧ nsTime s ns ≤ e.first + 1000 ∧ 4 ≤ popcount (setBit e.trips seg) ∧ s.clk.guardStop = false) ∧
    (∃ (n : Fin 12) (i : Fin 42) (e : DesatEvent) (s : State), (s.ch n).desat = some e ∧ e.channel = false ∧ e.trips = setBit 0 i ∧ (((s.ch n).segs.getD i SegMon.reset).solo = [])) ∧
    (∃ (n : Fin 12) (s : State), (∀ k, k < 12 → (k = n.val ∨ k / 2 = n.val / 2 ∨ leader s k = leader s n) → (s.ch k).hs = 0 ∧ ∃ t0, (s.ch k).darkAt = some t0 ∧ t0 + (if k = n.val then 40 else 20) ≤ guardNow s) ∧ n < s.chans.length ∧ (s.ch n).stuck = false ∧ s.clk.guardStop = false ∧ s.dev.phase ≠ .reset) ∧
    (∃ (n : Fin 12) (seg : Fin 42) (s : State), leakDue s n seg = true ∧ ((s.ch n).segs.getD seg SegMon.reset).leak = 0) ∧
    (∃ (n : Fin 12) (seg : Fin 42) (s : State), leakDue s n seg = true) ∧
    (∃ (n : Fin 12) (seg : Fin 42) (s : State), leakDue s n seg = true ∧ ((s.ch n).segs.getD seg SegMon.reset).leak ≠ 0 ∧ (s.ch n).retired.getLsbD seg = false ∧ s.dev.opts.getLsbD 0 = false ∧ lightsOut s = false) ∧
    (∃ (n : Fin 12) (seg : Fin 42) (s : State), leakDue s n seg = true ∧ ((s.ch n).segs.getD seg SegMon.reset).leak ≠ 0 ∧ (s.ch n).retired.getLsbD seg = false ∧ s.dev.opts.getLsbD 0 = true ∧ n < s.chans.length ∧ lightsOut s = false) ∧
    (∃ (n u : Nat) (s : State), u = leader s n ∧ u < s.chans.length ∧ (s.ch n).alive = 0 ∧ (s.ch u).drive ≠ .off) ∧
    (∃ (n : Fin 12) (seg : Fin 42) (ns : Fin 1000) (e : DesatEvent) (s : State), (s.ch n).hs.getLsbD seg = true ∧ (s.ch n).desat = some e ∧ e.channel = false ∧ nsTime s ns ≤ e.first + 1000 ∧ e.engaged &&& ~~~(setBit e.trips seg) = 0 ∧ s.clk.guardStop = false) ∧
    (∃ (n : Fin 12) (seg : Fin 42) (ns : Fin 1000) (s : State), (s.ch n).hs = setBit 0 seg ∧ (s.ch n).desat = none ∧ s.clk.guardStop = false) ∧
    (∃ (n : Fin 12) (seg : Fin 42) (ns : Fin 1000) (e : DesatEvent) (k t' : Nat) (s : State), (s.ch n).hs.getLsbD seg = true ∧ (s.ch n).desat = some e ∧ e.channel = false ∧ nsTime s ns ≤ e.first + 1000 ∧ 4 ≤ popcount (setBit e.trips seg) ∧ s.clk.guardStop = false ∧ k < 12 ∧ k ≠ n ∧ k / 6 = n / 6 ∧ (s.ch k).latchAt = some t' ∧ nsTime s ns / 50 - t' / 50 ≤ 20 ∧ t' / 50 - nsTime s ns / 50 ≤ 20 ∧ ((s.ch n).baseMode ≠ 3 ∨ leader s k ≠ leader s n)) ∧
    (∃ (n : Fin 12) (seg : Fin 42) (above : Bool) (s : State), leakDue s n seg = false) ∧
    (∃ (n : Fin 12) (k : Nat) (s : State), k < 12 ∧ (k = n.val ∨ k / 2 = n.val / 2 ∨ leader s k = leader s n) ∧ ((s.ch k).hs ≠ 0 ∨ ∀ t0, (s.ch k).darkAt = some t0 → guardNow s < t0 + (if k = n.val then 40 else 20))) ∧
    (∃ (n i : Nat) (s : State), n < s.chans.length) ∧
    (∃ (n : Fin 12) (seg : Fin 42) (ns : Fin 1000) (e : DesatEvent) (k t' : Nat) (s : State), (s.ch n).hs.getLsbD seg = true ∧ (s.ch n).desat = some e ∧ e.channel = false ∧ nsTime s ns ≤ e.first + 1000 ∧ 4 ≤ popcount (setBit e.trips seg) ∧ s.clk.guardStop = false ∧ k < 12 ∧ k ≠ n ∧ k / 6 = n / 6 ∧ (s.ch k).latchAt = some t' ∧ nsTime s ns / 50 - t' / 50 ≤ 20 ∧ t' / 50 - nsTime s ns / 50 ≤ 20 ∧ ((s.ch n).baseMode ≠ 3 ∨ leader s k ≠ leader s n) ∧ ((openWindows s).any fun w => lists s.flt w (if n.val < 6 then 96 else 97)) = false) :=
  ⟨⟨0, 0, 0, ch0 fun c => { c with hs := 3 }, by decide +kernel⟩,
   ⟨0, 0, 0, ⟨200000000000, 0xF, 0xE, false⟩, ch0 fun c => { c with hs := 0xF, desat := some ⟨200000000000, 0xF, 0xE, false⟩ }, by decide +kernel⟩,
   ⟨0, 0, ⟨0, 1, 1, false⟩, ch0 fun c => { c with desat := some ⟨0, 1, 1, false⟩ }, by decide +kernel⟩,
   ⟨0, busy, ⟨fun k hk _ => ⟨(busy_dark k hk).1, 0, (busy_dark k hk).2, by split <;> decide +kernel⟩, by decide +kernel, by decide +kernel, by decide +kernel, by decide +kernel⟩⟩,
   ⟨0, 0, ch0 fun c => { c with hs := 1, lit := [(1, 199999980)], segs := List.replicate 42 ⟨0, 0, [], none⟩ }, by decide +kernel⟩,
   ⟨0, 0, ch0 fun c => { c with hs := 1, lit := [(1, 199999980)], segs := List.replicate 42 ⟨1, 0, [], none⟩ }, by decide +kernel⟩,
   ⟨0, 0, ch0 fun c => { c with hs := 1, lit := [(1, 199999980)], segs := List.replicate 42 ⟨1, 0, [], none⟩ }, by decide +kernel⟩,
   ⟨0, 0, { (ch0 fun c => { c with hs := 1, lit := [(1, 199999980)], segs := List.replicate 42 ⟨1, 0, [], none⟩ }) with dev := { busy.dev with opts := 1 } }, by decide +kernel⟩,
   ⟨0, 0, ch0 fun c => { c with drive := .steady, retired := BitVec.allOnes 42 }, by decide +kernel⟩,
   ⟨0, 1, 0, ⟨200000000000, 3, 1, false⟩, ch0 fun c => { c with hs := 2, desat := some ⟨200000000000, 3, 1, false⟩ }, by decide +kernel⟩,
   ⟨0, 41, 0, ch0 fun c => { c with hs := setBit 0 41 }, by decide +kernel⟩,
   ⟨0, 0, 0, ⟨200000000000, 0xF, 0xE, false⟩, 1, 200000000000, (busy.onCh 1 fun c => { c with latchAt := some 200000000000 }).onCh 0 fun c => { c with hs := 0xF, desat := some ⟨200000000000, 0xF, 0xE, false⟩ }, by decide +kernel⟩,
   ⟨0, 41, true, ch0 fun c => { c with hs := setBit 0 41, lit := [(setBit 0 41, 199999981)] }, by decide +kernel⟩,
   ⟨0, 1, busy.onCh 1 fun c => { c with darkAt := some 199999981 }, ⟨by decide +kernel, Or.inr (Or.inl rfl), Or.inr (by intro t0 h; obtain rfl : 199999981 = t0 := Option.some.inj h; decide +kernel)⟩⟩,
   ⟨11, 41, busy, by decide +kernel⟩,
   ⟨0, 0, 0, ⟨200000000000, 0xF, 0xE, false⟩, 1, 200000000000, (busy.onCh 1 fun c => { c with latchAt := some 200000000000 }).onCh 0 fun c => { c with hs := 0xF, desat := some ⟨200000000000, 0xF, 0xE, false⟩ }, by decide +kernel⟩⟩

theorem witness_GateSupplyCommands :
    (∃ (n : Fin 12) (s : State), (∀ t, (s.ch (leader s n)).drive ≠ .waiting t)) ∧
    (∃ (n : Fin 12) (t0 : Nat) (s x : State), x = (s.onCh n fun c => { c with bstLow := false, bstUv := false }) ∧ (x.ch (leader x n)).drive = .waiting t0 ∧ ((members x (leader x n)).all fun m => !(x.ch m).bstLow) = true ∧ ((members x (leader x n)).all fun m => (x.ch m).alive != 0) = true ∧ vbatOk x (leader x n) = true) ∧
    (∃ (n : Fin 12) (t0 : Nat) (s : State), (s.ch (leader s n)).drive = .waiting t0 ∧ s.since t0 20000 = true ∧ s.clk.guardStop = false) ∧
    (∃ (n : Fin 12) (s : State), (s.ch (leader s n)).drive ≠ .off ∧ (s.ch (leader s n)).drive ≠ .barred ∧ (∀ t, (s.ch (leader s n)).drive ≠ .waiting t) ∧ s.clk.guardStop = false ∧ underTest s n = false) ∧
    (∃ (n : Fin 12) (t0 : Nat) (s x : State), x = (s.onCh n fun c => { c with bstLow := false, bstUv := false }) ∧ (x.ch (leader x n)).drive = .waiting t0 ∧ ((members x (leader x n)).any fun m => (x.ch m).bstLow) = true) ∧
    (∃ (n : Fin 12) (t0 : Nat) (s x : State), x = (s.onCh n fun c => { c with bstLow := false, bstUv := false }) ∧ (x.ch (leader x n)).drive = .waiting t0 ∧ ((members x (leader x n)).all fun m => !(x.ch m).bstLow) = true ∧ (((members x (leader x n)).any fun m => (x.ch m).alive == 0) = true ∨ vbatOk x (leader x n) = false)) ∧
    (∃ (n : Fin 12) (s : State), ((s.ch (leader s n)).drive = .off ∨ (s.ch (leader s n)).drive = .barred)) ∧
    (∃ (u m : Nat) (s : State), m ∈ members s u ∧ (s.ch m).uvHold = true ∧ (s.ch u).drive ≠ .off ∧ u < s.chans.length) ∧
    (∃ (u : Nat) (s : State), (wantOf s u).1 ≠ .off ∧ (s.ch u).want ≠ .off ∧ (s.ch u).drive = .barred ∧ ((wantOf s u).2 = true → (s.ch u).byLimp = true)) ∧
    (∃ (n : Fin 12) (s : State), underTest s n = true) ∧
    (∃ (u : Nat) (s : State), (wantOf s u).1 ≠ .off ∧ (s.ch u).want = .off ∧ (s.ch u).cancelled = true ∧ u < s.chans.length) ∧
    (∃ (n : Nat) (cls : RetryClass) (s : State), leader s n < s.chans.length ∧ n < s.chans.length) ∧
    (∃ (n : Nat) (s : State), (s.ch n).onReq = false ∧ n < s.chans.length) ∧
    (∃ (u : Nat) (s : State), s.limp.active = false ∧ s.dev.struct = true ∧ u < s.chans.length) ∧
    (∃ (n : Nat) (s : State), (s.ch n).onReq = false ∧ n < s.chans.length ∧ (s.ch n).drive = .barred) :=
  ⟨⟨0, busy, not_waiting (by decide +kernel)⟩,
   ⟨0, 5, ch0 fun c => { c with drive := .waiting 5, bstLow := true }, (ch0 fun c => { c with drive := .waiting 5, bstLow := true }).onCh (0 : Fin 12) fun c => { c with bstLow := false, bstUv := false }, ⟨rfl, by decide +kernel, by decide +kernel, by decide +kernel, by decide +kernel⟩⟩,
   ⟨0, 0, ch0 fun c => { c with drive := .waiting 0 }, by decide +kernel⟩,
   ⟨0, ch0 fun c => { c with drive := .steady }, ⟨by decide +kernel, by decide +kernel, not_waiting (by decide +kernel), by decide +kernel⟩⟩,
   ⟨0, 0, duo 0x6003C00 (fun c => { c with drive := .waiting 0 }) (fun c => { c with bstLow := true }), (duo 0x6003C00 (fun c => { c with drive := .waiting 0 }) (fun c => { c with bstLow := true })).onCh (0 : Fin 12) fun c => { c with bstLow := false, bstUv := false }, ⟨rfl, by decide +kernel, by decide +kernel⟩⟩,
   ⟨0, 0, ch0 fun c => { c with drive := .waiting 0, retired := BitVec.allOnes 42 }, (ch0 fun c => { c with drive := .waiting 0, retired := BitVec.allOnes 42 }).onCh (0 : Fin 12) fun c => { c with bstLow := false, bstUv := false }, ⟨rfl, by decide +kernel, by decide +kernel, by decide +kernel⟩⟩,
   ⟨0, busy, by decide +kernel⟩,
   ⟨0, 0, ch0 fun c => { c with uvHold := true, drive := .steady }, by decide +kernel⟩,
   ⟨0, ch0 fun c => { c with onReq := true, want := .on, drive := .barred }, by decide +kernel⟩,
   ⟨0, { busy with bist := { busy.bist with laneA := some ⟨0, 1, 0⟩ } }, by decide +kernel⟩,
   ⟨0, ch0 fun c => { c with onReq := true, cancelled := true }, by decide +kernel⟩,
   ⟨0, .bst, ch0 fun c => { c with cancelled := true }, by decide +kernel⟩,
   ⟨0, ch0 fun c => { c with drive := .barred, cancelled := true }, by decide +kernel⟩,
   ⟨11, busy, by decide +kernel⟩,
   ⟨0, ch0 fun c => { c with drive := .barred, cancelled := true }, by decide +kernel⟩⟩

theorem witness_BatteryAndFreewheelCommands :
    (∃ (x : Bank) (s : State), bankOk s x = true) ∧
    (∃ (u : Nat) (s : State), (s.ch u).drive ≠ .off ∧ (s.ch u).drive ≠ .barred ∧ (∀ t, (s.ch u).drive ≠ .waiting t) ∧ u < s.chans.length) ∧
    (∃ (x : Bank) (s : State), bankOk s x = true) ∧
    (∃ s : State, s.sup.vbatA = false) ∧
    (∃ s : State, s.sup.vbatB = false) ∧
    (∃ (n : Fin 12) (s : State), (s.ch n).hs = 0) ∧
    (∃ (n : Fin 12) (s : State), (s.ch n).hs ≠ 0) ∧
    (∃ (x : Bank) (s : State), bankOk s x = true) ∧
    (∃ (n : Nat) (s : State), (s.ch n).stuck = false ∧ s.flt.safe = false) ∧
    (∃ (u m : Nat) (s : State), (s.ch u).want = .on ∧ isBridge s u = false ∧ (s.ch u).hasLadder = false ∧ u < s.chans.length ∧ ((members s u).any fun k => (s.ch k).bstLow) = false ∧ ((members s u).any fun k => (s.ch k).alive == 0) = false ∧ vbatOk s u = true ∧ m ∈ members s u ∧ m < s.chans.length) ∧
    (∃ (n : Nat) (s : State), (s.ch n).fwOpt = 0) ∧
    (∃ (u : Nat) (s x : State), x = ((forEach (members s u) (fun m y => y.onCh m fun c => { c with uvHold := false }) s).onCh u fun c => { c with cancelled := false })) ∧
    (∃ (u m : Nat) (s : State), m ∈ members s u ∧ m < s.chans.length) ∧
    (∃ (u : Nat) (s : State), u < s.chans.length) :=
  ⟨⟨.a, busy, by decide +kernel⟩,
   ⟨0, ch0 fun c => { c with drive := .timed 0 }, ⟨by decide +kernel, by decide +kernel, not_waiting (by decide +kernel), by decide +kernel⟩⟩,
   ⟨.b, busy, by decide +kernel⟩,
   ⟨State.reset, by decide +kernel⟩,
   ⟨{ busy with sup := { busy.sup with vbatB := false } }, by decide +kernel⟩,
   ⟨0, busy, by decide +kernel⟩,
   ⟨0, ch0 fun c => { c with hs := 1 }, by decide +kernel⟩,
   ⟨.b, busy, by decide +kernel⟩,
   ⟨0, busy, by decide +kernel⟩,
   ⟨0, 0, ch0 fun c => { c with topo := 0x3C00, want := .on }, by decide +kernel⟩,
   ⟨0, ch0 fun c => { c with topo := 0 }, by decide +kernel⟩,
   ⟨0, ch0 fun c => { c with drive := .barred, want := .on }, _, rfl⟩,
   ⟨0, 0, ch0 fun c => { c with uvHold := true }, by decide +kernel⟩,
   ⟨11, busy, by decide +kernel⟩⟩

theorem witness_UnitsFollowWhatIsAsked :
    (∃ (u m : Nat) (s : State), m ∈ members s u ∧ (rank2 (s.ch m) = true ∨ (rank3 s m = true ∧ isBridge s u = false))) ∧
    (∃ (u : Nat) (s : State), (s.dev.struct = false ∨ s.flt.safe = true)) ∧
    (∃ (u t : Nat) (s : State), s.dev.struct = true ∧ s.flt.safe = false ∧ (∀ m ∈ members s u, rank2 (s.ch m) = false ∧ rank3 s m = false) ∧ s.limp.active = true ∧ limpTimer s = some t) ∧
    (∃ (u : Nat) (s : State), s.dev.struct = true ∧ s.flt.safe = false ∧ (∀ m ∈ members s u, rank2 (s.ch m) = false ∧ rank3 s m = false) ∧ s.limp.active = false) ∧
    (∃ (u : Nat) (s : State), (wantOf s u).1 = .off ∧ ((s.ch u).want ≠ .off ∨ (s.ch u).drive ≠ .off) ∧ u < s.chans.length) ∧
    (∃ (u : Nat) (s : State), (wantOf s u).1 ≠ .off ∧ (s.ch u).want = .off ∧ (s.ch u).cancelled = false) ∧
    (∃ (u : Nat) (s : State), ((members s u).any fun k => (s.ch k).bstLow) = true ∧ u < s.chans.length) ∧
    (∃ (u : Nat) (s : State), ((members s u).any fun k => (s.ch k).bstLow) = false ∧ u < s.chans.length ∧ (((members s u).any fun k => (s.ch k).alive == 0) = true ∨ vbatOk s u = false)) ∧
    (∃ (u : Nat) (s : State), (s.ch u).want = .on ∧ isBridge s u = false ∧ (s.ch u).hasLadder = false ∧ u < s.chans.length) ∧
    (∃ (u t : Nat) (s : State), (s.ch u).want = .timed t ∧ ((s.ch u).hasLadder = false ∨ isBridge s u = true) ∧ u < s.chans.length) ∧
    (∃ (u : Nat) (s : State), (s.ch u).want = .on ∧ isBridge s u = false ∧ (s.ch u).hasLadder = true ∧ u < s.chans.length) ∧
    (∃ (u t : Nat) (s : State), (s.ch u).want = .timed t ∧ isBridge s u = false ∧ (s.ch u).hasLadder = true ∧ u < s.chans.length) ∧
    (∃ (b : Bool) (u m : Nat) (s : State), m < s.chans.length) ∧
    (∃ (u : Nat) (s : State) (c : Chan), (s.ch u).drive ≠ .ladder) ∧
    (∃ (u : Nat) (s : State), u < s.chans.length) ∧
    (∃ (x : Option Bridge) (u : Nat) (s : State), u + 1 < s.chans.length) ∧
    (∃ c : Chan, c.fwOpt = 2 ∧ c.stuck = false) ∧
    (∃ (t u : Nat) (d : Bridge) (s : State), isBridge s u = true ∧ (d = .fwd ∨ d = .rev) ∧ u + 1 < s.chans.length ∧ (s.ch u).fwOpt = 2 ∧ (s.ch (u + 1)).fwOpt = 2 ∧ (s.ch u).stuck = false ∧ (s.ch (u + 1)).stuck = false ∧ halfHeld s u = false ∧ halfHeld s (u + 1) = false) ∧
    (∃ (u : Nat) (s : State), isBridge s u = true ∧ bridgeLive (s.ch u) = true) ∧
    (∃ (t u : Nat) (d : Bridge) (ready : Bool) (s : State), (s.ch u).revTo = some d) ∧
    (∃ (t u : Nat) (ready : Bool) (s : State), (s.ch u).revTo = none ∧ (bridgeOf (s.ch u).brcmd = .fwd ∨ bridgeOf (s.ch u).brcmd = .rev)) ∧
    (∃ (u : Nat) (d : Bridge) (s : State), isBridge s u = true ∧ bridgeLive (s.ch u) = true ∧ u < s.chans.length ∧ (s.ch u).bridge = .brake ∧ (s.ch u).revTo = some d ∧ (d = .fwd ∨ d = .rev)) ∧
    (∃ (u : Nat) (s : State), isBridge s u = true ∧ (∀ m ∈ members s u, rank3 s m = true)) ∧
    (∃ (u m : Nat) (s : State), isBridge s u = true ∧ m ∈ members s u ∧ rank3 s m = false ∧ s.dev.struct = true ∧ s.flt.safe = false ∧ s.limp.active = false ∧ (s.ch u).onReq = true ∧ (∀ k ∈ members s u, rank2 (s.ch k) = false)) ∧
    (∃ (u : Nat) (s : State), isBridge s u = true) ∧
    (∃ (u : Nat) (s x : State), x = forEach (members s u) (fun n y => y.onCh n fun c => { c with half := rank3 y n }) s ∧ isBridge s u = true ∧ (wantOf x u).1 ≠ .off ∧ (x.ch u).want ≠ .off ∧ (∀ t, (x.ch u).drive ≠ .waiting t) ∧ (x.ch u).cancelled = false ∧ ((members s u).any fun n => (s.ch n).half && !rank3 s n) = true) ∧
    (∃ (u : Nat) (s x : State), x = forEach (members s u) (fun n y => y.onCh n fun c => { c with half := rank3 y n }) s ∧ isBridge s u = true ∧ (wantOf x u).1 ≠ .off ∧ (x.ch u).want ≠ .off ∧ ((members s u).any fun n => (s.ch n).half && !rank3 s n) = false ∧ ((x.ch u).bridge = .fwd ∨ (x.ch u).bridge = .rev)) ∧
    (∃ (u : Nat) (s : State), u < s.chans.length) ∧
    (∃ (m : Nat) (s : State), m < s.chans.length ∧ halfHeld s m = true) ∧
    (∃ (t u : Nat) (d : Bridge) (s : State), isBridge s u = true ∧ (d = .fwd ∨ d = .rev) ∧ u + 1 < s.chans.length ∧ halfHeld s (if d = .fwd then u else u + 1) = true) ∧
    (∃ (x : Option Bridge) (u : Nat) (s : State), u < s.chans.length) ∧
    (∃ (u t x : Nat) (r : List Nat) (s : State), (s.ch u).drive = .ladderAt x ∧ (s.ch u).want = .timed t ∧ ((s.ch u).lingers = false ∨ (s.ch u).onReq = true ∨ routeOf s u ≠ some t)) ∧
    (∃ (u : Nat) (s : State), isBridge s u = false ∧ u < s.chans.length) ∧
    (∃ (u t t' : Nat) (lp : Bool) (s : State), u < s.chans.length ∧ (s.ch u).drive = .ladderAt t ∧ (s.ch u).want ≠ .off ∧ wantOf s u = (.timed t', lp) ∧ ((s.ch u).want ≠ .timed t' ∨ (s.ch u).byLimp ≠ lp)) ∧
    (∃ (b : Bool) (u m : Nat) (s : State), m < s.chans.length ∧ m ∈ legs s u) ∧
    (∃ (b : Bool) (u m : Nat) (s : State), m < s.chans.length ∧ m ∉ legs s u) ∧
    (∃ (x : Option Bridge) (u : Nat) (s : State), u + 1 < s.chans.length ∧ ((s.ch u).hs = 0 ∧ (s.ch (u + 1)).hs = 0) ∧ lit s u = false) ∧
    (∃ (x : Option Bridge) (u : Nat) (s : State), u + 1 < s.chans.length ∧ ((s.ch u).hs ≠ 0 ∨ (s.ch (u + 1)).hs ≠ 0 ∨ lit s u = true)) ∧
    (∃ (t u : Nat) (d : Bridge) (s : State), isBridge s u = true ∧ (d = .fwd ∨ d = .rev) ∧ u + 1 < s.chans.length ∧ (s.ch u).fwOpt = 2 ∧ (s.ch (u + 1)).fwOpt = 2 ∧ (s.ch u).stuck = false ∧ (s.ch (u + 1)).stuck = false ∧ halfHeld s u = false ∧ halfHeld s (u + 1) = false ∧ (s.ch u).hasLadder = true) ∧
    (∃ (u : Nat) (s : State), isBridge s u = true ∧ bridgeLive (s.ch u) = true ∧ bridgeOf (s.ch u).brcmd = .coast ∧ (s.ch u).bridge ≠ .coast) ∧
    (∃ (u : Nat) (s : State), isBridge s u = true ∧ bridgeLive (s.ch u) = true ∧ bridgeOf (s.ch u).brcmd = .brake ∧ (s.ch u).bridge ≠ .brake) ∧
    (∃ (u : Nat) (s : State), isBridge s u = true ∧ bridgeLive (s.ch u) = true ∧ bridgeOf (s.ch u).brcmd = .fwd ∧ (s.ch u).bridge = .rev) ∧
    (∃ (u : Nat) (s : State), isBridge s u = true ∧ bridgeLive (s.ch u) = true ∧ bridgeOf (s.ch u).brcmd = .rev ∧ (s.ch u).bridge = .fwd) ∧
    (∃ (u : Nat) (d : Bridge) (s : State), isBridge s u = true ∧ bridgeLive (s.ch u) = true ∧ u < s.chans.length ∧ (s.ch u).bridge = .brake ∧ (s.ch u).revTo = some d ∧ (d = .fwd ∨ d = .rev) ∧ bridgeOf (s.ch u).brcmd = d) ∧
    (∃ (u : Nat) (d : Bridge) (s : State), isBridge s u = true ∧ bridgeLive (s.ch u) = true ∧ u < s.chans.length ∧ (s.ch u).bridge = .brake ∧ (s.ch u).revTo = some d ∧ (d = .fwd ∨ d = .rev) ∧ bridgeOf (s.ch u).brcmd ≠ d) ∧
    (∃ (u : Nat) (d : Bridge) (s : State), isBridge s u = true ∧ bridgeLive (s.ch u) = true ∧ u < s.chans.length ∧ (s.ch u).bridge = .brake ∧ (s.ch u).revTo = some d ∧ (d = .fwd ∨ d = .rev) ∧ bridgeOf (s.ch u).brcmd = .coast) ∧
    (∃ (u : Nat) (d : Bridge) (s : State), isBridge s u = true ∧ bridgeLive (s.ch u) = true ∧ u < s.chans.length ∧ (s.ch u).bridge = .brake ∧ (s.ch u).revTo = some d ∧ (d = .fwd ∨ d = .rev) ∧ bridgeOf (s.ch u).brcmd ≠ d ∧ bridgeOf (s.ch u).brcmd ≠ .coast) ∧
    (∃ (u : Nat) (s : State), isBridge s u = true ∧ (s.ch u).bridge = .fwd) ∧
    (∃ (u : Nat) (s : State), isBridge s u = true ∧ (s.ch u).bridge = .rev) ∧
    (∃ (u : Nat) (s : State), isBridge s u = true ∧ (s.ch u).bridge = .coast) ∧
    (∃ (u : Nat) (s : State), isBridge s u = true ∧ (s.ch u).bridge = .brake) ∧
    (∃ (u : Nat) (s : State), u < s.chans.length ∧ (s.ch u).lad.step ≠ 0) :=
  ⟨⟨0, 0, ch0 fun c => { c with scLatch := true }, by decide +kernel⟩,
   ⟨0, State.reset, by decide +kernel⟩,
   ⟨0, 19, { (busy.onTm 19 fun m => { m with cfg := 0x8000000 }) with limp := { busy.limp with active := true } }, by decide +kernel⟩,
   ⟨0, busy, by decide +kernel⟩,
   ⟨0, ch0 fun c => { c with want := .on, drive := .ladder, lad := { c.lad with step := 1 } }, by decide +kernel⟩,
   ⟨0, ch0 fun c => { c with onReq := true }, by decide +kernel⟩,
   ⟨0, State.reset, by decide +kernel⟩,
   ⟨0, { busy with sup := { busy.sup with vbatA := false } }, by decide +kernel⟩,
   ⟨0, ch0 fun c => { c with topo := 0x3C00, want := .on }, by decide +kernel⟩,
   ⟨0, 19, ch0 fun c => { c with topo := 0x2003C00, want := .timed 19 }, by decide +kernel⟩,
   ⟨0, ch0 fun c => { c with want := .on }, by decide +kernel⟩,
   ⟨0, 19, ch0 fun c => { c with want := .timed 19 }, by decide +kernel⟩,
   ⟨true, 0, 11, busy, by decide +kernel⟩,
   ⟨0, busy, Chan.reset, by decide +kernel⟩,
   ⟨11, busy, by decide +kernel⟩,
   ⟨none, 10, busy, by decide +kernel⟩,
   ⟨{ Chan.reset with topo := 0x1000000 }, by decide +kernel⟩,
   ⟨0, 0, .rev, duo 0x5003C00 id id, by decide +kernel⟩,
   ⟨0, duo 0x5003C00 (fun c => { c with drive := .timed 0 }) id, by decide +kernel⟩,
   ⟨0, 0, .fwd, true, duo 0x5003C00 (fun c => { c with revTo := some .fwd }) id, by decide +kernel⟩,
   ⟨0, 0, true, duo 0x5003C00 (fun c => { c with brcmd := 1 }) id, by decide +kernel⟩,
   ⟨0, .rev, duo 0x5003C00 (fun c => { c with drive := .steady, bridge := .brake, revTo := some .rev, brcmd := 0 }) id, by decide +kernel⟩,
   ⟨0, duo 0x5003C00 (fun c => { c with retry := { Retry.reset with state := .lockout } }) (fun c => { c with retry := { Retry.reset with state := .lockout } }), by decide +kernel⟩,
   ⟨0, 1, duo 0x5003C00 (fun c => { c with onReq := true, retry := { Retry.reset with state := .lockout } }) (fun c => { c with want := .off }), by decide +kernel⟩,
   ⟨0, duo 0x5003C00 id id, by decide +kernel⟩,
   ⟨0, duo 0x5003C00 (fun c => { c with onReq := true, want := .on, half := true }) (fun c => { c with want := .off }), _, ⟨rfl, by decide +kernel, by decide +kernel, by decide +kernel, not_waiting (by decide +kernel), by decide +kernel, by decide +kernel⟩⟩,
   ⟨0, duo 0x5003C00 (fun c => { c with onReq := true, want := .on, half := true, bridge := .fwd, retry := { Retry.reset with state := .lockout } }) (fun c => { c with want := .off }), _, ⟨rfl, by decide +kernel, by decide +kernel, by decide +kernel, by decide +kernel, Or.inl (by decide +kernel)⟩⟩,
   ⟨11, busy, by decide +kernel⟩,
   ⟨0, duo 0x5003C00 (fun c => { c with retry := { Retry.reset with state := .lockout } }) (fun c => { c with want := .off }), by decide +kernel⟩,
   ⟨0, 0, .rev, duo 0x5003C00 (fun c => { c with want := .off }) (fun c => { c with retry := { Retry.reset with state := .lockout } }), by decide +kernel⟩,
   ⟨none, 11, busy, by decide +kernel⟩,
   ⟨0, 19, 0, [], ch0 fun c => { c with drive := .ladderAt 0, want := .timed 19 }, by decide +kernel⟩,
   ⟨0, busy, by decide +kernel⟩,
   ⟨0, 5, 0, false, { (ch0 fun c => { c with onReq := true, topo := 0x2003C00, drive := .ladderAt 5, want := .timed 5 }) with tbase := { busy.tbase with routes := [0, 0, 0] } }, by decide +kernel⟩,
   ⟨true, 0, 0, busy, by decide +kernel⟩,
   ⟨true, 0, 11, busy, by decide +kernel⟩,
   ⟨none, 10, busy, by decide +kernel⟩,
   ⟨none, 0, ch0 fun c => { c with hs := 1 }, by decide +kernel⟩,
   ⟨0, 0, .fwd, duo 0x5000000 id id, by decide +kernel⟩,
   ⟨0, duo 0x5003C00 (fun c => { c with drive := .timed 0, bridge := .fwd }) id, by decide +kernel⟩,
   ⟨0, duo 0x5003C00 (fun c => { c with drive := .timed 0, brcmd := 3 }) id, by decide +kernel⟩,
   ⟨0, duo 0x5003C00 (fun c => { c with drive := .timed 0, brcmd := 1, bridge := .rev }) id, by decide +kernel⟩,
   ⟨0, duo 0x5003C00 (fun c => { c with drive := .timed 0, brcmd := 2, bridge := .fwd }) id, by decide +kernel⟩,
   ⟨0, .fwd, duo 0x5003C00 (fun c => { c with drive := .steady, bridge := .brake, revTo := some .fwd, brcmd := 1 }) id, by decide +kernel⟩,
   ⟨0, .rev, duo 0x5003C00 (fun c => { c with drive := .steady, bridge := .brake, revTo := some .rev, brcmd := 1 }) id, by decide +kernel⟩,
   ⟨0, .rev, duo 0x5003C00 (fun c => { c with drive := .steady, bridge := .brake, revTo := some .rev, brcmd := 0 }) id, by decide +kernel⟩,
   ⟨0, .rev, duo 0x5003C00 (fun c => { c with drive := .steady, bridge := .brake, revTo := some .rev, brcmd := 3 }) id, by decide +kernel⟩,
   ⟨0, duo 0x5003C00 (fun c => { c with bridge := .fwd }) id, by decide +kernel⟩,
   ⟨0, duo 0x5003C00 (fun c => { c with bridge := .rev }) id, by decide +kernel⟩,
   ⟨0, duo 0x5003C00 id id, by decide +kernel⟩,
   ⟨0, duo 0x5003C00 (fun c => { c with bridge := .brake }) id, by decide +kernel⟩,
   ⟨0, ladState id, by decide +kernel⟩⟩

theorem witness_RequestRows :
    (∃ (a : Access) (n : Fin 12) (s : State), MayStore s a (0x200 + 32 * n) ∧ leader s n = n ∧ (s.ch n).baseMode ≠ 2 ∧ s.clk.timeStop = false ∧ n < s.chans.length ∧ (s.ch n).onReq = false) ∧
    (∃ (a : Access) (n : Fin 12) (s : State), MayStore s a (0x200 + 32 * n) ∧ leader s n = n ∧ (s.ch n).baseMode ≠ 2 ∧ s.clk.timeStop = false ∧ (s.ch n).onReq = true) ∧
    (∃ (a : Access) (n : Fin 12) (s : State), MayStore s a (0x200 + 32 * n) ∧ leader s n = n ∧ (s.ch n).baseMode ≠ 2 ∧ s.clk.timeStop = false ∧ (s.ch n).onReq = true) ∧
    (∃ (a : Access) (n : Fin 12) (s : State), MayStore s a (0x200 + 32 * n) ∧ leader s n = n ∧ (s.ch n).baseMode ≠ 2 ∧ s.clk.timeStop = false ∧ (s.ch n).onReq = false) ∧
    (∃ (a : Access) (n : Fin 12) (cmd : BitVec 2) (s : State), MayStore s a (0x200 + 32 * n) ∧ leader s n = n ∧ (s.ch n).baseMode = 2) ∧
    (∃ (h : Port) (n : Fin 12) (s : State), MayStore s (.write h) (0x200 + 32 * n) ∧ leader s n ≠ n) ∧
    (∃ (a : Access) (n : Fin 12) (s : State), MayStore s a (0x200 + 32 * n) ∧ leader s n = n ∧ (s.ch n).baseMode = 2 ∧ s.clk.timeStop = false ∧ n < s.chans.length) ∧
    (∃ (a : Access) (n : Fin 12) (s : State), MayStore s a (0x200 + 32 * n) ∧ leader s n = n ∧ (s.ch n).baseMode = 2 ∧ s.clk.timeStop = false ∧ (s.ch n).onReq = true) ∧
    (∃ (h : Port) (n : Fin 12) (cmd : BitVec 2) (s : State), MayStore s (.write h) (0x200 + 32 * n) ∧ leader s n ≠ n ∧ cmd ≠ 0) ∧
    (∃ (h : Port) (n : Fin 12) (cmd : BitVec 2) (s : State), MayStore s (.write h) (0x200 + 32 * n) ∧ leader s n = n ∧ (s.ch n).baseMode ≠ 2 ∧ cmd ≠ 0) ∧
    (∃ (h : Port) (n : Fin 12) (addr : BitVec 12) (d : D28) (s : State), addr.toNat = 0x200 + 32 * n ∧ MayStore s (.write h) addr.toNat ∧ leader s n = n ∧ (s.ch n).baseMode ≠ 2 ∧ s.clk.timeStop = false ∧ fld d 27 4 = 0 ∧ fld d 3 2 ≠ 0 ∧ fld d 1 0 = 1) ∧
    (∃ (a : Access) (n : Fin 12) (s : State), MayStore s a (0x200 + 32 * n) ∧ leader s n = n ∧ (s.ch n).baseMode ≠ 2 ∧ s.clk.timeStop = true) ∧
    (∃ (n : Nat) (s : State), (s.ch n).onReq = false) :=
  ⟨⟨.write .h0, 0, busy, by simp only [MayStore]; decide +kernel⟩,
   ⟨.dbg, 0, { token 4 with chans := (ch0 fun c => { c with onReq := true }).chans }, by simp only [MayStore]; decide +kernel⟩,
   ⟨.write .h0, 0, ch0 fun c => { c with onReq := true }, by simp only [MayStore]; decide +kernel⟩,
   ⟨.write .h0, 0, busy, by simp only [MayStore]; decide +kernel⟩,
   ⟨.write .h0, 0, 1, ch0 fun c => { c with topo := 0x4000000 }, by simp only [MayStore]; decide +kernel⟩,
   ⟨.h0, 1, busy.onCh 1 fun c => { c with topo := 0x4000000 }, by simp only [MayStore]; decide +kernel⟩,
   ⟨.write .h0, 0, duo 0x5003C00 id id, by simp only [MayStore]; decide +kernel⟩,
   ⟨.write .h0, 0, duo 0x5003C00 (fun c => { c with onReq := true }) id, by simp only [MayStore]; decide +kernel⟩,
   ⟨.h0, 1, 3, duo 0x5003C00 id id, by simp only [MayStore]; decide +kernel⟩,
   ⟨.h0, 0, 1, busy, by simp only [MayStore]; decide +kernel⟩,
   ⟨.h0, 0, 0x200, 5, busy, by simp only [MayStore]; decide +kernel⟩,
   ⟨.write .h0, 0, { busy with clk := { busy.clk with timeStop := true } }, by simp only [MayStore]; decide +kernel⟩,
   ⟨11, busy, by decide +kernel⟩⟩

theorem witness_LadderCommands :
    (∃ (n : Fin 12) (ma : Nat) (s : State), inLadder s (leader s n) = true ∧ (s.ch (leader s n)).lad.inOff = false ∧ (s.ch n).hs ≠ 0 ∧ 250 * (s.ch n).limit ≤ ma) ∧
    (∃ (u : Nat) (s : State), u < s.chans.length) ∧
    (∃ (n : Fin 12) (t0 : Nat) (s : State), (s.ch (leader s n)).lad.inOff = true ∧ (s.ch (leader s n)).lad.lastChop = some t0 ∧ s.since t0 ((s.ch (leader s n)).lad.offt / 2) = true) ∧
    (∃ (n : Fin 12) (k : Nat) (s : State), inLadder s (leader s n) = true ∧ k = (s.ch (leader s n)).lad.step ∧ stepRot (ladderOf s (leader s n)) k = 2 ∧ 1000 ≤ (s.ch (leader s n)).lad.rotUs) ∧
    (∃ (n : Fin 12) (u : Nat) (s : State), u = leader s n ∧ inLadder s u = true ∧ stepDwell (ladderOf s u) (s.ch u).lad.step ≤ (s.ch u).lad.stepUs ∧ (s.ch u).lad.step < ladderSteps (ladderOf s u)) ∧
    (∃ (n : Fin 12) (u : Nat) (s : State), u = leader s n ∧ inLadder s u = true ∧ stepEarly (ladderOf s u) (s.ch u).lad.step = true ∧ quietUs (ladderKind (ladderOf s u)) ≤ (s.ch u).lad.stepUs ∧ (s.ch u).lad.lastChop = none ∧ (s.ch u).lad.step < ladderSteps (ladderOf s u)) ∧
    (∃ (n : Fin 12) (u : Nat) (s : State), u = leader s n ∧ inLadder s u = true ∧ stepDwell (ladderOf s u) (s.ch u).lad.step ≤ (s.ch u).lad.stepUs ∧ (s.ch u).lad.step = ladderSteps (ladderOf s u) ∧ endCheck s u = true) ∧
    (∃ (n : Fin 12) (u : Nat) (s : State), u = leader s n ∧ u < 12 ∧ inLadder s u = true ∧ stepDwell (ladderOf s u) (s.ch u).lad.step ≤ (s.ch u).lad.stepUs ∧ (s.ch u).lad.step = ladderSteps (ladderOf s u) ∧ endCheck s u = false ∧ lightsOut s = false) ∧
    (∃ (u : Nat) (s : State), blocked (s.ch u) = true) ∧
    (∃ (u m : Nat) (s : State), blocked (s.ch u) = false ∧ m ∈ legs s u ∧ (s.ch m).hs ≠ 0) ∧
    (∃ (u : Nat) (s : State) (c : Chan), (s.ch u).drive = .ladder) ∧
    (∃ (u : Nat) (s : State), u < s.chans.length) ∧
    (∃ (u m : Nat) (s : State), blocked (s.ch u) = false ∧ m ∈ legs s u ∧ m < s.chans.length ∧ (s.ch m).hs = 0 ∧ driveAsks (s.ch u) = true ∧ (s.ch u).dt ≠ .toHigh ∧ s.pins.heart = false) ∧
    (∃ (u m : Nat) (s : State), (s.ch m).hs = 0 ∧ (driveAsks (s.ch u) = false ∨ (s.ch u).dt = .toHigh ∨ s.pins.heart = true)) ∧
    (∃ (u m : Nat) (s : State), u < s.chans.length ∧ m ∈ legs s u ∧ m < s.chans.length ∧ blocked (s.ch u) = false ∧ (s.ch m).hs = 0 ∧ (s.ch u).dt ≠ .toHigh ∧ s.pins.heart = false) ∧
    (∃ (u : Nat) (s : State), u < s.chans.length) ∧
    (∃ (n : Fin 12) (u t0 : Nat) (s : State), u = leader s n ∧ inLadder s u = true ∧ stepEarly (ladderOf s u) (s.ch u).lad.step = true ∧ quietUs (ladderKind (ladderOf s u)) ≤ (s.ch u).lad.stepUs ∧ (s.ch u).lad.lastChop = some t0) ∧
    (∃ (n : Fin 12) (u : Nat) (s : State), u = leader s n ∧ (stepEarly (ladderOf s u) (s.ch u).lad.step = false ∨ (s.ch u).lad.stepUs < quietUs (ladderKind (ladderOf s u)))) ∧
    (∃ (n : Fin 12) (u t0 : Nat) (s : State), u = leader s n ∧ inLadder s u = true ∧ stepEarly (ladderOf s u) (s.ch u).lad.step = true ∧ quietUs (ladderKind (ladderOf s u)) ≤ (s.ch u).lad.stepUs ∧ (s.ch u).lad.lastChop = some t0 ∧ s.since t0 (quietUs (ladderKind (ladderOf s u))) = true ∧ (s.ch u).lad.step < ladderSteps (ladderOf s u)) ∧
    (∃ (n : Fin 12) (u t0 : Nat) (s : State), u = leader s n ∧ inLadder s u = true ∧ stepEarly (ladderOf s u) (s.ch u).lad.step = true ∧ quietUs (ladderKind (ladderOf s u)) ≤ (s.ch u).lad.stepUs ∧ (s.ch u).lad.lastChop = some t0 ∧ s.since t0 (quietUs (ladderKind (ladderOf s u))) = false) :=
  ⟨⟨0, 0, ladState id, by decide +kernel⟩,
   ⟨0, busy, by decide +kernel⟩,
   ⟨0, 0, ladState fun l => { l with inOff := true, lastChop := some 0 }, by decide +kernel⟩,
   ⟨0, 1, ladState fun l => { l with inOff := true, rotUs := 1000 }, by decide +kernel⟩,
   ⟨0, 0, ladState fun l => { l with stepUs := 1000 }, by decide +kernel⟩,
   ⟨0, 0, ladState fun l => { l with stepUs := 500 }, by decide +kernel⟩,
   ⟨0, 0, ladState fun l => { l with step := 2, stepUs := 1000 }, by decide +kernel⟩,
   ⟨0, 0, ladState fun l => { l with step := 2, stepUs := 1000, lastChop := some 199999000 }, by decide +kernel⟩,
   ⟨0, ch0 fun c => { c with chopOff := true }, by decide +kernel⟩,
   ⟨0, 0, ch0 fun c => { c with hs := 1 }, by decide +kernel⟩,
   ⟨0, ladState id, Chan.reset, by decide +kernel⟩,
   ⟨11, busy, by decide +kernel⟩,
   ⟨0, 0, (ladState id).onCh 0 fun c => { c with hs := 0 }, by decide +kernel⟩,
   ⟨0, 0, busy, by decide +kernel⟩,
   ⟨0, 0, (ladState id).onCh 0 fun c => { c with hs := 0 }, by decide +kernel⟩,
   ⟨11, busy, by decide +kernel⟩,
   ⟨0, 0, 199999000, ladState fun l => { l with stepUs := 1000, lastChop := some 199999000 }, by decide +kernel⟩,
   ⟨0, 0, ladState fun l => { l with stepUs := 499 }, by decide +kernel⟩,
   ⟨0, 0, 199999000, ladState fun l => { l with stepUs := 1000, lastChop := some 199999000 }, by decide +kernel⟩,
   ⟨0, 0, 199999501, ladState fun l => { l with stepUs := 1000, lastChop := some 199999501 }, by decide +kernel⟩⟩

theorem witness_PeriodRefreshAndDeadTime :
    (∃ (n : Fin 12) (u : Nat) (s : State), u = leader s n ∧ (s.ch u).refEn = true ∧ (s.ch u).refreshing = false ∧ (s.ch n).hs ≠ 0 ∧ (s.ch u).refreshAt = none ∧ ((s.ch u).drive = .steady ∨ (s.ch u).drive = .ladder)) ∧
    (∃ (n : Fin 12) (u t : Nat) (s : State), u = leader s n ∧ (s.ch u).refEn = true ∧ (s.ch u).refreshing = false ∧ (s.ch n).hs ≠ 0 ∧ (s.ch u).refreshAt = none ∧ (s.ch u).drive = .timed t) ∧
    (∃ (n : Fin 12) (s : State), (s.ch (leader s n)).refreshing = true) ∧
    (∃ (n : Fin 12) (t0 : Nat) (s : State), (s.ch (leader s n)).refreshAt = some t0 ∧ s.since t0 10 = true) ∧
    (∃ (n : Fin 12) (u t0 : Nat) (s : State), u = leader s n ∧ (s.ch n).bstLow = true ∧ (s.ch u).refEn = true ∧ (s.ch u).refreshing = false ∧ (s.ch n).hs ≠ 0 ∧ (s.ch u).refreshAt = some t0 ∧ s.since t0 100 = true ∧ (s.ch u).drive = .steady) ∧
    (∃ (n : Fin 12) (t0 : Nat) (s : State), (s.ch n).bstLow = true ∧ (s.ch (leader s n)).refreshAt = some t0 ∧ s.since t0 100 = false) ∧
    (∃ (t : Fin 20) (below : Mask12) (near : BitVec 20) (s : State), boundaryDue s t = true) ∧
    (∃ (t : Fin 20) (chs : Mask12) (s x : State), s.timeRuns = true ∧ (s.tm t).run = true ∧ (s.tm t).frozen = false ∧ (s.tm t).fresh = false ∧ x = triggerB t s) ∧
    (∃ (u : Nat) (s : State), u < s.chans.length) ∧
    (∃ (n : Fin 12) (u : Nat) (s : State), u = leader s n ∧ (s.ch u).dt = .toHigh ∧ blocked (s.ch u) = false ∧ u < s.chans.length) ∧
    (∃ (n : Fin 12) (u : Nat) (s : State), u = leader s n ∧ (s.ch u).dt = .toHigh ∧ blocked (s.ch u) = true ∧ u < s.chans.length) ∧
    (∃ (n : Fin 12) (u : Nat) (s : State), u = leader s n ∧ (s.ch u).dt = .toFreewheel) ∧
    (∃ (u m : Nat) (s : State), m ∈ fwLegs s u ∧ m < s.chans.length) ∧
    (∃ (n : Fin 12) (u : Nat) (s x : State), u = leader s n ∧ (s.ch u).dt = .toLow ∧ lowDue s u = true ∧ u < s.chans.length ∧ x = forEach (legs s u) (fun m s' => s'.onCh m fun c => { c with fw := .off }) (s.onCh u fun c => { c with dt := .none })) ∧
    (∃ (n : Fin 12) (s : State), ((s.ch (leader s n)).dt = .none ∨ ((s.ch (leader s n)).dt = .toLow ∧ lowDue s (leader s n) = false))) ∧
    (∃ (u : Nat) (s : State), u < s.chans.length) ∧
    (∃ (u m : Nat) (s : State), isBridge s u = true ∧ legs s u = [m] ∧ m < s.chans.length) ∧
    (∃ (b : Bool) (u : Nat) (s : State), blocked (s.ch u) = true) ∧
    (∃ (b : Bool) (u t m : Nat) (s : State), blocked (s.ch u) = false ∧ ((s.ch u).drive = .steady ∨ (s.ch u).drive = .ladder ∨ ((s.ch u).drive = .timed t ∧ (s.ch u).pulse ≠ .off)) ∧ m ∈ legs s u ∧ m < s.chans.length) ∧
    (∃ (u t : Nat) (b : Bool) (s : State), (s.ch u).drive = .timed t ∧ (s.ch u).pulse = .off) ∧
    (∃ (t : Nat) (s : State), (s.tm t).func ≠ 3 ∨ onSixteenths s t none = 0 ∨ (s.tm t).trigB = true) ∧
    (∃ (t : Nat) (s : State), (s.tm t).func = 3 ∧ onSixteenths s t none ≠ 0 ∧ (s.tm t).trigB = false ∧ onTicks s t none < (s.tm t).pos + 400) ∧
    (∃ (t m : Nat) (edgeB : Bool) (s : State), m < 8 ∧ bitAt (s.meas.trig.getD m 0) 27 = true ∧ fld (s.meas.trig.getD m 0) 26 22 = t ∧ bitAt (s.meas.trig.getD m 0) 21 = edgeB ∧ m < s.meas.trigAt.length) ∧
    (∃ (n : Fin 12) (u t0 t : Nat) (s : State), u = leader s n ∧ (s.ch n).bstLow = true ∧ (s.ch u).refEn = true ∧ (s.ch u).refreshing = false ∧ n.val ∈ legs s u ∧ (s.ch u).refreshAt = some t0 ∧ s.since t0 100 = true) ∧
    (∃ (t : Fin 20) (below : Mask12) (near : BitVec 20) (s : State), boundaryDue s t = false) ∧
    (∃ (u : Nat) (s : State), u < s.chans.length ∧ blocked (s.ch u) = false) ∧
    (∃ (u : Nat) (s : State), u < s.chans.length ∧ isBridge s u = false) ∧
    (∃ (n : Fin 12) (u t0 t : Nat) (s : State), u = leader s n ∧ (s.ch n).bstLow = true ∧ (s.ch u).refEn = true ∧ (s.ch u).refreshing = false ∧ n.val ∈ legs s u ∧ (s.ch u).refreshAt = some t0 ∧ s.since t0 100 = true ∧ ((s.ch u).drive = .steady ∨ (s.ch u).drive = .ladder)) ∧
    (∃ (n : Fin 12) (u t0 t : Nat) (s : State), u = leader s n ∧ (s.ch n).bstLow = true ∧ (s.ch u).refEn = true ∧ (s.ch u).refreshing = false ∧ n.val ∈ legs s u ∧ (s.ch u).refreshAt = some t0 ∧ s.since t0 100 = true ∧ (s.ch u).drive = .timed t ∧ (s.ch n).hs = 0 ∧ ((s.ch u).baseMode ≠ 3 ∨ (s.ch u).pulse = .off)) ∧
    (∃ (t : Nat) (s : State), isMember s t = true) ∧
    (∃ (t : Nat) (s : State), isMember s t = false) ∧
    (∃ (t u : Nat) (chs : Mask12) (s : State), (s.tm t).func = 4) :=
  ⟨⟨1, 0, duo 0x6403C00 (fun c => { c with drive := .steady }) (fun c => { c with hs := 1 }), by decide +kernel⟩,
   ⟨1, 0, 0, duo 0x6403C00 (fun c => { c with drive := .timed 0 }) (fun c => { c with hs := 1 }), by decide +kernel⟩,
   ⟨0, ch0 fun c => { c with topo := 0x0400000, hs := 1, refreshing := true }, by decide +kernel⟩,
   ⟨0, 199999990, ch0 fun c => { c with topo := 0x0400000, hs := 1, refreshAt := some 199999990 }, by decide +kernel⟩,
   ⟨1, 0, 199999900, duo 0x6403C00 (fun c => { c with drive := .steady, refreshAt := some 199999900 }) (fun c => { c with hs := 1, bstLow := true }), by decide +kernel⟩,
   ⟨0, 199999901, ch0 fun c => { c with topo := 0x0400000, hs := 1, bstLow := true, refreshAt := some 199999901 }, by decide +kernel⟩,
   ⟨0, 0, 0, tm0 fun m => { m with run := true, fresh := true }, by decide +kernel⟩,
   ⟨0, 0, tm0 fun m => { m with run := true }, triggerB (0 : Fin 20) (tm0 fun m => { m with run := true }), ⟨by decide +kernel, by decide +kernel, by decide +kernel, by decide +kernel, rfl⟩⟩,
   ⟨11, busy, by decide +kernel⟩,
   ⟨1, 0, duo 0x6403C00 (fun c => { c with dt := .toHigh }) (fun c => { c with hs := 0 }), by decide +kernel⟩,
   ⟨1, 0, duo 0x6403C00 (fun c => { c with dt := .toHigh, chopOff := true }) (fun c => { c with hs := 0 }), by decide +kernel⟩,
   ⟨1, 0, duo 0x6403C00 (fun c => { c with dt := .toFreewheel }) (fun c => { c with hs := 0 }), by decide +kernel⟩,
   ⟨0, 0, busy, by decide +kernel⟩,
   ⟨1, 0, duo 0x6403C00 (fun c => { c with dt := .toLow, lad := { c.lad with lastChop := some 0 } }) (fun c => { c with hs := 0 }), _, ⟨by decide +kernel, by decide +kernel, by decide +kernel, by decide +kernel, rfl⟩⟩,
   ⟨0, busy, by decide +kernel⟩,
   ⟨11, busy, by decide +kernel⟩,
   ⟨0, 1, duo 0x5003C00 (fun c => { c with bridge := .rev }) id, by decide +kernel⟩,
   ⟨true, 0, ch0 fun c => { c with chopOff := true }, by decide +kernel⟩,
   ⟨true, 0, 0, 0, ch0 fun c => { c with drive := .steady }, by decide +kernel⟩,
   ⟨0, 0, true, ch0 fun c => { c with drive := .timed 0 }, by decide +kernel⟩,
   ⟨0, busy, by decide +kernel⟩,
   ⟨0, tm0 fun m => { m with cfg := 0x6200000, duty := 16 }, by decide +kernel⟩,
   ⟨0, 7, true, { busy with meas := { busy.meas with trig := List.replicate 8 0x8200000 } }, by decide +kernel⟩,
   ⟨11, 11, 199999900, 0, busy.onCh 11 fun c => { c with topo := 0x0400000, drive := .steady, chopOff := true, refreshAt := some 199999900, bstLow := true }, by decide +kernel⟩,
   ⟨19, 0, 0, tm0 fun m => { m with run := true }, by decide +kernel⟩,
   ⟨0, busy, by decide +kernel⟩,
   ⟨0, busy, by decide +kernel⟩,
   ⟨0, 0, 199999900, 0, ch0 fun c => { c with topo := 0x0400000, drive := .ladder, refreshAt := some 199999900, bstLow := true }, ⟨by decide +kernel, by decide +kernel, by decide +kernel, by decide +kernel, by decide +kernel, rfl, by decide +kernel, Or.inr rfl⟩⟩,
   ⟨0, 0, 199999900, 19, ch0 fun c => { c with topo := 0x2400000, drive := .timed 19, refreshAt := some 199999900, bstLow := true }, ⟨by decide +kernel, by decide +kernel, by decide +kernel, by decide +kernel, by decide +kernel, rfl, by decide +kernel, rfl, by decide +kernel, Or.inl (by decide +kernel)⟩⟩,
   ⟨0, busy.onTm 0 fun m => { m with cfg := 0x2400000 }, by decide +kernel⟩,
   ⟨0, busy, by decide +kernel⟩,
   ⟨0, 0, 1, tm0 fun m => { m with cfg := 0x8000000 }, by decide +kernel⟩⟩

theorem witness_PeriodStartsApplyAndCount :
    (∃ (t : Nat) (s : State), (s.tm t).latch = none) ∧
    (∃ (t : Nat) (per duty phase : D28) (s : State), (s.tm t).latch = some (per, duty, phase) ∧ t < s.timers.length) ∧
    (∃ (t : Nat) (per duty phase : D28) (s : State), isMember s t = false ∧ (s.tm t).func ≠ 2) ∧
    (∃ (t : Nat) (below : Mask12) (near : BitVec 20) (s : State), t < s.timers.length ∧ isMember s t = false) ∧
    (∃ (t : Nat) (s : State), isMember s t = true ∧ t < s.timers.length) ∧
    (∃ (t p : Nat) (s : State), s.tbase.syncNext = some p ∧ syncTimer s = some t) ∧
    (∃ (s : State) (t : Nat) (ratio : Option Nat), onTicks s t ratio = 0) ∧
    (∃ (s : State) (t : Nat) (ratio : Option Nat), onTicks s t ratio ≠ 0 ∧ fullRatio s t ratio = true) ∧
    (∃ (s : State) (t : Nat) (ratio : Option Nat), onTicks s t ratio ≠ 0 ∧ fullRatio s t ratio = false ∧ onTicks s t ratio < 2 * fld (s.tm t).edge 7 0 + 16 + 4 * fld (s.tm t).edge 13 8) ∧
    (∃ (s : State) (t : Nat) (ratio : Option Nat), fullRatio s t ratio = false ∧ 2 * fld (s.tm t).edge 7 0 + 16 + 4 * fld (s.tm t).edge 13 8 ≤ onTicks s t ratio ∧ onTicks s t ratio ≠ 0) ∧
    (∃ (t : Nat) (s : State), (s.tm t).func = 1 ∧ t < s.timers.length) ∧
    (∃ (t u : Nat) (s : State), (decide94 s t (unitRatio s t (s.ch u))).1 = .off ∧ u < s.chans.length) ∧
    (∃ (t u : Nat) (s : State), (decide94 s t (unitRatio s t (s.ch u))).1 ≠ .off ∧ (s.ch u).refreshDue = true ∧ u < s.chans.length) ∧
    (∃ (t u : Nat) (s : State), (decide94 s t (unitRatio s t (s.ch u))).1 ≠ .off ∧ (s.ch u).refreshDue = false ∧ u < s.chans.length ∧ lit s u = false) ∧
    (∃ (t u m : Nat) (s : State), (decide94 s t (unitRatio s t (s.ch u))).1 ≠ .off ∧ (s.ch u).refreshDue = false ∧ m ∈ legs s u ∧ (s.ch m).hs ≠ 0) ∧
    (∃ (t u : Nat) (s : State), (s.tm t).func = 1 ∧ u ∈ leaders s ∧ (s.ch u).drive = .timed t) ∧
    (∃ (t m : Nat) (below : Mask12) (near : BitVec 20) (s : State), (s.tm t).func = 3 ∧ t < s.timers.length ∧ m < 8 ∧ bitAt (s.meas.trig.getD m 0) 27 = true ∧ fld (s.meas.trig.getD m 0) 26 22 = t ∧ bitAt (s.meas.trig.getD m 0) 21 = false ∧ m < s.meas.trigAt.length) ∧
    (∃ (t m : Nat) (s : State), (s.tm t).master = true ∧ (s.tm t).group ≠ 0 ∧ m < 20 ∧ masterOf s m = t ∧ timerNeeded s m = true) ∧
    (∃ (t : Nat) (s : State), t < s.timers.length) ∧
    (∃ (t n : Nat) (s : State), (s.tm t).func = 1 ∧ n < 12 ∧ routeOf s n = some t ∧ (s.ch n).onReq = true) ∧
    (∃ (t : Nat) (s : State), (s.tm t).func = 1 ∧ t < s.timers.length ∧ (∀ n, n < 12 → routeOf s n = some t → (s.ch n).onReq = false) ∧ (∀ u ∈ leaders s, (s.ch u).drive ≠ .timed t ∧ awaits s t u = false) ∧ ((s.tm t).master = false ∨ (s.tm t).group = 0 ∨ ∀ m, m < 20 → masterOf s m = t → timerNeeded s m = false)) ∧
    (∃ (t : Nat) (per duty phase : D28) (s : State), isMember s t = true ∧ (s.tm t).func ≠ 2) ∧
    (∃ (t : Nat) (per duty phase : D28) (s : State), (s.tm t).func = 2) ∧
    (∃ (t : Nat) (per duty phase : D28) (s : State), (s.tm t).latch = some (per, duty, phase) ∧ t < s.timers.length ∧ latchBad s t per duty phase = true) ∧
    (∃ (t : Nat) (per duty phase : D28) (s : State), (s.tm t).latch = some (per, duty, phase) ∧ t < s.timers.length ∧ latchBad s t per duty phase = false) ∧
    (∃ (t : Nat) (s : State), t < s.timers.length ∧ timerRuns s t = false) ∧
    (∃ (t : Nat) (s : State), t < s.timers.length ∧ timerRuns s t = true ∧ (s.tm t).run = false ∧ s.tbase.frozen = true) ∧
    (∃ (t : Nat) (s : State), t < s.timers.length ∧ timerRuns s t = true ∧ s.tbase.frozen = false) ∧
    (∃ (t : Nat) (s : State), (s.tm t).func = 0) ∧
    (∃ (t : Nat) (s : State), 2 ≤ (s.tm t).func) ∧
    (∃ (t : Nat) (s : State), (s.tm t).func = 1) ∧
    (∃ (t : Nat) (s : State), (s.tm t).func = 1 ∧ t < s.timers.length ∧ (∀ n, n < 12 → routeOf s n = some t → (s.ch n).onReq = false) ∧ (∀ u ∈ leaders s, (s.ch u).drive ≠ .timed t ∧ awaits s t u = false) ∧ ((s.tm t).master = false ∨ (s.tm t).group = 0 ∨ ∀ m, m < 20 → masterOf s m = t → timerNeeded s m = false) ∧ (s.tm t).run = true) ∧
    (∃ (t r : Nat) (s : State), (s.tm t).tick = true) ∧
    (∃ (t r : Nat) (s : State), (s.tm t).tick = false) ∧
    (∃ (t : Nat) (s : State), ((s.tm (masterOf s t)).func ≠ 5 ∨ s.tbase.syncPer = 0)) :=
  ⟨⟨0, busy, by decide +kernel⟩,
   ⟨0, 0, 0, 0, tm0 fun m => { m with latch := some (0, 0, 0) }, by decide +kernel⟩,
   ⟨0, 0, 0, 0, busy, by decide +kernel⟩,
   ⟨19, 0, 0, busy, by decide +kernel⟩,
   ⟨0, tm0 fun m => { m with cfg := 0x400000 }, by decide +kernel⟩,
   ⟨19, 1600, { (busy.onTm 19 fun m => { m with cfg := 0xA000000 }) with tbase := { busy.tbase with syncNext := some 1600 } }, by decide +kernel⟩,
   ⟨busy, 0, none, by decide +kernel⟩,
   ⟨tm0 fun m => { m with per := 2000 }, 0, some 0xFFFF, by decide +kernel⟩,
   ⟨tm0 fun m => { m with cfg := 0x200000, per := 2000, duty := 0xF0 }, 0, none, by decide +kernel⟩,
   ⟨tm0 fun m => { m with cfg := 0x200000, per := 2000, duty := 0x100 }, 0, none, by decide +kernel⟩,
   ⟨19, busy.onTm 19 fun m => { m with cfg := 0x2000000 }, by decide +kernel⟩,
   ⟨0, 0, busy, by decide +kernel⟩,
   ⟨0, 0, (tm0 fun m => { m with cfg := 0x200000, per := 2000, duty := 0x100 }).onCh 0 fun c => { c with refreshDue := true }, by decide +kernel⟩,
   ⟨0, 0, (tm0 fun m => { m with cfg := 0x200000, per := 2000, duty := 0x100 }).onCh 0 fun c => { c with refreshDue := false }, by decide +kernel⟩,
   ⟨0, 0, 0, (tm0 fun m => { m with cfg := 0x200000, per := 2000, duty := 0x100 }).onCh 0 fun c => { c with hs := 1 }, by decide +kernel⟩,
   ⟨19, 0, (busy.onTm 19 fun m => { m with cfg := 0x2000000 }).onCh 0 fun c => { c with drive := .timed 19 }, by decide +kernel⟩,
   ⟨0, 0, 0, 0, { (busy.onTm 0 fun m => { m with cfg := 0x6000000 }) with meas := { busy.meas with trig := 0x8000000 :: List.replicate 7 0 } }, by decide +kernel⟩,
   ⟨0, 0, busy.onTm 0 fun m => { m with cfg := 0x6500000 }, by decide +kernel⟩,
   ⟨19, busy, by decide +kernel⟩,
   ⟨0, 11, { (busy.onTm 0 fun m => { m with cfg := 0x2000000 }).onCh 11 (fun c => { c with onReq := true }) with tbase := { busy.tbase with routes := [0, 0, 0] } }, by decide +kernel⟩,
   ⟨0, tm0 fun m => { m with cfg := 0x2000000, run := true }, by decide +kernel⟩,
   ⟨0, 0, 0, 0, busy.onTm 0 fun m => { m with cfg := 0x2400000 }, by decide +kernel⟩,
   ⟨0, 0, 0, 0, tm0 fun m => { m with cfg := 0x4000000 }, by decide +kernel⟩,
   ⟨0, 0, 0, 0, tm0 fun m => { m with cfg := 0x200000, latch := some (0, 0, 0) }, by decide +kernel⟩,
   ⟨0, 0, 0, 0, tm0 fun m => { m with latch := some (0, 0, 0) }, by decide +kernel⟩,
   ⟨19, busy, by decide +kernel⟩,
   ⟨0, { (busy.onTm 0 fun m => { m with cfg := 0x6500000 }) with tbase := { busy.tbase with frozen := true } }, by decide +kernel⟩,
   ⟨0, busy.onTm 0 fun m => { m with cfg := 0x6500000 }, by decide +kernel⟩,
   ⟨0, busy, by decide +kernel⟩,
   ⟨0, tm0 fun m => { m with cfg := 0x4000000 }, by decide +kernel⟩,
   ⟨0, tm0 fun m => { m with cfg := 0x2000000 }, by decide +kernel⟩,
   ⟨0, tm0 fun m => { m with cfg := 0x2000000, run := true }, by decide +kernel⟩,
   ⟨0, 0, tm0 fun m => { m with cfg := 0x2200000 }, by decide +kernel⟩,
   ⟨0, 0xFFFF, busy, by decide +kernel⟩,
   ⟨0, busy, by decide +kernel⟩⟩

theorem witness_ClapperAndTimerRows :
    (∃ (a : Access) (mask : BitVec 20) (s : State), MayStore s a 0x1A0 ∧ s.clk.timeStop = false) ∧
    (∃ (a : Access) (s : State), MayStore s a 0x1A0 ∧ s.clk.timeStop = false) ∧
    (∃ (a : Access) (t : Fin 20) (d : D28) (s : State), MayStore s a (0x101 + 8 * t) ∧ fld d 27 23 = 0 ∧ (s.tm t).func ≠ 0 ∧ isMember s t = false ∧ perOk d = true) ∧
    (∃ (h : Port) (t : Fin 20) (d : D28) (s : State), MayStore s (.write h) (0x101 + 8 * t) ∧ fld d 27 23 = 0 ∧ ((s.tm t).func = 0 ∨ isMember s t = true)) ∧
    (∃ (h : Port) (t : Fin 20) (d : D28) (s : State), MayStore s (.write h) (0x101 + 8 * t) ∧ fld d 27 23 = 0 ∧ (s.tm t).func ≠ 0 ∧ isMember s t = false ∧ perOk d = false) ∧
    (∃ (a : Access) (t : Fin 20) (d : D28) (s : State), MayStore s a (0x104 + 8 * t) ∧ fld d 27 20 = 0 ∧ s.clk.timeStop = false ∧ (s.tm t).run = false ∧ edgeOk d = true) ∧
    (∃ (h : Port) (t : Fin 20) (d : D28) (s : State), MayStore s (.write h) (0x104 + 8 * t) ∧ fld d 27 20 = 0 ∧ s.clk.timeStop = false ∧ (s.tm t).run = false ∧ edgeOk d = false) ∧
    (∃ (h : Port) (t : Fin 20) (d : D28) (s : State), MayStore s (.write h) (0x104 + 8 * t) ∧ fld d 27 20 = 0 ∧ s.clk.timeStop = false ∧ (s.tm t).run = true) ∧
    (∃ (t : Nat) (s : State), (s.tm t).func = 0) ∧
    (∃ (t : Nat) (s : State), (s.tm t).func ≠ 0 ∧ (s.tm t).func ≠ 2 ∧ t < s.timers.length) ∧
    (∃ (t : Nat) (s : State), (s.tm t).func = 2 ∧ t < s.timers.length) ∧
    (∃ (n : Nat) (s : State), n < 12 ∧ n < s.chans.length) ∧
    (∃ (c : Chan) (b : BitVec 2) (i : D28), c.brcmdLatch = some b ∧ c.ilimLatch = some i) ∧
    (∃ (a : Access) (t : Fin 20) (d : D28) (s : State), MayStore s a (0x104 + 8 * t) ∧ fld d 27 20 = 0 ∧ s.clk.timeStop = true) ∧
    (∃ (a : Access) (mask : BitVec 20) (s : State), MayStore s a 0x1A0 ∧ s.clk.timeStop = true) ∧
    (∃ (n : Nat) (s : State), n < 12 ∧ n < s.chans.length ∧ routeOf s n = none) ∧
    (∃ (n : Nat) (s : State), n < 12 ∧ n < s.chans.length ∧ routeOf s n ≠ none) :=
  ⟨⟨.write .h0, 1, busy, by simp only [MayStore]; decide +kernel⟩,
   ⟨.write .h0, busy, by simp only [MayStore]; decide +kernel⟩,
   ⟨.write .h0, 0, 0x640, tm0 fun m => { m with cfg := 0x2000000 }, by simp only [MayStore]; decide +kernel⟩,
   ⟨.h0, 0, 0xFA0, busy, by simp only [MayStore]; decide +kernel⟩,
   ⟨.h0, 0, 0x63F, tm0 fun m => { m with cfg := 0x2000000 }, by simp only [MayStore]; decide +kernel⟩,
   ⟨.write .h0, 0, 0x14, busy, by simp only [MayStore]; decide +kernel⟩,
   ⟨.h0, 0, 0, busy, by simp only [MayStore]; decide +kernel⟩,
   ⟨.h0, 0, 0x14, tm0 fun m => { m with run := true }, by simp only [MayStore]; decide +kernel⟩,
   ⟨0, busy, by decide +kernel⟩,
   ⟨0, tm0 fun m => { m with cfg := 0x2000000 }, by decide +kernel⟩,
   ⟨0, tm0 fun m => { m with cfg := 0x4000000 }, by decide +kernel⟩,
   ⟨11, busy, by decide +kernel⟩,
   ⟨{ Chan.reset with brcmdLatch := some 1, ilimLatch := some 8 }, 1, 8, by decide +kernel⟩,
   ⟨.write .h0, 19, 0x8, { busy with clk := { busy.clk with timeStop := true } }, by simp only [MayStore]; decide +kernel⟩,
   ⟨.write .h0, 0xFFFFF, { busy with clk := { busy.clk with timeStop := true } }, by simp only [MayStore]; decide +kernel⟩,
   ⟨11, busy, by decide +kernel⟩,
   ⟨0, { busy with tbase := { busy.tbase with routes := [0, 0, 0] } }, by decide +kernel⟩⟩

theorem witness_TimebaseCommands :
    (∃ s : State, s.clocked = true ∧ s.clk.timeStop = false) ∧
    (∃ (interval t0 : Nat) (offset : Int) (s : State), s.timeRuns = true ∧ s.sup.ritesWait = none ∧ s.tbase.frozen = false ∧ (syncTimer s).isSome = true ∧ s.tbase.sync ≠ .track ∧ s.tbase.edgeAt = some t0 ∧ 1600 ≤ interval ∧ interval ≤ 4000000) ∧
    (∃ (interval t0 : Nat) (offset lim : Int) (s : State), s.timeRuns = true ∧ s.sup.ritesWait = none ∧ s.tbase.frozen = false ∧ syncTimer s = some t0 ∧ s.tbase.sync = .track ∧ trackedP s t0 ≤ 2 * interval ∧ interval ≤ 2 * trackedP s t0 ∧ lim = (trackedP s t0 : Int) / 64) ∧
    (∃ (interval t0 : Nat) (offset : Int) (s : State), s.timeRuns = true ∧ s.sup.ritesWait = none ∧ s.tbase.frozen = false ∧ syncTimer s = some t0 ∧ s.tbase.sync = .track ∧ (2 * interval + 1 ≤ trackedP s t0 ∨ 2 * trackedP s t0 < interval)) ∧
    (∃ (t1 : Nat) (s : State), s.timeRuns = true ∧ s.tbase.frozen = false ∧ s.tbase.sync = .track ∧ syncTimer s = some t1 ∧ 2 * trackedP s t1 / 400 ≤ s.tbase.edgeUs ∧ lightsOut s = false) ∧
    (∃ (rights : BitVec 3) (s : State), s.trust.token = some rights ∧ rights.getLsbD 0 = true ∧ s.dev.opts.getLsbD 2 = true ∧ s.timeRuns = true ∧ s.flt.safe = false) ∧
    (∃ s : State, s.tap.halt = true) ∧
    (∃ (interval : Nat) (offset : Int) (s : State), s.sup.ritesWait ≠ none) ∧
    (∃ s : State, s.dev.phase ≠ .reset ∧ (s.clocked = false ∨ s.clk.timeStop = true)) ∧
    (∃ (s : State), s.dev.phase = .reset) ∧
    (∃ s : State, s.flt.safe = true) ∧
    (∃ (t p : Nat) (s : State), s.tbase.syncP = none) ∧
    (∃ (t p : Nat) (s : State), s.tbase.syncP = some p) ∧
    (∃ (s : State), s.dev.phase ≠ .reset ∧ (s.clocked = false ∨ s.clk.timeStop = true) ∧ s.clk.guardStop = false) :=
  ⟨⟨busy, by decide +kernel⟩,
   ⟨1600, 0, 0, { (tm0 fun m => { m with cfg := 0xA000000, per := 2000 }) with tbase := { busy.tbase with edgeAt := some 0 } }, by decide +kernel⟩,
   ⟨1000, 0, 40, 31, { (tm0 fun m => { m with cfg := 0xA000000, per := 2000 }) with tbase := { busy.tbase with sync := .track } }, by decide +kernel⟩,
   ⟨999, 0, 0, { (tm0 fun m => { m with cfg := 0xA000000, per := 2000 }) with tbase := { busy.tbase with sync := .track } }, by decide +kernel⟩,
   ⟨0, { (tm0 fun m => { m with cfg := 0xA000000, per := 2000 }) with tbase := { busy.tbase with sync := .track, edgeUs := 10 } }, by decide +kernel⟩,
   ⟨1, { token 1 with dev := { busy.dev with opts := 4 } }, by decide +kernel⟩,
   ⟨{ busy with tap := { busy.tap with halt := true } }, by decide +kernel⟩,
   ⟨1000, 0, { busy with sup := { busy.sup with ritesWait := some 1 } }, by decide +kernel⟩,
   ⟨{ busy with clk := { busy.clk with timeStop := true } }, by decide +kernel⟩,
   ⟨State.reset, by decide +kernel⟩,
   ⟨{ busy with flt := { busy.flt with safe := true } }, by decide +kernel⟩,
   ⟨0, 5, busy, by decide +kernel⟩,
   ⟨0, 5, { busy with tbase := { busy.tbase with syncP := some 5 } }, by decide +kernel⟩,
   ⟨{ busy with clk := { busy.clk with timeStop := true } }, by decide +kernel⟩⟩

theorem witness_TwoWordReadsAreCoherent :
    (∃ (p : Path) (q : Quantity) (s : State), pathOpen s p = true ∧ quantity s q < 2 ^ 48) ∧
    (∃ (p : Path) (q : Quantity) (s : State), pathOpen s p = true ∧ (latchOf s q).get p = none) :=
  ⟨⟨.host .h0, .dtime, busy, by decide +kernel⟩,
   ⟨.dbg, .ftime, token 2, by decide +kernel⟩⟩

theorem witness_CurrentConversion :
    (∃ (n : Fin 12) (raw : Int) (s : State) (x : Rat), sensing s = true ∧ underTest s n = false ∧ n < s.chans.length ∧ s.meas.rushes.length = 100 ∧ x = (calibrated s 0 1 n raw + (s.ch n).trim) / 10) ∧
    (∃ (n : Fin 12) (raw : Int) (diff : BitVec 8) (s : State), sensing s = true ∧ underTest s n = false ∧ n < s.chans.length ∧ diff ≠ 0) ∧
    (∃ (n : Fin 12) (raw : Int) (s : State) (x : Rat), sensing s = true ∧ underTest s n = false ∧ n < s.chans.length ∧ s.meas.rushes.length = 100 ∧ x = (calibrated s 0 1 n raw + (s.ch n).trim) / 10 ∧ -30000 ≤ x ∧ x ≤ 30000) ∧
    (∃ (n : Fin 12) (raw : Int) (s : State) (x : Rat), sensing s = true ∧ underTest s n = false ∧ n < s.chans.length ∧ s.meas.rushes.length = 100 ∧ x = (calibrated s 0 1 n raw + (s.ch n).trim) / 10 ∧ x < -30000) ∧
    (∃ (n : Fin 12) (raw : Int) (s : State) (x : Rat), sensing s = true ∧ underTest s n = false ∧ n < s.chans.length ∧ s.meas.rushes.length = 100 ∧ x = (calibrated s 0 1 n raw + (s.ch n).trim) / 10 ∧ 30000 < x) :=
  ⟨⟨0, 100, busy, (calibrated busy 0 1 (0 : Fin 12) 100 + (busy.ch (0 : Fin 12)).trim) / 10, by decide +kernel⟩,
   ⟨0, 100, 1, busy, by decide +kernel⟩,
   ⟨0, 100, busy, (calibrated busy 0 1 (0 : Fin 12) 100 + (busy.ch (0 : Fin 12)).trim) / 10, by decide +kernel⟩,
   ⟨0, -1000000, busy, (calibrated busy 0 1 (0 : Fin 12) (-1000000) + (busy.ch (0 : Fin 12)).trim) / 10, by decide +kernel⟩,
   ⟨0, 1000000, busy, (calibrated busy 0 1 (0 : Fin 12) 1000000 + (busy.ch (0 : Fin 12)).trim) / 10, by decide +kernel⟩⟩

theorem witness_SlotConversions :
    (∃ (b : Bool) (slot : Fin 50) (raw : Int) (quiet : Quiet) (s : State) (x : Rat), sensing s = true ∧ s.dtime % 10 = (slot.val + 1) / 5 ∧ s.meas.rushes.length = 100 ∧ (slot.val = 6 ∨ slot.val = 31) ∧ x = calibrated s 9 10 (if b then 1 else 0) raw / 5 ∧ 0 ≤ x ∧ x ≤ 40960) ∧
    (∃ (b : Bool) (k : Fin 6) (slot : Fin 50) (n : Nat) (raw : Int) (quiet : Quiet) (s : State) (x : Rat), sensing s = true ∧ s.dtime % 10 = (slot.val + 1) / 5 ∧ s.meas.rushes.length = 100 ∧ slot.val = 7 + k.val ∧ n = (if b then 6 else 0) + k.val ∧ x = calibrated s 5 6 n raw / 5 ∧ 0 ≤ x ∧ x ≤ 40960) ∧
    (∃ (b : Bool) (k : Fin 6) (slot : Fin 50) (n : Nat) (raw : Int) (quiet : Quiet) (s : State), sensing s = true ∧ s.dtime % 10 = (slot.val + 1) / 5 ∧ (slot.val = k.val ∨ slot.val = 25 + k.val) ∧ n = (if b then 6 else 0) + k.val ∧ isecTriggered s n = false ∧ (s.ch n).hs = 0 ∧ quiet.ns500 = true) ∧
    (∃ (b : Bool) (k : Fin 6) (slot : Fin 50) (n : Nat) (raw : Int) (quiet : Quiet) (s : State), sensing s = true ∧ s.dtime % 10 = (slot.val + 1) / 5 ∧ (slot.val = k.val ∨ slot.val = 25 + k.val) ∧ n = (if b then 6 else 0) + k.val ∧ isecTriggered s n = false ∧ (s.ch n).hs ≠ 0 ∧ 16384 < raw) ∧
    (∃ (m : Fin 8) (raw : Int) (quiet : Quiet) (s : State) (x : Rat), sensing s = true ∧ trigNext s m = true ∧ trigNs s m < (s.now + 1) * 1000 ∧ s.meas.rushes.length = 100 ∧ fld (s.meas.trig.getD m 0) 20 19 = 1 ∧ x = calibrated s 5 6 (fld (s.meas.trig.getD m 0) 18 15) raw / 5 ∧ 0 ≤ x ∧ x ≤ 40960) ∧
    (∃ (j : Fin 518) (raw v : Int) (s : State), sensing s = true ∧ s.dtime % 2000 = 5 * (j.val + 1) / 2 % 2000 ∧ 516 ≤ j.val ∧ v = raw + (calWord s 11 j).value ∧ -3520 ≤ v ∧ v ≤ 12800) ∧
    (∃ (j : Fin 518) (n : Nat) (raw v : Int) (s : State), sensing s = true ∧ s.dtime % 2000 = 5 * (j.val + 1) / 2 % 2000 ∧ j.val < 504 ∧ n = j.val / 42 ∧ j.val % 42 ≠ 41 ∧ v = raw + (calWord s 11 j).value ∧ -3520 ≤ v ∧ v < 11200) ∧
    (∃ (j : Fin 518) (n : Nat) (raw v : Int) (s : State), sensing s = true ∧ s.dtime % 2000 = 5 * (j.val + 1) / 2 % 2000 ∧ j.val < 504 ∧ n = j.val / 42 ∧ j.val % 42 ≠ 41 ∧ v = raw + (calWord s 11 j).value ∧ 11200 ≤ v ∧ v ≤ 12800 ∧ s.meas.hot.getD j 0 = 1 ∧ n < s.chans.length ∧ (s.ch n).retired.getLsbD (j.val % 42) = false) ∧
    (∃ (b : Bool) (k : Fin 6) (slot : Fin 50) (n : Nat) (raw : Int) (quiet : Quiet) (r x : Rat) (s : State), sensing s = true ∧ s.dtime % 10 = (slot.val + 1) / 5 ∧ (slot.val = k.val ∨ slot.val = 25 + k.val) ∧ n = (if b then 6 else 0) + k.val ∧ isecTriggered s n = false ∧ (s.ch n).hs ≠ 0 ∧ 0 ≤ raw ∧ raw ≤ 16384 ∧ quiet.ns500 = true ∧ modelRon s n = some r ∧ x = (raw : Rat) * 125000 * popcount (s.ch (shownBy s n)).hs / (42 * r) ∧ -30000 ≤ x ∧ x ≤ 30000) ∧
    (∃ (b : Bool) (k : Fin 6) (slot : Fin 50) (n : Nat) (raw : Int) (quiet : Quiet) (s : State), sensing s = true ∧ s.dtime % 10 = (slot.val + 1) / 5 ∧ (slot.val = k.val ∨ slot.val = 25 + k.val) ∧ n = (if b then 6 else 0) + k.val ∧ isecTriggered s n = false ∧ quiet.ns500 = false ∧ raw ≤ 16384 ∧ 0 ≤ raw) ∧
    (∃ (n : Nat) (ws : List Sample) (x r : Rat) (s : State), engagedTemps s n = ws.map some ∧ ws ≠ [] ∧ x = ((ws.map fun w => w.value.toInt).sum : Int) / (64 * ws.length : Nat) - 25 ∧ r = (calWord s 2 n).value * (1 + (calWord s 3 n).value * x / 1000000 + (calWord s 4 n).value * x * x / 100000000) ∧ r ≠ 0) ∧
    (∃ (n : Fin 12) (isec i : Int) (q qi : BitVec 2) (rest : List (Int × BitVec 2)) (s : State), (s.ch n).ipris = (i, qi) :: rest ∧ (s.ch (leader s n)).lad.step = 0 ∧ q ≠ 1 ∧ qi ≠ 1 ∧ underTest s n = false ∧ n < s.chans.length ∧ lightsOut s = false) ∧
    (∃ (j : Fin 518) (n : Nat) (raw v : Int) (s : State), sensing s = true ∧ s.dtime % 2000 = 5 * (j.val + 1) / 2 % 2000 ∧ 504 ≤ j.val ∧ j.val < 516 ∧ n = j.val - 504 ∧ v = raw + (calWord s 11 j).value ∧ -3520 ≤ v ∧ v < 11200) ∧
    (∃ (j : Fin 518) (n : Nat) (raw v : Int) (s : State), sensing s = true ∧ s.dtime % 2000 = 5 * (j.val + 1) / 2 % 2000 ∧ 504 ≤ j.val ∧ j.val < 516 ∧ n = j.val - 504 ∧ v = raw + (calWord s 11 j).value ∧ 11200 ≤ v ∧ v ≤ 12800 ∧ (s.ch n).fwHot = 1 ∧ n < s.chans.length) ∧
    (∃ (j : Fin 518) (n : Nat) (raw v : Int) (s : State), sensing s = true ∧ s.dtime % 2000 = 5 * (j.val + 1) / 2 % 2000 ∧ j.val < 504 ∧ n = j.val / 42 ∧ j.val % 42 = 41 ∧ v = raw + (calWord s 11 j).value ∧ -3520 ≤ v ∧ v ≤ 12800) ∧
    (∃ (n : Fin 12) (s : State), temps s n ≠ [] ∧ n < s.chans.length ∧ s.meas.rushes.length = 100) ∧
    (∃ (n : Fin 12) (s : State), temps s n = [] ∧ n < s.chans.length ∧ s.meas.rushes.length = 100) ∧
    (∃ (b : Bool) (k : Fin 6) (slot : Fin 50) (n : Nat) (raw : Int) (quiet : Quiet) (s : State), sensing s = true ∧ s.dtime % 10 = (slot.val + 1) / 5 ∧ (slot.val = k.val ∨ slot.val = 25 + k.val) ∧ n = (if b then 6 else 0) + k.val ∧ isecTriggered s n = false ∧ (s.ch n).hs ≠ 0 ∧ raw < 0) ∧
    (∃ (b : Bool) (k : Fin 6) (slot : Fin 50) (n : Nat) (raw : Int) (quiet : Quiet) (s : State), sensing s = true ∧ s.dtime % 10 = (slot.val + 1) / 5 ∧ (slot.val = k.val ∨ slot.val = 25 + k.val) ∧ n = (if b then 6 else 0) + k.val) ∧
    (∃ (m : Fin 8) (raw : Int) (quiet : Quiet) (s : State), sensing s = true ∧ trigNext s m = true ∧ trigNs s m < (s.now + 1) * 1000 ∧ fld (s.meas.trig.getD m 0) 20 19 = 0) ∧
    (∃ (n : Nat) (raw : Int) (quiet : Quiet) (r x : Rat) (s : State), (s.ch n).hs ≠ 0 ∧ 0 ≤ raw ∧ raw ≤ 16384 ∧ quiet.ns500 = true ∧ modelRon s n = some r ∧ x = (raw : Rat) * 125000 * popcount (s.ch (shownBy s n)).hs / (42 * r) ∧ -30000 ≤ x ∧ x ≤ 30000) ∧
    (∃ (b : Bool) (k : Fin 6) (slot : Fin 50) (n : Nat) (raw : Int) (quiet : Quiet) (s : State) (x : Rat), sensing s = true ∧ s.dtime % 10 = (slot.val + 1) / 5 ∧ s.meas.rushes.length = 100 ∧ slot.val = 32 + k.val ∧ n = (if b then 6 else 0) + k.val ∧ x = calibrated s 7 8 n raw / (5 / 2) ∧ 0 ≤ x ∧ x ≤ 32768) ∧
    (∃ (m : Fin 8) (raw : Int) (quiet : Quiet) (s : State) (x : Rat), sensing s = true ∧ trigNext s m = true ∧ trigNs s m < (s.now + 1) * 1000 ∧ s.meas.rushes.length = 100 ∧ fld (s.meas.trig.getD m 0) 20 19 = 2 ∧ x = calibrated s 7 8 (fld (s.meas.trig.getD m 0) 18 15) raw / (5 / 2) ∧ 0 ≤ x ∧ x ≤ 32768) ∧
    (∃ (m : Fin 8) (raw : Int) (quiet : Quiet) (s : State), trigNext s m = false) ∧
    (∃ (j : Fin 518) (n : Nat) (raw v : Int) (diff : BitVec 8) (s : State), sensing s = true ∧ s.dtime % 2000 = 5 * (j.val + 1) / 2 % 2000 ∧ j.val < 504 ∧ n = j.val / 42 ∧ j.val % 42 ≠ 41 ∧ v = raw + (calWord s 11 j).value ∧ -3520 ≤ v ∧ v ≤ 12800 ∧ diff ≠ 0) ∧
    (∃ (n : Fin 12) (isec i : Int) (q qi : BitVec 2) (rest : List (Int × BitVec 2)) (s : State), (s.ch n).ipris = (i, qi) :: rest ∧ (s.ch (leader s n)).lad.step = 0 ∧ q ≠ 1 ∧ qi ≠ 1 ∧ underTest s n = false ∧ n < s.chans.length ∧ lightsOut s = false ∧ 8 * max i.natAbs isec.natAbs + 10000 < 100 * (i - isec).natAbs) ∧
    (∃ (n : Fin 12) (isec i : Int) (q qi : BitVec 2) (rest : List (Int × BitVec 2)) (s : State), (s.ch n).ipris = (i, qi) :: rest ∧ (s.ch (leader s n)).lad.step = 0 ∧ q ≠ 1 ∧ qi ≠ 1 ∧ underTest s n = false ∧ n < s.chans.length ∧ lightsOut s = false ∧ 100 * (i - isec).natAbs ≤ 8 * max i.natAbs isec.natAbs + 10000) ∧
    (∃ (b : Bool) (k : Fin 6) (slot : Fin 50) (n : Nat) (raw : Int) (quiet : Quiet) (s : State), sensing s = true ∧ s.dtime % 10 = (slot.val + 1) / 5 ∧ (slot.val = k.val ∨ slot.val = 25 + k.val) ∧ n = (if b then 6 else 0) + k.val ∧ isecTriggered s n = false) ∧
    (∃ (b : Bool) (k : Fin 6) (slot : Fin 50) (n : Nat) (raw : Int) (quiet : Quiet) (s : State), sensing s = true ∧ s.dtime % 10 = (slot.val + 1) / 5 ∧ (slot.val = k.val ∨ slot.val = 25 + k.val) ∧ n = (if b then 6 else 0) + k.val ∧ isecTriggered s n = true) :=
  ⟨⟨true, 6, 100, ⟨true, true⟩, later 1, calibrated (later 1) 9 10 1 100 / 5, by decide +kernel⟩,
   ⟨false, 5, 12, 5, 100, ⟨true, true⟩, later 2, calibrated (later 2) 5 6 5 100 / 5, by decide +kernel⟩,
   ⟨false, 0, 0, 0, 0, ⟨true, true⟩, busy, by decide +kernel⟩,
   ⟨true, 5, 30, 11, 16385, ⟨true, true⟩, (later 6).onCh 11 fun c => { c with hs := 1 }, by decide +kernel⟩,
   ⟨0, 100, ⟨true, true⟩, { busy with meas := { busy.meas with trigs := [0], trig := [0x8080000] } }, calibrated busy 5 6 0 100 / 5, by decide +kernel⟩,
   ⟨516, -3520, -3520, later 1292, by decide +kernel⟩,
   ⟨0, 0, 11199, 11199, later 2, by decide +kernel⟩,
   ⟨0, 0, 11200, 11200, { later 2 with meas := { busy.meas with hot := List.replicate 504 1 } }, by decide +kernel⟩,
   ⟨false, 0, 0, 0, 440, ⟨true, true⟩, (modelRon warm 0).getD 0, (440 : Rat) * 125000 * popcount (warm.ch 0).hs / (42 * (modelRon warm 0).getD 0), warm, by decide +kernel⟩,
   ⟨true, 5, 5, 11, 0, ⟨false, false⟩, later 1, by decide +kernel⟩,
   ⟨0, List.replicate 42 ⟨5440, 0, 0, 0⟩, 60, 24120 * (1 + 444 * 60 / 1000000 + 3112 * 60 * 60 / 100000000), warm, by decide +kernel⟩,
   ⟨0, 0, 0, 0, 0, [], ch0 fun c => { c with ipris := [(0, 0)] }, by decide +kernel⟩,
   ⟨504, 0, 0, 0, later 1262, by decide +kernel⟩,
   ⟨504, 0, 11200, 11200, (later 1262).onCh 0 fun c => { c with fwHot := 1 }, by decide +kernel⟩,
   ⟨41, 0, 0, 0, later 105, by decide +kernel⟩,
   ⟨0, warm, by decide +kernel⟩,
   ⟨0, busy, by decide +kernel⟩,
   ⟨true, 0, 25, 6, -1, ⟨true, true⟩, (later 5).onCh 6 fun c => { c with hs := 1 }, by decide +kernel⟩,
   ⟨true, 5, 30, 11, 0, ⟨true, true⟩, later 6, by decide +kernel⟩,
   ⟨7, 0, ⟨true, true⟩, { busy with meas := { busy.meas with trigs := [7], trig := List.replicate 8 0x8000000 } }, by decide +kernel⟩,
   ⟨0, 440, ⟨true, true⟩, (modelRon warm 0).getD 0, (440 : Rat) * 125000 * popcount (warm.ch 0).hs / (42 * (modelRon warm 0).getD 0), warm, by decide +kernel⟩,
   ⟨true, 5, 37, 11, 100, ⟨true, true⟩, later 7, calibrated (later 7) 7 8 11 100 / (5 / 2), by decide +kernel⟩,
   ⟨0, 100, ⟨true, true⟩, { busy with meas := { busy.meas with trigs := [0], trig := [0x8100000] } }, calibrated busy 7 8 0 100 / (5 / 2), by decide +kernel⟩,
   ⟨0, 0, ⟨true, true⟩, busy, by decide +kernel⟩,
   ⟨460, 10, 12800, 12800, 255, later 1152, by decide +kernel⟩,
   ⟨0, 0, 20000, 0, 0, [], ch0 fun c => { c with ipris := [(20000, 0)] }, by decide +kernel⟩,
   ⟨0, 0, 0, 0, 0, [], ch0 fun c => { c with ipris := [(0, 0)] }, by decide +kernel⟩,
   ⟨true, 5, 30, 11, 0, ⟨true, true⟩, later 6, by decide +kernel⟩,
   ⟨false, 1, 1, 1, 0, ⟨true, true⟩, { busy with meas := { busy.meas with trig := [0x8008000] } }, by decide +kernel⟩⟩

theorem witness_MeasurementRows :
    (∃ (h : Port) (d : D28) (s : State), MayCommit s h 0x3CC ∧ fld d 27 12 = 0) ∧
    (∃ (n : Fin 12) (t0 o : Nat) (s : State), (s.ch n).rezero = .wait t0 ∧ (s.ch n).offAt = some o ∧ (s.ch n).hs = 0 ∧ (s.ch n).fw = .off ∧ s.since o 1000 = true ∧ s.clk.coreStop = false) ∧
    (∃ (n : Fin 12) (sum : Int) (s : State), (s.ch n).rezero = .average 64 sum false ∧ (10 * sum).natAbs ≤ 500 * 64 ∧ s.clk.coreStop = false) ∧
    (∃ (n : Fin 12) (sum : Int) (cond : Bool) (s : State), (s.ch n).rezero = .average 64 sum cond ∧ (cond = true ∨ 500 * 64 < (10 * sum).natAbs) ∧ s.clk.coreStop = false) ∧
    (∃ (n : Fin 12) (t0 : Nat) (s : State), (s.ch n).rezero = .wait t0 ∧ s.since t0 100000 = true ∧ s.clk.coreStop = false) ∧
    (∃ (a : Access) (d : D28) (s : State), MayStore s a 0x3CE ∧ fld d 27 16 = 0 ∧ fld d 11 10 = 0 ∧ fld d 15 12 < 12 ∧ fld d 9 0 < calCount (fld d 15 12)) ∧
    (∃ (h : Port) (d : D28) (s : State), MayStore s (.write h) 0x3CE ∧ fld d 27 16 = 0 ∧ fld d 11 10 = 0 ∧ calCount (fld d 15 12) ≤ fld d 9 0) ∧
    (∃ (h : Port) (seg : Bool) (s : State), MayStore s (.write h) 0x3C0) ∧
    (∃ (h : Port) (s : State), MayStore s (.write h) 0x3C0) ∧
    (∃ (seg : Bool) (s : State), MayStore s .dbg 0x3C0) ∧
    (∃ (h : Port) (x : Snap) (s : State), s.meas.snaps.get h = some x ∧ s.since x.taken 2000 = true ∧ s.clk.coreStop = false) ∧
    (∃ (h : Port) (k : Fin 8) (d : D28) (s : State), MayCommit s h (0x3C4 + k) ∧ fld d 27 9 = 0 ∧ 16 ≤ fld d 8 0 ∧ fld d 8 0 ≤ 500) ∧
    (∃ (h : Port) (k : Fin 8) (d : D28) (s : State), MayCommit s h (0x3C4 + k) ∧ fld d 27 9 = 0 ∧ (fld d 8 0 < 16 ∨ 500 < fld d 8 0)) ∧
    (∃ (a : Access) (d : D28) (s : State), MayStore s a 0x3CE ∧ fld d 27 16 = 0 ∧ fld d 11 10 = 0 ∧ fld d 15 12 = 12 ∧ fld d 9 0 < 12) ∧
    (∃ (n : Fin 12) (s : State), ((s.ch n).hs ≠ 0 ∨ (s.ch n).fw ≠ .off)) ∧
    (∃ (n : Nat) (s : State), n < s.chans.length) ∧
    (∃ (h : Port) (n : Fin 12) (s : State), s.clk.coreStop = true) ∧
    (∃ s : State, s.dev.struct = true ∧ s.clk.senseStop = true) :=
  ⟨⟨.h0, 1, busy, by simp only [MayCommit]; decide +kernel⟩,
   ⟨0, 199999990, 199999000, ch0 fun c => { c with rezero := .wait 199999990, offAt := some 199999000 }, by decide +kernel⟩,
   ⟨0, 3200, ch0 fun c => { c with rezero := .average 64 3200 false }, by decide +kernel⟩,
   ⟨0, 3201, false, ch0 fun c => { c with rezero := .average 64 3201 false }, by decide +kernel⟩,
   ⟨0, 199900000, ch0 fun c => { c with rezero := .wait 199900000 }, by decide +kernel⟩,
   ⟨.write .h0, 0xB205, busy, by simp only [MayStore]; decide +kernel⟩,
   ⟨.h0, 0xC, busy, by simp only [MayStore]; decide +kernel⟩,
   ⟨.h0, true, busy, by simp only [MayStore]; decide +kernel⟩,
   ⟨.h1, { busy with ses := ⟨busy.ses.h0, busy.ses.h0⟩ }, by simp only [MayStore]; decide +kernel⟩,
   ⟨false, token 4, by simp only [MayStore]; decide +kernel⟩,
   ⟨.h0, ⟨false, 199998000, []⟩, { busy with meas := { busy.meas with snaps := ⟨some ⟨false, 199998000, []⟩, none⟩ } }, by decide +kernel⟩,
   ⟨.h0, 0, 500, busy, by simp only [MayCommit]; decide +kernel⟩,
   ⟨.h0, 7, 15, busy, by simp only [MayCommit]; decide +kernel⟩,
   ⟨.write .h0, 0xC00B, busy, by simp only [MayStore]; decide +kernel⟩,
   ⟨0, ch0 fun c => { c with hs := 1 }, by decide +kernel⟩,
   ⟨11, busy, by decide +kernel⟩,
   ⟨.h1, 11, { busy with clk := { busy.clk with coreStop := true } }, by decide +kernel⟩,
   ⟨{ busy with clk := { busy.clk with senseStop := true, senseAt := 199999999 } }, by decide +kernel⟩⟩

theorem witness_OverloadModel :
    (∃ (n : Fin 12) (c : Chan) (s : State), s.dev.struct = true ∧ s.clk.coreStop = false ∧ s.since (s.ch n).eAt 10 = true ∧ c = { s.ch n with i2tUse := (s.ch n).i2t } ∧ i2tStep c (meanSquare s n) < c.tripLevel) ∧
    (∃ (n : Fin 12) (c : Chan) (s : State), s.dev.struct = true ∧ s.clk.coreStop = false ∧ s.since (s.ch n).eAt 10 = true ∧ c = { s.ch n with i2tUse := (s.ch n).i2t } ∧ (s.ch n).atTrip = false ∧ c.tripLevel ≤ i2tStep c (meanSquare s n) ∧ (s.ch n).alive ≠ 0) ∧
    (∃ (n : Nat) (s : State), (s.ch n).squares ≠ [] ∧ underTest s n = false) ∧
    (∃ (n : Nat) (s : State), ((s.ch n).squares = [] ∨ underTest s n = true)) ∧
    (∃ (n : Fin 12) (c : Chan) (s : State), s.dev.struct = true ∧ s.clk.coreStop = false ∧ s.since (s.ch n).eAt 10 = true ∧ c = { s.ch n with i2tUse := (s.ch n).i2t } ∧ c.tripLevel ≤ i2tStep c (meanSquare s n)) ∧
    (∃ (n : Fin 12) (c : Chan) (s : State), s.dev.struct = true ∧ s.clk.coreStop = false ∧ s.since (s.ch n).eAt 10 = true ∧ c = { s.ch n with i2tUse := (s.ch n).i2t } ∧ c.tripLevel ≤ i2tStep c (meanSquare s n) ∧ (s.ch n).alive ≠ 0 ∧ (s.ch n).atTrip = true) ∧
    (∃ (n : Fin 12) (c : Chan) (s : State), s.dev.struct = true ∧ s.clk.coreStop = false ∧ s.since (s.ch n).eAt 10 = true ∧ c = { s.ch n with i2tUse := (s.ch n).i2t } ∧ c.tripLevel ≤ i2tStep c (meanSquare s n) ∧ (s.ch n).alive = 0) :=
  ⟨⟨0, { (ch0 fun c => { c with i2t := 8, i2tUse := 0x1000 }).ch 0 with i2tUse := 8 }, ch0 fun c => { c with i2t := 8, i2tUse := 0x1000 }, by decide +kernel⟩,
   ⟨0, { (ch0 fun c => { c with i2t := 8, e := 100 }).ch 0 with i2tUse := 8 }, ch0 fun c => { c with i2t := 8, e := 100 }, by decide +kernel⟩,
   ⟨0, ch0 fun c => { c with squares := [100] }, by decide +kernel⟩,
   ⟨11, busy, by decide +kernel⟩,
   ⟨0, { (ch0 fun c => { c with i2t := 8, e := 1000000 }).ch 0 with i2tUse := 8 }, ch0 fun c => { c with i2t := 8, e := 1000000 }, by decide +kernel⟩,
   ⟨0, { (ch0 fun c => { c with i2t := 8, e := 1000000, atTrip := true }).ch 0 with i2tUse := 8 }, ch0 fun c => { c with i2t := 8, e := 1000000, atTrip := true }, by decide +kernel⟩,
   ⟨0, { (ch0 fun c => { c with i2t := 8, e := 1000000, retired := BitVec.allOnes 42 }).ch 0 with i2tUse := 8 }, ch0 fun c => { c with i2t := 8, e := 1000000, retired := BitVec.allOnes 42 }, by decide +kernel⟩⟩

theorem witness_CutAndShortCircuitCommands :
    (∃ (n : Fin 12) (ma : Nat) (s : State), (s.ch n).hs ≠ 0 ∧ masked (s.ch n) = false ∧ inLadder s (leader s n) = false ∧ 250 * (s.ch n).ilimEff ≤ ma) ∧
    (∃ (n u : Nat) (s : State), u < s.chans.length ∧ ((s.ch u).baseMode = 0 ∨ (s.ch u).baseMode = 3 ∨ cutTimer s u = false)) ∧
    (∃ (n u : Nat) (s : State), u < s.chans.length ∧ ((s.ch u).baseMode = 1 ∨ (s.ch u).baseMode = 2) ∧ cutTimer s u = true) ∧
    (∃ (n : Fin 12) (s : State), (s.ch (leader s n)).chopOff = true ∧ s.since (s.ch (leader s n)).chopAt 20 = true) ∧
    (∃ (n : Fin 12) (s : State), (s.ch (leader s n)).cutOff = true ∧ s.since (s.ch (leader s n)).chopAt 20 = true) ∧
    (∃ s : State, s.timeRuns = true ∧ s.tbase.msAt < s.now / 1000 * 1000 ∧ (∀ n, n < 12 → clpDue (s.ch n) = false) ∧ s.chans.length = 12) ∧
    (∃ (n : Fin 12) (s : State), s.timeRuns = true ∧ s.tbase.msAt < s.now / 1000 * 1000 ∧ n < s.chans.length ∧ clpDue (s.ch n) = true ∧ lightsOut s = false) ∧
    (∃ (n : Fin 12) (ma : Nat) (ns : Fin 1000) (s : State), (s.ch n).hs ≠ 0 ∧ masked (s.ch n) = false ∧ (s.ch n).scLatch = false ∧ s.clk.guardStop = false ∧ 1000 * fld (s.ch n).scth 7 0 < ma) ∧
    (∃ (n : Fin 12) (ma : Nat) (ns : Fin 1000) (s : State), (s.ch n).hs ≠ 0 ∧ (s.ch n).blank = true ∧ (s.ch n).scLatch = false ∧ s.clk.guardStop = false ∧ 1000 * fld (s.ch n).scth 7 0 < ma) ∧
    (∃ (n : Fin 12) (ma : Nat) (ns : Fin 1000) (s : State), (s.ch n).blank = true ∧ (ma ≤ 1000 * fld (s.ch n).scth 7 0 ∨ (s.ch n).hs = 0 ∨ (s.ch n).scLatch = true)) ∧
    (∃ (n : Fin 12) (s : State), (s.ch n).blank = true) ∧
    (∃ (n : Fin 12) (ns : Fin 1000) (s : State), (s.ch n).hsLatch = false ∧ s.dev.phase ≠ .reset ∧ s.clk.guardStop = false ∧ n < s.chans.length ∧ underTest s n = false) ∧
    (∃ (n : Fin 12) (ns : Fin 1000) (s : State), underTest s n = true) ∧
    (∃ (u : Nat) (s : State), (s.ch u).drive = .ladder) ∧
    (∃ (u : Nat) (s : State), (s.ch u).drive = .steady ∧ routeOf s u = none ∧ u < s.chans.length) ∧
    (∃ (u t : Nat) (s : State), (s.ch u).drive = .timed t ∧ u < s.chans.length) ∧
    (∃ (u t : Nat) (s : State), (s.ch u).drive = .steady ∧ routeOf s u = some t ∧ u < s.chans.length) ∧
    (∃ (t u : Nat) (r : List Nat) (s : State), (s.ch u).drive = .steady ∧ (s.ch u).want ≠ .timed t ∧ (s.ch u).cutPeriod = true ∧ ((s.ch u).lingers = false ∨ (s.ch u).onReq = true) ∧ routeOf s u = some t) ∧
    (∃ (n : Fin 12) (ma : Nat) (ns : Fin 1000) (k t' : Nat) (s : State), (s.ch n).hs ≠ 0 ∧ masked (s.ch n) = false ∧ (s.ch n).scLatch = false ∧ s.clk.guardStop = false ∧ 1000 * fld (s.ch n).scth 7 0 < ma ∧ k < 12 ∧ k ≠ n ∧ k / 6 = n / 6 ∧ (s.ch k).latchAt = some t' ∧ nsTime s ns / 50 - t' / 50 ≤ 20 ∧ t' / 50 - nsTime s ns / 50 ≤ 20 ∧ ((s.ch n).baseMode ≠ 3 ∨ leader s k ≠ leader s n)) ∧
    (∃ (n : Fin 12) (ns : Fin 1000) (k t' : Nat) (s : State), (s.ch n).hsLatch = false ∧ s.dev.phase ≠ .reset ∧ s.clk.guardStop = false ∧ underTest s n = false ∧ k < 12 ∧ k ≠ n ∧ k / 6 = n / 6 ∧ (s.ch k).latchAt = some t' ∧ nsTime s ns / 50 - t' / 50 ≤ 20 ∧ t' / 50 - nsTime s ns / 50 ≤ 20 ∧ ((s.ch n).baseMode ≠ 3 ∨ leader s k ≠ leader s n)) ∧
    (∃ (t u : Nat) (s : State), (s.tm t).func = 1 ∧ u ∈ leaders s ∧ routeOf s u = some t ∧ (s.ch u).drive = .steady ∧ (s.ch u).cutPeriod = true) ∧
    (∃ (u t : Nat) (s : State), (s.ch u).drive = .steady ∧ routeOf s u = some t ∧ u < s.chans.length ∧ (s.tm t).run = true) ∧
    (∃ (u t : Nat) (s : State), (s.ch u).drive = .steady ∧ routeOf s u = some t ∧ u < s.chans.length ∧ (s.tm t).run = false) ∧
    (∃ (n : Fin 12) (ma : Nat) (ns : Fin 1000) (k t' : Nat) (s : State), (s.ch n).hs ≠ 0 ∧ masked (s.ch n) = false ∧ (s.ch n).scLatch = false ∧ s.clk.guardStop = false ∧ 1000 * fld (s.ch n).scth 7 0 < ma ∧ k < 12 ∧ k ≠ n ∧ k / 6 = n / 6 ∧ (s.ch k).latchAt = some t' ∧ nsTime s ns / 50 - t' / 50 ≤ 20 ∧ t' / 50 - nsTime s ns / 50 ≤ 20 ∧ ((s.ch n).baseMode ≠ 3 ∨ leader s k ≠ leader s n) ∧ ((openWindows s).any fun w => lists s.flt w (if n.val < 6 then 96 else 97)) = false) ∧
    (∃ (n : Fin 12) (ns : Fin 1000) (k t' : Nat) (s : State), (s.ch n).hsLatch = false ∧ s.dev.phase ≠ .reset ∧ s.clk.guardStop = false ∧ underTest s n = false ∧ k < 12 ∧ k ≠ n ∧ k / 6 = n / 6 ∧ (s.ch k).latchAt = some t' ∧ nsTime s ns / 50 - t' / 50 ≤ 20 ∧ t' / 50 - nsTime s ns / 50 ≤ 20 ∧ ((s.ch n).baseMode ≠ 3 ∨ leader s k ≠ leader s n) ∧ ((openWindows s).any fun w => lists s.flt w (if n.val < 6 then 96 else 97)) = false) :=
  ⟨⟨0, 0, ch0 fun c => { c with hs := 1 }, by decide +kernel⟩,
   ⟨0, 0, busy, by decide +kernel⟩,
   ⟨0, 0, ch0 fun c => { c with topo := 0x2000000, drive := .timed 0 }, by decide +kernel⟩,
   ⟨0, ch0 fun c => { c with chopOff := true, chopAt := 199999980 }, by decide +kernel⟩,
   ⟨0, ch0 fun c => { c with cutOff := true, chopAt := 199999980 }, by decide +kernel⟩,
   ⟨busy, by decide +kernel⟩,
   ⟨0, ch0 fun c => { c with cutMs := true }, by decide +kernel⟩,
   ⟨0, 999, 0, ch0 fun c => { c with hs := 1 }, by decide +kernel⟩,
   ⟨0, 1, 0, ch0 fun c => { c with hs := 1, blank := true }, by decide +kernel⟩,
   ⟨0, 0, 0, ch0 fun c => { c with blank := true }, by decide +kernel⟩,
   ⟨0, ch0 fun c => { c with blank := true }, by decide +kernel⟩,
   ⟨11, 0, busy, by decide +kernel⟩,
   ⟨0, 0, { busy with bist := { busy.bist with laneA := some ⟨0, 1, 0⟩ } }, by decide +kernel⟩,
   ⟨0, ladState id, by decide +kernel⟩,
   ⟨0, ch0 fun c => { c with drive := .steady }, by decide +kernel⟩,
   ⟨0, 0, ch0 fun c => { c with drive := .timed 0 }, by decide +kernel⟩,
   ⟨0, 0, { (tm0 fun m => { m with run := true }) with tbase := { busy.tbase with routes := [0, 0, 0] }, chans := (ch0 fun c => { c with topo := 0, drive := .steady, cutPeriod := true }).chans }, by decide +kernel⟩,
   ⟨0, 0, [], { (tm0 fun m => { m with run := true }) with tbase := { busy.tbase with routes := [0, 0, 0] }, chans := (ch0 fun c => { c with topo := 0, drive := .steady, cutPeriod := true }).chans }, by decide +kernel⟩,
   ⟨0, 1, 0, 1, 200000000000, (busy.onCh 1 fun c => { c with latchAt := some 200000000000 }).onCh 0 fun c => { c with hs := 1 }, by decide +kernel⟩,
   ⟨11, 999, 6, 200000000000, (busy.onCh 6 fun c => { c with latchAt := some 200000000000 }), by decide +kernel⟩,
   ⟨0, 0, { (tm0 fun m => { m with run := true, cfg := 0x2000000 }) with tbase := { busy.tbase with routes := [0, 0, 0] }, chans := (ch0 fun c => { c with topo := 0, drive := .steady, cutPeriod := true }).chans }, by decide +kernel⟩,
   ⟨0, 0, { (tm0 fun m => { m with run := true }) with tbase := { busy.tbase with routes := [0, 0, 0] }, chans := (ch0 fun c => { c with topo := 0, drive := .steady, cutPeriod := true }).chans }, by decide +kernel⟩,
   ⟨0, 0, { (tm0 fun m => { m with run := false }) with tbase := { busy.tbase with routes := [0, 0, 0] }, chans := (ch0 fun c => { c with topo := 0, drive := .steady, cutPeriod := true }).chans }, by decide +kernel⟩,
   ⟨0, 1, 0, 1, 200000000000, (busy.onCh 1 fun c => { c with latchAt := some 200000000000 }).onCh 0 fun c => { c with hs := 1 }, by decide +kernel⟩,
   ⟨11, 999, 6, 200000000000, (busy.onCh 6 fun c => { c with latchAt := some 200000000000 }), by decide +kernel⟩⟩

theorem witness_RetryCommands :
    (∃ (n : Fin 12) (cls : RetryClass) (s : State), (s.ch n).retry.state = .wait ∧ (s.ch n).retry.cls = some cls ∧ guardSince s (s.ch n).retry.since (waitUs (policy (s.ch n) cls).2.2 * 9 / 10) = true ∧ retryCondition s n = true ∧ (s.ch (leader s n)).onReq = true ∧ s.clk.guardStop = false) ∧
    (∃ (n : Nat) (cls : RetryClass) (s : State), n < s.chans.length) ∧
    (∃ (n : Fin 12) (s : State), (s.ch n).retry.state = .probe ∧ 100000 ≤ (s.ch n).retry.probeUs ∧ s.clk.guardStop = false) ∧
    (∃ (n : Fin 12) (s : State), 10000000 ≤ (s.ch n).retry.onUs ∧ s.clk.guardStop = false) ∧
    (∃ (n src : Nat) (cls : RetryClass) (cause : BitVec 3) (s : State), n < s.chans.length ∧ ((s.ch n).retry.state = .armed ∨ (s.ch n).retry.state = .wait ∨ (s.ch n).retry.state = .probe)) ∧
    (∃ (n src : Nat) (cls : RetryClass) (cause : BitVec 3) (s : State), ((s.ch n).retry.state = .lockout ∨ (s.ch n).retry.state = .safe)) ∧
    (∃ (n : Nat) (s : State), (s.ch n).retry.state ≠ .safe ∧ n < s.chans.length) ∧
    (∃ (n : Nat) (s : State), n < s.chans.length ∧ (s.ch n).retry.state = .probe) ∧
    (∃ (n : Fin 12) (s : State), s.clk.guardStop = true) ∧
    (∃ (n : Fin 12) (s : State), (s.ch n).retry.state ≠ .wait) ∧
    (∃ (n : Fin 12) (s : State), (s.ch n).retry.state ≠ .probe) ∧
    (∃ (n : Fin 12) (s : State), (s.ch n).retry.state = .lockout) ∧
    (∃ (w : SampleOpt) (x : Sample), usable w = some x) ∧
    (∃ w : SampleOpt, usable w = none) ∧
    (∃ (k : Nat), k ≤ 5) ∧
    (∃ (k : Nat), k ≤ 4) :=
  ⟨⟨0, .sc, ch0 fun c => { c with onReq := true, retry := { Retry.reset with state := .wait, cls := some .sc, since := 199999910 } }, by decide +kernel⟩,
   ⟨11, .ovl, busy, by decide +kernel⟩,
   ⟨0, ch0 fun c => { c with retry := { Retry.reset with state := .probe, probeUs := 100000 } }, by decide +kernel⟩,
   ⟨0, ch0 fun c => { c with retry := { Retry.reset with onUs := 10000000 } }, by decide +kernel⟩,
   ⟨0, 0, .ovl, 0, busy, by decide +kernel⟩,
   ⟨0, 0, .ovl, 0, ch0 fun c => { c with retry := { Retry.reset with state := .lockout } }, by decide +kernel⟩,
   ⟨0, busy, by decide +kernel⟩,
   ⟨0, ch0 fun c => { c with retry := { Retry.reset with state := .probe } }, by decide +kernel⟩,
   ⟨11, { busy with clk := { busy.clk with guardStop := true } }, by decide +kernel⟩,
   ⟨11, busy, by decide +kernel⟩,
   ⟨11, busy, by decide +kernel⟩,
   ⟨0, ch0 fun c => { c with retry := { Retry.reset with state := .lockout } }, by decide +kernel⟩,
   ⟨some ⟨9280, 0, 0, 0⟩, ⟨9280, 0, 0, 0⟩, by decide +kernel⟩,
   ⟨some ⟨0, 0, 0, 1⟩, by decide +kernel⟩,
   ⟨5, by decide +kernel⟩,
   ⟨4, by decide +kernel⟩⟩

theorem witness_InputCommands :
    (∃ (j : Fin 8) (s : State), guardInputs s = true ∧ bitAt s.limp.tripCfg (4 + j) = true ∧ s.limp.trips.getLsbD j = false) ∧
    (∃ (j : Fin 8) (s : State), guardInputs s = true) ∧
    (∃ s : State, s.limp.lh0 = true ∧ s.limp.lh1 = true ∧ s.limp.asserted = false ∧ s.limp.lhSince + 1000 ≤ guardNow s ∧ s.clk.guardStop = false ∧ s.sup.ritesWait = none) ∧
    (∃ s : State, s.dev.struct = true) ∧
    (∃ s : State, s.limp.lh0 = false ∧ s.limp.lh1 = false ∧ s.limp.lhSince + 1000 ≤ guardNow s ∧ s.clk.guardStop = false ∧ s.sup.ritesWait = none) ∧
    (∃ (t0 : Nat) (s : State), guardInputs s = true ∧ s.limp.oddSince = some t0 ∧ t0 + 100000 ≤ guardNow s ∧ s.limp.disagree = false) ∧
    (∃ (a b : Bool) (s : State), s.clk.guardStop = false ∧ s.sup.ritesWait = none ∧ (a ≠ s.limp.lh0 ∨ b ≠ s.limp.lh1)) ∧
    (∃ (a b : Bool) (j : Fin 8) (s : State), s.sup.ritesWait ≠ none) ∧
    (∃ (n : Nat) (l o : Bool) (since : Nat) (s : State), s.clk.guardStop = true) ∧
    (∃ (a b : Bool) (s : State), s.clk.guardStop = false ∧ s.sup.ritesWait = none ∧ (a ≠ s.limp.lh0 ∨ b ≠ s.limp.lh1) ∧ a = b) :=
  ⟨⟨0, { busy with limp := { busy.limp with tripCfg := 0x10 } }, by decide +kernel⟩,
   ⟨7, busy, by decide +kernel⟩,
   ⟨{ busy with limp := { busy.limp with lh0 := true, lh1 := true, lhSince := 199999000 } }, by decide +kernel⟩,
   ⟨busy, by decide +kernel⟩,
   ⟨busy, by decide +kernel⟩,
   ⟨199900000, { busy with limp := { busy.limp with oddSince := some 199900000 } }, by decide +kernel⟩,
   ⟨true, false, busy, by decide +kernel⟩,
   ⟨true, false, 7, { busy with sup := { busy.sup with ritesWait := some 1 } }, by decide +kernel⟩,
   ⟨5, true, false, 0, { busy with clk := { busy.clk with guardStop := true } }, by decide +kernel⟩,
   ⟨true, true, busy, by decide +kernel⟩⟩

theorem witness_ProtectionRows :
    (∃ (h : Port) (d : D28) (s : State), MayCommit s h 0x3A1 ∧ fld d 27 1 = 0 ∧ bitAt d 0 = true ∧ s.limp.active = true ∧ exitOk s = true ∧ s.clk.guardStop = false) ∧
    (∃ (h : Port) (d : D28) (s : State), MayCommit s h 0x3A1 ∧ fld d 27 1 = 0 ∧ bitAt d 0 = true ∧ s.limp.active = true ∧ exitOk s = false) ∧
    (∃ (a : Access) (n : Fin 12) (d : D28) (s : State), MayStore s a (0x204 + 32 * n) ∧ fld d 27 9 = 0 ∧ 8 ≤ fld d 8 0 ∧ fld d 8 0 ≤ 320) ∧
    (∃ (h : Port) (n : Fin 12) (d : D28) (s : State), MayStore s (.write h) (0x204 + 32 * n) ∧ fld d 27 9 = 0 ∧ (fld d 8 0 < 8 ∨ 320 < fld d 8 0)) ∧
    (∃ (h : Port) (n : Fin 12) (d : D28) (s : State), MayCommit s h (0x205 + 32 * n) ∧ fld d 27 8 = 0 ∧ 20 ≤ fld d 7 0 ∧ fld d 7 0 ≤ 200 ∧ topIlim (chLadder s n) + 40 ≤ 4 * fld d 7 0) ∧
    (∃ (h : Port) (n : Fin 12) (d : D28) (s : State), MayCommit s h (0x205 + 32 * n) ∧ fld d 27 8 = 0 ∧ (fld d 7 0 < 20 ∨ 200 < fld d 7 0 ∨ 4 * fld d 7 0 < topIlim (chLadder s n) + 40)) ∧
    (∃ (h : Port) (n : Fin 12) (d : D28) (s : State), MayCommit s h (0x206 + 32 * n) ∧ fld d 27 13 = 0 ∧ fld d 12 9 ≤ 13 ∧ 8 ≤ fld d 8 0 ∧ fld d 8 0 ≤ 160) ∧
    (∃ (h : Port) (n : Fin 12) (d : D28) (s : State), MayCommit s h (0x206 + 32 * n) ∧ fld d 27 13 = 0 ∧ (13 < fld d 12 9 ∨ fld d 8 0 < 8 ∨ 160 < fld d 8 0)) ∧
    (∃ (h : Port) (n : Fin 12) (d : D28) (s : State), MayCommit s h (0x21F + 32 * n) ∧ fld d 27 6 = 0 ∧ fld d 5 0 < 42 ∧ (s.ch n).retired.getLsbD (fld d 5 0) = false ∧ n < s.chans.length) ∧
    (∃ (h : Port) (n : Fin 12) (d : D28) (s : State), MayCommit s h (0x21F + 32 * n) ∧ fld d 27 6 = 0 ∧ 42 ≤ fld d 5 0) ∧
    (∃ (h : Port) (d : D28) (s : State), MayCommit s h 0x3A1 ∧ fld d 27 1 = 0 ∧ bitAt d 0 = true ∧ s.limp.active = false ∧ s.clk.guardStop = false) ∧
    (∃ (h : Port) (d : D28) (s : State), MayCommit s h 0x3A1 ∧ fld d 27 1 = 0 ∧ bitAt d 0 = false ∧ s.clk.guardStop = false) ∧
    (∃ (n : Nat) (s : State), n < s.chans.length) ∧
    (∃ (u : Nat) (s : State), (s.ch u).lingers = true ∧ (s.ch u).onReq = false ∧ s.limp.active = false ∧ s.dev.struct = true ∧ s.flt.safe = false ∧ (∀ m ∈ members s u, rank2 (s.ch m) = false ∧ rank3 s m = false) ∧ (s.ch u).want ≠ .off ∧ (s.ch u).byLimp = true) ∧
    (∃ (t u : Nat) (r : List Nat) (s : State), (s.ch u).lingers = true ∧ (s.ch u).onReq = false ∧ routeOf s u = some t ∧ s.limp.active = false) ∧
    (∃ (t u : Nat) (s : State), (s.tm t).func = 1 ∧ u ∈ leaders s ∧ routeOf s u = some t ∧ (s.ch u).lingers = true) ∧
    (∃ (t u : Nat) (r : List Nat) (s : State), (s.ch u).lingers = true ∧ (s.ch u).onReq = false ∧ routeOf s u = some t ∧ s.limp.active = false ∧ u < s.chans.length) :=
  ⟨⟨.h0, 1, { busy with limp := { busy.limp with active := true } }, by simp only [MayCommit]; decide +kernel⟩,
   ⟨.h0, 1, { busy with limp := { busy.limp with active := true, released := false } }, by simp only [MayCommit]; decide +kernel⟩,
   ⟨.write .h0, 0, 320, busy, by simp only [MayStore]; decide +kernel⟩,
   ⟨.h0, 0, 7, busy, by simp only [MayStore]; decide +kernel⟩,
   ⟨.h0, 0, 20, busy, by simp only [MayCommit]; decide +kernel⟩,
   ⟨.h0, 0, 19, busy, by simp only [MayCommit]; decide +kernel⟩,
   ⟨.h0, 0, 160, busy, by simp only [MayCommit]; decide +kernel⟩,
   ⟨.h0, 0, 161, busy, by simp only [MayCommit]; decide +kernel⟩,
   ⟨.h0, 0, 41, busy, by simp only [MayCommit]; decide +kernel⟩,
   ⟨.h0, 0, 42, busy, by simp only [MayCommit]; decide +kernel⟩,
   ⟨.h0, 1, busy, by simp only [MayCommit]; decide +kernel⟩,
   ⟨.h0, 0, busy, by simp only [MayCommit]; decide +kernel⟩,
   ⟨11, busy, by decide +kernel⟩,
   ⟨0, { (tm0 fun m => { m with run := true, cfg := 0x2000000 }) with tbase := { busy.tbase with routes := [0, 0, 0] }, chans := (ch0 fun c => { c with topo := 0, drive := .steady, lingers := true, byLimp := true, want := .on }).chans }, by decide +kernel⟩,
   ⟨0, 0, [], { (tm0 fun m => { m with run := true, cfg := 0x2000000 }) with tbase := { busy.tbase with routes := [0, 0, 0] }, chans := (ch0 fun c => { c with topo := 0, drive := .steady, lingers := true, byLimp := true, want := .on }).chans }, by decide +kernel⟩,
   ⟨0, 0, { (tm0 fun m => { m with run := true, cfg := 0x2000000 }) with tbase := { busy.tbase with routes := [0, 0, 0] }, chans := (ch0 fun c => { c with topo := 0, drive := .steady, lingers := true, byLimp := true, want := .on }).chans }, by decide +kernel⟩,
   ⟨0, 0, [], { (tm0 fun m => { m with run := true, cfg := 0x2000000 }) with tbase := { busy.tbase with routes := [0, 0, 0] }, chans := (ch0 fun c => { c with topo := 0, drive := .steady, lingers := true, byLimp := true, want := .on }).chans }, by decide +kernel⟩⟩

theorem witness_FatalEventBringsSafeState :
    (∃ (e : Ev) (s : State), e.src < 120 ∧ unrecorded s e.src = false ∧ classOf s e.src = 2 ∧ ((openWindows s).any fun w => lists s.flt w e.src) = false) ∧
    (∃ (e : Ev) (s : State), e.src < 120 ∧ unrecorded s e.src = false ∧ classOf s e.src = 2 ∧ ((openWindows s).any fun w => lists s.flt w e.src) = false) :=
  ⟨⟨⟨96, 0, false, 0⟩, busy, by decide +kernel⟩,
   ⟨⟨96, 0, false, 0⟩, busy, by decide +kernel⟩⟩

theorem witness_WindowCloseAndDrydown :
    (∃ (w : Window) (s : State), s.flt.windows = [w] ∧ w.closeAt ≤ guardNow s ∧ s.clk.guardStop = false) ∧
    (∃ (w : Window) (s : State), s.flt.windows = [w] ∧ w.closeAt ≤ guardNow s ∧ s.clk.guardStop = false ∧ (∀ e ∈ w.seen, present s e.src = false)) ∧
    (∃ (src : Fin 120) (t0 : Nat) (s : State), (s.flt.records.getD src Record.reset).state = .drying t0 ∧ t0 ≤ guardNow s ∧ s.clk.guardStop = false) ∧
    (∃ (src : Nat) (s : State), src < s.flt.records.length) ∧
    (∃ (e : Ev) (s : State), e.src < 120 ∧ unrecorded s e.src = false ∧ ((openWindows s).any fun w => lists s.flt w e.src) = true) ∧
    (∃ (e : Ev) (s : State), e.src < 120 ∧ unrecorded s e.src = false ∧ ((openWindows s).any fun w => lists s.flt w e.src) = false ∧ classOf s e.src = 0) ∧
    (∃ (e : Ev) (r : Nat) (cls : BitVec 2) (s x : State), e.src < 120 ∧ unrecorded s e.src = false ∧ ((openWindows s).any fun w => lists s.flt w e.src) = false ∧ classOf s e.src ≠ 0 ∧ x = raise [e] s ∧ r = appliedReact s e ∧ cls = (if r = 6 then 2 else classOf s e.src)) ∧
    (∃ (e : Ev) (s : State), e.src < 120 ∧ unrecorded s e.src = false ∧ ((openWindows s).any fun w => lists s.flt w e.src) = false ∧ classOf s e.src ≠ 0 ∧ appliedReact s e = 6) ∧
    (∃ (e : Ev) (r : Nat) (s : State), e.src < 120 ∧ unrecorded s e.src = false ∧ ((openWindows s).any fun w => lists s.flt w e.src) = false ∧ classOf s e.src ≠ 0 ∧ s.flt.safe = false ∧ r = appliedReact s e ∧ r ≠ 6) ∧
    (∃ (src owner react : Nat) (cause : BitVec 3) (perm : Bool) (h : Hold) (s x : State), 2 ≤ react ∧ react ≤ 5 ∧ h = ⟨src, owner, reactScope s react owner, react == 5, perm, decide (react ≤ 4) && (retryClass src).isSome⟩ ∧ x = reactOn src cause react perm owner s) ∧
    (∃ (src owner : Nat) (cause : BitVec 3) (s x : State), x = reactOn src cause 1 false owner s) ∧
    (∃ (src owner : Nat) (cause : BitVec 3) (s x : State), x = reactOn src cause 0 true owner s ∧ (⟨src, owner, 0, false, true, false⟩ : Hold) ∉ s.flt.holds) ∧
    (∃ (h : Hold) (m : Nat) (s : State), h ∈ s.flt.holds) ∧
    (∃ (src : Nat) (s : State), s.clk.guardStop = false ∧ src < s.flt.records.length ∧ (s.flt.records.getD src Record.reset).state = .held) ∧
    (∃ (src t0 : Nat) (s : State), s.clk.guardStop = false ∧ src < s.flt.records.length ∧ (s.flt.records.getD src Record.reset).state = .drying t0) ∧
    (∃ (src : Nat) (s : State), s.clk.guardStop = false ∧ src < s.flt.records.length ∧ (s.flt.records.getD src Record.reset).state = .held ∧ s.flt.safe = true ∧ present s src = false ∧ dryApplies s src (s.flt.records.getD src Record.reset) = true) ∧
    (∃ (s : State) (k owner react : Nat), owner < 12 ∧ k < 12 ∧ (react = 1 ∨ react = 2)) ∧
    (∃ (s : State) (k owner : Nat), owner < 12 ∧ k < 12) ∧
    (∃ (src : Nat) (s : State), s.clk.guardStop = true ∧ src < s.flt.records.length) ∧
    (∃ (e : Ev) (r : Nat) (cls : BitVec 2) (s x : State), e.src < 120 ∧ unrecorded s e.src = false ∧ ((openWindows s).any fun w => lists s.flt w e.src) = false ∧ classOf s e.src ≠ 0 ∧ x = raise [e] s ∧ r = appliedReact s e ∧ cls = (if r = 6 then 2 else classOf s e.src) ∧ s.flt.first.valid = false) ∧
    (∃ (e : Ev) (r : Nat) (cls : BitVec 2) (s x : State), e.src < 120 ∧ unrecorded s e.src = false ∧ ((openWindows s).any fun w => lists s.flt w e.src) = false ∧ classOf s e.src ≠ 0 ∧ x = raise [e] s ∧ r = appliedReact s e ∧ cls = (if r = 6 then 2 else classOf s e.src) ∧ s.flt.first.valid = true) ∧
    (∃ (e : Ev) (r : Nat) (cls : BitVec 2) (s x : State), e.src < 120 ∧ unrecorded s e.src = false ∧ ((openWindows s).any fun w => lists s.flt w e.src) = false ∧ classOf s e.src ≠ 0 ∧ x = raise [e] s ∧ r = appliedReact s e ∧ cls = (if r = 6 then 2 else classOf s e.src) ∧ e.src < s.flt.records.length) ∧
    (∃ (e : Ev) (r : Nat) (cls : BitVec 2) (s x : State), e.src < 120 ∧ unrecorded s e.src = false ∧ ((openWindows s).any fun w => lists s.flt w e.src) = false ∧ classOf s e.src ≠ 0 ∧ x = raise [e] s ∧ r = appliedReact s e ∧ cls = (if r = 6 then 2 else classOf s e.src) ∧ s.nvs.dropped = 0 ∧ s.nvs.image.length < 15) ∧
    (∃ (src owner react : Nat) (cause : BitVec 3) (perm : Bool) (h : Hold) (s x : State), 2 ≤ react ∧ react ≤ 5 ∧ h = ⟨src, owner, reactScope s react owner, react == 5, perm, decide (react ≤ 4) && (retryClass src).isSome⟩ ∧ x = reactOn src cause react perm owner s ∧ h ∉ s.flt.holds) ∧
    (∃ (src owner react : Nat) (cause : BitVec 3) (perm : Bool) (h : Hold) (s x : State), 2 ≤ react ∧ react ≤ 5 ∧ h = ⟨src, owner, reactScope s react owner, react == 5, perm, decide (react ≤ 4) && (retryClass src).isSome⟩ ∧ x = reactOn src cause react perm owner s ∧ h ∈ s.flt.holds) ∧
    (∃ (src owner react : Nat) (cause : BitVec 3) (perm : Bool) (h : Hold) (s x : State), 2 ≤ react ∧ react ≤ 5 ∧ h = ⟨src, owner, reactScope s react owner, react == 5, perm, decide (react ≤ 4) && (retryClass src).isSome⟩ ∧ x = reactOn src cause react perm owner s ∧ react = 5 ∧ s.dev.struct = true) ∧
    (∃ (h : Hold) (m : Nat) (s : State), h ∈ s.flt.holds ∧ h.scope.getLsbD m = true) ∧
    (∃ (h : Hold) (m : Nat) (s : State), h ∈ s.flt.holds ∧ h.perm = true) ∧
    (∃ (h : Hold) (m : Nat) (s : State), h ∈ s.flt.holds ∧ h.limp = true) ∧
    (∃ (s : State) (k owner react : Nat), owner < 12 ∧ k < 12 ∧ (react = 1 ∨ react = 2) ∧ (s.ch k).baseMode = 3) ∧
    (∃ (s : State) (k owner react : Nat), owner < 12 ∧ k < 12 ∧ (react = 1 ∨ react = 2) ∧ (s.ch k).baseMode ≠ 3) ∧
    (∃ (s : State) (k owner : Nat), owner < 12 ∧ k < 12 ∧ (s.ch k).baseMode ≠ 3) ∧
    (∃ (s : State) (k owner : Nat), owner < 12 ∧ k < 12 ∧ (s.ch k).baseMode = 3) ∧
    (∃ (src : Nat) (s : State), 1 ≤ entryDry (entryOf s src)) :=
  ⟨⟨⟨0, 0, 0, [⟨109, 0, false, 0⟩]⟩, { busy with flt := { busy.flt with windows := [⟨0, 0, 0, [⟨109, 0, false, 0⟩]⟩] }, tbase := { busy.tbase with sync := .holdover } }, by decide +kernel⟩,
   ⟨⟨0, 0, 0, [⟨109, 0, false, 0⟩]⟩, { busy with flt := { busy.flt with windows := [⟨0, 0, 0, [⟨109, 0, false, 0⟩]⟩] } }, by decide +kernel⟩,
   ⟨0, 0, { busy with flt := { busy.flt with records := busy.flt.records.modify 0 fun r => { r with state := .drying 0 } } }, by decide +kernel⟩,
   ⟨119, busy, by decide +kernel⟩,
   ⟨⟨0, 3, false, 0⟩, { busy with flt := { busy.flt with windows := [⟨0, 1, 200000100, []⟩], cqch := List.replicate 6 1 } }, by decide +kernel⟩,
   ⟨⟨108, 0, false, 0⟩, busy, by decide +kernel⟩,
   ⟨⟨96, 0, false, 0⟩, _, _, busy, _, ⟨by decide +kernel, by decide +kernel, by decide +kernel, by decide +kernel, rfl, rfl, rfl⟩⟩,
   ⟨⟨96, 0, false, 0⟩, busy, by decide +kernel⟩,
   ⟨⟨0, 0, false, 0⟩, appliedReact busy ⟨0, 0, false, 0⟩, busy, by decide +kernel⟩,
   ⟨0, 0, 2, 0, false, _, busy, _, ⟨by decide +kernel, by decide +kernel, rfl, rfl⟩⟩,
   ⟨0, 11, 0, busy, _, rfl⟩,
   ⟨0, 11, 0, busy, _, ⟨rfl, by decide +kernel⟩⟩,
   ⟨⟨0, 0, 1, true, true, false⟩, 0, { busy with flt := { busy.flt with holds := [⟨0, 0, 1, true, true, false⟩] } }, by decide +kernel⟩,
   ⟨119, { busy with flt := { busy.flt with records := busy.flt.records.set 119 ⟨.held, 2, false, false⟩ } }, by decide +kernel⟩,
   ⟨0, 200000100, { busy with flt := { busy.flt with records := busy.flt.records.set 0 ⟨.drying 200000100, 2, false, false⟩ } }, by decide +kernel⟩,
   ⟨0, { busy with flt := { busy.flt with safe := true, rx := List.replicate 60 0xFFFFFFF, records := busy.flt.records.set 0 ⟨.held, 2, false, false⟩ } }, by decide +kernel⟩,
   ⟨busy, 11, 0, 1, ⟨by decide, by decide, Or.inl rfl⟩⟩,
   ⟨busy, 11, 0, by decide +kernel⟩,
   ⟨0, { busy with clk := { busy.clk with guardStop := true } }, by decide +kernel⟩,
   ⟨⟨96, 0, false, 0⟩, _, _, busy, _, ⟨by decide +kernel, by decide +kernel, by decide +kernel, by decide +kernel, rfl, rfl, rfl, by decide +kernel⟩⟩,
   ⟨⟨96, 0, false, 0⟩, _, _, { busy with flt := { busy.flt with first := { busy.flt.first with valid := true } } }, _, ⟨by decide +kernel, by decide +kernel, by decide +kernel, by decide +kernel, rfl, rfl, rfl, by decide +kernel⟩⟩,
   ⟨⟨119, 0, false, 0⟩, _, _, busy, _, ⟨by decide +kernel, by decide +kernel, by decide +kernel, by decide +kernel, rfl, rfl, rfl, by decide +kernel⟩⟩,
   ⟨⟨96, 0, false, 0⟩, _, _, busy, _, ⟨by decide +kernel, by decide +kernel, by decide +kernel, by decide +kernel, rfl, rfl, rfl, by decide +kernel, by decide +kernel⟩⟩,
   ⟨0, 11, 2, 0, true, _, busy, _, ⟨by decide +kernel, by decide +kernel, rfl, rfl, by decide +kernel⟩⟩,
   ⟨0, 0, 2, 0, false, _, { busy with flt := { busy.flt with holds := [⟨0, 0, reactScope busy 2 0, false, false, true⟩] } }, _, ⟨by decide +kernel, by decide +kernel, rfl, rfl, by decide +kernel⟩⟩,
   ⟨0, 0, 5, 0, true, _, busy, _, ⟨by decide +kernel, by decide +kernel, rfl, rfl, by decide +kernel, by decide +kernel⟩⟩,
   ⟨⟨0, 0, 0x801, true, true, false⟩, 11, { busy with flt := { busy.flt with holds := [⟨0, 0, 0x801, true, true, false⟩] } }, by decide +kernel⟩,
   ⟨⟨0, 0, 1, false, true, false⟩, 0, { busy with flt := { busy.flt with holds := [⟨0, 0, 1, false, true, false⟩] } }, by decide +kernel⟩,
   ⟨⟨0, 0, 1, true, false, false⟩, 0, { busy with flt := { busy.flt with holds := [⟨0, 0, 1, true, false, false⟩] } }, by decide +kernel⟩,
   ⟨duo 0x6003C00 id id, 1, 0, 2, by decide +kernel⟩,
   ⟨busy, 5, 5, 1, by decide +kernel⟩,
   ⟨busy, 11, 6, by decide +kernel⟩,
   ⟨duo 0x6003C00 id id, 1, 0, by decide +kernel⟩,
   ⟨0, { busy with flt := { busy.flt with rx := busy.flt.rx.set 0 0x40 } }, by decide +kernel⟩⟩

theorem witness_AcknowledgementAndSelfCheck :
    (∃ s : State, s.clk.guardStop = false ∧ s.dev.phase ≠ .reset) ∧
    (∃ (src : Fin 120) (s : State), s.clk.guardStop = false ∧ s.dev.phase ≠ .reset) ∧
    (∃ (h : Port) (d : D28) (s : State), MayCommit s h 0x084 ∧ fld d 27 8 = 0 ∧ bitAt d 0 = true ∧ fld d 7 1 = s.flt.first.src ∧ s.clk.guardStop = false) ∧
    (∃ (src : Nat) (s : State), src < 120 ∧ s.flt.records.length = 120 ∧ outstanding s.flt src = true) ∧
    (∃ (h : Port) (d : D28) (s : State), MayCommit s h 0x084 ∧ fld d 27 8 = 0 ∧ bitAt d 0 = true ∧ fld d 7 1 ≠ s.flt.first.src) ∧
    (∃ (h : Port) (d : D28) (s : State), MayCommit s h 0x084 ∧ fld d 27 8 = 0 ∧ bitAt d 0 = false ∧ s.clk.guardStop = false) ∧
    (∃ (src : Nat) (s : State), s.flt.rx.length = 60 ∧ src < 120) ∧
    (∃ (e : Ev) (s : State), s.flt.safe = false ∧ classOf s e.src = 1 ∧ bitAt s.flt.cfg 27 = true ∧ (s.flt.records.getD e.src Record.reset).state ≠ .clear ∧ ¬(startsRetry e.src (entryReact (entryOf s e.src)) = true ∧ ∃ n ∈ owners s e (entryReact (entryOf s e.src)), (s.ch n).retry.state = .probe)) ∧
    (∃ (e : Ev) (s : State), s.flt.safe = false ∧ classOf s e.src = 1 ∧ (bitAt s.flt.cfg 27 = false ∨ (s.flt.records.getD e.src Record.reset).state = .clear ∨ (startsRetry e.src (entryReact (entryOf s e.src)) = true ∧ ∃ n ∈ owners s e (entryReact (entryOf s e.src)), (s.ch n).retry.state = .probe))) ∧
    (∃ (e : Ev) (r : Nat) (s : State), e.src < 120 ∧ unrecorded s e.src = false ∧ ((openWindows s).any fun w => lists s.flt w e.src) = false ∧ s.flt.safe = false ∧ classOf s e.src = 1 ∧ bitAt s.flt.cfg 27 = true ∧ (s.flt.records.getD e.src Record.reset).state ≠ .clear ∧ (s.flt.records.getD e.src Record.reset).react.toNat = r ∧ (retryClass e.src).isSome = false ∧ e.src < s.flt.records.length) ∧
    (∃ (e : Ev) (s : State), s.flt.safe = false ∧ classOf s e.src = 1 ∧ bitAt s.flt.cfg 27 = true ∧ (s.flt.records.getD e.src Record.reset).state ≠ .clear ∧ (entryReact (entryOf s e.src) < 2 ∨ 4 < entryReact (entryOf s e.src))) ∧
    (∃ (src : Nat) (s : State) (k : Nat), s.flt.rx.length = 60 ∧ src < 120 ∧ k ≠ src ∧ k < 120) ∧
    (∃ (e : Ev) (s : State), (s.flt.safe = true ∨ classOf s e.src = 0)) ∧
    (∃ (e : Ev) (s : State), s.flt.safe = false ∧ classOf s e.src = 2) ∧
    (∃ (e : Ev) (r : Nat) (s : State), e.src < 120 ∧ unrecorded s e.src = false ∧ ((openWindows s).any fun w => lists s.flt w e.src) = false ∧ s.flt.safe = false ∧ classOf s e.src = 1 ∧ bitAt s.flt.cfg 27 = true ∧ (s.flt.records.getD e.src Record.reset).state ≠ .clear ∧ (s.flt.records.getD e.src Record.reset).react.toNat = r ∧ (retryClass e.src).isSome = false ∧ e.src < s.flt.records.length ∧ 5 ≤ r) :=
  ⟨⟨busy, by decide +kernel⟩,
   ⟨0, busy, by decide +kernel⟩,
   ⟨.h0, 0xFF, busy, by simp only [MayCommit]; decide +kernel⟩,
   ⟨0, { busy with flt := { busy.flt with records := busy.flt.records.modify 0 fun r => { r with state := .held } } }, by decide +kernel⟩,
   ⟨.h0, 1, busy, by simp only [MayCommit]; decide +kernel⟩,
   ⟨.h0, 0xFE, busy, ⟨by simp only [MayCommit]; decide +kernel, by decide +kernel, by decide +kernel, by decide +kernel⟩⟩,
   ⟨119, busy, by decide +kernel⟩,
   ⟨⟨0, 0, false, 0⟩, { busy with flt := { busy.flt with cfg := 0x8000000, records := busy.flt.records.set 0 ⟨.held, 2, false, false⟩ } }, by decide +kernel⟩,
   ⟨⟨0, 0, false, 0⟩, busy, by decide +kernel⟩,
   ⟨⟨4, 0, false, 0⟩, 2, { busy with flt := { busy.flt with cfg := 0x8000000, records := busy.flt.records.set 4 ⟨.held, 2, false, false⟩ } }, by decide +kernel⟩,
   ⟨⟨5, 0, false, 0⟩, { busy with flt := { busy.flt with cfg := 0x8000005, records := busy.flt.records.set 5 ⟨.held, 0, false, false⟩ } }, by decide +kernel⟩,
   ⟨119, busy, 118, by decide +kernel⟩,
   ⟨⟨96, 0, false, 0⟩, { busy with flt := { busy.flt with safe := true } }, by decide +kernel⟩,
   ⟨⟨96, 0, false, 0⟩, busy, by decide +kernel⟩,
   ⟨⟨4, 0, false, 0⟩, 5, { busy with flt := { busy.flt with cfg := 0x8000000, records := busy.flt.records.set 4 ⟨.held, 5, false, false⟩ } }, by decide +kernel⟩⟩

theorem witness_FaultInjection :
    (∃ (h : Port) (s : State), MayCommit s h 0x086 ∧ s.clk.guardStop = false) ∧
    (∃ (h : Port) (d : D28) (s : State), MayCommit s h 0x086 ∧ d ≠ 0xA5C1242 ∧ s.clk.guardStop = false) ∧
    (∃ (h : Port) (t0 : Nat) (s : State), s.flt.injBy = some (h, t0) ∧ guardSince s t0 60000000 = true ∧ s.clk.guardStop = false) ∧
    (∃ (h : Port) (w : Fin 5) (d : D28) (s : State), MayCommit s h (0x0A4 + w) ∧ fld d 27 24 = 0 ∧ s.flt.inj = false) ∧
    (∃ (h : Port) (w : Fin 5) (d : D28) (s : State), MayCommit s h (0x0A4 + w) ∧ fld d 27 24 = 0 ∧ s.flt.inj = true ∧ s.clk.guardStop = false) ∧
    (∃ s : State, s.clk.guardStop = true) ∧
    (∃ (w src : Nat) (s : State), w < 5) ∧
    (∃ s : State, watching s .guard = true ∧ s.clk.guardStop = false) :=
  ⟨⟨.h0, busy, by simp only [MayCommit]; decide +kernel⟩,
   ⟨.h0, 0, busy, by simp only [MayCommit]; decide +kernel⟩,
   ⟨.h0, 140000000, { busy with flt := { busy.flt with injBy := some (.h0, 140000000) } }, by decide +kernel⟩,
   ⟨.h0, 0, 0, busy, by simp only [MayCommit]; decide +kernel⟩,
   ⟨.h0, 4, 1, { busy with flt := { busy.flt with inj := true } }, by simp only [MayCommit]; decide +kernel⟩,
   ⟨{ busy with clk := { busy.clk with guardStop := true } }, by decide +kernel⟩,
   ⟨0, 0, busy, by decide +kernel⟩,
   ⟨busy, by decide +kernel⟩⟩

theorem witness_PowerUpCommands :
    (∃ s : State, s.dev.phase = .reset) ∧
    (∃ s : State, s.dev.phase = .clocks ∧ newestShadow s.store = none) ∧
    (∃ s : State, s.dev.phase = .clocks) ∧
    (∃ s : State, s.trust.key = none ∧ s.coreRuns = true ∧ s.since s.trust.rbgAt 100000 = true) ∧
    (∃ s : State, s.dev.phase = .clocks ∧ guardSince s 0 2000 = true ∧ s.clk.guardStop = false) ∧
    (∃ s : State, s.clk.armed = true ∧ s.clk.locked = true ∧ s.clk.guardStop = false) ∧
    (∃ s : State, s.dev.phase ≠ .reset ∧ s.sup.ritesWait = none ∧ guardSince s 0 100 = true ∧ s.clk.guardStop = false) ∧
    (∃ (b : Bool) (c : Copy Nat) (s : State), s.dev.phase = .clocks ∧ newestShadow s.store = some c ∧ s.otp.arbfuse < c.val) ∧
    (∃ (b : Bool) (s : State), s.dev.phase ≠ .reset ∧ s.dev.phase ≠ .clocks) ∧
    (∃ (b : Bool) (s : State), s.since s.trust.rbgAt 100000 = false) ∧
    (∃ s : State, (s.dev.phase ≠ .clocks ∨ guardNow s < 2000)) ∧
    (∃ s : State, (s.dev.phase = .reset ∨ s.sup.ritesWait ≠ none ∨ guardNow s < 100 ∨ s.clk.guardStop = true)) :=
  ⟨⟨State.reset, by decide +kernel⟩,
   ⟨starting .clocks, by decide +kernel⟩,
   ⟨starting .clocks, by decide +kernel⟩,
   ⟨busy, by decide +kernel⟩,
   ⟨{ starting .clocks with clk := { Clk.reset with guardUs := 2000 } }, by decide +kernel⟩,
   ⟨busy, by decide +kernel⟩,
   ⟨{ starting .clocks with clk := { Clk.reset with guardUs := 100 } }, by decide +kernel⟩,
   ⟨true, ⟨96, 0, 5⟩, { starting .clocks with store := { Store.reset with shadow := (List.replicate 8 Slot.blank).set 0 (.copy (copyWords shadowLayout 96 0 5)) } }, by decide +kernel⟩,
   ⟨true, busy, by decide +kernel⟩,
   ⟨true, State.reset, by decide +kernel⟩,
   ⟨starting .clocks, by decide +kernel⟩,
   ⟨starting .clocks, by decide +kernel⟩⟩

theorem witness_ResetsAndLastRites :
    (∃ s : State, s.nvs.running = none) ∧
    (∃ (env : RitesEnv) (s : State), s.dev.phase ≠ .reset ∧ s.sup.ritesWait = none ∧ s.nvs.running = none ∧ s.clk.coreStop = false) ∧
    (∃ (env : RitesEnv) (s : State), s.dev.phase = .reset) ∧
    (∃ (env : RitesEnv) (p : Program) (s : State), s.dev.phase ≠ .reset ∧ s.sup.ritesWait = none ∧ s.nvs.running = some p ∧ s.clk.coreStop = false) ∧
    (∃ (x : Supply) (env : RitesEnv) (s : State), s.dev.phase ≠ .reset ∧ s.sup.ritesWait = none ∧ s.nvs.running = none ∧ s.clk.coreStop = false) ∧
    (∃ (x : Supply) (env : RitesEnv) (p : Program) (s : State), s.dev.phase ≠ .reset ∧ s.sup.ritesWait = none ∧ s.nvs.running = some p ∧ s.clk.guardStop = false ∧ s.clk.coreStop = false) ∧
    (∃ (reads : Bool) (env : RitesEnv) (p : Program) (cause : BitVec 3) (s : State), s.nvs.running = some p ∧ s.sup.ritesWait = some cause ∧ s.clk.coreStop = false) ∧
    (∃ (p : Program) (s : State), s.nvs.running = some p ∧ (area p).1 ≤ s.nvs.page) ∧
    (∃ (x : Supply) (env : RitesEnv) (s : State), s.dev.phase ≠ .reset ∧ s.sup.ritesWait = some 1 ∧ supOk s x = true ∧ s.clk.guardStop = false) ∧
    (∃ (x : Supply) (env : RitesEnv) (s : State), (s.dev.phase = .reset ∨ (s.sup.ritesWait.isSome = true ∧ (supOk s x = false ∨ s.sup.ritesWait ≠ some 1)))) ∧
    (∃ (cause : BitVec 3) (s : State), s.nvs.image.length < 14 ∧ s.nvs.dropped = 0) ∧
    (∃ (cause : BitVec 3) (s : State), s.nvs.image.length = 15 ∧ s.nvs.running = none ∧ s.nvs.programmed < 15) ∧
    (∃ (cause : BitVec 3) (s : State) (i : Nat) (r : Rec), s.nvs.image[i]? = some r ∧ fld r.r0 27 24 = 2 ∧ s.nvs.programmed ≤ i) ∧
    (∃ (env : RitesEnv) (s : State), (s.nvs.mapPend = false ∨ ritesOk s env.vholdMap = false)) ∧
    (∃ (env : RitesEnv) (pg : Nat) (s : State), s.nvs.mapPend = true ∧ ritesOk s env.vholdMap = true ∧ env.mapReads = true ∧ targetPage s .map = some pg ∧ s.store.map.length = 16 ∧ s.chans.length = 12 ∧ (∀ c, newestMap s.store = some c → c.gen + 1 < 2 ^ 28)) ∧
    (∃ (env : RitesEnv) (cause : BitVec 3) (pg : Nat) (s : State), s.nvs.scanned = true ∧ ritesOk s env.vholdLog = true ∧ env.logReads = true ∧ targetPage s .log = some pg) ∧
    (∃ (env : RitesEnv) (x : Supply) (s : State), s.dev.phase ≠ .reset ∧ s.sup.ritesWait = none ∧ s.clk.coreStop = true ∧ s.clk.guardStop = false) ∧
    (∃ (env : RitesEnv) (x : Supply) (s : State), lightsOut s = true) ∧
    (∃ (p : Program) (s : State), s.nvs.running = some p ∧ (area p).1 ≤ s.nvs.page) ∧
    (∃ (env : RitesEnv) (cause : BitVec 3) (s : State), s.nvs.scanned = false) ∧
    (∃ (w : Window) (s : State), s.sup.ritesWait ≠ none ∧ s.dev.phase ≠ .reset ∧ s.clk.timeStop = true ∧ s.clk.guardStop = false ∧ s.flt.windows = [w] ∧ w.closeAt ≤ guardNow s + 1) :=
  ⟨⟨busy, by decide +kernel⟩,
   ⟨⟨0, 0, true, true⟩, busy, by decide +kernel⟩,
   ⟨⟨0, 0, true, true⟩, State.reset, by decide +kernel⟩,
   ⟨⟨0, 0, true, true⟩, .log, charged fun v => { v with running := some .log }, by decide +kernel⟩,
   ⟨.vddc, ⟨0, 0, true, true⟩, busy, by decide +kernel⟩,
   ⟨.vdrv, ⟨0, 0, true, true⟩, .map, charged fun v => { v with running := some .map }, by decide +kernel⟩,
   ⟨true, ⟨0, 0, true, true⟩, .map, 1, { (charged fun v => { v with running := some .map }) with sup := { busy.sup with ritesWait := some 1 } }, by decide +kernel⟩,
   ⟨.log, charged fun v => { v with running := some .log, page := 512 }, by decide +kernel⟩,
   ⟨.vddc, ⟨0, 0, true, true⟩, { busy with sup := { busy.sup with ritesWait := some 1 } }, by decide +kernel⟩,
   ⟨.vddc, ⟨0, 0, true, true⟩, State.reset, by decide +kernel⟩,
   ⟨1, busy, by decide +kernel⟩,
   ⟨1, { busy with nvs := { busy.nvs with image := List.replicate 15 ⟨0, 0, 0, 0⟩ } }, by decide +kernel⟩,
   ⟨1, { busy with nvs := { busy.nvs with image := [⟨0x2000000, 0, 0, 0⟩] } }, 0, ⟨0x2000000, 0, 0, 0⟩, by decide +kernel⟩,
   ⟨⟨0, 0, true, true⟩, busy, by decide +kernel⟩,
   ⟨⟨24000, 24000, true, true⟩, 64, charged fun v => { v with mapPend := true }, ⟨by decide +kernel, by decide +kernel, by decide +kernel, by decide +kernel, by decide +kernel, by decide +kernel, (by intro c h; revert h; rw [show newestMap (charged fun v => { v with mapPend := true }).store = none by decide +kernel]; simp)⟩⟩,
   ⟨⟨24000, 24000, true, true⟩, 1, 512, charged fun v => { v with scanned := true }, by decide +kernel⟩,
   ⟨⟨0, 0, true, true⟩, .vddc, { busy with clk := { busy.clk with coreStop := true } }, by decide +kernel⟩,
   ⟨⟨0, 0, true, true⟩, .vdrv, { busy with clk := { busy.clk with guardStop := true, coreStop := true } }, by decide +kernel⟩,
   ⟨.log, charged fun v => { v with running := some .log, page := 512 }, by decide +kernel⟩,
   ⟨⟨24000, 24000, true, true⟩, 1, charged id, by decide +kernel⟩,
   ⟨⟨0, 1, 200000001, []⟩, { busy with sup := { busy.sup with ritesWait := some 1 }, clk := { busy.clk with timeStop := true }, flt := { busy.flt with windows := [⟨0, 1, 200000001, []⟩] } }, by decide +kernel⟩⟩

theorem witness_ClockMonitorsAndKeepAlives :
    (∃ (m : Monitor) (count : Nat) (s : State), monitoring s m = true ∧ countPasses m count = true) ∧
    (∃ (m : Monitor) (count : Nat) (s : State), monitoring s m = true ∧ countPasses m count = false ∧ s.clk.guardStop = false) ∧
    (∃ (d : Domain) (late : Bool) (s : State), watching s d = true ∧ stopped s.clk d = false ∧ s.clk.guardStop = false) ∧
    (∃ s : State, s.dev.phase ≠ .reset) ∧
    (∃ s : State, s.clk.guardStop = false ∧ s.pins.heart = true ∧ guardSince s s.pins.heartAt 10 = true) ∧
    (∃ (k : KeepAlive) (s : State), s.dev.phase ≠ .reset ∧ lostTogether (loseKeepAlive k s.pins) s.clk = false) ∧
    (∃ s : State, s.dev.phase ≠ .reset) ∧
    (∃ s : State, s.dev.phase ≠ .reset) ∧
    (∃ s : State, s.dev.phase ≠ .reset) ∧
    (∃ s : State, s.dev.phase ≠ .reset) ∧
    (∃ s : State, s.dev.phase = .arming ∧ s.dev.struct = true ∧ s.dev.stok = true ∧ leaseOk s = true ∧ s.flt.safe = false ∧ s.clk.coreStop = false) ∧
    (∃ (u : Nat) (s : State), (s.ch u).drive = .steady ∧ blocked (s.ch u) = false ∧ (s.ch u).dt ≠ .toHigh ∧ (∀ m ∈ legs s u, (s.ch m).hs = 0) ∧ (∀ m ∈ legs s u, m < s.chans.length)) ∧
    (∃ s : State, s.clk.guardStop = false) ∧
    (∃ s : State, s.coreRuns = true) ∧
    (∃ (k : KeepAlive) (s : State), s.dev.phase ≠ .reset ∧ lostTogether (loseKeepAlive k s.pins) s.clk = true) ∧
    (∃ (es : List Ev) (h : Port) (s : State), lightsOut s = true) ∧
    (∃ s : State, watching s .time = true ∧ s.clk.timeStop = false ∧ s.clk.guardStop = false ∧ s.flt.first.valid = false ∧ ((openWindows s).any fun w => lists s.flt w 113) = false) ∧
    (∃ (u : Nat) (s : State), u < s.chans.length ∧ s.pins.heart = true ∧ driveAsks (s.ch u) = true ∧ blocked (s.ch u) = false ∧ (s.ch u).dt ≠ .toHigh ∧ (s.ch u).fwOpt ≠ 0) ∧
    (∃ s : State, s.dev.phase = .arming ∧ s.dev.struct = true ∧ s.dev.stok = true ∧ leaseOk s = true ∧ s.flt.safe = false ∧ s.clk.coreStop = false ∧ permHold s.flt = false ∧ (s.limp.active = false ∨ s.limp.permKeep = true) ∧ leaseLost s = false) ∧
    (∃ s : State, s.clk.coreStop = true) ∧
    (∃ s : State, watching s .sense = true ∧ s.clk.senseStop = false) ∧
    (∃ s : State, watching s .guard = true ∧ s.clk.guardStop = false) ∧
    (∃ s : State, s.pins.heart = true ∧ guardSince s s.pins.heartAt 10 = false) ∧
    (∃ s : State, s.clk.guardStop = false ∧ s.clk.coreStop = false ∧ s.clk.timeStop = false ∧ s.clocked = true ∧ s.pins.lost1 = true ∧ s.pins.back1 ≤ 2) ∧
    (∃ s : State, s.dev.phase = .clocks ∧ s.sup.ritesWait = none ∧ s.clk.guardStop = false ∧ s.pins.heart = true ∧ s.pins.heartAt + 9 ≤ guardNow s) ∧
    (∃ (s : State), s.clk.guardStop = false ∧ s.pins.lost0 = true) ∧
    (∃ (s : State), s.clk.guardStop = false ∧ s.pins.lostHG = true) ∧
    (∃ (s : State), s.coreRuns = true ∧ s.pins.lost1 = true) ∧
    (∃ (s : State), s.coreRuns = true ∧ s.pins.lostHC = true) ∧
    (∃ (s : State), firstPermitOk s = false) :=
  ⟨⟨.guardCore, 608, busy, by decide +kernel⟩,
   ⟨.guardCore, 607, busy, by decide +kernel⟩,
   ⟨.core, false, busy, by decide +kernel⟩,
   ⟨busy, by decide +kernel⟩,
   ⟨{ busy with pins := { busy.pins with heart := true, heartAt := 199999990 } }, by decide +kernel⟩,
   ⟨.permit0, busy, by decide +kernel⟩,
   ⟨busy, by decide +kernel⟩,
   ⟨busy, by decide +kernel⟩,
   ⟨busy, by decide +kernel⟩,
   ⟨busy, by decide +kernel⟩,
   ⟨{ busy with dev := { busy.dev with phase := .arming, fpermit := false } }, by decide +kernel⟩,
   ⟨0, ch0 fun c => { c with drive := .steady }, by decide +kernel⟩,
   ⟨busy, by decide +kernel⟩,
   ⟨busy, by decide +kernel⟩,
   ⟨.permit0, { busy with pins := { busy.pins with lost1 := true } }, by decide +kernel⟩,
   ⟨[⟨96, 0, false, 0⟩], .h0, { busy with clk := { busy.clk with guardStop := true, coreStop := true } }, by decide +kernel⟩,
   ⟨busy, by decide +kernel⟩,
   ⟨0, { (ch0 fun c => { c with topo := 0x0803C00, drive := .steady }) with pins := { busy.pins with heart := true } }, by decide +kernel⟩,
   ⟨{ busy with dev := { busy.dev with phase := .arming, fpermit := false } }, by decide +kernel⟩,
   ⟨{ busy with clk := { busy.clk with coreStop := true } }, by decide +kernel⟩,
   ⟨busy, by decide +kernel⟩,
   ⟨busy, by decide +kernel⟩,
   ⟨{ busy with pins := { busy.pins with heart := true, heartAt := 199999999 } }, by decide +kernel⟩,
   ⟨{ busy with pins := { busy.pins with lost1 := true, back1 := 1 } }, by decide +kernel⟩,
   ⟨{ starting .clocks with pins := { Pins.reset with heart := true, heartAt := 0 }, clk := { Clk.reset with guardUs := 9 } }, by decide +kernel⟩,
   ⟨{ busy with pins := { busy.pins with lost0 := true } }, by decide +kernel⟩,
   ⟨{ busy with pins := { busy.pins with lostHG := true } }, by decide +kernel⟩,
   ⟨{ busy with pins := { busy.pins with lost1 := true } }, by decide +kernel⟩,
   ⟨{ busy with pins := { busy.pins with lostHC := true } }, by decide +kernel⟩,
   ⟨busy, by decide +kernel⟩⟩

theorem witness_LoadCommands :
    (∃ (f : FlashProbe) (s : State), s.dev.phase = .flash ∧ s.coreRuns = true ∧ (detect f).1 ≠ 0) ∧
    (∃ (f : FlashProbe) (s : State), s.dev.phase = .flash ∧ s.coreRuns = true ∧ (detect f).1 = 0) ∧
    (∃ (r : ReelRead) (v : Verdict) (s : State), s.dev.phase = .load ∧ s.coreRuns = true ∧ s.dev.reel = 1 ∧ s.sup.ritesWait = none ∧ v = checkReel s.otpRead (s.flash.mode ≠ 0) 0 s.flash.densLog (readAs r s) ∧ v.plan = none) ∧
    (∃ (r : ReelRead) (v : Verdict) (s : State), s.dev.phase = .load ∧ s.coreRuns = true ∧ s.dev.reel = 2 ∧ s.sup.ritesWait = none ∧ v = checkReel s.otpRead (s.flash.mode ≠ 0) 0x40000 s.flash.densLog (readAs r s) ∧ v.plan = none) ∧
    (∃ (r : ReelRead) (v : Verdict) (p : Plan) (s : State), s.dev.phase = .load ∧ s.coreRuns = true ∧ (s.dev.reel = 1 ∨ s.dev.reel = 2) ∧ s.sup.ritesWait = none ∧ v = checkReel s.otpRead (s.flash.mode ≠ 0) (if s.dev.reel = 1 then 0 else 0x40000) s.flash.densLog (readAs r s) ∧ v.plan = some p) ∧
    (∃ (p : Plan) (ws : List D28) (n : Nat) (s : State), n < s.chans.length) ∧
    (∃ (p : Plan) (ws : List D28) (t : Nat) (s : State), t < s.timers.length) ∧
    (∃ (p : Plan) (ws : List D28) (u : Nat) (s x : State), s.flt.safe = true ∧ s.limp.asserted = false ∧ s.chans.length = 12 ∧ x = applyStructure p ws s) ∧
    (∃ ws : List W36, (∀ i, 4 ≤ i → i < 32 → imgWordOk ws i = true)) ∧
    (∃ (otp : Otp) (base dens i n : Nat) (r : ReelRead) (v : Verdict) (ws : List W36) (ds : List D28) (key : Nat × Nat), reelRoom base dens = none ∧ r.failed = false ∧ r.dqsTimeout = false ∧ v = checkReel otp true base dens r ∧ n = fld (wData (r.words.getD 1 0)) 27 12 ∧ ws = r.words.take n ∧ ds = ws.map wData ∧ key = (join384 (group14 ds 4 0), join384 (group14 ds 4 1))) ∧
    (∃ (otp : Otp) (n nsec i : Nat) (nib : BitVec 4) (ws : List W36) (ds : List D28) (key : Nat × Nat) (v : Verdict), v = checkRest otp key ws nib n nsec ∧ ds = ws.map wData) ∧
    (∃ (a b : List DirEntry) (e : DirEntry) (p : Nat) (ds : List D28) (pl : Plan), (∀ x ∈ a, sectionFails ds pl x = []) ∧ lowest (sectionFails ds pl e) = some p) ∧
    (∃ (p : Plan) (ws : List D28) (k i : Nat) (cs : List Cal) (cw : List W36) (c : Cal) (s : State), nominalCal[k]? = some cs ∧ cs[i]? = some c ∧ s.store.cal[k]? = some cw ∧ k < s.store.cal.length ∧ s.store.cal.length = 12) ∧
    (∃ (f : FlashProbe), f.sfdp1S = true ∧ f.quadDeclared = true ∧ f.quadMatch = true) ∧
    (∃ (f : FlashProbe), f.sfdp1S = true ∧ (f.quadDeclared = false ∨ f.quadMatch = false)) ∧
    (∃ (f : FlashProbe), f.sfdp1S = false ∧ f.sfdp8D = true ∧ f.dqsTimeout = false) ∧
    (∃ (f : FlashProbe), f.sfdp1S = false ∧ (f.sfdp8D = false ∨ f.dqsTimeout = true)) ∧
    (∃ (f : FlashProbe), f.sfdp1S = true ∧ f.quadDeclared = true ∧ f.quadMatch = true) ∧
    (∃ (f : FlashProbe), f.sfdp1S = true ∧ (f.quadDeclared = false ∨ f.quadMatch = false)) ∧
    (∃ (f : FlashProbe), f.sfdp1S = false ∧ f.sfdp8D = true ∧ f.dqsTimeout = false) ∧
    (∃ (p : Plan) (ws : List D28) (u : Nat) (s x : State), s.flt.safe = true ∧ s.limp.asserted = false ∧ s.chans.length = 12 ∧ x = applyStructure p ws s ∧ isBridge x u = true ∧ u ∈ leaders x) ∧
    (∃ (f : FlashProbe), f.sfdp1S = true) ∧
    (∃ (f : FlashProbe), f.sfdp1S = false ∧ f.sfdp8D = true ∧ f.dqsTimeout = false) ∧
    (∃ (f : FlashProbe), f.sfdp1S = false ∧ (f.sfdp8D = false ∨ f.dqsTimeout = true)) ∧
    (∃ (otp : Otp) (base dens : Nat) (r : ReelRead), reelRoom base dens = none ∧ (r.failed = true ∨ r.dqsTimeout = true)) ∧
    (∃ (otp : Otp) (base dens : Nat) (r : ReelRead) (k : Nat), reelRoom base dens = some k) ∧
    (∃ (otp : Otp) (base dens i n : Nat) (r : ReelRead) (v : Verdict) (ws : List W36) (ds : List D28) (key : Nat × Nat), reelRoom base dens = none ∧ r.failed = false ∧ r.dqsTimeout = false ∧ v = checkReel otp true base dens r ∧ n = fld (wData (r.words.getD 1 0)) 27 12 ∧ ws = r.words.take n ∧ ds = ws.map wData ∧ key = (join384 (group14 ds 4 0), join384 (group14 ds 4 1)) ∧ i < 4 ∧ slateBad r.words i = true) ∧
    (∃ (otp : Otp) (base dens i n : Nat) (r : ReelRead) (v : Verdict) (ws : List W36) (ds : List D28) (key : Nat × Nat), reelRoom base dens = none ∧ r.failed = false ∧ r.dqsTimeout = false ∧ v = checkReel otp true base dens r ∧ n = fld (wData (r.words.getD 1 0)) 27 12 ∧ ws = r.words.take n ∧ ds = ws.map wData ∧ key = (join384 (group14 ds 4 0), join384 (group14 ds 4 1)) ∧ (∀ j, j < 4 → slateBad r.words j = false)) ∧
    (∃ (otp : Otp) (n nsec i : Nat) (nib : BitVec 4) (ws : List W36) (ds : List D28) (key : Nat × Nat) (v : Verdict), v = checkRest otp key ws nib n nsec ∧ ds = ws.map wData ∧ 32 ≤ i ∧ i < n ∧ imgWordOk ws i = false) ∧
    (∃ (otp : Otp) (n nsec i : Nat) (nib : BitVec 4) (ws : List W36) (ds : List D28) (key : Nat × Nat) (v : Verdict), v = checkRest otp key ws nib n nsec ∧ ds = ws.map wData ∧ (∀ j, 32 ≤ j → j < n → imgWordOk ws j = true)) ∧
    (∃ (kind addr : Nat) (w : W36) (c : Cal), isData addr w = false) ∧
    (∃ (kind addr : Nat) (w : W36) (c : Cal), isData addr w = true) :=
  ⟨⟨⟨true, true, true, false, 24, 0xEB, 2, 6, none, false, 128⟩, starting .flash, by decide +kernel⟩,
   ⟨⟨false, false, false, false, 0, 0, 0, 0, none, false, 128⟩, starting .flash, by decide +kernel⟩,
   ⟨⟨[], 0, false, false⟩, checkReel (loading.otpRead) true 0 24 ⟨[], 0, false, false⟩, { loading with dev := { loading.dev with reel := 1 } }, by decide +kernel⟩,
   ⟨⟨[], 0, false, false⟩, checkReel (loading.otpRead) true 0x40000 24 ⟨[], 0, false, false⟩, { loading with dev := { loading.dev with reel := 2 } }, by decide +kernel⟩,
   (let ⟨p, hp⟩ := Option.isSome_iff_exists.mp reel_passes; ⟨reel, checkReel ⟨ownerHash, true, 0⟩ true 0 24 reel, p, loading, by decide +kernel, by decide +kernel, by decide +kernel, by decide +kernel, loading_verdict, hp⟩),
   (let ⟨p, hp⟩ := Option.isSome_iff_exists.mp reel_passes; ⟨p, [], 11, busy, by decide +kernel⟩),
   (let ⟨p, hp⟩ := Option.isSome_iff_exists.mp reel_passes; ⟨p, [], 19, busy, by decide +kernel⟩),
   ⟨⟨List.replicate 12 0x5003C00, [], [], [], List.replicate 74 0xFFFFFFF, [], [], [], [], 0, []⟩, [], 0, { busy with flt := { busy.flt with safe := true }, store := { busy.store with cal := [] } }, _, ⟨by decide +kernel, by decide +kernel, by decide +kernel, rfl⟩⟩,
   ⟨(List.range 32).map fun i => dataWord i 0xFF, fun i _ _ => by interval_cases i <;> decide +kernel⟩,
   ⟨⟨0, false, 0⟩, 0, 24, 0, _, reel, _, _, _, _, ⟨by decide +kernel, by decide +kernel, by decide +kernel, rfl, rfl, rfl, rfl, rfl⟩⟩,
   ⟨⟨0, false, 0⟩, 171, 3, 0, 0, imageW, _, p384G, _, ⟨rfl, rfl⟩⟩,
   ⟨[], [], ⟨10, 0, 0⟩, 1, [], ⟨[], [], [], [], [], [], [], [], [], 0x8, []⟩, by decide +kernel⟩,
   ⟨⟨[], [], [], [], [], [], [], [], [], 0, []⟩, [], 11, 517, List.replicate 518 ⟨0, true⟩, [], ⟨0, true⟩, { busy with store := { Store.reset with cal := List.replicate 12 [] } }, by decide +kernel⟩,
   ⟨⟨true, true, true, false, 24, 0xEB, 2, 6, none, false, 128⟩, by decide +kernel⟩,
   ⟨⟨true, false, false, false, 24, 0, 0, 0, none, false, 128⟩, by decide +kernel⟩,
   ⟨⟨false, false, false, true, 24, 0, 0, 0, none, false, 128⟩, by decide +kernel⟩,
   ⟨⟨false, false, false, true, 24, 0, 0, 0, none, true, 128⟩, by decide +kernel⟩,
   ⟨⟨true, true, true, false, 24, 0xEB, 2, 6, none, false, 128⟩, by decide +kernel⟩,
   ⟨⟨true, false, false, false, 24, 0, 0, 0, none, false, 128⟩, by decide +kernel⟩,
   ⟨⟨false, false, false, true, 24, 0, 0, 0, none, false, 128⟩, by decide +kernel⟩,
   ⟨⟨List.replicate 12 0x5003C00, [], [], [], List.replicate 74 0xFFFFFFF, [], [], [], [], 0, []⟩, [], 0, { busy with flt := { busy.flt with safe := true }, store := { busy.store with cal := [] } }, _, ⟨by decide +kernel, by decide +kernel, by decide +kernel, rfl, by decide +kernel, by decide +kernel⟩⟩,
   ⟨⟨true, true, true, false, 24, 0xEB, 2, 6, none, false, 128⟩, by decide +kernel⟩,
   ⟨⟨false, false, false, true, 24, 0, 0, 0, none, false, 128⟩, by decide +kernel⟩,
   ⟨⟨false, false, false, true, 24, 0, 0, 0, none, true, 128⟩, by decide +kernel⟩,
   ⟨⟨0, false, 0⟩, 0, 24, ⟨[], 0, true, false⟩, by decide +kernel⟩,
   ⟨⟨0, false, 0⟩, 0, 10, ⟨[], 0, false, false⟩, 227, by decide +kernel⟩,
   ⟨⟨0, false, 0⟩, 0, 24, 3, _, ⟨[], 0, false, false⟩, _, _, _, _, ⟨by decide +kernel, by decide +kernel, by decide +kernel, rfl, rfl, rfl, rfl, rfl, by decide +kernel, by decide +kernel⟩⟩,
   ⟨⟨0, false, 0⟩, 0, 24, 0, _, reel, _, _, _, _, ⟨by decide +kernel, by decide +kernel, by decide +kernel, rfl, rfl, rfl, rfl, rfl, by decide +kernel⟩⟩,
   ⟨⟨0, false, 0⟩, 33, 3, 32, 0, [], _, p384G, _, ⟨rfl, rfl, by decide, by decide, by decide⟩⟩,
   ⟨⟨0, false, 0⟩, 33, 3, 0, 0, imageW, _, p384G, _, ⟨rfl, rfl, fun j h1 h2 => by obtain rfl : j = 32 := (by omega); decide +kernel⟩⟩,
   ⟨0, 0, 0, ⟨0, true⟩, by decide +kernel⟩,
   ⟨0, 0, dataWord 0 5, ⟨0, true⟩, by decide +kernel⟩⟩

theorem witness_HoldUpCommands :
    (∃ s : State, s.hold.state = .charging ∧ s.hold.charged = false ∧ s.sup.ritesWait = none ∧ s.clk.coreStop = false) ∧
    (∃ s : State, s.hold.state = .charging ∧ s.hold.charged = false ∧ s.sup.ritesWait = none ∧ s.hold.capValid = false ∧ s.hold.low = false ∧ s.clk.coreStop = false) ∧
    (∃ (a b : Nat) (s : State), s.hold.charged = true ∧ s.hold.tested = false ∧ s.sup.ritesWait = none ∧ s.clk.coreStop = false ∧ capInRange a b = true) ∧
    (∃ (a b : Nat) (s : State), s.hold.charged = true ∧ s.hold.tested = false ∧ s.sup.ritesWait = none ∧ s.clk.coreStop = false ∧ capInRange a b = false) ∧
    (∃ (code : Nat) (s : State), s.dev.phase ≠ .reset ∧ s.clk.coreStop = false ∧ code < 16384) ∧
    (∃ (a b code : Nat) (reads : Bool) (env : RitesEnv) (s : State), s.clk.coreStop = true) ∧
    (∃ (c v : Nat), v ≤ 8000) ∧
    (∃ (c v : Nat), 8000 < v) :=
  ⟨⟨{ busy with hold := { busy.hold with state := .charging } }, by decide +kernel⟩,
   ⟨{ busy with hold := { busy.hold with state := .charging } }, by decide +kernel⟩,
   ⟨2560, 0, { busy with hold := { busy.hold with charged := true } }, by decide +kernel⟩,
   ⟨853, 0, { busy with hold := { busy.hold with charged := true } }, by decide +kernel⟩,
   ⟨16383, busy, by decide +kernel⟩,
   ⟨0, 0, 0, true, ⟨24000, 24000, true, true⟩, { busy with clk := { busy.clk with coreStop := true } }, by decide +kernel⟩,
   ⟨0, 8000, by decide +kernel⟩,
   ⟨0, 8001, by decide +kernel⟩⟩

theorem witness_ProgramsStartOrAreDeferred :
    (∃ (p : Program) (s : State), s.coreRuns = true ∧ s.since s.nvs.triedAt 1000 = true ∧ s.nvs.running = none ∧ s.sup.ritesWait = none ∧ waiting { s.nvs with mapRest := false } = some p ∧ flaconOk s = true) ∧
    (∃ (p : Program) (s : State), s.coreRuns = true ∧ s.since s.nvs.triedAt 1000 = true ∧ s.nvs.running = none ∧ s.sup.ritesWait = none ∧ waiting { s.nvs with mapRest := false } = some p ∧ flaconOk s = false) ∧
    (∃ s : State, s.coreRuns = true ∧ logDueNow s = true ∧ s.nvs.running = none ∧ s.sup.ritesWait = none ∧ waiting s.nvs = none ∧ flaconOk s = true) ∧
    (∃ (t0 : Nat) (s : State), s.nvs.lastLog = some t0 ∧ s.since t0 100000 = false) ∧
    (∃ v : Nvs, v.shadowPend = false) ∧
    (∃ v : Nvs, v.shadowPend = true) ∧
    (∃ (p : Program) (s : State), s.nvs.running = none ∧ s.sup.ritesWait = none ∧ s.clk.coreStop = false ∧ waiting s.nvs = some p) ∧
    (∃ s : State, (s.nvs.running.isSome = true ∨ waiting s.nvs = none)) ∧
    (∃ (code : Nat) (s : State), s.dev.phase ≠ .reset ∧ s.clk.coreStop = false ∧ s.hold.capValid = false) ∧
    (∃ s : State, s.nvs.scanned = false) ∧
    (∃ (v : Nvs), v.shadowPend = false ∧ v.mapPend = true ∧ v.mapRest = false) ∧
    (∃ (v : Nvs), v.shadowPend = false ∧ (v.mapPend = false ∨ v.mapRest = true) ∧ v.cntPend = true) ∧
    (∃ (v : Nvs), v.shadowPend = false ∧ (v.mapPend = false ∨ v.mapRest = true) ∧ v.cntPend = false ∧ v.logDue = true) ∧
    (∃ (v : Nvs), v.shadowPend = false ∧ (v.mapPend = false ∨ v.mapRest = true) ∧ v.cntPend = false ∧ v.logDue = false) ∧
    (∃ (p : Program) (s : State), s.nvs.running = none ∧ s.sup.ritesWait = none ∧ s.clk.coreStop = false ∧ waiting s.nvs = some p ∧ flaconOk s = true) ∧
    (∃ (p : Program) (s : State), s.nvs.running = none ∧ s.sup.ritesWait = none ∧ s.clk.coreStop = false ∧ waiting s.nvs = some p ∧ flaconOk s = false) :=
  ⟨⟨.map, charged fun v => { v with mapPend := true, triedAt := 199999000 }, by decide +kernel⟩,
   ⟨.map, { busy with nvs := { busy.nvs with mapPend := true } }, by decide +kernel⟩,
   ⟨charged fun v => { v with image := [⟨0, 1, 0, 0⟩], scanned := true }, by decide +kernel⟩,
   ⟨199999000, { busy with nvs := { busy.nvs with lastLog := some 199999000 } }, by decide +kernel⟩,
   ⟨Nvs.reset, by decide +kernel⟩,
   ⟨{ Nvs.reset with shadowPend := true }, by decide +kernel⟩,
   ⟨.map, charged fun v => { v with mapPend := true }, by decide +kernel⟩,
   ⟨busy, by decide +kernel⟩,
   ⟨16383, busy, by decide +kernel⟩,
   ⟨busy, by decide +kernel⟩,
   ⟨{ Nvs.reset with mapPend := true }, by decide +kernel⟩,
   ⟨{ Nvs.reset with cntPend := true }, by decide +kernel⟩,
   ⟨{ Nvs.reset with logDue := true }, by decide +kernel⟩,
   ⟨Nvs.reset, by decide +kernel⟩,
   ⟨.map, charged fun v => { v with mapPend := true }, by decide +kernel⟩,
   ⟨.map, { busy with nvs := { busy.nvs with mapPend := true } }, by decide +kernel⟩⟩

theorem witness_ProgramsCompleteOrFail :
    (∃ (env : RitesEnv) (s : State), s.nvs.running = some .counters ∧ s.sup.ritesWait = none ∧ s.clk.coreStop = false ∧ waiting s.nvs = none ∧ 80 ≤ s.nvs.page) ∧
    (∃ (env : RitesEnv) (s : State), s.nvs.running = some .map ∧ s.sup.ritesWait = none ∧ s.clk.coreStop = false ∧ waiting s.nvs = none ∧ 64 ≤ s.nvs.page) ∧
    (∃ (env : RitesEnv) (l : Nat) (s : State), s.nvs.running = some .shadow ∧ s.sup.ritesWait = none ∧ s.clk.coreStop = false ∧ waiting s.nvs = none ∧ 96 ≤ s.nvs.page ∧ s.trust.advance = .shadow l) ∧
    (∃ (env : RitesEnv) (s : State), s.nvs.running = some .log ∧ s.sup.ritesWait = none ∧ s.clk.coreStop = false ∧ 512 ≤ s.nvs.page) ∧
    (∃ (env : RitesEnv) (p : Program) (pg : Nat) (s x : State), s.nvs.running = some p ∧ s.sup.ritesWait = none ∧ s.clk.coreStop = false ∧ (area p).1 ≤ s.nvs.page ∧ waiting s.nvs = none ∧ s.nvs.mapRest = false ∧ p ≠ .log ∧ flaconOk s = true ∧ x = { s with store := tornPage p s.nvs.page s.store, nvs := { s.nvs with bad := s.nvs.bad ++ [s.nvs.page] } } ∧ targetPage x p = some pg) ∧
    (∃ (env : RitesEnv) (p : Program) (s x : State), s.nvs.running = some p ∧ s.sup.ritesWait = none ∧ s.clk.coreStop = false ∧ (area p).1 ≤ s.nvs.page ∧ flaconOk s = false ∧ x = { s with store := tornPage p s.nvs.page s.store, nvs := { s.nvs with bad := s.nvs.bad ++ [s.nvs.page] } } ∧ (targetPage x p).isSome = true ∧ s.nvs.mapRest = false ∧ p ≠ .log) ∧
    (∃ (base pg v : Nat) (l : List Slot), base ≤ pg ∧ pg < base + l.length ∧ v < 2 ^ 28 ∧ (∀ c, newest shadowLayout base l = some c → c.gen + 1 < 2 ^ 28)) ∧
    (∃ (p : Program) (pg : Nat) (st : Store), p ≠ .log) ∧
    (∃ (env : RitesEnv) (s : State), s.nvs.running = some .log ∧ s.sup.ritesWait = none ∧ s.clk.coreStop = false ∧ 512 ≤ s.nvs.page ∧ waiting s.nvs = none) ∧
    (∃ (env : RitesEnv) (s x : State), s.nvs.running = some .map ∧ s.sup.ritesWait = none ∧ s.clk.coreStop = false ∧ 64 ≤ s.nvs.page ∧ waiting s.nvs = none ∧ x = { s with store := tornPage .map s.nvs.page s.store, nvs := { s.nvs with bad := s.nvs.bad ++ [s.nvs.page] } } ∧ targetPage x .map = none) ∧
    (∃ (base pg : Nat) (v : List Mask42) (l : List Slot), base ≤ pg ∧ pg < base + l.length ∧ v.length = 12 ∧ (∀ c, newest mapLayout base l = some c → c.gen + 1 < 2 ^ 28)) ∧
    (∃ (pg i : Nat) (w : W36) (ds : List D28), (pageWords pg ds)[i]? = some w) ∧
    (∃ (pg i k : Nat) (r : Rec) (rs : List Rec), rs[i]? = some r ∧ k < 4) ∧
    (∃ (pg i : Nat) (w : W36) (ws : List W36), ws[i]? = some w ∧ isData ((64 * pg + i) % 4096) w = false) :=
  ⟨⟨⟨0, 0, true, true⟩, charged fun v => { v with running := some .counters, page := 80 }, by decide +kernel⟩,
   ⟨⟨0, 0, true, true⟩, charged fun v => { v with running := some .map, page := 64 }, by decide +kernel⟩,
   ⟨⟨0, 0, true, true⟩, 5, { (charged fun v => { v with running := some .shadow, page := 96 }) with trust := { busy.trust with advance := .shadow 5 } }, by decide +kernel⟩,
   ⟨⟨0, 0, true, true⟩, charged fun v => { v with running := some .log, page := 512 }, by decide +kernel⟩,
   ⟨⟨0, 0, true, true⟩, .map, 65, charged fun v => { v with running := some .map, page := 64 }, { (charged fun v => { v with running := some .map, page := 64 }) with store := tornPage .map (charged fun v => { v with running := some .map, page := 64 }).nvs.page (charged fun v => { v with running := some .map, page := 64 }).store, nvs := { (charged fun v => { v with running := some .map, page := 64 }).nvs with bad := (charged fun v => { v with running := some .map, page := 64 }).nvs.bad ++ [(charged fun v => { v with running := some .map, page := 64 }).nvs.page] } }, ⟨by decide +kernel, by decide +kernel, by decide +kernel, by decide +kernel, by decide +kernel, by decide +kernel, by decide +kernel, by decide +kernel, rfl, by decide +kernel⟩⟩,
   ⟨⟨0, 0, true, true⟩, .map, { busy with nvs := { busy.nvs with running := some .map, page := 64 } }, { ({ busy with nvs := { busy.nvs with running := some .map, page := 64 } }) with store := tornPage .map ({ busy with nvs := { busy.nvs with running := some .map, page := 64 } }).nvs.page ({ busy with nvs := { busy.nvs with running := some .map, page := 64 } }).store, nvs := { ({ busy with nvs := { busy.nvs with running := some .map, page := 64 } }).nvs with bad := ({ busy with nvs := { busy.nvs with running := some .map, page := 64 } }).nvs.bad ++ [({ busy with nvs := { busy.nvs with running := some .map, page := 64 } }).nvs.page] } }, ⟨by decide +kernel, by decide +kernel, by decide +kernel, by decide +kernel, rfl, by decide +kernel, by decide +kernel⟩⟩,
   ⟨96, 103, 0, List.replicate 8 .blank, ⟨by decide +kernel, by decide +kernel, by decide +kernel, (by intro c h; revert h; rw [show newest shadowLayout 96 (List.replicate 8 Slot.blank) = none by decide +kernel]; simp)⟩⟩,
   ⟨.map, 64, Store.reset, by decide +kernel⟩,
   ⟨⟨24000, 24000, true, true⟩, charged fun v => { v with running := some .log, page := 512 }, by decide +kernel⟩,
   ⟨⟨24000, 24000, true, true⟩, charged fun v => { v with running := some .map, page := 64, bad := (List.range 16).map (64 + ·) }, { (charged fun v => { v with running := some .map, page := 64, bad := (List.range 16).map (64 + ·) }) with store := tornPage .map (charged fun v => { v with running := some .map, page := 64, bad := (List.range 16).map (64 + ·) }).nvs.page (charged fun v => { v with running := some .map, page := 64, bad := (List.range 16).map (64 + ·) }).store, nvs := { (charged fun v => { v with running := some .map, page := 64, bad := (List.range 16).map (64 + ·) }).nvs with bad := (charged fun v => { v with running := some .map, page := 64, bad := (List.range 16).map (64 + ·) }).nvs.bad ++ [(charged fun v => { v with running := some .map, page := 64, bad := (List.range 16).map (64 + ·) }).nvs.page] } }, ⟨by decide +kernel, by decide +kernel, by decide +kernel, by decide +kernel, by decide +kernel, rfl, by decide +kernel⟩⟩,
   ⟨64, 79, List.replicate 12 5, List.replicate 16 Slot.blank, ⟨by decide +kernel, by decide +kernel, by decide +kernel, (by intro c h; revert h; rw [show newest mapLayout 64 (List.replicate 16 Slot.blank) = none by decide +kernel]; simp)⟩⟩,
   ⟨2047, 0, _, [5], rfl⟩,
   ⟨512, 0, 3, ⟨0, 0, 0, 0⟩, [⟨0, 0, 0, 0⟩], by decide +kernel⟩,
   ⟨96, 0, 0, [0], by decide +kernel⟩⟩

theorem witness_FaultLogRecordsAndFetches :
    (∃ (r0 : Nat) (s : State), s.nvs.image.length ≤ 15 ∧ s.nvs.queue.length ≤ 32) ∧
    (∃ (r0 : Nat) (s : State), s.nvs.dropped = 0 ∧ s.nvs.image.length < 15) ∧
    (∃ (r0 : Nat) (s : State), s.nvs.dropped = 0 ∧ 15 ≤ s.nvs.image.length ∧ s.nvs.queue.length < 32) ∧
    (∃ (r0 : Nat) (s : State), s.nvs.dropped = 0 ∧ 15 ≤ s.nvs.image.length ∧ 32 ≤ s.nvs.queue.length) ∧
    (∃ (r0 : Nat) (s : State), nextSeq s < 2 ^ 28) ∧
    (∃ (p : Program) (cur pg : Nat) (bad : List Nat), goodPage p cur bad = some pg) ∧
    (∃ (a : Access) (d : D28) (s : State), MayStore s a 0x6C3) ∧
    (∃ (d : D28) (s : State), s.nvs.fetching = true ∧ s.nvs.sel = some d ∧ s.clk.coreStop = false) ∧
    (∃ (d : D28) (k : Nat) (v : Nvs), v.sel = some d ∧ v.fetched = none) ∧
    (∃ (d : D28) (ws : List ReadWord) (s : State), findRec s d = some ws) ∧
    (∃ (d : D28) (p : LogPage) (i : Nat) (s : State), p ∈ s.store.log ∧ p.torn = false ∧ i < p.words.length / 4 ∧ isData (recAddr p.page i 1) (p.word i 1) = true ∧ wData (p.word i 1) = d) ∧
    (∃ (d : D28) (r : Rec) (s : State), r ∈ s.nvs.image ∧ r.r1 = d) ∧
    (∃ (r0 : Nat) (s : State), s.nvs.dropped ≠ 0 ∧ s.nvs.image.length < 14) ∧
    (∃ s : State, s.clk.coreStop = true) ∧
    (∃ (p : LogPage) (s : State), (newestRec s.store).map Prod.fst = some p ∧ p.recs.length = 15 ∧ s.nvs.image.length + s.nvs.queue.length ≤ 47) :=
  ⟨⟨0, busy, by decide +kernel⟩,
   ⟨0, busy, by decide +kernel⟩,
   ⟨0, { busy with nvs := { busy.nvs with image := List.replicate 15 ⟨0, 0, 0, 0⟩ } }, by decide +kernel⟩,
   ⟨0, { busy with nvs := { busy.nvs with image := List.replicate 15 ⟨0, 0, 0, 0⟩, queue := List.replicate 32 ⟨0, 0, 0, 0⟩ } }, by decide +kernel⟩,
   ⟨0, busy, by decide +kernel⟩,
   ⟨.map, 79, 64, [79], by decide +kernel⟩,
   ⟨.write .h0, 1, busy, by simp only [MayStore]; decide +kernel⟩,
   ⟨1, { busy with nvs := { busy.nvs with fetching := true, sel := some 1 } }, by decide +kernel⟩,
   ⟨1, 0, { Nvs.reset with sel := some 1 }, by decide +kernel⟩,
   ⟨1, [.data 0, .data 1, .data 0, .data 0], { busy with nvs := { busy.nvs with image := [⟨0, 1, 0, 0⟩] } }, by decide +kernel⟩,
   ⟨7, ⟨512, [], [0, dataWord (recAddr 512 0 1) 7, 0, 0], false⟩, 0, { busy with store := { busy.store with log := [⟨512, [], [0, dataWord (recAddr 512 0 1) 7, 0, 0], false⟩] } }, by decide +kernel⟩,
   ⟨1, ⟨0, 1, 0, 0⟩, { busy with nvs := { busy.nvs with image := [⟨0, 1, 0, 0⟩] } }, by decide +kernel⟩,
   ⟨0, { busy with nvs := { busy.nvs with dropped := 1 } }, by decide +kernel⟩,
   ⟨{ busy with clk := { busy.clk with coreStop := true } }, by decide +kernel⟩,
   ⟨⟨512, headerWords 512 0 1, recWords 512 (List.replicate 15 ⟨0x1000000, 5, 0, 0⟩), false⟩, { busy with store := { Store.reset with log := [⟨512, headerWords 512 0 1, recWords 512 (List.replicate 15 ⟨0x1000000, 5, 0, 0⟩), false⟩] } }, by decide +kernel⟩⟩

theorem witness_OtpProgramming :
    (∃ (r : ReelRead) (k : Nat × Nat) (s : State), recoveryServed s = true ∧ s.recovery.taken = false ∧ s.otp.okhlock = false ∧ s.trust.prov ≠ 1 ∧ provisionKey (s.flash.mode ≠ 0) s.flash.densLog (readAs r s) = some k) ∧
    (∃ (r : ReelRead) (s : State), recoveryServed s = true ∧ s.recovery.taken = false ∧ s.otp.okhlock = false ∧ s.trust.prov ≠ 1 ∧ provisionKey (s.flash.mode ≠ 0) s.flash.densLog (readAs r s) = none) ∧
    (∃ (d : D28) (r : ReelRead) (s : State), recoveryServed s = true ∧ s.recovery.taken = false ∧ d ≠ 0x0C3A7E5) ∧
    (∃ (d : D28) (r : ReelRead) (s : State), recoveryServed s = true ∧ s.recovery.taken = false ∧ s.otp.okhlock = true) ∧
    (∃ (k : BitVec 384) (s : State), s.trust.provKey = some k ∧ s.trust.prov = 1 ∧ s.clk.coreStop = false) ∧
    (∃ (h : Port) (d : D28) (s : State), MayCommit s h 0x781 ∧ fld d 27 7 = 0 ∧ s.dev.struct = true ∧ fld d 6 0 ≤ deviceArb s ∧ s.otp.arbfuse < fld d 6 0 ∧ flaconOk s = true ∧ s.trust.advance = .idle ∧ s.nvs.running = none ∧ s.sup.ritesWait = none) ∧
    (∃ (h : Port) (d : D28) (s : State), MayCommit s h 0x781 ∧ fld d 27 7 = 0 ∧ (s.dev.struct = false ∨ deviceArb s < fld d 6 0)) ∧
    (∃ (h : Port) (d : D28) (s : State), MayCommit s h 0x781 ∧ fld d 27 7 = 0 ∧ s.dev.struct = true ∧ fld d 6 0 ≤ deviceArb s ∧ fld d 6 0 ≤ s.otp.arbfuse) ∧
    (∃ (h : Port) (d : D28) (s : State), MayCommit s h 0x781 ∧ fld d 27 7 = 0 ∧ s.dev.struct = true ∧ fld d 6 0 ≤ deviceArb s ∧ s.otp.arbfuse < fld d 6 0 ∧ flaconOk s = false) ∧
    (∃ (l : Nat) (s : State), s.trust.advance = .fuses l ∧ s.sup.ritesWait = none ∧ s.clk.coreStop = false) ∧
    (∃ s : State, s.sup.ritesWait.isSome = true) ∧
    (∃ (d : D28) (r : ReelRead) (s : State), (recoveryServed s = false ∨ s.recovery.taken = true)) ∧
    (∃ (r : ReelRead) (s : State), recoveryServed s = true ∧ s.recovery.taken = false ∧ s.otp.okhlock = false ∧ s.trust.prov = 1) ∧
    (∃ s : State, s.clk.coreStop = true) :=
  ⟨⟨reel, p384G, recovery, ⟨by decide +kernel, by decide +kernel, by decide +kernel, by decide +kernel, by rw [reel_as_read]; exact reel_provisions⟩⟩,
   ⟨⟨[], 0, false, false⟩, recovery, by decide +kernel⟩,
   ⟨0, ⟨[], 0, false, false⟩, recovery, by decide +kernel⟩,
   ⟨0x0C3A7E5, ⟨[], 0, false, false⟩, { recovery with otp := ⟨0, true, 0⟩ }, by decide +kernel⟩,
   ⟨5, { recovery with trust := { busy.trust with prov := 1, provKey := some 5 } }, by decide +kernel⟩,
   ⟨.h0, 10, charged id, by simp only [MayCommit]; decide +kernel⟩,
   ⟨.h0, 11, busy, by simp only [MayCommit]; decide +kernel⟩,
   ⟨.h0, 5, { busy with otp := ⟨0, false, 5⟩ }, by simp only [MayCommit]; decide +kernel⟩,
   ⟨.h0, 5, busy, by simp only [MayCommit]; decide +kernel⟩,
   ⟨5, { busy with trust := { busy.trust with advance := .fuses 5 } }, by decide +kernel⟩,
   ⟨{ busy with sup := { busy.sup with ritesWait := some 1 } }, by decide +kernel⟩,
   ⟨0, ⟨[], 0, false, false⟩, busy, by decide +kernel⟩,
   ⟨⟨[], 0, false, false⟩, { recovery with trust := { busy.trust with prov := 1 } }, by decide +kernel⟩,
   ⟨{ busy with clk := { busy.clk with coreStop := true } }, by decide +kernel⟩⟩

theorem witness_ApertureCommands :
    (∃ (a : Access) (d : D28) (s : State), MayStore s a 0x740 ∧ fld d 27 11 = 0 ∧ fld d 10 0 ≤ s.flash.lastPg) ∧
    (∃ (h : Port) (d : D28) (s : State), MayStore s (.write h) 0x740 ∧ fld d 27 11 = 0 ∧ s.flash.lastPg < fld d 10 0) ∧
    (∃ (ws : List W36) (s : State), s.trust.apState = 1 ∧ s.coreRuns = true ∧ pageVerifies s ws = true) ∧
    (∃ (ws : List W36) (s : State), s.trust.apState = 1 ∧ s.coreRuns = true ∧ pageVerifies s ws = false) ∧
    (∃ (dqs : Bool) (s : State), s.trust.apState = 1 ∧ s.coreRuns = true) ∧
    (∃ (march : Bool) (s : State), s.bist.yieldMarch = true) ∧
    (∃ (march : Bool) (s : State), s.bist.yieldCrypto = true) ∧
    (∃ (march : Bool) (s : State), s.bist.yieldCrypto = false) :=
  ⟨⟨.write .h0, 0, busy, by simp only [MayStore]; decide +kernel⟩,
   ⟨.h0, 1, busy, by simp only [MayStore]; decide +kernel⟩,
   ⟨[0], { busy with trust := { busy.trust with apState := 1, digests := [(0, sha384 (pack [0]))] } }, by decide +kernel⟩,
   ⟨[0], { busy with trust := { busy.trust with apState := 1 } }, by decide +kernel⟩,
   ⟨true, { busy with trust := { busy.trust with apState := 1 } }, by decide +kernel⟩,
   ⟨true, { busy with bist := { busy.bist with yieldMarch := true } }, by decide +kernel⟩,
   ⟨true, { busy with bist := { busy.bist with yieldCrypto := true } }, by decide +kernel⟩,
   ⟨true, busy, by decide +kernel⟩⟩

theorem witness_TapAndDebugAccess :
    (∃ s : State, scanAllowed s = false ∧ (s.tap.opcode = 0x00 ∨ s.tap.opcode = 0x01)) ∧
    (∃ (op : BitVec 8) (s : State), op ∉ [0x00, 0x01, 0x10, 0x11, 0x12]) ∧
    (∃ (k : Nat × (Nat × Nat)) (s : State), s.trust.key = some k) ∧
    (∃ (ws : List W36) (s : State), tokenOk s ws = true ∧ s.clk.coreStop = false) ∧
    (∃ (ws : List W36) (s : State), tokenOk s ws = false ∧ s.clk.coreStop = false) ∧
    (∃ (w0 w1 : W36) (s : State), s.coreRuns = true ∧ isData 0 w0 = true ∧ isData 1 w1 = false) ∧
    (∃ (w0 w1 : W36) (s : State), s.coreRuns = true ∧ isData 0 w0 = true ∧ isData 1 w1 = true ∧ (fld (wData w0) 26 12 ≠ 0 ∨ tokenRight s (if bitAt (wData w0) 27 then 2 else 1) = false)) ∧
    (∃ (w0 w1 : W36) (s x : State), s.coreRuns = true ∧ isData 0 w0 = true ∧ isData 1 w1 = true ∧ fld (wData w0) 26 12 = 0 ∧ bitAt (wData w0) 27 = false ∧ tokenRight s 1 = true ∧ x = { s with tap := { s.tap with opcode := 0x12 } }) ∧
    (∃ (w0 w1 : W36) (s x : State), s.coreRuns = true ∧ isData 0 w0 = true ∧ isData 1 w1 = true ∧ fld (wData w0) 26 12 = 0 ∧ bitAt (wData w0) 27 = true ∧ tokenRight s 2 = true ∧ x = { s with tap := { s.tap with opcode := 0x12 } }) ∧
    (∃ s : State, s.trust.key = none) ∧
    (∃ (op : BitVec 8) (s : State), op ∈ [0x00, 0x01, 0x10, 0x11, 0x12]) ∧
    (∃ (w0 w1 : W36) (s : State), s.coreRuns = false) ∧
    (∃ (ws : List W36) (s : State), s.clk.coreStop = true) ∧
    (∃ s : State, s.tap.opcode ≠ 0x00 ∧ s.tap.opcode ≠ 0x01) ∧
    (∃ op : BitVec 8, op ∉ [0x00, 0x01, 0x10, 0x11, 0x12]) ∧
    (∃ s : State, scanActs s = true ∧ s.dev.phase = .reset) ∧
    (∃ (w0 w1 : W36) (s : State), s.coreRuns = true ∧ isData 0 w0 = false) ∧
    (∃ (ws : List W36) (ds : List D28) (s : State), ds = ws.map wData) ∧
    (∃ (pins bits : List Bool) (i : Instr) (op : BitVec 8) (x s : State), ((i = .extest pins bits ∧ op = 0x00) ∨ (i = .samplePreload pins bits ∧ op = 0x01)) ∧ x = { s with tap := { s.tap with opcode := op } }) ∧
    (∃ (op : BitVec 8) (bits : List Bool) (s : State), op ∉ [0x00, 0x01, 0x10, 0x11, 0x12] ∧ bits ≠ []) ∧
    (∃ (pins : List Bool) (i : Nat) (c : ScanCell) (s : State), scanOrder[i]? = some c) ∧
    (∃ (s : State), scanAllowed s = true ∧ s.tap.opcode = 0x00) ∧
    (∃ (s : State), scanAllowed s = true ∧ s.tap.opcode = 0x01) ∧
    (∃ (s : State), (s.tap.opcode = 0x00 ∨ s.tap.opcode = 0x01) ∧ s.pins.rstN = false) :=
  ⟨⟨{ busy with pins := { busy.pins with rstN := true }, tap := { State.reset.tap with opcode := 0 } }, by decide +kernel⟩,
   ⟨0xFF, busy, by decide +kernel⟩,
   ⟨(1, p384G), { busy with trust := { busy.trust with key := some (1, p384G) } }, by decide +kernel⟩,
   ⟨tokenW, tokenState, ⟨token_verifies, by decide +kernel⟩⟩,
   ⟨[], busy, by decide +kernel⟩,
   ⟨dataWord 0 0, 0, busy, by decide +kernel⟩,
   ⟨dataWord 0 0, dataWord 1 0, busy, by decide +kernel⟩,
   ⟨dataWord 0 0, dataWord 1 0, token 2, { token 2 with tap := { (token 2).tap with opcode := 0x12 } }, ⟨by decide +kernel, by decide +kernel, by decide +kernel, by decide +kernel, by decide +kernel, by decide +kernel, rfl⟩⟩,
   ⟨dataWord 0 0x8000000, dataWord 1 0, token 4, { token 4 with tap := { (token 4).tap with opcode := 0x12 } }, ⟨by decide +kernel, by decide +kernel, by decide +kernel, by decide +kernel, by decide +kernel, by decide +kernel, rfl⟩⟩,
   ⟨busy, by decide +kernel⟩,
   ⟨0x12, busy, by decide +kernel⟩,
   ⟨0, 0, { busy with clk := { busy.clk with coreStop := true } }, by decide +kernel⟩,
   ⟨[], { busy with clk := { busy.clk with coreStop := true } }, by decide +kernel⟩,
   ⟨busy, by decide +kernel⟩,
   ⟨0xFF, by decide +kernel⟩,
   ⟨{ State.reset with tap := { State.reset.tap with opcode := 1 } }, by decide +kernel⟩,
   ⟨0, 0, busy, by decide +kernel⟩,
   ⟨[], [], busy, by decide +kernel⟩,
   ⟨[], [true], .extest [] [true], 0x00, _, State.reset, ⟨Or.inl ⟨rfl, rfl⟩, rfl⟩⟩,
   ⟨0xFF, [true], busy, by decide +kernel⟩,
   ⟨[], 8, .rstN, busy, by decide +kernel⟩,
   ⟨{ State.reset with tap := { State.reset.tap with opcode := 0 } }, by decide +kernel⟩,
   ⟨{ State.reset with tap := { State.reset.tap with opcode := 1 } }, by decide +kernel⟩,
   ⟨{ State.reset with tap := { State.reset.tap with opcode := 0 } }, by decide +kernel⟩⟩

theorem witness_PortWindows :
    (∃ (gapKept : Bool) (s : State), portSeen s .h1 = true ∧ s.ports.h1.sel = false) ∧
    (∃ (struct serves : Bool) (d : D28) (q x : PortSt), q.lenNext = some d ∧ x = openSelect struct serves true q) ∧
    (∃ (h : Port) (w : WindowEnd) (s : State), portSeen s h = true ∧ (s.ports.get h).sel = true ∧ (s.ports.get h).ignored = false ∧ (s.ports.get h).normal = true ∧ (s.ports.get h).ended = false ∧ w.rise = true ∧ w.inFrame = false ∧ w.early = false ∧ w.lagShort = false ∧ w.bits ≤ (s.ports.get h).windowBits ∧ w.bits % 36 = 0) ∧
    (∃ (h : Port) (w : WindowEnd) (s : State), portSeen s h = true ∧ (s.ports.get h).sel = true ∧ (s.ports.get h).ignored = false ∧ (s.ports.get h).normal = true ∧ (s.ports.get h).ended = false ∧ w.rise = true ∧ w.inFrame = false ∧ w.bits ≤ (s.ports.get h).windowBits ∧ w.bits % 36 ≠ 0) ∧
    (∃ (h : Port) (w : W36) (q : PortSt) (s : State), undrained s h = true ∧ q = s.ports.get h) ∧
    (∃ (h : Port) (d : D28) (s : State), MayCommit s h (0x702 + 16 * portIx h) ∧ fld d 27 12 = 0 ∧ 36 ≤ fld d 11 0) ∧
    (∃ (h : Port) (d : D28) (s : State), MayCommit s h (0x702 + 16 * portIx h) ∧ fld d 27 12 = 0 ∧ fld d 11 0 < 36) ∧
    (∃ (h p : Port) (d : D28) (s : State), h ≠ p ∧ linkUp s h = true) ∧
    (∃ (gapKept : Bool) (s : State), portSeen s .h0 = true ∧ s.ports.h0.sel = false) ∧
    (∃ (h : Port) (w : WindowEnd) (s : State), portSeen s h = true ∧ (s.ports.get h).sel = true) ∧
    (∃ (h : Port) (w : WindowEnd) (s : State), transferring (s.ports.get h) = true) ∧
    (∃ (h : Port) (w : WindowEnd) (s : State), w.inFrame = true ∧ s.coreRuns = true ∧ (s.ses.get h).established = false) ∧
    (∃ (h : Port) (w : WindowEnd) (s : State), (s.ports.get h).ignored = false ∧ (s.ports.get h).normal = true ∧ (s.ports.get h).ended = true) ∧
    (∃ (w : W36) (r : List W36) (q : PortSt), q.txq = w :: r) ∧
    (∃ q : PortSt, q.txq = []) ∧
    (∃ (n : Nat) (q : PortSt), q.txq.length ≤ 8) ∧
    (∃ (h : Port) (sent : Nat) (s : State), transferring (s.ports.get h) = true ∧ s.sup.ritesWait = none) ∧
    (∃ (sent : Nat) (q : PortSt), sent ≤ q.line.length) ∧
    (∃ (h : Port) (w : W36) (s : State), undrained s h = false) ∧
    (∃ (k : Nat) (q x : PortSt), x = sendTo true (q.line.length + k) q ∧ x.stream ≠ []) ∧
    (∃ (h : Port) (ws : List W36) (q x : PortSt) (s : State), q = s.ports.get h ∧ x = (hear h ws s).ports.get h) ∧
    (∃ (h : Port) (ws : List W36) (s : State), (s.ports.get h).txq = [] ∧ (s.ports.get h).line.length ≤ (s.ports.get h).heard) ∧
    (∃ (core : Bool) (k : Nat) (tail : W36) (q : PortSt), (q.txq.length = 8 ∨ core = false ∨ (q.rest = [] ∧ q.tx = []))) ∧
    (∃ (core : Bool) (w : WindowEnd) (q : PortSt), w.bits ≤ q.windowBits ∧ w.bits % 36 ≠ 0) ∧
    (∃ (core : Bool) (w : WindowEnd) (q x : PortSt), (q.txq ≠ [] ∨ q.rest ≠ [] ∨ q.tx ≠ []) ∧ core = true ∧ x = lateWord core q.line.length q ∧ w.bits ≤ q.windowBits ∧ w.bits = 36 * q.line.length + w.bits % 36 ∧ w.bits % 36 ≠ 0 ∧ (x.txq.length = 8 ∨ (x.rest = [] ∧ x.tx = []))) ∧
    (∃ (h : Port) (w : W36) (q : PortSt) (s : State), undrained s h = true ∧ q = s.ports.get h ∧ q.rxq.length < 8) ∧
    (∃ (h : Port) (w : W36) (q : PortSt) (s : State), undrained s h = true ∧ q = s.ports.get h ∧ 8 ≤ q.rxq.length) ∧
    (∃ (h : Port) (w : WindowEnd) (s : State), portSeen s h = true ∧ (s.ports.get h).sel = true ∧ w.rise = true) ∧
    (∃ (h : Port) (w : WindowEnd) (s : State), portSeen s h = true ∧ (s.ports.get h).sel = true ∧ w.rise = false) ∧
    (∃ (h : Port) (w : WindowEnd) (s : State), transferring (s.ports.get h) = true ∧ (s.ports.get h).windowBits ≤ w.bits) ∧
    (∃ (h : Port) (w : WindowEnd) (s : State), transferring (s.ports.get h) = true ∧ w.bits < (s.ports.get h).windowBits) ∧
    (∃ (sent : Nat) (q : PortSt), sent ≤ q.line.length ∧ (q.txq ≠ [] ∨ q.rest ≠ [] ∨ q.tx ≠ [])) ∧
    (∃ (sent : Nat) (q : PortSt), sent ≤ q.line.length ∧ q.txq = [] ∧ q.rest = [] ∧ q.tx = []) ∧
    (∃ (sent : Nat) (q : PortSt), sent ≤ q.line.length ∧ q.txq = []) ∧
    (∃ (sent : Nat) (q : PortSt), sent ≤ q.line.length ∧ q.txq ≠ []) :=
  ⟨⟨true, busy, by decide +kernel⟩,
   ⟨true, true, 36, { PortSt.reset with lenNext := some 36 }, _, ⟨by decide +kernel, rfl⟩⟩,
   ⟨.h0, ⟨36, 0, false, false, false, true⟩, busy, by decide +kernel⟩,
   ⟨.h0, ⟨35, 0, false, false, false, true⟩, busy, by decide +kernel⟩,
   ⟨.h0, 0, _, { busy with clk := { busy.clk with coreStop := true } }, ⟨by decide +kernel, rfl⟩⟩,
   ⟨.h0, 36, busy, by simp only [MayCommit]; decide +kernel⟩,
   ⟨.h0, 35, busy, by simp only [MayCommit]; decide +kernel⟩,
   ⟨.h0, .h1, 36, busy, by decide +kernel⟩,
   ⟨true, starting .otp, by decide +kernel⟩,
   ⟨.h0, ⟨36, 0, false, false, false, true⟩, busy, by decide +kernel⟩,
   ⟨.h0, ⟨3600, 0, false, false, false, false⟩, busy, by decide +kernel⟩,
   ⟨.h1, ⟨36, 0, true, false, false, true⟩, busy, by decide +kernel⟩,
   ⟨.h0, ⟨3601, 0, false, false, false, true⟩, { busy with ports := ⟨{ busy.ports.h0 with ended := true }, busy.ports.h1⟩ }, by decide +kernel⟩,
   ⟨0, [], { PortSt.reset with txq := [0] }, by decide +kernel⟩,
   ⟨PortSt.reset, by decide +kernel⟩,
   ⟨8, PortSt.reset, by decide +kernel⟩,
   ⟨.h0, 0, busy, by decide +kernel⟩,
   ⟨0, PortSt.reset, by decide +kernel⟩,
   ⟨.h0, 0, busy, by decide +kernel⟩,
   ⟨5, { PortSt.reset with txq := List.replicate 8 0 }, _, ⟨rfl, by decide +kernel⟩⟩,
   ⟨.h1, List.replicate 100 0, _, _, busy, ⟨rfl, rfl⟩⟩,
   ⟨.h0, List.replicate 4 0, { busy with ports := ⟨{ busy.ports.h0 with heard := 5, line := [0, 0, 0, 0, 0] }, busy.ports.h1⟩ }, by decide +kernel⟩,
   ⟨false, 0, 0, PortSt.reset, by decide +kernel⟩,
   ⟨true, ⟨1, 0, false, false, false, false⟩, { PortSt.reset with len := 36 }, by decide +kernel⟩,
   ⟨true, ⟨1, 0, false, false, false, false⟩, { PortSt.reset with txq := [0], len := 36 }, _, ⟨by decide +kernel, by decide +kernel, rfl, by decide +kernel, by decide +kernel, by decide +kernel, by decide +kernel⟩⟩,
   ⟨.h0, 0, _, { busy with clk := { busy.clk with coreStop := true } }, ⟨by decide +kernel, rfl, by decide +kernel⟩⟩,
   ⟨.h0, 0, _, { { busy with clk := { busy.clk with coreStop := true } } with ports := ⟨{ busy.ports.h0 with rxq := List.replicate 8 0 }, busy.ports.h1⟩ }, ⟨by decide +kernel, rfl, by decide +kernel⟩⟩,
   ⟨.h0, ⟨36, 0, false, false, false, true⟩, busy, by decide +kernel⟩,
   ⟨.h0, ⟨36, 0, false, false, false, false⟩, busy, by decide +kernel⟩,
   ⟨.h0, ⟨3600, 0, false, false, false, false⟩, busy, by decide +kernel⟩,
   ⟨.h0, ⟨3599, 0, false, false, false, false⟩, busy, by decide +kernel⟩,
   ⟨0, { PortSt.reset with txq := [0] }, by decide +kernel⟩,
   ⟨0, PortSt.reset, by decide +kernel⟩,
   ⟨0, PortSt.reset, by decide +kernel⟩,
   ⟨0, { PortSt.reset with txq := [0] }, by decide +kernel⟩⟩

theorem witness_RecoveryCommands :
    (∃ (a : BitVec 12) (count : Nat) (s : State), recoveryServed s = true ∧ s.recovery.taken = false ∧ a.toNat < 0x800) ∧
    (∃ (a : BitVec 12) (count : Nat) (s : State), recoveryServed s = true ∧ s.recovery.taken = false ∧ 0x800 ≤ a.toNat ∧ a.toNat + count ≤ 0x1000) ∧
    (∃ (a : BitVec 12) (w : W36) (r : ReelRead) (s : State), recoveryServed s = true ∧ s.recovery.taken = false ∧ isData a.toNat w = true ∧ a.toNat ≠ 0x782) ∧
    (∃ (w : RecoveryWrite) (r : ReelRead) (s : State), recoveryServed s = true ∧ s.recovery.taken = false ∧ (w.addr = none ∨ w.word = none ∨ ∃ a x, w.addr = some a ∧ w.word = some x ∧ isData a.toNat x = false)) ∧
    (∃ s : State, recoveryServed s = true ∧ s.recovery.taken = false) ∧
    (∃ (cmd : BitVec 8) (s : State), recoveryServed s = true ∧ s.recovery.taken = false ∧ cmd ≠ 0x0B ∧ cmd ≠ 0x02 ∧ cmd ≠ 0x05) ∧
    (∃ (w : W36) (r : ReelRead) (s : State), recoveryServed s = true ∧ s.recovery.taken = false ∧ isData 0x782 w = true) ∧
    (∃ (a : BitVec 12) (count : Nat) (w : RecoveryWrite) (r : ReelRead) (cmd : BitVec 8) (s : State), (recoveryServed s = false ∨ s.recovery.taken = true)) ∧
    (∃ s : State, s.ports.h0.normal = false ∧ s.sup.ritesWait = none) :=
  ⟨⟨0x7FF, 1, recovery, by decide +kernel⟩,
   ⟨0x800, 1, recovery, by decide +kernel⟩,
   ⟨0, dataWord 0 0, ⟨[], 0, false, false⟩, recovery, by decide +kernel⟩,
   ⟨⟨none, none⟩, ⟨[], 0, false, false⟩, recovery, ⟨by decide +kernel, by decide +kernel, Or.inl rfl⟩⟩,
   ⟨recovery, by decide +kernel⟩,
   ⟨0, recovery, by decide +kernel⟩,
   ⟨dataWord 0x782 0, ⟨[], 0, false, false⟩, recovery, by decide +kernel⟩,
   ⟨0, 1, ⟨none, none⟩, ⟨[], 0, false, false⟩, 0, busy, by decide +kernel⟩,
   ⟨recovery, by decide +kernel⟩⟩

theorem witness_SeqIsAcceptedOnce :
    (∃ (h x : Nat) (m : BitVec 32), h < x ∧ x ≤ h + 1024) ∧
    (∃ (h x : Nat) (m : BitVec 32), x ≤ h ∧ h < x + 32 ∧ m.getLsbD (h - x) = false) ∧
    (∃ (h x : Nat) (m : BitVec 32), x ≤ h ∧ h < x + 32 ∧ m.getLsbD (h - x) = true) ∧
    (∃ (h x : Nat) (m : BitVec 32), (h + 1024 < x ∨ x + 32 ≤ h)) ∧
    (∃ (h x r y : Nat) (m m' : BitVec 32), seqCheck h m x = .accepted r m' ∧ y ≤ r ∧ r < y + 32) ∧
    (∃ (h x r : Nat) (m m' : BitVec 32), seqCheck h m x = .accepted r m') :=
  ⟨⟨5, 1029, 0, by decide +kernel⟩,
   ⟨31, 0, 1, by decide +kernel⟩,
   ⟨31, 0, 0x80000000, by decide +kernel⟩,
   ⟨5, 1030, 0, by decide +kernel⟩,
   ⟨0, 1, 1, 1, 0, 1, by decide +kernel⟩,
   ⟨0, 1, 1, 0, 1, by decide +kernel⟩⟩

theorem witness_FramesOutAndBadFramesIn :
    (∃ (h : Port) (hd : D28) (pl : List W36) (ref ovr : Bool) (ks : Keys) (s : State), (s.ses.get h).keys = some ks) ∧
    (∃ (h : Port) (k : FrameKind) (i : Instr) (ws : List W36) (p : Nat) (s : State), ((k = .lease ∧ i = .lease h ws) ∨ (k = .read ∧ i = .read h ws) ∨ (k = .write ∧ i = .write h ws) ∨ (k = .arm ∧ i = .arm h ws) ∨ (k = .commit ∧ i = .commit h ws) ∨ (k = .retire ∧ i = .retire h ws) ∨ (k = .handover ∧ ((i = .give h ws ∧ fld (payloadAt ws 0) 1 0 = 0) ∨ (i = .take h ws ∧ fld (payloadAt ws 0) 1 0 = 1) ∨ (i = .request h ws ∧ fld (payloadAt ws 0) 1 0 = 2) ∨ (i = .refuse h ws ∧ fld (payloadAt ws 0) 1 0 = 3)))) ∧ receiving s h = true ∧ startsFrame k (ws.getD 0 0) = true ∧ p = payloadLen k (wData (ws.getD 0 0))) ∧
    (∃ (h : Port) (k : FrameKind) (i : Instr) (ws : List W36) (p : Nat) (s : State), ((k = .hello ∧ i = .hello h ws) ∨ (k = .key ∧ i = .key h ws)) ∧ receiving s h = true ∧ startsFrame k (ws.getD 0 0) = true ∧ p = hdCount (wData (ws.getD 0 0))) ∧
    (∃ (h : Port) (k : FrameKind) (i : Instr) (ws : List W36) (s : State), ((k = .hello ∧ i = .hello h ws) ∨ (k = .key ∧ i = .key h ws) ∨ (k = .lease ∧ i = .lease h ws) ∨ (k = .read ∧ i = .read h ws) ∨ (k = .write ∧ i = .write h ws) ∨ (k = .arm ∧ i = .arm h ws) ∨ (k = .commit ∧ i = .commit h ws) ∨ (k = .retire ∧ i = .retire h ws))) ∧
    (∃ (h : Port) (k : FrameKind) (d : D28) (s : State), (s.ses.get h).established = false) ∧
    (∃ (h : Port) (k : FrameKind) (i : Instr) (ws : List W36) (s : State), ((k = .lease ∧ i = .lease h ws) ∨ (k = .read ∧ i = .read h ws) ∨ (k = .write ∧ i = .write h ws) ∨ (k = .arm ∧ i = .arm h ws) ∨ (k = .commit ∧ i = .commit h ws) ∨ (k = .retire ∧ i = .retire h ws) ∨ (k = .event ∧ i = .hostEventFrame h ws) ∨ (k = .handover ∧ ((i = .give h ws ∧ fld (payloadAt ws 0) 1 0 = 0) ∨ (i = .take h ws ∧ fld (payloadAt ws 0) 1 0 = 1) ∨ (i = .request h ws ∧ fld (payloadAt ws 0) 1 0 = 2) ∨ (i = .refuse h ws ∧ fld (payloadAt ws 0) 1 0 = 3)))) ∧ receiving s h = true ∧ startsFrame k (ws.getD 0 0) = true ∧ payloadLen k (wData (ws.getD 0 0)) + 4 ≤ ws.length ∧ authCheck s (s.ses.get h) k ws (payloadLen k (wData (ws.getD 0 0))) = .oldKey) ∧
    (∃ (k : FrameKind) (ks : Keys) (old : BitVec 128) (t0 p : Nat) (ws : List W36) (e : Ses) (s : State), carriesCrc k = false ∧ e.established = true ∧ e.keys = some ks ∧ e.oldKhd = some (old, t0) ∧ authIs ws p (macHalves (mac56 ks.khd (authInput ws p))) = false) ∧
    (∃ (h : Port) (e : Ses) (s : State), e = s.ses.get h ∧ e.established = true ∧ e.rxseq < 0xFFFFFF ∧ e.txseq ≤ 0xFFFFFF) ∧
    (∃ (h : Port) (k : FrameKind) (i : Instr) (ws : List W36) (p : Nat) (s : State), ((k = .lease ∧ i = .lease h ws) ∨ (k = .read ∧ i = .read h ws) ∨ (k = .write ∧ i = .write h ws) ∨ (k = .arm ∧ i = .arm h ws) ∨ (k = .commit ∧ i = .commit h ws) ∨ (k = .retire ∧ i = .retire h ws) ∨ (k = .handover ∧ ((i = .give h ws ∧ fld (payloadAt ws 0) 1 0 = 0) ∨ (i = .take h ws ∧ fld (payloadAt ws 0) 1 0 = 1) ∨ (i = .request h ws ∧ fld (payloadAt ws 0) 1 0 = 2) ∨ (i = .refuse h ws ∧ fld (payloadAt ws 0) 1 0 = 3)))) ∧ receiving s h = true ∧ startsFrame k (ws.getD 0 0) = true ∧ p = payloadLen k (wData (ws.getD 0 0)) ∧ ws.length < p + 4) ∧
    (∃ (h : Port) (k : FrameKind) (i : Instr) (ws : List W36) (p : Nat) (s : State), ((k = .lease ∧ i = .lease h ws) ∨ (k = .read ∧ i = .read h ws) ∨ (k = .write ∧ i = .write h ws) ∨ (k = .arm ∧ i = .arm h ws) ∨ (k = .commit ∧ i = .commit h ws) ∨ (k = .retire ∧ i = .retire h ws) ∨ (k = .handover ∧ ((i = .give h ws ∧ fld (payloadAt ws 0) 1 0 = 0) ∨ (i = .take h ws ∧ fld (payloadAt ws 0) 1 0 = 1) ∨ (i = .request h ws ∧ fld (payloadAt ws 0) 1 0 = 2) ∨ (i = .refuse h ws ∧ fld (payloadAt ws 0) 1 0 = 3)))) ∧ receiving s h = true ∧ startsFrame k (ws.getD 0 0) = true ∧ p = payloadLen k (wData (ws.getD 0 0)) ∧ p + 4 ≤ ws.length ∧ authCheck s (s.ses.get h) k ws p = .bad) ∧
    (∃ (h : Port) (k : FrameKind) (i : Instr) (ws : List W36) (p : Nat) (s : State), ((k = .lease ∧ i = .lease h ws) ∨ (k = .read ∧ i = .read h ws) ∨ (k = .write ∧ i = .write h ws) ∨ (k = .arm ∧ i = .arm h ws) ∨ (k = .commit ∧ i = .commit h ws) ∨ (k = .retire ∧ i = .retire h ws) ∨ (k = .handover ∧ ((i = .give h ws ∧ fld (payloadAt ws 0) 1 0 = 0) ∨ (i = .take h ws ∧ fld (payloadAt ws 0) 1 0 = 1) ∨ (i = .request h ws ∧ fld (payloadAt ws 0) 1 0 = 2) ∨ (i = .refuse h ws ∧ fld (payloadAt ws 0) 1 0 = 3)))) ∧ receiving s h = true ∧ startsFrame k (ws.getD 0 0) = true ∧ p = payloadLen k (wData (ws.getD 0 0)) ∧ p + 4 ≤ ws.length ∧ authCheck s (s.ses.get h) k ws p = .ok ∧ seqOf (s.ses.get h) ws p = .duplicate) ∧
    (∃ (h : Port) (k : FrameKind) (i : Instr) (ws : List W36) (p : Nat) (s : State), ((k = .lease ∧ i = .lease h ws) ∨ (k = .read ∧ i = .read h ws) ∨ (k = .write ∧ i = .write h ws) ∨ (k = .arm ∧ i = .arm h ws) ∨ (k = .commit ∧ i = .commit h ws) ∨ (k = .retire ∧ i = .retire h ws) ∨ (k = .handover ∧ ((i = .give h ws ∧ fld (payloadAt ws 0) 1 0 = 0) ∨ (i = .take h ws ∧ fld (payloadAt ws 0) 1 0 = 1) ∨ (i = .request h ws ∧ fld (payloadAt ws 0) 1 0 = 2) ∨ (i = .refuse h ws ∧ fld (payloadAt ws 0) 1 0 = 3)))) ∧ receiving s h = true ∧ startsFrame k (ws.getD 0 0) = true ∧ p = payloadLen k (wData (ws.getD 0 0)) ∧ p + 4 ≤ ws.length ∧ authCheck s (s.ses.get h) k ws p = .ok ∧ seqOf (s.ses.get h) ws p = .outOfWindow) ∧
    (∃ (h : Port) (k : FrameKind) (i : Instr) (ws : List W36) (p : Nat) (s : State) (r : Nat) (m : BitVec 32), ((k = .lease ∧ i = .lease h ws) ∨ (k = .read ∧ i = .read h ws) ∨ (k = .write ∧ i = .write h ws) ∨ (k = .arm ∧ i = .arm h ws) ∨ (k = .commit ∧ i = .commit h ws) ∨ (k = .retire ∧ i = .retire h ws) ∨ (k = .handover ∧ ((i = .give h ws ∧ fld (payloadAt ws 0) 1 0 = 0) ∨ (i = .take h ws ∧ fld (payloadAt ws 0) 1 0 = 1) ∨ (i = .request h ws ∧ fld (payloadAt ws 0) 1 0 = 2) ∨ (i = .refuse h ws ∧ fld (payloadAt ws 0) 1 0 = 3)))) ∧ receiving s h = true ∧ startsFrame k (ws.getD 0 0) = true ∧ p = payloadLen k (wData (ws.getD 0 0)) ∧ p + 4 ≤ ws.length ∧ authCheck s (s.ses.get h) k ws p = .ok ∧ seqOf (s.ses.get h) ws p = .accepted r m ∧ formatOk (s.ses.get h) s.now k ws p = false) ∧
    (∃ (h : Port) (k : FrameKind) (i : Instr) (ws : List W36) (p : Nat) (s : State), ((k = .hello ∧ i = .hello h ws) ∨ (k = .key ∧ i = .key h ws)) ∧ receiving s h = true ∧ startsFrame k (ws.getD 0 0) = true ∧ p = hdCount (wData (ws.getD 0 0)) ∧ ws.length < p + 4) ∧
    (∃ (h : Port) (k : FrameKind) (i : Instr) (ws : List W36) (p : Nat) (s : State), ((k = .hello ∧ i = .hello h ws) ∨ (k = .key ∧ i = .key h ws)) ∧ receiving s h = true ∧ startsFrame k (ws.getD 0 0) = true ∧ p = hdCount (wData (ws.getD 0 0)) ∧ p + 4 ≤ ws.length ∧ authIs ws p (crcHalves (crc32 (authInput ws p))) = false) ∧
    (∃ (h : Port) (k : FrameKind) (i : Instr) (ws : List W36) (p : Nat) (s : State), ((k = .hello ∧ i = .hello h ws) ∨ (k = .key ∧ i = .key h ws)) ∧ receiving s h = true ∧ startsFrame k (ws.getD 0 0) = true ∧ p = hdCount (wData (ws.getD 0 0)) ∧ p + 4 ≤ ws.length ∧ authIs ws p (crcHalves (crc32 (authInput ws p))) = true ∧ formatOk (s.ses.get h) s.now k ws p = false) ∧
    (∃ (h : Port) (k : FrameKind) (i : Instr) (ws : List W36) (s : State), ((k = .hello ∧ i = .hello h ws) ∨ (k = .key ∧ i = .key h ws) ∨ (k = .lease ∧ i = .lease h ws) ∨ (k = .read ∧ i = .read h ws) ∨ (k = .write ∧ i = .write h ws) ∨ (k = .arm ∧ i = .arm h ws) ∨ (k = .commit ∧ i = .commit h ws) ∨ (k = .retire ∧ i = .retire h ws)) ∧ undrained s h = true) ∧
    (∃ (h : Port) (k : FrameKind) (i : Instr) (ws : List W36) (s : State), ((k = .hello ∧ i = .hello h ws) ∨ (k = .key ∧ i = .key h ws) ∨ (k = .lease ∧ i = .lease h ws) ∨ (k = .read ∧ i = .read h ws) ∨ (k = .write ∧ i = .write h ws) ∨ (k = .arm ∧ i = .arm h ws) ∨ (k = .commit ∧ i = .commit h ws) ∨ (k = .retire ∧ i = .retire h ws)) ∧ undrained s h = false ∧ startsFrame k (ws.getD 0 0) = false) ∧
    (∃ (h : Port) (e : Ses) (s : State), e = s.ses.get h ∧ e.established = true ∧ e.rxseq < 0xFFFFFF ∧ e.txseq ≤ 0xFFFFFF ∧ 0xF00000 < e.rxseq ∧ e.rxWarn = false ∧ (e.txseq ≤ 0xF00001 ∨ e.txWarn = true)) ∧
    (∃ (h : Port) (e : Ses) (s : State), e = s.ses.get h ∧ e.established = true ∧ e.rxseq < 0xFFFFFF ∧ e.txseq ≤ 0xFFFFFF ∧ 0xF00001 < e.txseq ∧ e.txWarn = false ∧ (e.rxseq ≤ 0xF00000 ∨ e.rxWarn = true)) ∧
    (∃ (h : Port) (e : Ses) (s : State), e = s.ses.get h ∧ e.established = true ∧ e.rxseq < 0xFFFFFF ∧ e.txseq ≤ 0xFFFFFF ∧ (e.rxseq ≤ 0xF00000 ∨ e.rxWarn = true) ∧ (e.txseq ≤ 0xF00001 ∨ e.txWarn = true)) ∧
    (∃ (e : Ses) (ws : List W36) (p : Nat), isData (p + 1) (ws.getD (p + 1) 0) = true) ∧
    (∃ (e : Ses) (ws : List W36) (p : Nat), isData (p + 1) (ws.getD (p + 1) 0) = false) :=
  ⟨⟨.h0, 0, [], false, false, ⟨0, 0⟩, busy, by decide +kernel⟩,
   ⟨.h0, .lease, .lease .h0 leaseF, leaseF, 1, busy, ⟨Or.inl ⟨rfl, rfl⟩, by decide +kernel, by decide +kernel, by decide +kernel⟩⟩,
   ⟨.h0, .hello, .hello .h0 helloF, helloF, 43, busy, ⟨Or.inl ⟨rfl, rfl⟩, by decide +kernel, by decide +kernel, by decide +kernel⟩⟩,
   ⟨.h0, .hello, .hello .h0 [], [], busy, Or.inl ⟨rfl, rfl⟩⟩,
   ⟨.h1, .lease, 0, busy, by decide +kernel⟩,
   ⟨.h0, .lease, .lease .h0 leaseF, leaseF, ses0 fun e => { e with keys := some ⟨1, 1⟩, oldKhd := some (0, 200000001) }, ⟨Or.inl ⟨rfl, rfl⟩, by decide +kernel, by decide +kernel, by decide +kernel, auth_old rfl rfl rfl rfl (by decide +kernel) (by decide +kernel) mac_lease_new mac_lease⟩⟩,
   ⟨.lease, ⟨1, 1⟩, 0, 200000001, 1, leaseF, (ses0 fun e => { e with keys := some ⟨1, 1⟩, oldKhd := some (0, 200000001) }).ses.h0, busy, ⟨by decide +kernel, by decide +kernel, by decide +kernel, by decide +kernel, mac_lease_new⟩⟩,
   ⟨.h0, _, busy, ⟨rfl, by decide +kernel, by decide +kernel, by decide +kernel⟩⟩,
   ⟨.h0, .lease, .lease .h0 (leaseF.take 4), leaseF.take 4, 1, busy, ⟨Or.inl ⟨rfl, rfl⟩, by decide +kernel, by decide +kernel, by decide +kernel, by decide +kernel⟩⟩,
   ⟨.h0, .lease, .lease .h0 (leaseF.take 4 ++ [0]), leaseF.take 4 ++ [0], 1, busy, ⟨Or.inl ⟨rfl, rfl⟩, by decide +kernel, by decide +kernel, by decide +kernel, by decide +kernel, by decide +kernel⟩⟩,
   ⟨.h0, .lease, .lease .h0 leaseF, leaseF, 1, ses0 fun e => { e with rxseq := 1, marks := 1 }, ⟨Or.inl ⟨rfl, rfl⟩, by decide +kernel, by decide +kernel, by decide +kernel, by decide +kernel, auth_ok rfl rfl rfl (by decide +kernel) mac_lease, by decide +kernel⟩⟩,
   ⟨.h0, .lease, .lease .h0 leaseF, leaseF, 1, ses0 fun e => { e with rxseq := 33 }, ⟨Or.inl ⟨rfl, rfl⟩, by decide +kernel, by decide +kernel, by decide +kernel, by decide +kernel, auth_ok rfl rfl rfl (by decide +kernel) mac_lease, by decide +kernel⟩⟩,
   ⟨.h0, .lease, .lease .h0 leaseBadF, leaseBadF, 1, busy, 1, 1, ⟨Or.inl ⟨rfl, rfl⟩, by decide +kernel, by decide +kernel, by decide +kernel, by decide +kernel, auth_ok rfl rfl rfl (by decide +kernel) mac_leaseBad, by decide +kernel, by decide +kernel⟩⟩,
   ⟨.h0, .hello, .hello .h0 (helloF.take 46), helloF.take 46, 43, busy, ⟨Or.inl ⟨rfl, rfl⟩, by decide +kernel, by decide +kernel, by decide +kernel, by decide +kernel⟩⟩,
   ⟨.h0, .hello, .hello .h0 (helloF.take 46 ++ [0]), helloF.take 46 ++ [0], 43, busy, ⟨Or.inl ⟨rfl, rfl⟩, by decide +kernel, by decide +kernel, by decide +kernel, by decide +kernel, by decide +kernel⟩⟩,
   ⟨.h0, .key, .key .h0 keyF, keyF, 87, busy, ⟨Or.inr ⟨rfl, rfl⟩, by decide +kernel, by decide +kernel, by decide +kernel, by decide +kernel, crc_key, by decide +kernel⟩⟩,
   ⟨.h0, .hello, .hello .h0 [], [], { busy with clk := { busy.clk with coreStop := true } }, ⟨Or.inl ⟨rfl, rfl⟩, by decide +kernel⟩⟩,
   ⟨.h0, .hello, .hello .h0 [], [], busy, ⟨Or.inl ⟨rfl, rfl⟩, by decide +kernel, by decide +kernel⟩⟩,
   ⟨.h0, _, ses0 fun e => { e with rxseq := 0xF00001, txWarn := true, txseq := 0xF00009 }, ⟨rfl, by decide +kernel, by decide +kernel, by decide +kernel, by decide +kernel, by decide +kernel, by decide +kernel⟩⟩,
   ⟨.h0, _, ses0 fun e => { e with txseq := 0xF00002 }, ⟨rfl, by decide +kernel, by decide +kernel, by decide +kernel, by decide +kernel, by decide +kernel, by decide +kernel⟩⟩,
   ⟨.h0, _, ses0 fun e => { e with rxseq := 0xF00000 }, ⟨rfl, by decide +kernel, by decide +kernel, by decide +kernel, by decide +kernel, by decide +kernel⟩⟩,
   ⟨Ses.reset, readF, 0, by decide +kernel⟩,
   ⟨Ses.reset, [], 0, by decide +kernel⟩⟩

theorem witness_EighthErrorTearsDown :
    (∃ (h : Port) (s : State), (s.ses.get h).established = true ∧ 7 ≤ ((s.ses.get h).errs.filter fun t => s.now ≤ t + 100000).length) ∧
    (∃ (h : Port) (s : State), (s.ses.get h).established = true ∧ (0xFFFFFF ≤ (s.ses.get h).rxseq ∨ 0xFFFFFF < (s.ses.get h).txseq)) ∧
    (∃ (h : Port) (s : State), (s.ses.get h).established = true ∧ (s.ses.get h).rxseq < 0xFFFFFF ∧ (s.ses.get h).txseq ≤ 0xFFFFFF) ∧
    (∃ (h : Port) (s : State), (s.ses.get h).established = false) ∧
    (∃ (h : Port) (s : State) (t0 : Nat), (s.ses.get h).established = true ∧ 7 ≤ ((s.ses.get h).errs.filter fun t => s.now ≤ t + 100000).length ∧ s.clk.guardStop = false ∧ s.flt.injBy = some (h, t0)) :=
  ⟨⟨.h0, ses0 fun e => { e with errs := List.replicate 7 199900000 }, by decide +kernel⟩,
   ⟨.h0, ses0 fun e => { e with rxseq := 0xFFFFFF }, by decide +kernel⟩,
   ⟨.h0, busy, by decide +kernel⟩,
   ⟨.h1, busy, by decide +kernel⟩,
   ⟨.h0, { (ses0 fun e => { e with errs := List.replicate 7 199900000 }) with flt := { busy.flt with inj := true, injBy := some (.h0, 1) } }, 1, by decide +kernel⟩⟩

theorem witness_ExchangeCommands :
    (∃ (h : Port) (ws : List W36) (o pub qh : Nat × Nat) (priv : Nat) (m1 m2 : List D28) (s : State), PassesCrc s h .hello ws ∧ (s.ses.get h).established = false ∧ s.trust.owner = some o ∧ s.trust.key = some (priv, pub) ∧ m1 = (payloadOf ws 43).map wData ∧ qh = helloKey m1 ∧ onCurve qh = true ∧ m2 = m2Payload h (Config.random s.free) pub) ∧
    (∃ (h : Port) (ws : List W36) (s : State), PassesCrc s h .hello ws ∧ (s.ses.get h).established = false ∧ s.trust.owner = none) ∧
    (∃ (h : Port) (ws : List W36) (x : Exchange) (s : State), PassesCrc s h .key ws ∧ (s.ses.get h).established = false ∧ (s.ses.get h).xch = some x) ∧
    (∃ (h : Port) (x : Exchange) (c : List D28) (s : State), s.coreRuns = true ∧ (s.ses.get h).xch = some x ∧ x.cert = some c ∧ keyVerdict s h x c = 0) ∧
    (∃ (h : Port) (x : Exchange) (c : List D28) (s : State), s.coreRuns = true ∧ (s.ses.get h).xch = some x ∧ x.cert = some c ∧ keyVerdict s h x c ≠ 0 ∧ (s.ses.get h).established = false) ∧
    (∃ (h : Port) (x : Exchange) (s : State), (s.ses.get h).xch = some x ∧ x.cert = none ∧ s.since x.at_ 1000000 = true ∧ s.clk.coreStop = false) ∧
    (∃ (h : Port) (k : BitVec 128) (t0 : Nat) (s : State), (s.ses.get h).oldKhd = some (k, t0) ∧ s.since t0 0 = true ∧ s.clk.coreStop = false) ∧
    (∃ (h : Port) (ws : List W36) (o k : Nat × Nat) (priv : Nat) (m1 : List D28) (s : State), PassesCrc s h .hello ws ∧ s.trust.owner = some o ∧ s.trust.key = some (priv, k) ∧ m1 = (payloadOf ws 43).map wData ∧ onCurve (helloKey m1) = false) ∧
    (∃ (h : Port) (ws : List W36) (o pub : Nat × Nat) (priv : Nat) (m1 : List D28) (s : State), PassesCrc s h .hello ws ∧ (s.ses.get h).established = true ∧ (s.ses.get h).rxseq ≤ 0xF00000 ∧ (s.ses.get h).txseq ≤ 0xF00000 ∧ s.trust.owner = some o ∧ s.trust.key = some (priv, pub) ∧ m1 = (payloadOf ws 43).map wData ∧ onCurve (helloKey m1) = true) ∧
    (∃ (h : Port) (ws : List W36) (x : Exchange) (s : State), PassesCrc s h .key ws ∧ (s.ses.get h).established = true ∧ (s.ses.get h).rxseq ≤ 0xF00000 ∧ (s.ses.get h).txseq ≤ 0xF00000 ∧ (s.ses.get h).xch = some x) ∧
    (∃ (h : Port) (x : Exchange) (c : List D28) (ks : Keys) (s : State), s.coreRuns = true ∧ (s.ses.get h).xch = some x ∧ x.cert = some c ∧ keyVerdict s h x c = 0 ∧ (s.ses.get h).established = true ∧ (s.ses.get h).keys = some ks) ∧
    (∃ (h : Port) (x : Exchange) (c : List D28) (s : State), s.coreRuns = true ∧ (s.ses.get h).xch = some x ∧ x.cert = some c ∧ keyVerdict s h x c ≠ 0 ∧ (s.ses.get h).established = true) ∧
    (∃ (h : Port) (s : State), (∀ x, (s.ses.get h).xch = some x → x.cert = none) ∧ s.coreRuns = true) ∧
    (∃ (h : Port) (s : State), (s.ses.get h).xch = none) ∧
    (∃ (h : Port) (s : State), (s.ses.get h).oldKhd = none) ∧
    (∃ (h : Port) (x : Exchange) (c : List D28) (s : State), s.coreRuns = true ∧ (s.ses.get h).xch = some x ∧ x.cert = some c ∧ keyVerdict s h x c = 0) ∧
    (∃ (h : Port) (fresh : Bool) (t : Fin 24) (s : State), s.auth.holder = some h) ∧
    (∃ (h : Port) (s : State), s.clk.coreStop = true) ∧
    (∃ (h : Port) (x : Exchange) (c : List D28) (owner : Nat × Nat) (s : State), certFormat c = true ∧ onCurve (certKey c) = true ∧ s.trust.owner = some owner) ∧
    (∃ (h : Port) (x : Exchange) (c : List D28) (s : State), s.coreRuns = true ∧ (s.ses.get h).xch = some x ∧ x.cert = some c ∧ keyVerdict s h x c = 0 ∧ (s.ses.get h).established = false) ∧
    (∃ (h : Port) (x : Exchange) (c : List D28) (s : State), certFormat c = false) ∧
    (∃ (h : Port) (x : Exchange) (c : List D28) (s : State), certFormat c = true ∧ onCurve (certKey c) = false) ∧
    (∃ (h : Port) (x : Exchange) (c : List D28) (s : State), certFormat c = true ∧ onCurve (certKey c) = true ∧ s.trust.owner = none) ∧
    (∃ (h : Port) (x : Exchange) (c : List D28) (owner : Nat × Nat) (s : State), certFormat c = true ∧ onCurve (certKey c) = true ∧ s.trust.owner = some owner ∧ ecdsaVerify owner (packData (c.take 31)) (join384 (group14 c 31 0)) (join384 (group14 c 31 1)) = false) ∧
    (∃ (h : Port) (x : Exchange) (c : List D28) (owner : Nat × Nat) (s : State), certFormat c = true ∧ onCurve (certKey c) = true ∧ s.trust.owner = some owner ∧ ecdsaVerify owner (packData (c.take 31)) (join384 (group14 c 31 0)) (join384 (group14 c 31 1)) = true) :=
  ⟨⟨.h0, helloF, p384G, p384G, helloKey ((payloadOf helloF 43).map wData), 1, (payloadOf helloF 43).map wData, m2Payload .h0 (Config.random busy.free) p384G, { (ses0 fun e => { e with established := false, xch := none }) with trust := { busy.trust with owner := some p384G, key := some (1, p384G) } }, ⟨(by unfold PassesCrc; exact ⟨by decide +kernel, by decide +kernel, rfl, by decide +kernel, by decide +kernel, by decide +kernel⟩), rfl, rfl, rfl, rfl, rfl, by decide +kernel, rfl⟩⟩,
   ⟨.h0, helloF, { (ses0 fun e => { e with established := false }) with trust := busy.trust }, ⟨(by unfold PassesCrc; exact ⟨by decide +kernel, by decide +kernel, rfl, by decide +kernel, by decide +kernel, by decide +kernel⟩), rfl, rfl⟩⟩,
   ⟨.h0, keyF, ⟨[], [], 0, 0, 0, 199000000, none⟩, { (ses0 fun e => { e with established := false, xch := some ⟨[], [], 0, 0, 0, 199000000, none⟩ }) with trust := { busy.trust with owner := some p384G, key := some (1, p384G) } }, ⟨(by unfold PassesCrc; exact ⟨by decide +kernel, by decide +kernel, rfl, by decide +kernel, crc_ok rfl (by decide +kernel) crc_key, by decide +kernel⟩), rfl, rfl⟩⟩,
   ⟨.h0, ⟨[], [], 0, 0, 0, 199000000, some certW⟩, certW, checking, ⟨by decide +kernel, rfl, rfl, cert_verdict⟩⟩,
   ⟨.h0, ⟨[], [], 0, 0, 0, 199000000, some []⟩, [], { (ses0 fun e => { e with established := false, xch := some ⟨[], [], 0, 0, 0, 199000000, some []⟩ }) with trust := { busy.trust with owner := some p384G, key := some (1, p384G) } }, ⟨by decide +kernel, rfl, rfl, by decide +kernel, rfl⟩⟩,
   ⟨.h0, ⟨[], [], 0, 0, 0, 199000000, none⟩, { (ses0 fun e => { e with established := false, xch := some ⟨[], [], 0, 0, 0, 199000000, none⟩ }) with trust := { busy.trust with owner := some p384G, key := some (1, p384G) } }, ⟨rfl, rfl, by decide +kernel, by decide +kernel⟩⟩,
   ⟨.h0, 5, 200000000, ses0 fun e => { e with oldKhd := some (5, 200000000) }, by decide +kernel⟩,
   ⟨.h0, helloOffF, p384G, p384G, 1, (payloadOf helloOffF 43).map wData, { busy with trust := { busy.trust with owner := some p384G, key := some (1, p384G) } }, ⟨(by unfold PassesCrc; exact ⟨by decide +kernel, by decide +kernel, rfl, by decide +kernel, by decide +kernel, by decide +kernel⟩), rfl, rfl, rfl, by decide +kernel⟩⟩,
   ⟨.h0, helloF, p384G, p384G, 1, (payloadOf helloF 43).map wData, { busy with trust := { busy.trust with owner := some p384G, key := some (1, p384G) } }, ⟨(by unfold PassesCrc; exact ⟨by decide +kernel, by decide +kernel, rfl, by decide +kernel, by decide +kernel, by decide +kernel⟩), by decide +kernel, by decide +kernel, by decide +kernel, rfl, rfl, rfl, by decide +kernel⟩⟩,
   ⟨.h0, keyF, ⟨[], [], 0, 0, 0, 199000000, none⟩, ses0 fun e => { e with xch := some ⟨[], [], 0, 0, 0, 199000000, none⟩ }, ⟨(by unfold PassesCrc; exact ⟨by decide +kernel, by decide +kernel, rfl, by decide +kernel, crc_ok rfl (by decide +kernel) crc_key, by decide +kernel⟩), rfl, by decide +kernel, by decide +kernel, rfl⟩⟩,
   ⟨.h0, ⟨[], [], 0, 0, 0, 199000000, some certW⟩, certW, ⟨0, 0⟩, renewing, ⟨by decide +kernel, rfl, rfl, renew_verdict, rfl, rfl⟩⟩,
   ⟨.h0, ⟨[], [], 0, 0, 0, 199000000, some []⟩, [], ses0 fun e => { e with xch := some ⟨[], [], 0, 0, 0, 199000000, some []⟩ }, ⟨by decide +kernel, rfl, rfl, by decide +kernel, rfl⟩⟩,
   ⟨.h0, busy, ⟨(fun x h => nomatch (show (none : Option Exchange) = some x from h)), by decide +kernel⟩⟩,
   ⟨.h0, busy, rfl⟩,
   ⟨.h0, busy, rfl⟩,
   ⟨.h0, ⟨[], [], 0, 0, 0, 199000000, some certW⟩, certW, checking, ⟨by decide +kernel, rfl, rfl, cert_verdict⟩⟩,
   ⟨.h0, true, 23, busy, by decide +kernel⟩,
   ⟨.h1, { busy with clk := { busy.clk with coreStop := true } }, by decide +kernel⟩,
   ⟨.h0, ⟨[], [], 0, 0, 0, 199000000, some certW⟩, certW, p384G, checking, by decide +kernel⟩,
   ⟨.h0, ⟨[], [], 0, 0, 0, 199000000, some certW⟩, certW, checking, ⟨by decide +kernel, rfl, rfl, cert_verdict, rfl⟩⟩,
   ⟨.h0, ⟨[], [], 0, 0, 0, 199000000, some certW⟩, [], busy, by decide +kernel⟩,
   ⟨.h0, ⟨[], [], 0, 0, 0, 199000000, some certW⟩, certW.take 3 ++ List.replicate 84 0, busy, by decide +kernel⟩,
   ⟨.h0, ⟨[], [], 0, 0, 0, 199000000, some certW⟩, certW, busy, by decide +kernel⟩,
   ⟨.h0, ⟨[], [], 0, 0, 0, 199000000, some certW⟩, certW.take 31 ++ List.replicate 56 0, p384G, checking, by decide +kernel⟩,
   ⟨.h0, ⟨[], [], 0, 0, 0, 199000000, some certW⟩, certW, p384G, checking, ⟨by decide +kernel, by decide +kernel, rfl, cert_signed⟩⟩⟩

theorem witness_ReadAndWriteFrames :
    (∃ (h : Port) (ws : List W36) (r : Nat) (m : BitVec 32) (d : D28) (s x : State), Passes s h .read ws r m ∧ d = wData (ws.getD 0 0) ∧ Opens s h d ∧ x = setCtx h (hdTag d) ⟨.done, hdGen d⟩ (noted (hear h ws s) h r m)) ∧
    (∃ (h : Port) (ws : List W36) (r : Nat) (m : BitVec 32) (d : D28) (s x y : State) (sts : List D28), Passes s h .write ws r m ∧ d = wData (ws.getD 0 0) ∧ Opens s h d ∧ x = setCtx h (hdTag d) ⟨.done, hdGen d⟩ (noted (hear h ws s) h r m) ∧ mapState (writePayload h (hdAddr .write d)) 1 (payloadOf ws (hdCount d)) x = (sts, y)) ∧
    (∃ (h : Port) (k : FrameKind) (i : Instr) (ws : List W36) (r : Nat) (m : BitVec 32) (d : D28) (e : Ses) (s y : State), ((k = .read ∧ i = .read h ws) ∨ (k = .write ∧ i = .write h ws) ∨ (k = .arm ∧ i = .arm h ws)) ∧ Passes s h k ws r m ∧ d = wData (ws.getD 0 0) ∧ e = s.ses.get h ∧ y = noted (hear h ws s) h r m ∧ (hdGen d = (ctxAt e (hdTag d)).gen ∨ hdGen d = (ctxAt e (hdTag d)).gen + 1) ∧ ctxBusy (ctxAt e (hdTag d)) = true) ∧
    (∃ (h : Port) (k : FrameKind) (i : Instr) (ws : List W36) (r : Nat) (m : BitVec 32) (d : D28) (e : Ses) (s y : State), ((k = .read ∧ i = .read h ws) ∨ (k = .write ∧ i = .write h ws) ∨ (k = .arm ∧ i = .arm h ws)) ∧ Passes s h k ws r m ∧ d = wData (ws.getD 0 0) ∧ e = s.ses.get h ∧ y = noted (hear h ws s) h r m ∧ hdGen d ≠ (ctxAt e (hdTag d)).gen + 1 ∧ (hdGen d ≠ (ctxAt e (hdTag d)).gen ∨ ctxBusy (ctxAt e (hdTag d)) = false)) ∧
    (∃ (h : Port) (k : FrameKind) (i : Instr) (ws : List W36) (r : Nat) (m : BitVec 32) (d : D28) (e : Ses) (s y : State), ((k = .read ∧ i = .read h ws) ∨ (k = .write ∧ i = .write h ws) ∨ (k = .arm ∧ i = .arm h ws)) ∧ Passes s h k ws r m ∧ d = wData (ws.getD 0 0) ∧ e = s.ses.get h ∧ y = noted (hear h ws s) h r m ∧ (hdGen d = (ctxAt e (hdTag d)).gen ∨ hdGen d = (ctxAt e (hdTag d)).gen + 1) ∧ ctxBusy (ctxAt e (hdTag d)) = true ∧ occupied e = 24) ∧
    (∃ (h : Port) (k : FrameKind) (i : Instr) (ws : List W36) (r : Nat) (m : BitVec 32) (d : D28) (e : Ses) (s y : State), ((k = .read ∧ i = .read h ws) ∨ (k = .write ∧ i = .write h ws) ∨ (k = .arm ∧ i = .arm h ws)) ∧ Passes s h k ws r m ∧ d = wData (ws.getD 0 0) ∧ e = s.ses.get h ∧ y = noted (hear h ws s) h r m ∧ (hdGen d = (ctxAt e (hdTag d)).gen ∨ hdGen d = (ctxAt e (hdTag d)).gen + 1) ∧ ctxBusy (ctxAt e (hdTag d)) = true ∧ occupied e ≠ 24) :=
  ⟨⟨.h0, readF, 1, 1, 2, busy, setCtx .h0 (hdTag 2) ⟨.done, hdGen 2⟩ (noted (hear .h0 readF busy) .h0 1 1), ⟨(by unfold Passes; exact ⟨by decide +kernel, by decide +kernel, rfl, by decide +kernel, auth_ok rfl rfl rfl (by decide +kernel) mac_read, by decide +kernel, by decide +kernel⟩), by decide +kernel, (by unfold Opens; exact ⟨by decide +kernel, by decide +kernel, by decide +kernel⟩), rfl⟩⟩,
   ⟨.h0, writeF, 1, 1, 0x8D08001, busy, setCtx .h0 (hdTag 0x8D08001) ⟨.done, hdGen 0x8D08001⟩ (noted (hear .h0 writeF busy) .h0 1 1), (mapState (writePayload .h0 (hdAddr .write 0x8D08001)) 1 (payloadOf writeF (hdCount 0x8D08001)) (setCtx .h0 (hdTag 0x8D08001) ⟨.done, hdGen 0x8D08001⟩ (noted (hear .h0 writeF busy) .h0 1 1))).2, (mapState (writePayload .h0 (hdAddr .write 0x8D08001)) 1 (payloadOf writeF (hdCount 0x8D08001)) (setCtx .h0 (hdTag 0x8D08001) ⟨.done, hdGen 0x8D08001⟩ (noted (hear .h0 writeF busy) .h0 1 1))).1, ⟨(by unfold Passes; exact ⟨by decide +kernel, by decide +kernel, rfl, by decide +kernel, auth_ok rfl rfl rfl (by decide +kernel) mac_write, by decide +kernel, by decide +kernel⟩), by decide +kernel, (by unfold Opens; exact ⟨by decide +kernel, by decide +kernel, by decide +kernel⟩), rfl, pair_eta _⟩⟩,
   ⟨.h0, .read, .read .h0 readF, readF, 1, 1, 2, _, ses0 fun e => { e with ctxs := e.ctxs.set 0 ⟨.done, 0⟩ }, _, ⟨Or.inl ⟨rfl, rfl⟩, (by unfold Passes; exact ⟨by decide +kernel, by decide +kernel, rfl, by decide +kernel, auth_ok rfl rfl rfl (by decide +kernel) mac_read, by decide +kernel, by decide +kernel⟩), by decide +kernel, rfl, rfl, by decide +kernel, by decide +kernel⟩⟩,
   ⟨.h0, .read, .read .h0 readF, readF, 1, 1, 2, _, ses0 fun e => { e with ctxs := e.ctxs.set 0 ⟨.done, 3⟩ }, _, ⟨Or.inl ⟨rfl, rfl⟩, (by unfold Passes; exact ⟨by decide +kernel, by decide +kernel, rfl, by decide +kernel, auth_ok rfl rfl rfl (by decide +kernel) mac_read, by decide +kernel, by decide +kernel⟩), by decide +kernel, rfl, rfl, by decide +kernel, by decide +kernel⟩⟩,
   ⟨.h0, .read, .read .h0 readF, readF, 1, 1, 2, _, ses0 fun e => { e with ctxs := List.replicate 24 ⟨.done, 0⟩ }, _, ⟨Or.inl ⟨rfl, rfl⟩, (by unfold Passes; exact ⟨by decide +kernel, by decide +kernel, rfl, by decide +kernel, auth_ok rfl rfl rfl (by decide +kernel) mac_read, by decide +kernel, by decide +kernel⟩), by decide +kernel, rfl, rfl, by decide +kernel, by decide +kernel, by decide +kernel⟩⟩,
   ⟨.h0, .read, .read .h0 readF, readF, 1, 1, 2, _, ses0 fun e => { e with ctxs := e.ctxs.set 0 ⟨.done, 0⟩ }, _, ⟨Or.inl ⟨rfl, rfl⟩, (by unfold Passes; exact ⟨by decide +kernel, by decide +kernel, rfl, by decide +kernel, auth_ok rfl rfl rfl (by decide +kernel) mac_read, by decide +kernel, by decide +kernel⟩), by decide +kernel, rfl, rfl, by decide +kernel, by decide +kernel, by decide +kernel⟩⟩⟩

theorem witness_ArmAndCommitFrames :
    (∃ (h : Port) (ws : List W36) (r : Nat) (m : BitVec 32) (d : D28) (s x y : State) (js : List (BitVec 12 × BitVec 8)), Passes s h .arm ws r m ∧ d = wData (ws.getD 0 0) ∧ Opens s h d ∧ x = setCtx h (hdTag d) ⟨.done, hdGen d⟩ (noted (hear h ws s) h r m) ∧ mapState (armPair h) 0 (pairsOf (payloadOf ws (hdCount d))) x = (js, y) ∧ (js.all fun j => j.2 = sOk) = true) ∧
    (∃ (h : Port) (ws : List W36) (r : Nat) (m : BitVec 32) (d : D28) (s y : State) (pairs : List (BitVec 12 × W36)) (dig : BitVec 56) (t0 : Nat) (sts : List D28), Passes s h .commit ws r m ∧ d = wData (ws.getD 0 0) ∧ ctxAt (s.ses.get h) (hdTag d) = ⟨.armed pairs dig t0, hdGen d⟩ ∧ t0 ≤ 5000 ∧ (payloadAt ws 0, payloadAt ws 1) = macHalves dig ∧ mapState (commitPayload h) 0 pairs (setCtx h (hdTag d) ⟨.done, hdGen d⟩ (noted (hear h ws s) h r m)) = (sts, y)) ∧
    (∃ (h : Port) (ws : List W36) (r : Nat) (m : BitVec 32) (d : D28) (s : State) (pairs : List (BitVec 12 × W36)) (dig : BitVec 56) (t0 : Nat), Passes s h .commit ws r m ∧ d = wData (ws.getD 0 0) ∧ ctxAt (s.ses.get h) (hdTag d) = ⟨.armed pairs dig t0, hdGen d⟩ ∧ t0 ≤ 5000 ∧ (payloadAt ws 0, payloadAt ws 1) ≠ macHalves dig) ∧
    (∃ (h : Port) (tag : Fin 24) (pairs : List (BitVec 12 × W36)) (dig : BitVec 56) (g : BitVec 3) (t0 : Nat) (s : State), ctxAt (s.ses.get h) tag = ⟨.armed pairs dig t0, g⟩ ∧ (5000 ≤ t0 ∨ s.clk.timeStop = true) ∧ s.clk.coreStop = false) ∧
    (∃ (h : Port) (ws : List W36) (r : Nat) (m : BitVec 32) (d : D28) (s x y : State) (js : List (BitVec 12 × BitVec 8)), Passes s h .arm ws r m ∧ d = wData (ws.getD 0 0) ∧ Opens s h d ∧ x = setCtx h (hdTag d) ⟨.done, hdGen d⟩ (noted (hear h ws s) h r m) ∧ mapState (armPair h) 0 (pairsOf (payloadOf ws (hdCount d))) x = (js, y) ∧ (js.all fun j => j.2 = sOk) = false) ∧
    (∃ (h : Port) (i a : Nat) (w v : W36) (st : BitVec 8) (s : State), isData (2 * i + 1) w = true ∧ a = fld (wData w) 11 0 ∧ st = (if !isData (2 * i + 2) v || fld (wData w) 27 12 ≠ 0 then sFormat else (armJudge h a s).getD sOk)) ∧
    (∃ (h : Port) (ws : List W36) (r : Nat) (m : BitVec 32) (d : D28) (s : State), Passes s h .commit ws r m ∧ d = wData (ws.getD 0 0) ∧ ctxAt (s.ses.get h) (hdTag d) = ⟨.done, hdGen d⟩) ∧
    (∃ (h : Port) (ws : List W36) (r : Nat) (m : BitVec 32) (d : D28) (s : State), Passes s h .commit ws r m ∧ d = wData (ws.getD 0 0) ∧ (hdGen d ≠ (ctxAt (s.ses.get h) (hdTag d)).gen ∨ (ctxAt (s.ses.get h) (hdTag d)).state = .free)) ∧
    (∃ (h : Port) (tag : Fin 24) (s : State), ctxArmed (ctxAt (s.ses.get h) tag) = false) ∧
    (∃ (h : Port) (tag : Fin 24) (s : State), s.clk.coreStop = true) ∧
    (∃ (h : Port) (ws : List W36) (r : Nat) (m : BitVec 32) (d : D28) (s : State) (pairs : List (BitVec 12 × W36)) (dig : BitVec 56) (t0 : Nat), Passes s h .commit ws r m ∧ d = wData (ws.getD 0 0) ∧ ctxAt (s.ses.get h) (hdTag d) = ⟨.armed pairs dig t0, hdGen d⟩ ∧ 5000 < t0) ∧
    (∃ (h : Port) (tag : Fin 24) (pairs : List (BitVec 12 × W36)) (dig : BitVec 56) (g : BitVec 3) (t0 : Nat) (s : State), ctxAt (s.ses.get h) tag = ⟨.armed pairs dig t0, g⟩ ∧ t0 < 5000 ∧ s.clk.timeStop = false) ∧
    (∃ (h : Port) (tag : Fin 24) (pairs : List (BitVec 12 × W36)) (dig : BitVec 56) (g : BitVec 3) (t0 : Nat) (s : State), ctxAt (s.ses.get h) tag = ⟨.armed pairs dig t0, g⟩) ∧
    (∃ (h : Port) (i a : Nat) (w v : W36) (s : State), isData (2 * i + 1) w = false ∧ a = (Config.random s.free).toNat % 4096) ∧
    (∃ (h : Port) (a : Nat) (s : State), classesAt s a = none) :=
  ⟨⟨.h0, armF, 1, 1, 0xC800002, busy, setCtx .h0 (hdTag 0xC800002) ⟨.done, hdGen 0xC800002⟩ (noted (hear .h0 armF busy) .h0 1 1), (mapState (armPair .h0) 0 (pairsOf (payloadOf armF (hdCount 0xC800002))) (setCtx .h0 (hdTag 0xC800002) ⟨.done, hdGen 0xC800002⟩ (noted (hear .h0 armF busy) .h0 1 1))).2, (mapState (armPair .h0) 0 (pairsOf (payloadOf armF (hdCount 0xC800002))) (setCtx .h0 (hdTag 0xC800002) ⟨.done, hdGen 0xC800002⟩ (noted (hear .h0 armF busy) .h0 1 1))).1, ⟨(by unfold Passes; exact ⟨by decide +kernel, by decide +kernel, rfl, by decide +kernel, auth_ok rfl rfl rfl (by decide +kernel) mac_arm, by decide +kernel, by decide +kernel⟩), by decide +kernel, (by unfold Opens; exact ⟨by decide +kernel, by decide +kernel, by decide +kernel⟩), rfl, pair_eta _, by decide +kernel⟩⟩,
   ⟨.h0, commitF, 1, 1, 0xCC00002, ses0 fun e => { e with ctxs := e.ctxs.set 0 ⟨.armed [(0x1A1, 0)] 5 5000, 0⟩ }, (mapState (commitPayload .h0) 0 [(0x1A1, 0)] (setCtx .h0 (hdTag 0xCC00002) ⟨.done, hdGen 0xCC00002⟩ (noted (hear .h0 commitF (ses0 fun e => { e with ctxs := e.ctxs.set 0 ⟨.armed [(0x1A1, 0)] 5 5000, 0⟩ })) .h0 1 1))).2, [(0x1A1, 0)], 5, 5000, (mapState (commitPayload .h0) 0 [(0x1A1, 0)] (setCtx .h0 (hdTag 0xCC00002) ⟨.done, hdGen 0xCC00002⟩ (noted (hear .h0 commitF (ses0 fun e => { e with ctxs := e.ctxs.set 0 ⟨.armed [(0x1A1, 0)] 5 5000, 0⟩ })) .h0 1 1))).1, ⟨(by unfold Passes; exact ⟨by decide +kernel, by decide +kernel, rfl, by decide +kernel, auth_ok rfl rfl rfl (by decide +kernel) mac_commit, by decide +kernel, by decide +kernel⟩), by decide +kernel, by decide +kernel, by decide +kernel, by decide +kernel, pair_eta _⟩⟩,
   ⟨.h0, commitF, 1, 1, 0xCC00002, ses0 fun e => { e with ctxs := e.ctxs.set 0 ⟨.armed [(0x1A1, 0)] 6 5000, 0⟩ }, [(0x1A1, 0)], 6, 5000, ⟨(by unfold Passes; exact ⟨by decide +kernel, by decide +kernel, rfl, by decide +kernel, auth_ok rfl rfl rfl (by decide +kernel) mac_commit, by decide +kernel, by decide +kernel⟩), by decide +kernel, by decide +kernel, by decide +kernel, by decide +kernel⟩⟩,
   ⟨.h0, 0, [(0x1A1, 0)], 5, 0, 5000, ses0 fun e => { e with ctxs := e.ctxs.set 0 ⟨.armed [(0x1A1, 0)] 5 5000, 0⟩ }, by decide +kernel⟩,
   ⟨.h0, armF, 1, 1, 0xC800002, { busy with auth := { busy.auth with holder := some .h1 } }, setCtx .h0 (hdTag 0xC800002) ⟨.done, hdGen 0xC800002⟩ (noted (hear .h0 armF ({ busy with auth := { busy.auth with holder := some .h1 } })) .h0 1 1), (mapState (armPair .h0) 0 (pairsOf (payloadOf armF (hdCount 0xC800002))) (setCtx .h0 (hdTag 0xC800002) ⟨.done, hdGen 0xC800002⟩ (noted (hear .h0 armF ({ busy with auth := { busy.auth with holder := some .h1 } })) .h0 1 1))).2, (mapState (armPair .h0) 0 (pairsOf (payloadOf armF (hdCount 0xC800002))) (setCtx .h0 (hdTag 0xC800002) ⟨.done, hdGen 0xC800002⟩ (noted (hear .h0 armF ({ busy with auth := { busy.auth with holder := some .h1 } })) .h0 1 1))).1, ⟨(by unfold Passes; exact ⟨by decide +kernel, by decide +kernel, rfl, by decide +kernel, auth_ok rfl rfl rfl (by decide +kernel) mac_arm, by decide +kernel, by decide +kernel⟩), by decide +kernel, (by unfold Opens; exact ⟨by decide +kernel, by decide +kernel, by decide +kernel⟩), rfl, pair_eta _, by decide +kernel⟩⟩,
   ⟨.h0, 0, 0x3CC, dataWord 1 0x3CC, dataWord 2 1, _, busy, ⟨by decide +kernel, by decide +kernel, rfl⟩⟩,
   ⟨.h0, commitF, 1, 1, 0xCC00002, ses0 fun e => { e with ctxs := e.ctxs.set 0 ⟨.done, 0⟩ }, ⟨(by unfold Passes; exact ⟨by decide +kernel, by decide +kernel, rfl, by decide +kernel, auth_ok rfl rfl rfl (by decide +kernel) mac_commit, by decide +kernel, by decide +kernel⟩), by decide +kernel, by decide +kernel⟩⟩,
   ⟨.h0, commitF, 1, 1, 0xCC00002, busy, ⟨(by unfold Passes; exact ⟨by decide +kernel, by decide +kernel, rfl, by decide +kernel, auth_ok rfl rfl rfl (by decide +kernel) mac_commit, by decide +kernel, by decide +kernel⟩), by decide +kernel, by decide +kernel⟩⟩,
   ⟨.h0, 0, busy, by decide +kernel⟩,
   ⟨.h1, 23, { busy with clk := { busy.clk with coreStop := true } }, by decide +kernel⟩,
   ⟨.h0, commitF, 1, 1, 0xCC00002, ses0 fun e => { e with ctxs := e.ctxs.set 0 ⟨.armed [(0x1A1, 0)] 5 5001, 0⟩ }, [(0x1A1, 0)], 5, 5001, ⟨(by unfold Passes; exact ⟨by decide +kernel, by decide +kernel, rfl, by decide +kernel, auth_ok rfl rfl rfl (by decide +kernel) mac_commit, by decide +kernel, by decide +kernel⟩), by decide +kernel, by decide +kernel, by decide +kernel⟩⟩,
   ⟨.h0, 0, [(0x1A1, 0)], 5, 0, 4999, ses0 fun e => { e with ctxs := e.ctxs.set 0 ⟨.armed [(0x1A1, 0)] 5 4999, 0⟩ }, by decide +kernel⟩,
   ⟨.h0, 0, [(0x1A1, 0)], 5, 0, 5000, ses0 fun e => { e with ctxs := e.ctxs.set 0 ⟨.armed [(0x1A1, 0)] 5 5000, 0⟩ }, by decide +kernel⟩,
   ⟨.h0, 31, _, 0, 0, busy, ⟨by decide +kernel, rfl⟩⟩,
   ⟨.h0, 9, busy, by decide +kernel⟩⟩

theorem witness_RetireAndLeaseFrames :
    (∃ (h : Port) (ws : List W36) (r : Nat) (m : BitVec 32) (d : D28) (s y : State) (sts : List D28), Passes s h .retire ws r m ∧ d = wData (ws.getD 0 0) ∧ mapState (retireEntry h) 1 (payloadOf ws (hdCount d)) (noted (hear h ws s) h r m) = (sts, y)) ∧
    (∃ (h : Port) (i : Nat) (w : W36) (g : BitVec 3) (t : Nat) (s : State), isData i w = true ∧ fld (wData w) 27 8 = 0 ∧ t = fld (wData w) 7 3 ∧ g = BitVec.ofNat 3 (fld (wData w) 2 0) ∧ t < 24) ∧
    (∃ (h : Port) (ws : List W36) (r : Nat) (m : BitVec 32) (d : D28) (b : BitVec 24) (s y : State), Passes s h .lease ws r m ∧ d = wData (ws.getD 0 0) ∧ b = BitVec.ofNat 24 (fld (payloadAt ws 0) 23 0) ∧ ((s.ses.get h).beatSeen = false ∨ b = (s.ses.get h).beat + 1) ∧ y = ((hear h ws s).onSes h fun e => { e with rxseq := r, marks := m, leaseValid := true, leaseAt := guardNow s, leaseWarn := false, beat := b, beatSeen := true, leaseSeen := true }) ∧ s.clk.guardStop = false) ∧
    (∃ (h : Port) (ws : List W36) (r : Nat) (m : BitVec 32) (d : D28) (b : BitVec 24) (s : State), Passes s h .lease ws r m ∧ d = wData (ws.getD 0 0) ∧ b = BitVec.ofNat 24 (fld (payloadAt ws 0) 23 0) ∧ (s.ses.get h).beatSeen = true ∧ b ≠ (s.ses.get h).beat + 1) ∧
    (∃ (h : Port) (s : State), (s.ses.get h).leaseValid = true ∧ s.clk.guardStop = false ∧ (s.ses.get h).leaseAt + leaseUs s ≤ guardNow s) ∧
    (∃ (t0 : Nat) (s : State), s.auth.offer = some t0 ∧ s.auth.request = none ∧ s.since t0 100000 = true ∧ s.clk.coreStop = false) ∧
    (∃ (t0 : Nat) (s : State), s.auth.request = some t0 ∧ s.auth.offer = none ∧ s.since t0 100000 = true ∧ s.clk.coreStop = false) ∧
    (∃ (h : Port) (i : Nat) (w : W36) (d : D28) (t : Nat) (g : BitVec 3) (st : BitVec 8) (s : State), d = wData w ∧ t = fld d 7 3 ∧ g = BitVec.ofNat 3 (fld d 2 0) ∧ isData i w = true ∧ (st = (if fld d 27 8 ≠ 0 ∨ 30 ≤ t then sFormat else if g ≠ (if t < 24 then (ctxAt (s.ses.get h) t).gen else ((s.ses.get h).evs.getD (t - 24) EvTag.reset).gen) then sDenied else sOk))) ∧
    (∃ (h : Port) (i t : Nat) (w : W36) (v : EvTag) (s : State), isData i w = true ∧ fld (wData w) 27 8 = 0 ∧ t = fld (wData w) 7 3 ∧ 24 ≤ t ∧ t < 30 ∧ (s.ses.get h).evs[t - 24]? = some v ∧ v.gen = BitVec.ofNat 3 (fld (wData w) 2 0) ∧ v.out = true) ∧
    (∃ (h : Port) (s : State), ((s.ses.get h).leaseValid = false ∨ s.clk.guardStop = true)) ∧
    (∃ (h : Port) (ws : List W36) (r : Nat) (m : BitVec 32) (d : D28) (b : BitVec 24) (s y : State), Passes s h .lease ws r m ∧ d = wData (ws.getD 0 0) ∧ b = BitVec.ofNat 24 (fld (payloadAt ws 0) 23 0) ∧ ((s.ses.get h).beatSeen = false ∨ b = (s.ses.get h).beat + 1) ∧ y = ((hear h ws s).onSes h fun e => { e with rxseq := r, marks := m, beat := b, beatSeen := true, leaseSeen := true }) ∧ s.clk.guardStop = true) ∧
    (∃ s : State, s.clk.coreStop = true) ∧
    (∃ (h : Port) (s : State), s.clk.guardStop = true) ∧
    (∃ (h : Port) (s : State), s.clk.guardStop = false ∧ (s.ses.get h).leaseValid = true ∧ (s.ses.get h).leaseWarn = false ∧ 4 * ((s.ses.get h).leaseAt + leaseUs s) < leaseUs s + 4 * guardNow s) ∧
    (∃ (h : Port) (i : Nat) (w : W36) (s : State), isData i w = false) ∧
    (∃ (h : Port) (i : Nat) (w : W36) (d : D28) (t : Nat) (g : BitVec 3) (st : BitVec 8) (s : State), d = wData w ∧ t = fld d 7 3 ∧ g = BitVec.ofNat 3 (fld d 2 0) ∧ isData i w = true ∧ (st = (if fld d 27 8 ≠ 0 ∨ 30 ≤ t then sFormat else if g ≠ (if t < 24 then (ctxAt (s.ses.get h) t).gen else ((s.ses.get h).evs.getD (t - 24) EvTag.reset).gen) then sDenied else sOk)) ∧ st ≠ sOk) ∧
    (∃ (h : Port) (s : State), s.clk.guardStop = true ∧ (s.ses.get h).leaseValid = true) :=
  ⟨⟨.h0, retireF, 1, 1, 0xD000001, busy, (mapState (retireEntry .h0) 1 (payloadOf retireF (hdCount 0xD000001)) (noted (hear .h0 retireF busy) .h0 1 1)).2, (mapState (retireEntry .h0) 1 (payloadOf retireF (hdCount 0xD000001)) (noted (hear .h0 retireF busy) .h0 1 1)).1, ⟨(by unfold Passes; exact ⟨by decide +kernel, by decide +kernel, rfl, by decide +kernel, auth_ok rfl rfl rfl (by decide +kernel) mac_retire, by decide +kernel, by decide +kernel⟩), by decide +kernel, pair_eta _⟩⟩,
   ⟨.h0, 1, dataWord 1 0xBF, 7, 23, busy, by decide +kernel⟩,
   ⟨.h0, leaseF, 1, 1, 0xD400001, 1, busy, _, ⟨(by unfold Passes; exact ⟨by decide +kernel, by decide +kernel, rfl, by decide +kernel, auth_ok rfl rfl rfl (by decide +kernel) mac_lease, by decide +kernel, by decide +kernel⟩), by decide +kernel, by decide +kernel, Or.inl rfl, rfl, by decide +kernel⟩⟩,
   ⟨.h0, leaseF, 1, 1, 0xD400001, 1, ses0 fun e => { e with beatSeen := true, beat := 1 }, ⟨(by unfold Passes; exact ⟨by decide +kernel, by decide +kernel, rfl, by decide +kernel, auth_ok rfl rfl rfl (by decide +kernel) mac_lease, by decide +kernel, by decide +kernel⟩), by decide +kernel, by decide +kernel, rfl, by decide +kernel⟩⟩,
   ⟨.h0, ses0 fun e => { e with leaseAt := 199900000 }, by decide +kernel⟩,
   ⟨199900000, { busy with auth := { busy.auth with offer := some 199900000 } }, by decide +kernel⟩,
   ⟨199900000, { busy with auth := { busy.auth with request := some 199900000 } }, by decide +kernel⟩,
   ⟨.h0, 1, dataWord 1 0xBF, 0xBF, 23, 7, _, busy, ⟨by decide +kernel, by decide +kernel, by decide +kernel, by decide +kernel, rfl⟩⟩,
   ⟨.h0, 1, 24, dataWord 1 0xC0, ⟨0, true, false, false, 199990000⟩, ses0 fun e => { e with evs := List.replicate 6 ⟨0, true, false, false, 199990000⟩ }, by decide +kernel⟩,
   ⟨.h1, busy, by decide +kernel⟩,
   ⟨.h0, leaseF, 1, 1, 0xD400001, 1, { busy with clk := { busy.clk with guardStop := true } }, _, ⟨(by unfold Passes; exact ⟨by decide +kernel, by decide +kernel, rfl, by decide +kernel, auth_ok rfl rfl rfl (by decide +kernel) mac_lease, by decide +kernel, by decide +kernel⟩), by decide +kernel, by decide +kernel, Or.inl rfl, rfl, by decide +kernel⟩⟩,
   ⟨{ busy with clk := { busy.clk with coreStop := true } }, by decide +kernel⟩,
   ⟨.h1, { busy with clk := { busy.clk with guardStop := true } }, by decide +kernel⟩,
   ⟨.h0, ses0 fun e => { e with leaseAt := 199924999 }, by decide +kernel⟩,
   ⟨.h0, 1, 0, busy, by decide +kernel⟩,
   ⟨.h0, 1, dataWord 1 0xB8, 0xB8, 23, 0, sDenied, busy, by decide +kernel⟩,
   ⟨.h0, { busy with clk := { busy.clk with guardStop := true } }, by decide +kernel⟩⟩

theorem witness_AuthorityFrames :
    (∃ (h : Port) (i : Instr) (a : Nat) (ws : List W36) (r : Nat) (m : BitVec 32) (d : D28) (s x : State), ((a = 0 ∧ i = .give h ws) ∨ (a = 1 ∧ i = .take h ws) ∨ (a = 2 ∧ i = .request h ws) ∨ (a = 3 ∧ i = .refuse h ws)) ∧ Passes s h .handover ws r m ∧ fld (payloadAt ws 0) 1 0 = a ∧ d = wData (ws.getD 0 0) ∧ actionServed h a s = true ∧ x = actionEffect h a { noted (hear h ws s) h r m with auth := { s.auth with lastAct := BitVec.ofNat 2 a } }) ∧
    (∃ (h : Port) (i : Instr) (a : Nat) (ws : List W36) (r : Nat) (m : BitVec 32) (d : D28) (s : State), ((a = 0 ∧ i = .give h ws) ∨ (a = 1 ∧ i = .take h ws) ∨ (a = 2 ∧ i = .request h ws) ∨ (a = 3 ∧ i = .refuse h ws)) ∧ Passes s h .handover ws r m ∧ fld (payloadAt ws 0) 1 0 = a ∧ d = wData (ws.getD 0 0) ∧ actionServed h a s = false) ∧
    (∃ (p h : Port) (t : Fin 24) (s : State), s.auth.holder = some p) ∧
    (∃ (h : Port) (a : Nat) (s : State), bitAt s.auth.cfg 15 = false) ∧
    (∃ (h : Port) (s : State), bitAt s.auth.cfg 15 = true) :=
  ⟨⟨.h0, .give .h0 giveF, 0, giveF, 1, 1, 0xD800001, busy, _, ⟨Or.inl ⟨rfl, rfl⟩, (by unfold Passes; exact ⟨by decide +kernel, by decide +kernel, rfl, by decide +kernel, auth_ok rfl rfl rfl (by decide +kernel) mac_give, by decide +kernel, by decide +kernel⟩), by decide +kernel, by decide +kernel, by decide +kernel, rfl⟩⟩,
   ⟨.h0, .give .h0 giveF, 0, giveF, 1, 1, 0xD800001, { busy with auth := { busy.auth with holder := some .h1 } }, ⟨Or.inl ⟨rfl, rfl⟩, (by unfold Passes; exact ⟨by decide +kernel, by decide +kernel, rfl, by decide +kernel, auth_ok rfl rfl rfl (by decide +kernel) mac_give, by decide +kernel, by decide +kernel⟩), by decide +kernel, by decide +kernel, by decide +kernel⟩⟩,
   ⟨.h0, .h1, 0, busy, by decide +kernel⟩,
   ⟨.h0, 3, { busy with auth := { busy.auth with cfg := 0x0C80000 } }, by decide +kernel⟩,
   ⟨.h1, busy, by decide +kernel⟩⟩

theorem witness_EventCommands :
    (∃ (h : Port) (i : Fin 6) (s : State), linkUp s h = true ∧ (evTag s h i).due = true ∧ i ≠ 4) ∧
    (∃ (h : Port) (s : State), linkUp s h = true ∧ (evTag s h 4).due = true) ∧
    (∃ (h : Port) (i : Fin 6) (s : State), linkUp s h = true ∧ (evTag s h i).out = true ∧ s.since (evTag s h i).sentAt 10000 = true) ∧
    (∃ (h : Port) (i : Fin 6) (ks : Keys) (s : State), (s.ses.get h).keys = some ks ∧ (s.ses.get h).established = true ∧ (s.ses.get h).rxseq < 0xF00000 ∧ (s.ses.get h).txseq < 0xF00000) ∧
    (∃ (h : Port) (ws : List W36) (r : Nat) (m : BitVec 32) (d : D28) (s : State), receiving s h = true ∧ startsFrame .event (ws.getD 0 0) = true ∧ d = wData (ws.getD 0 0) ∧ hdCount d + 4 ≤ ws.length ∧ authCheck s (s.ses.get h) .event ws (hdCount d) = .ok ∧ seqOf (s.ses.get h) ws (hdCount d) = .accepted r m) ∧
    (∃ (h : Port) (i : Fin 6) (s : State), (linkUp s h = false ∨ (evTag s h i).due = false)) ∧
    (∃ (h : Port) (i : Fin 6) (s : State), (linkUp s h = false ∨ (evTag s h i).out = false)) :=
  ⟨⟨.h0, 5, ses0 fun e => { e with evs := List.replicate 6 ⟨0, false, true, false, 199990000⟩ }, by decide +kernel⟩,
   ⟨.h0, ses0 fun e => { e with evs := List.replicate 6 ⟨0, false, true, false, 199990000⟩ }, by decide +kernel⟩,
   ⟨.h0, 0, ses0 fun e => { e with evs := List.replicate 6 ⟨0, true, false, false, 199990000⟩ }, by decide +kernel⟩,
   ⟨.h0, 0, ⟨0, 0⟩, busy, by decide +kernel⟩,
   ⟨.h0, eventF, 1, 1, 0xDC00001, busy, ⟨by decide +kernel, by decide +kernel, by decide +kernel, by decide +kernel, auth_ok rfl rfl rfl (by decide +kernel) mac_event, by decide +kernel⟩⟩,
   ⟨.h1, 5, busy, by decide +kernel⟩,
   ⟨.h1, 5, busy, by decide +kernel⟩⟩

theorem witness_SelfTestCommands :
    (∃ (a : Access) (s : State), MayStore s a 0x680 ∧ s.dev.phase = .arming ∧ s.bist.setPhase ≠ .running) ∧
    (∃ (h : Port) (s : State), MayStore s (.write h) 0x680 ∧ (s.dev.phase ≠ .arming ∨ s.bist.setPhase = .running)) ∧
    (∃ (a : Access) (s : State), MayStore s a 0x680) ∧
    (∃ (a : Access) (test : Fin 32) (s : State), MayStore s a 0x680 ∧ s.bist.queue.contains test.val = false ∧ laneRunning s.bist test = none) ∧
    (∃ (test : Fin 32) (s : State), setStarts s test = true) ∧
    (∃ (test : Fin 32) (l : Lane) (s : State), setStarts s test = false ∧ commandStarts s test = true ∧ freeLane s.bist test = some l) ∧
    (∃ (test : Fin 32) (l : Lane) (run : Running) (r : TestEnd) (s : State), laneRunning s.bist test = some (l, run) ∧ s.since run.at_ (testUs test) = true ∧ takenUs s run ≤ limitUs test ∧ s.coreRuns = true ∧ test.val ≠ 29 ∧ run.origin ≠ 0 ∧ s.bist.setPhase ≠ .running ∧ ((∃ vs, r = .steps vs ∧ test.val < 29 ∧ vs.length = stepCount test ∧ firstBad s test vs = none) ∨ (r = .signature true ∧ 29 < test.val))) ∧
    (∃ (test : Fin 32) (l : Lane) (run : Running) (r : TestEnd) (i : Nat) (det : BitVec 2) (s : State), laneRunning s.bist test = some (l, run) ∧ s.since run.at_ (testUs test) = true ∧ takenUs s run ≤ limitUs test ∧ s.coreRuns = true ∧ test.val ≠ 29 ∧ ((∃ vs, r = .steps vs ∧ test.val < 29 ∧ vs.length = stepCount test ∧ firstBad s test vs = some i ∧ det = 1) ∨ (r = .signature false ∧ 29 < test.val ∧ i = 0 ∧ det = 2))) ∧
    (∃ (test : Fin 32) (l : Lane) (run : Running) (s : State), laneRunning s.bist test = some (l, run) ∧ s.coreRuns = true ∧ (limitUs test ≤ takenUs s run ∨ s.clk.timeStop = true)) ∧
    (∃ (test : Fin 32) (l : Lane) (run : Running) (r : TestEnd) (s : State), laneRunning s.bist test = some (l, run) ∧ s.since run.at_ (testUs test) = true ∧ s.coreRuns = true ∧ limitUs test < takenUs s run) ∧
    (∃ (l : Lane) (run : Running) (ok : Bool) (s : State), laneRunning s.bist 29 = some (l, run) ∧ s.since run.at_ 2000 = true ∧ takenUs s run ≤ 48000 ∧ s.coreRuns = true) ∧
    (∃ (l : Lane) (run : Running) (bad : Bool) (n : Nat) (b : Bist) (s : State), s.bist.slice = some n ∧ overtaken run s = false ∧ setBit s.bist.slices n ≠ allChans ∧ b = (sliceDone l run bad s).bist) ∧
    (∃ (l : Lane) (run : Running) (bad : Bool) (n : Nat) (s : State), s.bist.slice = some n ∧ overtaken run s = false ∧ setBit s.bist.slices n = allChans) ∧
    (∃ test : Nat, test < 32) ∧
    (∃ (l : Lane) (det : BitVec 2) (r : Running) (b : Bist) (s : State), s.bist.lane l = some r ∧ b = (bistIncomplete l det s).bist) ∧
    (∃ (q : Nat) (s : State), q ∈ s.bist.queue ∧ q < s.bist.res.length ∧ laneRunning s.bist q = none) ∧
    (∃ (test : Fin 32) (l : Lane) (s : State), setStarts s test = false ∧ commandStarts s test = false ∧ serviceStarts s test = true ∧ freeLane s.bist test = some l) ∧
    (∃ (test : Fin 32) (s : State), setStarts s test = false ∧ commandStarts s test = false ∧ serviceStarts s test = false) ∧
    (∃ (test : Fin 32) (r : TestEnd) (s : State), laneRunning s.bist test = none) ∧
    (∃ (a : Access) (test : Fin 32) (s : State), MayStore s a 0x680 ∧ (s.bist.queue.contains test.val = true ∨ laneRunning s.bist test ≠ none)) ∧
    (∃ (c : Chan) (i : Nat) (v : Int), i < 42) ∧
    (∃ (test : Fin 32) (l : Lane) (run : Running) (r : TestEnd) (s : State), laneRunning s.bist test = some (l, run) ∧ s.since run.at_ (testUs test) = true ∧ takenUs s run ≤ limitUs test ∧ s.coreRuns = true ∧ test.val ≠ 29 ∧ run.origin = 0 ∧ ((∃ vs, r = .steps vs ∧ test.val < 29 ∧ vs.length = stepCount test ∧ firstBad s test vs = none) ∨ (r = .signature true ∧ 29 < test.val))) ∧
    (∃ s : State, s.bist.setPhase = .running) ∧
    (∃ (l : Lane) (run : Running) (bad : Bool) (n : Nat) (s : State), s.bist.slice = some n ∧ overtaken run s = true) ∧
    (∃ (run : Running) (s : State), run.test = 29 ∧ run.origin = 2 ∧ s.bist.setPhase = .running) ∧
    (∃ (l : Lane) (r : Running) (n u : Nat) (s : State), s.bist.lane l = some r ∧ (∀ k, k ≠ l → s.bist.lane k = none) ∧ testChannel s.bist r = some n) ∧
    (∃ (l : Lane) (r : Running) (u : Nat) (s : State), s.bist.lane l = some r ∧ (∀ k, k ≠ l → s.bist.lane k = none) ∧ testChannel s.bist r = none) ∧
    (∃ (l : Lane) (r : Running) (d : D28) (s : State), s.bist.lane l = some r ∧ (∀ k, k ≠ l → s.bist.lane k = none)) ∧
    (∃ (l : Lane) (r : Running) (p : Port) (d : D28) (s : State), s.bist.lane l = some r ∧ (∀ k, k ≠ l → s.bist.lane k = none) ∧ bitAt d 1 = false ∧ bitAt d 0 = true) ∧
    (∃ (l : Lane) (r : Running) (crypto march later : Bool) (s : State), s.bist.lane l = some r ∧ (∀ k, k ≠ l → s.bist.lane k = none)) ∧
    (∃ (ws : List W36) (s : State), s.clk.coreStop = false) ∧
    (∃ (test : Nat) (s : State), testReady s test = true) ∧
    (∃ (l : Lane) (origin : BitVec 2) (test : Nat) (s : State), s.trust.apState = 2) ∧
    (∃ (l : Lane) (origin : BitVec 2) (test : Nat) (s : State), (test ≠ 31 ∨ s.trust.apState ≠ 2)) ∧
    (∃ (s : State), s.bist.setPhase = .running ∧ s.bist.setLeft ≠ []) ∧
    (∃ (s : State), s.bist.setPhase = .running ∧ s.bist.setLeft = []) ∧
    (∃ (l : Lane) (r : Running) (n u : Nat) (s : State), s.bist.lane l = some r ∧ (∀ k, k ≠ l → s.bist.lane k = none) ∧ testChannel s.bist r = some n ∧ n ∈ members s u) ∧
    (∃ (l : Lane) (r : Running) (n u : Nat) (s : State), s.bist.lane l = some r ∧ (∀ k, k ≠ l → s.bist.lane k = none) ∧ testChannel s.bist r = some n ∧ n ∉ members s u) ∧
    (∃ (h : Port) (ws : List W36) (d : D28) (s : State), s.trust.owner.isSome = true ∧ s.trust.key.isSome = true) ∧
    (∃ (h : Port) (ws : List W36) (d : D28) (s : State), (s.trust.owner = none ∨ s.trust.key = none)) ∧
    (∃ (k : Nat), k < 32) ∧
    (∃ (k : Nat), k < 24) ∧
    (∃ (k : Nat), 24 ≤ k ∧ k < 28) ∧
    (∃ (k : Nat), 29 ≤ k) ∧
    (∃ (test : Nat) (b : Bist), test < 29) ∧
    (∃ (test : Nat) (b : Bist), 29 ≤ test) ∧
    (∃ (test : Nat) (s : State), testReady s test = true ∧ test < 12) ∧
    (∃ (test : Nat) (s : State), testReady s test = true ∧ 12 ≤ test ∧ test < 24) ∧
    (∃ (test : Nat) (s : State), testReady s test = true ∧ test = 29) ∧
    (∃ (test : Nat) (s : State), testReady s test = true ∧ test = 30) ∧
    (∃ (test : Nat) (s : State), testReady s test = true ∧ test = 31) :=
  ⟨⟨.write .h0, { busy with dev := { busy.dev with phase := .arming } }, by simp only [MayStore]; decide +kernel⟩,
   ⟨.h0, busy, by simp only [MayStore]; decide +kernel⟩,
   ⟨.write .h0, busy, by simp only [MayStore]; decide +kernel⟩,
   ⟨.write .h0, 31, busy, by simp only [MayStore]; decide +kernel⟩,
   ⟨0, { busy with bist := { busy.bist with setPhase := .running, setLeft := List.range 32 } }, by decide +kernel⟩,
   ⟨0, .a, { busy with bist := { busy.bist with queue := [0] } }, by decide +kernel⟩,
   ⟨24, .a, ⟨24, 1, 199999000⟩, .steps [(100000, true), (900000, true)], { busy with bist := { busy.bist with laneA := some ⟨24, 1, 199999000⟩ } }, ⟨by decide +kernel, by decide +kernel, by decide +kernel, by decide +kernel, by decide +kernel, by decide +kernel, by decide +kernel, Or.inl ⟨_, rfl, by decide +kernel, by decide +kernel, by decide +kernel⟩⟩⟩,
   ⟨24, .a, ⟨24, 1, 199999000⟩, .steps [(97999, true), (900000, true)], 0, 1, { busy with bist := { busy.bist with laneA := some ⟨24, 1, 199999000⟩ } }, ⟨by decide +kernel, by decide +kernel, by decide +kernel, by decide +kernel, by decide +kernel, Or.inl ⟨_, rfl, by decide +kernel, by decide +kernel, by decide +kernel, rfl⟩⟩⟩,
   ⟨0, .a, ⟨0, 1, 199995000⟩, { busy with bist := { busy.bist with laneA := some ⟨0, 1, 199995000⟩ } }, by decide +kernel⟩,
   ⟨0, .a, ⟨0, 1, 199994999⟩, .steps [], { busy with bist := { busy.bist with laneA := some ⟨0, 1, 199994999⟩ } }, by decide +kernel⟩,
   ⟨.d, ⟨29, 1, 199998000⟩, true, { busy with bist := { busy.bist with laneD := some ⟨29, 1, 199998000⟩ } }, by decide +kernel⟩,
   ⟨.d, ⟨29, 1, 0⟩, true, 2, _, { busy with bist := { busy.bist with slice := some 2 } }, ⟨by decide +kernel, by decide +kernel, by decide +kernel, rfl⟩⟩,
   ⟨.d, ⟨29, 1, 0⟩, true, 2, { busy with bist := { busy.bist with slices := 0xFFB, slice := some 2 } }, by decide +kernel⟩,
   ⟨29, by decide +kernel⟩,
   ⟨.a, 1, ⟨0, 2, 0⟩, _, { busy with bist := { busy.bist with laneA := some ⟨0, 2, 0⟩ } }, ⟨by decide +kernel, rfl⟩⟩,
   ⟨0, { busy with bist := { busy.bist with queue := [0] } }, by decide +kernel⟩,
   ⟨0, .a, { busy with bist := { busy.bist with setPhase := .passed } }, by decide +kernel⟩,
   ⟨0, busy, by decide +kernel⟩,
   ⟨0, .signature true, busy, by decide +kernel⟩,
   ⟨.write .h0, 0, { busy with bist := { busy.bist with queue := [0] } }, by simp only [MayStore]; decide +kernel⟩,
   ⟨Chan.reset, 41, 0, by decide +kernel⟩,
   ⟨24, .a, ⟨24, 0, 199999000⟩, .steps [(100000, true), (900000, true)], { busy with bist := { busy.bist with laneA := some ⟨24, 0, 199999000⟩ } }, ⟨by decide +kernel, by decide +kernel, by decide +kernel, by decide +kernel, by decide +kernel, by decide +kernel, Or.inl ⟨_, rfl, by decide +kernel, by decide +kernel, by decide +kernel⟩⟩⟩,
   ⟨{ busy with bist := { busy.bist with setPhase := .running, setLeft := [31] } }, by decide +kernel⟩,
   ⟨.d, ⟨29, 2, 0⟩, true, 0, { busy with bist := { busy.bist with setPhase := .running, slice := some 0 } }, by decide +kernel⟩,
   ⟨⟨29, 2, 0⟩, { busy with bist := { busy.bist with setPhase := .running } }, by decide +kernel⟩,
   ⟨.a, ⟨0, 2, 0⟩, 0, 0, { busy with bist := { busy.bist with laneA := some ⟨0, 2, 0⟩ } }, ⟨rfl, (by intro k hk; cases k <;> first | rfl | exact absurd rfl hk), by decide +kernel⟩⟩,
   ⟨.a, ⟨24, 2, 0⟩, 0, { busy with bist := { busy.bist with laneA := some ⟨24, 2, 0⟩ } }, ⟨rfl, (by intro k hk; cases k <;> first | rfl | exact absurd rfl hk), by decide +kernel⟩⟩,
   ⟨.a, ⟨12, 2, 0⟩, 1, { busy with bist := { busy.bist with laneA := some ⟨12, 2, 0⟩ } }, ⟨rfl, (by intro k hk; cases k <;> first | rfl | exact absurd rfl hk)⟩⟩,
   ⟨.d, ⟨31, 2, 0⟩, .h0, 1, { busy with bist := { busy.bist with laneD := some ⟨31, 2, 0⟩ } }, ⟨rfl, (by intro k hk; cases k <;> first | rfl | exact absurd rfl hk), by decide +kernel, by decide +kernel⟩⟩,
   ⟨.d, ⟨31, 2, 0⟩, true, true, true, { busy with bist := { busy.bist with laneD := some ⟨31, 2, 0⟩ } }, ⟨rfl, (by intro k hk; cases k <;> first | rfl | exact absurd rfl hk)⟩⟩,
   ⟨[], busy, by decide +kernel⟩,
   ⟨0, { busy with bist := { busy.bist with offSince := List.replicate 12 (some 199999000), newfail := false } }, by decide +kernel⟩,
   ⟨.a, 0, 0, { busy with trust := { busy.trust with apState := 2 } }, by decide +kernel⟩,
   ⟨.a, 0, 31, busy, by decide +kernel⟩,
   ⟨{ busy with bist := { busy.bist with setPhase := .running, setLeft := [31] } }, by decide +kernel⟩,
   ⟨{ busy with bist := { busy.bist with setPhase := .running, setLeft := [] } }, by decide +kernel⟩,
   ⟨.a, ⟨0, 2, 0⟩, 0, 0, { busy with bist := { busy.bist with laneA := some ⟨0, 2, 0⟩ } }, ⟨rfl, (by intro k hk; cases k <;> first | rfl | exact absurd rfl hk), by decide +kernel, by decide +kernel⟩⟩,
   ⟨.a, ⟨0, 2, 0⟩, 0, 11, { busy with bist := { busy.bist with laneA := some ⟨0, 2, 0⟩ } }, ⟨rfl, (by intro k hk; cases k <;> first | rfl | exact absurd rfl hk), by decide +kernel, by decide +kernel⟩⟩,
   ⟨.h0, [], 0, { busy with trust := { busy.trust with owner := some p384G, key := some (1, p384G) } }, by decide +kernel⟩,
   ⟨.h0, [], 0, busy, by decide +kernel⟩,
   ⟨31, by decide +kernel⟩,
   ⟨23, by decide +kernel⟩,
   ⟨27, by decide +kernel⟩,
   ⟨29, by decide +kernel⟩,
   ⟨28, busy.bist, by decide +kernel⟩,
   ⟨29, busy.bist, by decide +kernel⟩,
   ⟨11, { busy with bist := { busy.bist with offSince := List.replicate 12 (some 199999000), newfail := false } }, by decide +kernel⟩,
   ⟨23, { busy with bist := { busy.bist with offSince := List.replicate 12 (some 199999000), newfail := false } }, by decide +kernel⟩,
   ⟨29, { busy with bist := { busy.bist with offSince := List.replicate 12 (some 199999000), newfail := false } }, by decide +kernel⟩,
   ⟨30, { busy with bist := { busy.bist with offSince := List.replicate 12 (some 199999000), again := 200000000 } }, by decide +kernel⟩,
   ⟨31, { busy with bist := { busy.bist with offSince := List.replicate 12 (some 199999000), againMarch := 200000000 } }, by decide +kernel⟩⟩

theorem witness_RegisterWriteIsJudgedInOrder :
    (∃ (h : Port) (addr : BitVec 12) (d : D28) (s : State), linkUp s h = true ∧ classesAt s addr.toNat = none) ∧
    (∃ (h : Port) (addr : BitVec 12) (d : D28) (cs : List Cls) (s : State), linkUp s h = true ∧ classesAt s addr.toNat = some cs ∧ resv (reservedAt s addr.toNat) d = true) ∧
    (∃ (h : Port) (addr : BitVec 12) (d : D28) (cs : List Cls) (s : State), linkUp s h = true ∧ classesAt s addr.toNat = some cs ∧ resv (reservedAt s addr.toNat) d = false ∧ (mayWrite s h addr.toNat = false ∨ hasDirect cs = false)) ∧
    (∃ (h : Port) (addr : BitVec 12) (d : D28) (cs : List Cls) (s : State), linkUp s h = true ∧ classesAt s addr.toNat = some cs ∧ (mayWrite s h addr.toNat = false ∨ hasA cs = false)) ∧
    (∃ (addr : BitVec 12) (d : D28) (cs : List Cls) (s : State), s.coreRuns = true ∧ tokenRight s 2 = true ∧ classesAt s addr.toNat = some cs ∧ resv (reservedAt s addr.toNat) d = false ∧ hasDirect cs = false) ∧
    (∃ (a : Access) (t : Fin 20) (d : D28) (s : State), MayStore s a (0x102 + 8 * t) ∧ fld d 27 24 = 0 ∧ (s.tm t).tick = true ∧ (s.tm t).func = 1) ∧
    (∃ (a : Access) (d : D28) (s : State), MayStore s a 0x1A1 ∧ fld d 27 5 = 0 ∧ s.clk.timeStop = false) ∧
    (∃ (h : Port) (i : Instr) (addr : Nat) (s : State), linkUp s h = true ∧ overrideOf s addr = none ∧ ((∃ n : Fin 12, (i = .ctlOn (.commit h) n ∨ i = .ctlOff (.commit h) n ∨ ∃ c, i = .brcmdWrite (.commit h) n c) ∧ addr = 0x200 + 32 * n) ∨ (∃ (n : Fin 12) (d : D28), i = .ilimWrite (.commit h) n d ∧ addr = 0x204 + 32 * n) ∨ (∃ (t : Fin 20) (d : D28), i = .tmrPerWrite (.commit h) t d ∧ addr = 0x101 + 8 * t) ∨ (∃ (t : Fin 20) (d : D28), i = .tmrEdgeWrite (.commit h) t d ∧ addr = 0x104 + 8 * t) ∨ (((∃ k, i = .clapper (.commit h) k) ∨ i = .clapUnr (.commit h)) ∧ addr = 0x1A0) ∨ ((∃ d, i = .measCalsel (.commit h) d) ∧ addr = 0x3CE) ∨ (((∃ g, i = .snapshot (.commit h) g) ∨ i = .snapshotRelease (.commit h)) ∧ addr = 0x3C0) ∨ ((∃ d, i = .logFetch (.commit h) d) ∧ addr = 0x6C3) ∨ ((∃ d, i = .fpageSelect (.commit h) d) ∧ addr = 0x740) ∨ ((i = .bistStartup (.commit h) ∨ i = .bistAbort (.commit h) ∨ ∃ k, i = .bistRun (.commit h) k) ∧ addr = 0x680))) ∧
    (∃ (a : Access) (d : D28) (s : State), MayStore s a 0x1A1 ∧ fld d 27 5 = 0 ∧ s.clk.timeStop = true) ∧
    (∃ (w : Nat) (m : BitVec w) (d : D28) (lo i : Nat), i < w) ∧
    (∃ (m : BitVec 120) (w i : Nat) (d : D28), i < 120) ∧
    (∃ (a : Access) (addr : BitVec 12) (w : Fin 5) (d : D28) (s : State), addr.toNat = 0x090 + w.val ∧ MayStore s a addr.toNat ∧ fld d 27 24 = 0 ∧ s.clk.guardStop = false) ∧
    (∃ (a : Access) (addr : BitVec 12) (w : Fin 5) (d : D28) (s : State), addr.toNat = 0x09F + w.val ∧ MayStore s a addr.toNat ∧ fld d 27 24 = 0 ∧ s.clk.guardStop = false) ∧
    (∃ (a : Access) (addr : BitVec 12) (n : Fin 12) (d : D28) (s : State), addr.toNat = 0x20C + 32 * n.val ∧ MayStore s a addr.toNat ∧ fld d 27 11 = 0) ∧
    (∃ (a : Access) (addr : BitVec 12) (t : Fin 20) (d : D28) (s : State), addr.toNat = 0x105 + 8 * t.val ∧ MayStore s a addr.toNat ∧ fld d 18 0 = 0 ∧ s.clk.timeStop = false) ∧
    (∃ (a : Access) (addr : BitVec 12) (p : Port) (d : D28) (s : State), addr.toNat = 0x703 + 16 * portIx p ∧ MayStore s a addr.toNat ∧ fld d 24 8 = 0) ∧
    (∃ (a : Access) (addr : BitVec 12) (w : Fin 5) (d : D28) (s : State), addr.toNat = 0x090 + w.val ∧ MayStore s a addr.toNat ∧ fld d 27 24 = 0 ∧ s.clk.guardStop = true) ∧
    (∃ (a : Access) (addr : BitVec 12) (t : Fin 20) (d : D28) (s : State), addr.toNat = 0x105 + 8 * t.val ∧ MayStore s a addr.toNat ∧ fld d 18 0 = 0 ∧ s.clk.timeStop = true) ∧
    (∃ (a : Access) (d : D28) (s : State), MayStore s a 0x6C0) ∧
    (∃ (a : Access) (d : D28) (s : State), MayStore s a 0x6E0 ∧ fld d 21 0 = 0) ∧
    (∃ (a : Access) (d : D28) (s : State), MayStore s a 0x7C0 ∧ fld d 27 12 = 0 ∧ bitAt d 0 = false) ∧
    (∃ (a : Access) (d : D28) (s : State), MayStore s a 0x682) ∧
    (∃ (a : Access) (d : D28) (s : State), MayStore s a 0x741 ∧ fld d 13 11 = 0) ∧
    (∃ (a : Access) (d : D28) (s : State), MayStore s a 0x3CD ∧ fld d 27 24 = 0) :=
  ⟨⟨.h0, 0x009, 0, busy, by decide +kernel⟩,
   ⟨.h0, 0x1A1, 0x8000000, [.v, .k], busy, by decide +kernel⟩,
   ⟨.h0, 0x000, 0, [.v], busy, by decide +kernel⟩,
   ⟨.h0, 0x000, 0, [.v], busy, by decide +kernel⟩,
   ⟨0, 0, [.v], token 4, by decide +kernel⟩,
   ⟨.write .h0, 0, 5, tm0 fun m => { m with cfg := 0x2200000 }, by simp only [MayStore]; decide +kernel⟩,
   ⟨.write .h0, 8, busy, by simp only [MayStore]; decide +kernel⟩,
   ⟨.h0, .ctlOn (.commit .h0) 0, 0x200, busy, ⟨by decide +kernel, by decide +kernel, Or.inl ⟨0, Or.inl rfl, rfl⟩⟩⟩,
   ⟨.write .h0, 8, { busy with clk := { busy.clk with timeStop := true } }, by simp only [MayStore]; decide +kernel⟩,
   ⟨8, 5, 0xFFFFFFF, 0, 7, by decide +kernel⟩,
   ⟨5, 4, 119, 0xFFFFFF, by decide +kernel⟩,
   ⟨.write .h0, 0x094, 4, 1, busy, by simp only [MayStore]; decide +kernel⟩,
   ⟨.write .h0, 0x09F, 0, 0xFFFFFF, busy, by simp only [MayStore]; decide +kernel⟩,
   ⟨.write .h0, 0x36C, 11, 0x7FF, busy, by simp only [MayStore]; decide +kernel⟩,
   ⟨.write .h0, 0x19D, 19, 0x3000000, busy, by simp only [MayStore]; decide +kernel⟩,
   ⟨.write .h0, 0x713, .h1, 0xFF, busy, by simp only [MayStore]; decide +kernel⟩,
   ⟨.write .h0, 0x090, 0, 1, { busy with clk := { busy.clk with guardStop := true } }, by simp only [MayStore]; decide +kernel⟩,
   ⟨.write .h0, 0x105, 0, 0x1000000, { busy with clk := { busy.clk with timeStop := true } }, by simp only [MayStore]; decide +kernel⟩,
   ⟨.write .h0, 0xFFFFFFF, busy, by simp only [MayStore]; decide +kernel⟩,
   ⟨.write .h0, 0xFC00000, busy, by simp only [MayStore]; decide +kernel⟩,
   ⟨.write .h0, 2, busy, by simp only [MayStore]; decide +kernel⟩,
   ⟨.write .h0, 1, busy, by simp only [MayStore]; decide +kernel⟩,
   ⟨.write .h0, 1, busy, by simp only [MayStore]; decide +kernel⟩,
   ⟨.write .h0, 1, busy, by simp only [MayStore]; decide +kernel⟩⟩

theorem witness_TaggedWordsTellDataFromVoid :
    (∃ (a : Nat) (w : W36), isData a w = true) ∧
    (∃ (a : Nat) (r : BitVec 8), 1 ≤ r.toNat ∧ r.toNat ≤ 9) ∧
    (∃ (p : Nat) (d : D28), p < 4095) :=
  ⟨⟨0, dataWord 0 0, by decide +kernel⟩,
   ⟨0, 9, by decide +kernel⟩,
   ⟨4094, 0, by decide +kernel⟩⟩

theorem witness_FreshnessOfSampleWords :
    (∃ (limit : Nat) (w : Sample) (s : State), w.diff = 0) ∧
    (∃ (h : Port) (i : Nat) (x : Snap) (s : State), s.meas.snaps.get h = some x ∧ x.seg = false ∧ i < 100) ∧
    (∃ (h : Port) (i : Nat) (s : State), s.meas.snaps.get h = none ∧ i < 100) ∧
    (∃ (h : Port) (i : Nat) (s : State), s.meas.snaps.get h = none ∧ i < 504) ∧
    (∃ (p : Path) (limit : Nat) (w : Sample) (s : State), w.diff ≠ 0 ∧ (p = .dbg ∨ s.now ≤ w.tc + limit)) ∧
    (∃ (a : Nat) (w : Sample), w.diff ≠ 0) ∧
    (∃ (h : Port) (limit : Nat) (w : Sample) (s : State), w.tc + limit < s.now) ∧
    (∃ (h : Port) (limit : Nat) (w : Sample) (s : State), s.now ≤ w.tc + limit ∧ w.diff = 0) :=
  ⟨⟨0, ⟨0, 0, 0, 0⟩, busy, by decide +kernel⟩,
   ⟨.h0, 99, ⟨false, 0, []⟩, { busy with meas := { busy.meas with snaps := ⟨some ⟨false, 0, []⟩, none⟩ } }, by decide +kernel⟩,
   ⟨.h0, 99, busy, by decide +kernel⟩,
   ⟨.h0, 503, busy, by decide +kernel⟩,
   ⟨.dbg, 0, ⟨0, 0, 0, 1⟩, busy, by decide +kernel⟩,
   ⟨4095, ⟨0, 0, 0, 255⟩, by decide +kernel⟩,
   ⟨.h0, 0, ⟨0, 0, 199999999, 0⟩, busy, by decide +kernel⟩,
   ⟨.h0, 0, ⟨0, 0, 200000000, 0⟩, busy, by decide +kernel⟩⟩

theorem witness_AccessStopsAtTheBlockEnd :
    (∃ (lo hi a : Nat), (lo, hi) ∈ [(0x000, 0x03F), (0x040, 0x07F), (0x080, 0x0FF), (0x100, 0x19F), (0x1A0, 0x1BF), (0x1C0, 0x1FF), (0x200, 0x37F), (0x380, 0x3BF), (0x3C0, 0x3FF), (0x400, 0x5F7), (0x5F8, 0x5FF), (0x600, 0x67F), (0x680, 0x6BF), (0x6C0, 0x6FF), (0x700, 0x77F), (0x780, 0x7BF), (0x7C0, 0x7FF), (0x800, 0xFFF)] ∧ lo ≤ a ∧ a ≤ hi) ∧
    (∃ (p : Path) (a k i : Nat) (s : State), i < k ∧ blockEnd a < a + i) ∧
    (∃ (p : Path) (a k i : Nat) (s : State), i < k ∧ a + i ≤ blockEnd a ∧ twoWord (a + i) = none) ∧
    (∃ (h : Port) (a i : Nat) (w : W36) (s : State), isData (i + 1) w = true ∧ blockEnd a < a + i) ∧
    (∃ (h : Port) (a i : Nat) (w : W36) (s : State), a + i ≤ blockEnd a ∧ isData (i + 1) w = true) ∧
    (∃ (h : Port) (a i : Nat) (w : W36) (s : State), isData (i + 1) w = false) ∧
    (∃ a k : Nat, 1 ≤ k) :=
  ⟨⟨0x800, 0xFFF, 0xFFF, by decide +kernel⟩,
   ⟨.host .h0, 0x3F, 2, 1, busy, by decide +kernel⟩,
   ⟨.host .h0, 0x3F, 1, 0, busy, by decide +kernel⟩,
   ⟨.h0, 0x3F, 1, dataWord 2 0, busy, by decide +kernel⟩,
   ⟨.h0, 0x3F, 0, dataWord 1 0, busy, by decide +kernel⟩,
   ⟨.h0, 0x3F, 1, 0, busy, by decide +kernel⟩,
   ⟨0, 1, by decide +kernel⟩⟩

theorem witness_ResetIsSafe :
    (∃ (otp : Otp) (store : Store), LogStored store) :=
  ⟨⟨0, false, 0⟩, Store.reset, by simp only [LogStored]; decide +kernel⟩

theorem witness_EveryStepKeepsSafe :
    (∃ (i : Instr) (s t : State), exec i s = .next t) ∧
    (∃ s t : State, Safe s ∧ step s = .next t) ∧
    (∃ (i : Instr) (s t : State), exec i s = .next t) :=
  ⟨⟨.bypass 0xFF, busy, _, rfl⟩,
   ⟨State.reset, State.reset, ⟨reset_safe, rfl⟩⟩,
   ⟨.bypass 0xFF, busy, _, rfl⟩⟩

theorem witness_OtpNeverGoesBack :
    (∃ (i : Instr) (s t : State), exec i s = .next t ∧ ProvSound s) :=
  ⟨.bypass 0xFF, busy, _, ⟨rfl, fun h => absurd h (by decide +kernel)⟩⟩

theorem witness_FirstPermitOnlyByItsCommand :
    (∃ (i : Instr) (s t : State), exec i s = .next t) :=
  ⟨.firstPermit, { busy with dev := { busy.dev with phase := .arming, fpermit := false } }, _, rfl⟩

theorem witness_SafeStateLeftOnlyByReset :
    (∃ (i : Instr) (s t : State), exec i s = .next t ∧ s.flt.safe = true) :=
  ⟨.powerOnReset, { busy with flt := { busy.flt with safe := true } }, _, ⟨rfl, rfl⟩⟩

theorem witness_DeviceTimeOnlyTicks :
    (∃ (i : Instr) (s t : State), exec i s = .next t) :=
  ⟨.microsecondTick, busy, _, rfl⟩

theorem witness_EveryStepKeepsTheLogInOrder :
    (∃ (i : Instr) (s t : State), exec i s = .next t ∧ LogOk s) ∧
    (∃ s t : State, LogOk s ∧ step s = .next t) :=
  ⟨⟨.bypass 0xFF, State.reset, _, ⟨rfl, reset_log⟩⟩,
   ⟨State.reset, State.reset, ⟨reset_log, rfl⟩⟩⟩

/-! ### Ill-formed commands are refused by WellFormed -/

theorem test_wf_sar_slot : (Instr.sarConversion false 13 0 ⟨true, true⟩ 0).wf = false ∧ (Instr.sarConversion true 37 0 ⟨true, true⟩ 0).wf = true := by decide
theorem test_wf_window : (Instr.selectRise .h0 ⟨0, 0, true, false, false, true⟩).wf = false ∧
    (Instr.selectRise .h0 ⟨72, 0, false, false, true, false⟩).wf = false ∧ (Instr.selectRise .h0 ⟨72, 0, true, false, true, true⟩).wf = true := by decide
theorem test_wf_dqs : (Instr.reelLoadDone ⟨[], 0, false, true⟩).wf = false := by decide
theorem test_wf_reel : (Instr.reelLoadDone ⟨List.replicate 65536 0, 0, false, false⟩).wf = false := by
  simp only [Instr.wf, ReelRead.wf, List.length_replicate]
  decide
theorem test_wf_provision : (Instr.provision 0x5A5A5A5 ⟨List.replicate 65536 0, 0, false, false⟩).wf = false := by
  simp only [Instr.wf, ReelRead.wf, List.length_replicate]
  decide
theorem test_wf_wrreg : (Instr.wrreg ⟨none, none⟩ ⟨List.replicate 65536 0, 0, false, false⟩).wf = false := by
  simp only [Instr.wf, ReelRead.wf, List.length_replicate]
  decide
theorem test_wf_page : (Instr.apertureVerifyDone (.words [0])).wf = false ∧ (Instr.apertureVerifyDone (.failed true)).wf = true := by decide
theorem test_wf_bist_steps : (Instr.bistTestDone 24 (.steps [])).wf = false ∧ (Instr.bistTestDone 29 (.steps [])).wf = false ∧
    (Instr.bistTestDone 24 (.steps [(0, true), (0, true)])).wf = true := by decide
theorem test_wf_bist_signature : (Instr.bistTestDone 0 (.signature true)).wf = false ∧ (Instr.bistTestDone 29 (.signature true)).wf = true := by decide
theorem test_wf_vhold : (Instr.vholdConversion 16384).wf = false := by decide
theorem test_wf_flacon : (Instr.flaconTestComplete 262129 0).wf = false := by decide
theorem test_wf_rdreg : (Instr.rdreg 0 0).wf = false := by decide
theorem test_wf_frames : (Instr.hello .h0 [0]).wf = false ∧ (Instr.key .h0 [0]).wf = false ∧ (Instr.read .h0 [0]).wf = false ∧
    (Instr.write .h0 [0]).wf = false ∧ (Instr.arm .h0 [0]).wf = false ∧ (Instr.commit .h0 [0]).wf = false ∧ (Instr.retire .h0 [0]).wf = false := by decide
theorem test_wf_fixed_frames : (Instr.lease .h0 [0]).wf = false ∧ (Instr.give .h0 [0]).wf = false ∧ (Instr.take .h0 [0]).wf = false ∧
    (Instr.request .h0 [0]).wf = false ∧ (Instr.refuse .h0 [0]).wf = false := by decide

/-! ### Worked values of the spec and of the standards it names -/

/-- The state a command leaves. -/
def after (i : Instr) (s : State) : State :=
  match exec i s with
  | .next t => t
  | _ => s

/-- 00, "Worked check: register 0x200". -/
theorem test_chk_of_register_200 : dataWord 0x200 0 = 0x2F0000000 ∧ dataWord 0x200 1 = 0x000000001 ∧ voidWord 0x200 1 = 0xA50000001 := by
  decide +kernel

/-- CH6 with six segments retired. -/
def worn : State := busy.onCh 6 fun c => { c with retired := 0x3F, ilim := 320 }

/-- 02, "Worked case: a degraded compressor channel": IRATE 274, the limit's cap 68.50 A. -/
theorem test_degraded_compressor : wordAt worn .dbg 0x2DC = some (.data (d28 (274 * 2 ^ 19 + 0x3F * 2 ^ 11 + 64 + 6))) ∧ (worn.ch 6).ilimEff = 274 := by
  decide +kernel

/-- The cab heater's timer. -/
def heater : State := busy.onTm 8 fun m => { m with per := d28 (2 * 2 ^ 20 + 1000000), duty := 39322 }

/-- 04, "Duty": 60 % is 9,600,097 sixteenths, and a period that is extended is on for 600,007 counts of 10 ns. -/
theorem test_heater_duty : onSixteenths heater 8 none = 9600097 ∧ onTicks heater 8 none = 4 * 600007 := by decide

/-- 04, "Dither": with FRAC 5 the periods with indices 0, 2, 4, 8 and 12 are extended. -/
theorem test_dither_order : (List.range 16).filter (fun i => rev4 i < 5) = [0, 2, 4, 8, 12] := by decide

/-- CH8 with all its segments engaged at 85 °C and the calibration words of the worked case. -/
def heated : State :=
  let s := busy.onCh 8 fun c => { c with hs := 0x3FFFFFFFFFF }
  { s with meas := { s.meas with
      seg := List.replicate 504 (some ⟨5440, 0, 0, 0⟩)
      cal := ((s.meas.cal.set 2 (List.replicate 12 ⟨24120, true⟩)).set 3 (List.replicate 12 ⟨444, true⟩)).set 4 (List.replicate 12 ⟨3112, true⟩) } }

/-- 05, "Worked case: the cab heater's secondary reading": code 440 gives 2,003. -/
theorem test_secondary_reading : (after (.sarConversion true 2 440 ⟨true, true⟩ 0) heated).meas.rushes.getD 65 none = some ⟨2003, 0, 200000000, 0⟩ := by
  decide +kernel

/-- 05, "Worked case: the heater group across a wrap": IPRI 2,004 with STAMP 1,023. -/
theorem test_sample_word : sampleData ⟨2004, 0, 1023, 0⟩ = 0x07D43FF := by decide

/-- The device time of the worked carry. -/
def carry : State := { busy with now := 0x12FFFFFFE }

/-- 14, "Worked case: reading the microsecond clock at a carry", its first and second case. -/
theorem test_clock_at_a_carry :
    (readReg (.host .h0) 0x1A2 carry).1 = .data 0xFFFFFFE ∧
    (readReg (.host .h0) 0x1A3 { (readReg (.host .h0) 0x1A2 carry).2 with now := 0x130000001 }).1 = .data 0x12 ∧
    (readReg (.host .h0) 0x1A3 carry).1 = .data 0x12 ∧ (readReg (.host .h0) 0x1A2 { carry with now := 0x130000001 }).1 = .data 1 := by
  decide +kernel

/-- 11, "Worked frame: a READ of the heater group". -/
theorem test_read_header : frameKind 0x3201508 = some .read ∧ hdAddr .read 0x3201508 = 0x640 ∧ hdTag 0x3201508 = 5 ∧ hdGen 0x3201508 = 2 ∧
    hdCount 0x3201508 = 8 ∧ trSeq 0x000A3C0 = 0x0A3C ∧ trailer busy .h0 0x1F07 false false = 0x001F072 ∧ overruns 0x660 40 = true := by
  decide

/-- The start charge has ended. -/
def testing : State := { busy with hold := { busy.hold with state := .charging, charged := true, vhold := some ⟨24000, 0, 200000000, 0⟩ } }

/-- 15, "Worked case: the example unit's hold-up": a test step of 411 mV, 16 × 164.4 codes, gives HOLD_CAP 9,730 and HOLD_ENERGY 23,663. -/
theorem test_flacon_test : (after (.flaconTestComplete 150000 147369) testing).hold.cap = 9730 ∧
    (after (.flaconTestComplete 150000 147369) testing).hold.eav = 23663 := by decide +kernel

/-- 15, the same case: a program is deferred at 10.99 V. -/
theorem test_deferral_voltage : eavOf 9730 10980 < 2620 ∧ 2620 ≤ eavOf 9730 11000 := by decide

/-- CRC-32 of IEEE 802.3 over "123456789", the check value of its usual descriptions (log 9). -/
theorem test_crc32 : crc32 [0x31, 0x32, 0x33, 0x34, 0x35, 0x36, 0x37, 0x38, 0x39] = 0xCBF43926 := by decide +kernel

/-- SHA-384 of "abc", the example of FIPS 180 (log 9). -/
theorem test_sha384 : sha384 [0x61, 0x62, 0x63] =
    0xcb00753f45a35e8bb5a03d699ac65007272c32ab0eded1631a8b605a43ff5bed8086072ba1e7cc2358baeca134c825a7 := by decide +kernel

/-- AES-128 CMAC of the empty message, the first example of RFC 4493 (log 9). -/
theorem test_cmac : cmac 0x2b7e151628aed2a6abf7158809cf4f3c [] = 0xbb1d6929e95937287fa37d129b756746 := by decide +kernel

end Sys2Proof.Tests
end

/-! The check of a tagged word (00 R7) is linear, so one bit run tells the positions of two words apart. -/

namespace Sys2Proof.Machine

/-! ### The CRC as a linear map -/

/-- One bit shifts the register and adds the polynomial on feedback. -/
theorem crcStep_eq (c : Nat) (b : Bool) : crcStep c b = c * 2 % 256 ^^^ (xor (c.testBit 7) b).toNat * 0x2F := by
  unfold crcStep
  cases xor (c.testBit 7) b <;> simp

theorem crcStep_xor (a b : Nat) (x y : Bool) : crcStep (a ^^^ b) (xor x y) = crcStep a x ^^^ crcStep b y := by
  have hshift : (a ^^^ b) * 2 % 256 = (a * 2 % 256) ^^^ (b * 2 % 256) := by
    have : (a ^^^ b) * 2 = a * 2 ^^^ b * 2 := by
      simpa [Nat.shiftLeft_eq] using Nat.shiftLeft_xor_distrib (a := a) (b := b) (i := 1)
    rw [this]
    exact Nat.xor_mod_two_pow (n := 8)
  have hpoly : ∀ u v : Bool, (xor u v).toNat * 0x2F = u.toNat * 0x2F ^^^ v.toNat * 0x2F := by decide
  simp only [crcStep_eq, Nat.testBit_xor, hshift, hpoly]
  ac_rfl

theorem crcBits_xor (k x y a b : Nat) : crcBits k (x ^^^ y) (a ^^^ b) = crcBits k x a ^^^ crcBits k y b := by
  induction k generalizing a b with
  | zero => rfl
  | succ k ih => simp only [crcBits, Nat.testBit_xor, crcStep_xor, ih]

/-- Counting up flips a run of low bits. -/
theorem exists_xor_succ_eq (p : Nat) : ∃ j, p ^^^ (p + 1) = 2 ^ (j + 1) - 1 := by
  induction p using Nat.binaryRec with
  | zero => exact ⟨0, rfl⟩
  | bit b q ih =>
    cases b with
    | false =>
      have hs : Nat.bit false q + 1 = Nat.bit true q := by simp [Nat.bit_val]
      exact ⟨0, by rw [hs, Nat.xor_bit]; simp⟩
    | true =>
      obtain ⟨j, hj⟩ := ih
      have hs : Nat.bit true q + 1 = Nat.bit false (q + 1) := by simp [Nat.bit_val]; omega
      refine ⟨j + 1, ?_⟩
      rw [hs, Nat.xor_bit, hj, Nat.bit_val, pow_succ 2 (j + 1)]
      have := Nat.one_le_two_pow (n := j + 1)
      simp
      omega

/-- A position enters its check above DATA. -/
theorem chk_xor (p q : Nat) (d : D28) (hp : p < 4096) (hq : q < 4096) :
    chk p d ^^^ chk q d = crcBits 40 ((p ^^^ q) * 2 ^ 28) 0 := by
  have hcut : (p * 2 ^ 28 + d.toNat) ^^^ (q * 2 ^ 28 + d.toNat) = (p ^^^ q) * 2 ^ 28 := by
    have hd := d.isLt
    rw [Nat.mul_comm p, Nat.mul_comm q, Nat.two_pow_add_eq_or_of_lt hd, Nat.two_pow_add_eq_or_of_lt hd]
    apply Nat.eq_of_testBit_eq
    intro i
    rw [Nat.mul_comm (p ^^^ q)]
    simp only [Nat.testBit_xor, Nat.testBit_or, Nat.testBit_two_pow_mul]
    by_cases hi : 28 ≤ i
    · have : d.toNat.testBit i = false := Nat.testBit_lt_two_pow (hd.trans_le (Nat.pow_le_pow_right (by omega) hi))
      simp [hi, this]
    · simp [hi]
  rw [chk, chk, Nat.mod_eq_of_lt hp, Nat.mod_eq_of_lt hq, ← crcBits_xor, hcut, Nat.xor_self]

/-- The check of no run of up to twelve position bits vanishes. -/
theorem crcBits_run_ne_zero : ∀ j < 12, crcBits 40 ((2 ^ (j + 1) - 1) * 2 ^ 28) 0 ≠ 0 := by decide +kernel

/-- The checks of one DATA at neighbouring positions differ. -/
theorem chk_succ_ne (p : Nat) (d : D28) (hp : p < 4095) : chk p d ≠ chk (p + 1) d := by
  intro h
  obtain ⟨j, hj⟩ := exists_xor_succ_eq p
  have hlt : p ^^^ (p + 1) < 2 ^ 12 := Nat.xor_lt_two_pow (by omega) (by omega)
  have hj12 : j < 12 := by
    by_contra hge
    have : 2 ^ 13 ≤ 2 ^ (j + 1) := Nat.pow_le_pow_right (by omega) (by omega)
    omega
  apply crcBits_run_ne_zero j hj12
  rw [← hj, ← chk_xor p (p + 1) d (by omega) (by omega), h, Nat.xor_self]

/-! ### Data and void words (00 R10, R11) -/

theorem isData_iff (a : Nat) (w : W36) : isData a w = true ↔ wChk w = chk a (wData w) := by
  simp [isData]

/-- The two bounds of `isVoid` say that DATA[27:8] is zero and DATA[7:0] a reason that is not reserved. -/
theorem isVoid_iff (a : Nat) (w : W36) : isVoid a w = true ↔
    wChk w = chk a (wData w) ^^^ 0xA5 ∧ fld (wData w) 27 8 = 0 ∧ 1 ≤ fld (wData w) 7 0 ∧ fld (wData w) 7 0 ≤ 9 := by
  have hw := (wData w).isLt
  simp only [isVoid, fld, Bool.and_eq_true, beq_iff_eq, decide_eq_true_eq]
  constructor
  · rintro ⟨⟨hc, h1⟩, h9⟩
    exact ⟨hc, by omega, by omega, by omega⟩
  · rintro ⟨hc, h0, h1, h9⟩
    exact ⟨⟨hc, by omega⟩, by omega⟩

/-- Inverting a check as void words do changes it. -/
theorem xor_void_ne (c : Nat) : c ^^^ 0xA5 ≠ c := by
  intro h
  have : c ^^^ (c ^^^ 0xA5) = 0 := by rw [h, Nat.xor_self]
  simp at this

theorem isVoid_eq_false_of_isData {a : Nat} {w : W36} (h : isData a w = true) : isVoid a w = false := by
  rw [Bool.eq_false_iff]
  intro hv
  exact xor_void_ne _ (((isVoid_iff a w).mp hv).1.symm.trans ((isData_iff a w).mp h))

theorem wData_voidWord (a : Nat) (r : BitVec 8) : wData (voidWord a r) = d28 r.toNat := by
  have hr := r.isLt
  apply BitVec.eq_of_toNat_eq
  simp only [wData, voidWord, d28, BitVec.toNat_ofNat]
  omega

theorem wChk_voidWord (a : Nat) (r : BitVec 8) : wChk (voidWord a r) = chk a (d28 r.toNat) ^^^ 0xA5 := by
  have hr := r.isLt
  have hc : chk a (d28 r.toNat) ^^^ 0xA5 < 2 ^ 8 := Nat.xor_lt_two_pow (chk_lt _ _) (by omega)
  simp only [wChk, voidWord, BitVec.toNat_ofNat]
  generalize chk a (d28 r.toNat) ^^^ 0xA5 = c at hc
  simp only [d28, BitVec.toNat_ofNat]
  omega

theorem isVoid_voidWord (a : Nat) (r : BitVec 8) (h1 : 1 ≤ r.toNat) (h9 : r.toNat ≤ 9) : isVoid a (voidWord a r) = true := by
  rw [isVoid_iff, wChk_voidWord, wData_voidWord]
  simp only [fld, d28, BitVec.toNat_ofNat]
  exact ⟨trivial, by omega, by omega, by omega⟩

theorem isData_succ_dataWord (p : Nat) (d : D28) (hp : p < 4095) : isData (p + 1) (dataWord p d) = false := by
  rw [Bool.eq_false_iff]
  intro h
  have hown := (isData_iff _ _).mp (isData_dataWord p d)
  have hnext := (isData_iff _ _).mp h
  rw [wData_dataWord] at hown hnext
  exact chk_succ_ne p d hp (hown.symm.trans hnext)

/-- Settles O50: the CRC is linear, and no run of position bits has a zero check. -/
theorem taggedWordsTellDataFromVoid : Obligations.TaggedWordsTellDataFromVoid :=
  ⟨isData_iff, isVoid_iff, fun _ _ => isVoid_eq_false_of_isData, fun a d => ⟨isData_dataWord a d, wData_dataWord a d⟩,
    fun a r h1 h9 => ⟨isVoid_voidWord a r h1 h9, wData_voidWord a r⟩, isData_succ_dataWord⟩

end Sys2Proof.Machine

/-! RETIRE and LEASE frames, and what lapses: a lease, an offer, a request (11 R321, R329 to R334). -/

namespace Sys2Proof.Machine

/-! ### What a frame's SEQ and its words leave (11 R312) -/

@[simp] theorem onSes_onSes (s : State) (p : Port) (f g : Ses → Ses) :
    (s.onSes p f).onSes p g = s.onSes p fun e => g (f e) := by cases p <;> rfl

@[simp] theorem noted_ses_get (s : State) (h : Port) (r : Nat) (m : BitVec 32) :
    (noted s h r m).ses.get h = { s.ses.get h with rxseq := r, marks := m } := onSes_get s h _

@[simp] theorem noted_clk (s : State) (h : Port) (r : Nat) (m : BitVec 32) : (noted s h r m).clk = s.clk := rfl

@[simp] theorem guardNow_noted (s : State) (h : Port) (r : Nat) (m : BitVec 32) : guardNow (noted s h r m) = guardNow s := rfl

@[simp] theorem guardNow_hear (h : Port) (ws : List W36) (s : State) : guardNow (hear h ws s) = guardNow s := by
  simp only [guardNow, hear_clk, hear_now]

/-! ### RETIRE (11 R321, R334) -/

theorem namedBits_data {w : W36} {pos : Nat} (k : Nat) (s : State) (hw : isData pos w = true) :
    namedBits k pos w s = ((wData w).toNat % 2 ^ k, s) := by
  simp only [namedBits, hw, if_true]

theorem namedBits_notData {w : W36} {pos : Nat} (k : Nat) (s : State) (hw : isData pos w = false) :
    namedBits k pos w s = ((Config.random s.free).toNat % 2 ^ k, { s with free := s.free + 1 }) := by
  simp only [namedBits, hw, State.draw, Bool.false_eq_true, if_false]

/-- The event tag that a RETIRE reaches: one that is out is retired, and what pends behind it is due (11 R334). -/
def retiredEvent (v : EvTag) : EvTag := if v.out then { v with out := false, due := v.pend, pend := false } else v

/-- The status and the effect of an entry that names tag `t` with generation `g`. -/
def retireTag (h : Port) (t : Nat) (g : BitVec 3) (s : State) : BitVec 8 × State :=
  if t < 24 then
    if g ≠ (ctxAt (s.ses.get h) t).gen then (sDenied, s) else (sOk, setCtx h t ⟨.free, g⟩ s)
  else if g ≠ ((s.ses.get h).evs.getD (t - 24) EvTag.reset).gen then (sDenied, s)
  else (sOk, s.onSes h fun e => { e with evs := e.evs.modify (t - 24) retiredEvent })

/-- The status and the effect of an entry whose word is data. -/
def retireJudged (h : Port) (d : D28) (s : State) : BitVec 8 × State :=
  if fld d 27 8 ≠ 0 ∨ 30 ≤ fld d 7 3 then (sFormat, s) else retireTag h (fld d 7 3) (BitVec.ofNat 3 (fld d 2 0)) s

/-- An entry that is a data word answers its DATA[7:0] with the status. -/
theorem retireEntry_data {h : Port} {i : Nat} {w : W36} (s : State) (hw : isData i w = true) :
    retireEntry h i w s =
      (pack28 [(8, fld (wData w) 7 0), (0, (retireJudged h (wData w) s).1.toNat)], (retireJudged h (wData w) s).2) := by
  have he : fld (wData w) 7 0 = (wData w).toNat % 2 ^ 8 := by simp [fld]
  have hc : ((!isData i w || decide (fld (wData w) 27 8 ≠ 0) || decide (30 ≤ fld (wData w) 7 3)) = true) =
      (fld (wData w) 27 8 ≠ 0 ∨ 30 ≤ fld (wData w) 7 3) := by simp [hw]
  simp only [retireEntry, namedBits_data _ _ hw, hc, he]
  rfl

/-- An entry that is no data word is FORMAT and names a free value (log 85). -/
theorem retireEntry_notData {h : Port} {i : Nat} {w : W36} (s : State) (hw : isData i w = false) :
    retireEntry h i w s = (pack28 [(8, (Config.random s.free).toNat % 256), (0, 9)], { s with free := s.free + 1 }) := by
  simp [retireEntry, namedBits_notData _ _ hw, hw, sFormat]

/-- The status of an entry, in the order of 11 R321. -/
theorem retireJudged_status (h : Port) (d : D28) (s : State) : (retireJudged h d s).1 =
    if fld d 27 8 ≠ 0 ∨ 30 ≤ fld d 7 3 then sFormat
    else if BitVec.ofNat 3 (fld d 2 0) ≠ (if fld d 7 3 < 24 then (ctxAt (s.ses.get h) (fld d 7 3)).gen
      else ((s.ses.get h).evs.getD (fld d 7 3 - 24) EvTag.reset).gen) then sDenied else sOk := by
  unfold retireJudged retireTag
  split_ifs <;> rfl

/-- A refused entry changes nothing. -/
theorem retireJudged_refused {h : Port} {d : D28} {s : State} (hr : (retireJudged h d s).1 ≠ sOk) : (retireJudged h d s).2 = s := by
  unfold retireJudged retireTag at hr ⊢
  split_ifs at hr ⊢
  · rfl
  · rfl
  · exact absurd rfl hr
  · rfl
  · exact absurd rfl hr

theorem retireJudged_operation {h : Port} {d : D28} (s : State) (h0 : fld d 27 8 = 0) (ht : fld d 7 3 < 24) :
    (retireJudged h d s).2 = if BitVec.ofNat 3 (fld d 2 0) = (ctxAt (s.ses.get h) (fld d 7 3)).gen
      then setCtx h (fld d 7 3) ⟨.free, BitVec.ofNat 3 (fld d 2 0)⟩ s else s := by
  have hf : ¬(fld d 27 8 ≠ 0 ∨ 30 ≤ fld d 7 3) := by omega
  simp only [retireJudged, retireTag, hf, ht, if_true, if_false, ne_eq, ite_not]
  split <;> rfl

theorem retireJudged_event {h : Port} {d : D28} {v : EvTag} (s : State) (h0 : fld d 27 8 = 0) (h24 : 24 ≤ fld d 7 3) (h30 : fld d 7 3 < 30)
    (hv : (s.ses.get h).evs[fld d 7 3 - 24]? = some v) (hg : v.gen = BitVec.ofNat 3 (fld d 2 0)) :
    ((retireJudged h d s).2.ses.get h).evs[fld d 7 3 - 24]? = some (retiredEvent v) := by
  have hf : ¬(fld d 27 8 ≠ 0 ∨ 30 ≤ fld d 7 3) := by omega
  have ht : ¬fld d 7 3 < 24 := by omega
  have hd : (s.ses.get h).evs.getD (fld d 7 3 - 24) EvTag.reset = v := by rw [List.getD_eq_getElem?_getD, hv]; rfl
  simp only [retireJudged, retireTag, hf, ht, hd, hg, if_false, ne_eq, not_true]
  simp [hv]

/-- A RETIRE that passes answers one status per entry. -/
theorem retire_gives {h : Port} {ws : List W36} {r : Nat} {m : BitVec 32} {s y : State} {sts : List D28} (hp : Passes s h .retire ws r m)
    (hy : mapState (retireEntry h) 1 (payloadOf ws (hdCount (wData (ws.getD 0 0)))) (noted (hear h ws s) h r m) = (sts, y)) :
    Gives (.retire h ws) s (seqEnd h (answer h (wData (ws.getD 0 0)) sts false y)) := by
  have hs : serveRetire h ws (wData (ws.getD 0 0)) (noted (hear h ws s) h r m) = answer h (wData (ws.getD 0 0)) sts false y := by
    simp only [serveRetire, hy]
  exact congrArg done ((receive_passes hp (serveRetire h ws)).trans (congrArg (seqEnd h) hs))

/-! ### LEASE (11 R329, R330) -/

/-- The beat that a LEASE frame brings. -/
def leaseBeat (ws : List W36) : BitVec 24 := BitVec.ofNat 24 (fld (payloadAt ws 0) 23 0)

/-- A beat that is the first or the next renews the lease, and the answer shows it. -/
theorem serveLease_next {h : Port} {ws : List W36} {d : D28} {s : State}
    (hb : (s.ses.get h).beatSeen = false ∨ leaseBeat ws = (s.ses.get h).beat + 1) :
    serveLease h ws d s =
      answer h d [sesLease ((renewLease h s).onSes h fun e => { e with beat := leaseBeat ws, beatSeen := true, leaseSeen := true }) h] false
        ((renewLease h s).onSes h fun e => { e with beat := leaseBeat ws, beatSeen := true, leaseSeen := true }) := by
  have hn : ¬((s.ses.get h).beatSeen && decide (leaseBeat ws ≠ (s.ses.get h).beat + 1)) = true := by
    rcases hb with hb | hb <;> simp [hb]
  unfold serveLease
  exact if_neg hn

theorem serveLease_other {h : Port} {ws : List W36} {d : D28} {s : State}
    (hseen : (s.ses.get h).beatSeen = true) (hb : leaseBeat ws ≠ (s.ses.get h).beat + 1) :
    serveLease h ws d s = refuseFormat h .lease d s := by
  have hn : ((s.ses.get h).beatSeen && decide (leaseBeat ws ≠ (s.ses.get h).beat + 1)) = true := by
    rw [hseen, decide_eq_true hb, Bool.true_and]
  unfold serveLease
  exact if_pos hn

theorem renewLease_runs {h : Port} {s : State} (hg : s.clk.guardStop = false) :
    renewLease h s = s.onSes h fun e => { e with leaseValid := true, leaseAt := guardNow s, leaseWarn := false } := by
  simp only [renewLease, hg, Bool.false_eq_true, if_false]

theorem renewLease_stopped {h : Port} {s : State} (hg : s.clk.guardStop = true) : renewLease h s = s := by
  simp only [renewLease, hg, if_true]

/-- A LEASE that passes is served by its type's rules. -/
theorem lease_gives {h : Port} {ws : List W36} {r : Nat} {m : BitVec 32} {s x : State} (hp : Passes s h .lease ws r m)
    (hx : serveLease h ws (wData (ws.getD 0 0)) (noted (hear h ws s) h r m) = x) : Gives (.lease h ws) s (seqEnd h x) :=
  congrArg done ((receive_passes hp (serveLease h ws)).trans (congrArg (seqEnd h) hx))

/-- A LEASE with the first or the next beat is answered, whether GUARD takes its renewal or not. -/
theorem lease_gives_next {h : Port} {ws : List W36} {r : Nat} {m : BitVec 32} {s y : State} (hp : Passes s h .lease ws r m)
    (hb : (s.ses.get h).beatSeen = false ∨ leaseBeat ws = (s.ses.get h).beat + 1)
    (hy : y = (renewLease h (noted (hear h ws s) h r m)).onSes h fun e => { e with beat := leaseBeat ws, beatSeen := true, leaseSeen := true }) :
    Gives (.lease h ws) s (seqEnd h (answer h (wData (ws.getD 0 0)) [sesLease y h] false y)) := by
  subst hy
  exact lease_gives hp (serveLease_next (by simpa using hb))

theorem lease_gives_renewal {h : Port} {ws : List W36} {r : Nat} {m : BitVec 32} {s y : State} (hp : Passes s h .lease ws r m)
    (hb : (s.ses.get h).beatSeen = false ∨ leaseBeat ws = (s.ses.get h).beat + 1) (hg : s.clk.guardStop = false)
    (hy : y = (hear h ws s).onSes h fun e => { e with rxseq := r, marks := m, leaseValid := true, leaseAt := guardNow s, leaseWarn := false,
                                                      beat := leaseBeat ws, beatSeen := true, leaseSeen := true }) :
    Gives (.lease h ws) s (seqEnd h (answer h (wData (ws.getD 0 0)) [sesLease y h] false y)) := by
  refine lease_gives_next hp hb ?_
  rw [renewLease_runs (by simpa using hg), guardNow_noted, guardNow_hear, noted, onSes_onSes, onSes_onSes]
  exact hy

theorem lease_gives_beat {h : Port} {ws : List W36} {r : Nat} {m : BitVec 32} {s y : State} (hp : Passes s h .lease ws r m)
    (hb : (s.ses.get h).beatSeen = false ∨ leaseBeat ws = (s.ses.get h).beat + 1) (hg : s.clk.guardStop = true)
    (hy : y = (hear h ws s).onSes h fun e => { e with rxseq := r, marks := m, beat := leaseBeat ws, beatSeen := true, leaseSeen := true }) :
    Gives (.lease h ws) s (seqEnd h (answer h (wData (ws.getD 0 0)) [sesLease y h] false y)) := by
  refine lease_gives_next hp hb ?_
  rw [renewLease_stopped (by simpa using hg), noted, onSes_onSes]
  exact hy

theorem lease_gives_format {h : Port} {ws : List W36} {r : Nat} {m : BitVec 32} {s : State} (hp : Passes s h .lease ws r m)
    (hseen : (s.ses.get h).beatSeen = true) (hb : leaseBeat ws ≠ (s.ses.get h).beat + 1) :
    Gives (.lease h ws) s (seqEnd h (refuseFormat h .lease (wData (ws.getD 0 0)) (noted (hear h ws s) h r m))) :=
  lease_gives hp (serveLease_other (by simpa using hseen) (by simpa using hb))

/-! ### LEASE_LOST and the lapse of a lease (07 R183, 11 R330) -/

/-- Whether a port's lease is valid is no matter of the aftermath. -/
theorem leaseValid_of_still {s t : State} (h : t.still = s.still) (p : Port) : leaseValid t p = leaseValid s p := by
  have hs := congrArg State.ses h
  have h0 := congrArg (fun x => x.h0.leaseValid) hs
  have h1 := congrArg (fun x => x.h1.leaseValid) hs
  cases p
  · exact h0
  · exact h1

theorem leaseLost_of_still {s t : State} (h : t.still = s.still) : leaseLost t = leaseLost s := by
  have ha : t.auth = s.auth := by
    change t.still.auth = s.still.auth
    rw [h]
  simp only [leaseLost, holderLeased, ha, leaseValid_of_still h]

@[simp] theorem settleLease_leaseLost (s : State) : (settleLease s).flt.leaseLost = leaseLost s := rfl

@[simp] theorem settleRecords_leaseLost (s : State) : (settleRecords s).flt.leaseLost = s.flt.leaseLost := rfl

@[simp] theorem driveHealth_leaseLost (s : State) : (driveHealth s).flt.leaseLost = s.flt.leaseLost := by
  unfold driveHealth
  dsimp only
  split
  · rfl
  · rw [flt_event]; rfl

/-- The aftermath leaves LEASE_LOST judged on the leases and the authority of its own outcome. -/
theorem leaseJudged_settle (s : State) : LeaseJudged (settle s) := by
  have hw : leaseLost (settle s) = leaseLost (warnLease .h1 (warnLease .h0 s)) := leaseLost_of_still (by simp)
  have hf : (settle s).flt.leaseLost = (settleRecords (settleLease (warnLease .h1 (warnLease .h0 s)))).flt.leaseLost := by
    have hq : ∀ x : State, (drivePads (drivePermits x)).flt = x.flt := fun _ => rfl
    have hg : ∀ x : State, (noteQuiet (noteGates (clampGates x))).flt = x.flt := fun _ => rfl
    simp only [settle, hq, driveHealth_leaseLost, hg, flt_settleTimers, flt_settleUnits]
  unfold LeaseJudged
  rw [hw, hf, settleRecords_leaseLost, settleLease_leaseLost]

/-- A lease lapses once its period has passed on GUARD's clock. -/
theorem leaseExpiry_gives {h : Port} {s : State} (hv : (s.ses.get h).leaseValid = true) (hg : s.clk.guardStop = false)
    (ht : (s.ses.get h).leaseAt + leaseUs s ≤ guardNow s) : Gives (.leaseExpiry h) s (s.onSes h fun e => { e with leaseValid := false }) := by
  have hc : ((s.ses.get h).leaseValid && !s.clk.guardStop && decide ((s.ses.get h).leaseAt + leaseUs s ≤ guardNow s)) = true := by
    simp [hv, hg, ht]
  exact congrArg done (if_pos hc)

theorem leaseExpiry_gives_self {h : Port} {s : State} (hv : (s.ses.get h).leaseValid = false ∨ s.clk.guardStop = true) :
    Gives (.leaseExpiry h) s s := by
  have hc : ¬((s.ses.get h).leaseValid && !s.clk.guardStop && decide ((s.ses.get h).leaseAt + leaseUs s ≤ guardNow s)) = true := by
    rcases hv with hv | hv <;> simp [hv]
  exact congrArg done (if_neg hc)

/-! ### The LEASE event and LEFT (11 R329, R333) -/

theorem warnLease_stopped {h : Port} {s : State} (hg : s.clk.guardStop = true) : warnLease h s = s := by
  simp [warnLease, hg]

theorem sesLease_valid {h : Port} {s : State} (hv : (s.ses.get h).leaseValid = true) :
    sesLease s h = pack28 [(11, ((s.ses.get h).leaseAt + leaseUs s - guardNow s - 1) / 1000), (0, fld s.auth.cfg 27 17)] := by
  simp only [sesLease, hv, if_true]

/-- An event's cause changes nothing but the tags. -/
@[simp] theorem eventAt_leaseWarn (p q : Port) (tag : Nat) (s : State) : ((eventAt p tag s).ses.get q).leaseWarn = (s.ses.get q).leaseWarn := by
  unfold eventAt
  split
  · cases p <;> cases q <;> rfl
  · rfl

theorem warnLease_warns {h : Port} {s : State} (hg : s.clk.guardStop = false) (hv : (s.ses.get h).leaseValid = true)
    (hw : (s.ses.get h).leaseWarn = false) (ht : 4 * ((s.ses.get h).leaseAt + leaseUs s) < leaseUs s + 4 * guardNow s) :
    ((warnLease h s).ses.get h).leaseWarn = true := by
  simp [warnLease, hg, hv, hw, ht]

/-! ### The lapse of an offer or a request (11 R331, R332) -/

/-- An offer or a request, gone once its 100 ms have passed. -/
def unlapsed (s : State) (x : Option Nat) : Option Nat := if lapsed s x then none else x

theorem handoverLapse_completes {s : State} (hl : lapsed s s.auth.offer = true ∨ lapsed s s.auth.request = true) (hc : s.clk.coreStop = false) :
    Completes .handoverLapse s { s with auth := { s.auth with offer := unlapsed s s.auth.offer, request := unlapsed s s.auth.request } } := by
  have hb : ((lapsed s s.auth.offer || lapsed s s.auth.request) && !s.clk.coreStop) = true := by
    rcases hl with hl | hl <;> simp [hl, hc]
  exact ⟨_, congrArg done (if_pos hb), by rw [still_settle, still_event]; rfl⟩

theorem handoverLapse_stopped {s : State} (hc : s.clk.coreStop = true) : Gives .handoverLapse s s := by
  have hb : ¬((lapsed s s.auth.offer || lapsed s s.auth.request) && !s.clk.coreStop) = true := by simp [hc]
  exact congrArg done (if_neg hb)

/-- Settles O45: each frame is served on the state that has noted its SEQ, and each lapse is judged on its own clock. -/
theorem retireAndLeaseFrames : Obligations.RetireAndLeaseFrames := by
  unfold Obligations.RetireAndLeaseFrames
  refine ⟨?retire, ?operation, ?renewal, ?format, ?lapse, ?offer, ?request, ?status, ?event, ?noLapse, ?beat, ?coreStopped, ?guardStopped,
    ?warning, ?notData⟩
  case retire =>
    rintro h ws r m d s y sts hp rfl hy
    exact retire_gives hp hy
  case operation =>
    rintro h i w g t s hw h0 rfl rfl ht
    rw [retireEntry_data s hw]
    exact retireJudged_operation s h0 ht
  case renewal =>
    rintro h ws r m d b s y hp rfl rfl hb hy hg
    exact lease_gives_renewal hp hb hg hy
  case format =>
    rintro h ws r m d b s hp rfl rfl hseen hb
    exact lease_gives_format hp hseen hb
  case lapse =>
    intro h s hv hg ht
    exact ⟨_, leaseExpiry_gives hv hg ht, still_settle _, leaseJudged_settle _⟩
  case offer =>
    intro t0 s ho hr ht hc
    have h := handoverLapse_completes (s := s) (Or.inl (by rwa [ho])) hc
    simpa [ho, hr, unlapsed, lapsed, ht] using h
  case request =>
    intro t0 s hr ho ht hc
    have h := handoverLapse_completes (s := s) (Or.inr (by rwa [hr])) hc
    simpa [ho, hr, unlapsed, lapsed, ht] using h
  case status =>
    rintro h i w d t g st s rfl rfl rfl hw hst
    rw [← retireJudged_status] at hst
    subst hst
    rw [retireEntry_data s hw]
    exact ⟨rfl, retireJudged_refused⟩
  case event =>
    rintro h i t w v s hw h0 rfl h24 h30 hv hg hout
    rw [retireEntry_data s hw, retireJudged_event s h0 h24 h30 hv hg, retiredEvent, if_pos hout]
  case noLapse => exact fun h s => leaseExpiry_gives_self
  case beat =>
    rintro h ws r m d b s y hp rfl rfl hb hy hg
    exact lease_gives_beat hp hb hg hy
  case coreStopped => exact fun s => handoverLapse_stopped
  case guardStopped => exact fun h s hg => ⟨warnLease_stopped hg, sesLease_valid⟩
  case warning => exact fun h s => warnLease_warns
  case notData => exact fun h i w s => retireEntry_notData s

end Sys2Proof.Machine

/-! Register writes: how a word is judged, what a register of class K takes, and what waits for a stopped domain (14 R365 to R369, R372, 13 R348). -/

namespace Sys2Proof.Machine

/-! ### Masks and reserved bits -/

/-- The number that `maskOf` builds, bit by bit. -/
def maskValue (p : Nat → Bool) (w : Nat) : Nat := (List.range w).foldl (fun a i => if p i then a + 2 ^ i else a) 0

theorem maskOf_eq (w : Nat) (p : Nat → Bool) : maskOf w p = BitVec.ofNat w (maskValue p w) := rfl

theorem maskValue_succ (p : Nat → Bool) (w : Nat) :
    maskValue p (w + 1) = if p w then maskValue p w + 2 ^ w else maskValue p w := by
  simp only [maskValue, List.range_succ, List.foldl_append, List.foldl_cons, List.foldl_nil]

theorem maskValue_lt (p : Nat → Bool) (w : Nat) : maskValue p w < 2 ^ w := by
  induction w with
  | zero => exact Nat.one_pos
  | succ w ih => rw [maskValue_succ, pow_succ]; split <;> omega

theorem testBit_maskValue (p : Nat → Bool) {w i : Nat} (hi : i < w) : (maskValue p w).testBit i = p i := by
  induction w with
  | zero => omega
  | succ w ih =>
    rw [maskValue_succ]
    rcases Nat.lt_succ_iff_lt_or_eq.mp hi with hlow | rfl
    · split
      · rw [Nat.add_comm, Nat.testBit_two_pow_add_gt hlow, ih hlow]
      · exact ih hlow
    · have htop : (maskValue p i).testBit i = false := Nat.testBit_lt_two_pow (maskValue_lt p i)
      split
      next hp => rw [Nat.add_comm, Nat.testBit_two_pow_add_eq, htop, hp]; rfl
      next hp => rw [htop]; simpa using hp

theorem getLsbD_maskOf {w i : Nat} (p : Nat → Bool) (hi : i < w) : (maskOf w p).getLsbD i = p i := by
  rw [maskOf_eq, BitVec.getLsbD, BitVec.toNat_ofNat, Nat.mod_eq_of_lt (maskValue_lt p w), testBit_maskValue p hi]

theorem getLsbD_clearOnes {w i : Nat} (m : BitVec w) (d : D28) (lo : Nat) (hi : i < w) :
    (clearOnes m d lo).getLsbD i = (m.getLsbD i && !bitAt d (lo + i)) := getLsbD_maskOf _ hi

theorem getLsbD_clearWord {i : Nat} (m : BitVec 120) (w : Nat) (d : D28) (hi : i < 120) :
    (clearWord m w d).getLsbD i = (m.getLsbD i && !(decide (i / 24 = w) && bitAt d (i % 24))) := getLsbD_maskOf _ hi

/-- No reserved bit is set when every one of them is zero. -/
theorem resv_eq_false {mask : Nat} {d : D28} (h : ∀ i < 28, mask.testBit i = true → bitAt d i = false) : resv mask d = false := by
  have hz : d.toNat &&& mask = 0 := by
    apply Nat.eq_of_testBit_eq
    intro i
    rw [Nat.testBit_and, Nat.zero_testBit]
    by_cases hi : i < 28
    · cases hm : mask.testBit i with
      | false => simp
      | true => rw [show d.toNat.testBit i = false from h i hi hm]; rfl
    · have : d.toNat.testBit i = false := Nat.testBit_lt_two_pow (d.isLt.trans_le (Nat.pow_le_pow_right (by omega) (by omega)))
      rw [this]
      rfl
  simp [resv, hz]

theorem bitAt_of_fld {d : D28} {hi lo i : Nat} (h : fld d hi lo = 0) (hlo : lo ≤ i) (hhi : i ≤ hi) : bitAt d i = false := by
  have hb : (fld d hi lo).testBit (i - lo) = bitAt d i := by
    have hlt : i - lo < hi + 1 - lo := by omega
    have he : i - lo + lo = i := by omega
    simp [fld, bitAt, Nat.testBit_mod_two_pow, Nat.testBit_div_two_pow, hlt, he]
  rw [← hb, h, Nat.zero_testBit]

/-- A mask that lies within a field of zeros finds no reserved bit set. -/
theorem resv_of_fld {mask hi lo : Nat} {d : D28} (h : fld d hi lo = 0)
    (hm : ∀ i < 28, mask.testBit i = true → lo ≤ i ∧ i ≤ hi) : resv mask d = false :=
  resv_eq_false fun i hi28 hb => bitAt_of_fld h (hm i hi28 hb).1 (hm i hi28 hb).2

theorem resv_zero (d : D28) : resv 0 d = false := by simp [resv]

/-! ### Addresses: what the index says of them, and which block owns them -/

theorem baseInfo_flt {s : State} {k : Nat} (hlo : 0x80 ≤ k) (hhi : k < 0x100) : baseInfo s k = fltInfo (k - 0x80) := by
  simp (disch := omega) only [baseInfo, if_neg, if_pos]

theorem baseInfo_tmr {s : State} {t o k : Nat} (ht : t < 20) (ho : o < 8) (hk : k = 0x100 + 8 * t + o) :
    baseInfo s k = some (tmrInfo (s.tm t).tick o) := by
  have hq : (k - 0x100) / 8 = t := by omega
  have hr : k % 8 = o := by omega
  simp (disch := omega) only [baseInfo, if_neg, if_pos, hq, hr]

theorem baseInfo_ch {s : State} {n o k : Nat} (hn : n < 12) (ho : o < 32) (hk : k = 0x200 + 32 * n + o) : baseInfo s k = chInfo o := by
  have hr : k % 32 = o := by omega
  simp (disch := omega) only [baseInfo, if_neg, if_pos, hr]

theorem ownEffect_flt {a : Access} {k : Nat} {d : D28} {s : State} (hlo : 0x80 ≤ k) (hhi : k < 0x100) :
    ownEffect a k d s = fltWrite a (k - 0x80) d s := by
  simp (disch := omega) only [ownEffect, if_neg, if_pos]

theorem ownEffect_tmr {a : Access} {t o k : Nat} {d : D28} {s : State} (ht : t < 20) (ho : o < 8) (hk : k = 0x100 + 8 * t + o) :
    ownEffect a k d s = tmrWrite t o d s := by
  have hq : (k - 0x100) / 8 = t := by omega
  have hr : k % 8 = o := by omega
  simp (disch := omega) only [ownEffect, if_neg, if_pos, hq, hr]

theorem ownEffect_ch {a : Access} {n o k : Nat} {d : D28} {s : State} (hn : n < 12) (ho : o < 32) (hk : k = 0x200 + 32 * n + o) :
    ownEffect a k d s = chWrite n o d s := by
  have hq : (k - 0x200) / 32 = n := by omega
  have hr : k % 32 = o := by omega
  simp (disch := omega) only [ownEffect, if_neg, if_pos, hq, hr]

/-! ### Domains -/

/-- A register that neither GUARD nor TIME owns takes its word whatever has stopped (13 R344, R348). -/
theorem domainStopped_core {s : State} {k : Nat}
    (h : 0x100 ≤ k ∧ k < 0x1A0 ∧ k % 8 ≠ 4 ∧ k % 8 ≠ 5 ∨ 0x1C0 ≤ k ∧ k ≠ 0x3A1 ∧ (k < 0x380 → k % 32 ≠ 0)) : domainStopped s k = false := by
  have hg : ((0x80 ≤ k && k < 0x100) || k = 0x3A1 : Bool) = false := by simp; omega
  have ht : ((0x1A0 ≤ k && k < 0x1C0) || isEdge k || isStat k || isCtl k : Bool) = false := by simp [isEdge, isStat, isCtl]; omega
  simp only [domainStopped, hg, ht, Bool.and_false, Bool.or_false]

theorem domainStopped_flt {s : State} {k : Nat} (hlo : 0x80 ≤ k) (hhi : k < 0x100) : domainStopped s k = s.clk.guardStop := by
  have hg : ((0x80 ≤ k && k < 0x100) || k = 0x3A1 : Bool) = true := by simp; omega
  have ht : ((0x1A0 ≤ k && k < 0x1C0) || isEdge k || isStat k || isCtl k : Bool) = false := by simp [isEdge, isStat, isCtl]; omega
  simp only [domainStopped, hg, ht, Bool.and_true, Bool.and_false, Bool.or_false]

theorem domainStopped_time {s : State} {k : Nat} (h : 0x100 ≤ k ∧ k < 0x1A0 ∧ k % 8 = 5 ∨ 0x1A0 ≤ k ∧ k < 0x1C0) :
    domainStopped s k = s.clk.timeStop := by
  have hg : ((0x80 ≤ k && k < 0x100) || k = 0x3A1 : Bool) = false := by simp; omega
  have ht : ((0x1A0 ≤ k && k < 0x1C0) || isEdge k || isStat k || isCtl k : Bool) = true := by simp [isEdge, isStat, isCtl]; omega
  simp only [domainStopped, hg, ht, Bool.and_true, Bool.and_false, Bool.false_or]

/-- A word of a mirrored K register for a stopped domain is held, and its ones show cleared at once (14 R369). -/
theorem effect_mirrored {a : Access} {k : Nat} {d : D28} {s x : State} (hs : domainStopped s k = true) (hm : mirrored k = true)
    (hx : ownEffect a k d s = (sOk, x)) : effect a k d s = (sOk, holdWord k d x) := by
  have hk : (0x90 ≤ k ∧ k < 0x95 ∨ 0x9F ≤ k ∧ k < 0xA4) ∨ k = 0x1A1 ∨ 0x100 ≤ k ∧ k < 0x1A0 ∧ k % 8 = 5 := by
    simp [mirrored, isStat] at hm; omega
  have he : isEdge k = false := by simp [isEdge]; omega
  have hc : isCtl k = false := by simp [isCtl]; omega
  rw [effect_held hs he hc (by rw [hx]), hx, hm, if_pos rfl]

/-! ### The judgement (14 R365, 11 R326) -/

/-- REGISTER_WRITE answers what its row leaves. -/
theorem registerWrite_gives {a : Access} {addr : BitVec 12} {d : D28} {s x : State} {st : BitVec 8}
    (h : writeRow a addr.toNat d s = { x with status := st }) : GivesStatus (.registerWrite a addr d) s st x := congrArg done h

theorem hostWrite_noReg {h : Port} {k : Nat} {d : D28} {s : State} (hk : classesAt s k = none) :
    hostWrite h k d s = (sNoReg, noteLast h 1 k sNoReg s) := by simp only [hostWrite, writeWord, hk]

theorem hostWrite_format {h : Port} {k : Nat} {d : D28} {s : State} {cs : List Cls} (hk : classesAt s k = some cs)
    (hr : resv (reservedAt s k) d = true) : hostWrite h k d s = (sFormat, noteLast h 1 k sFormat s) := by
  simp only [hostWrite, writeWord, hk, hr, if_true]

theorem hostWrite_denied {h : Port} {k : Nat} {d : D28} {s : State} {cs : List Cls} (hk : classesAt s k = some cs)
    (hr : resv (reservedAt s k) d = false) (hw : mayWrite s h k = false ∨ hasDirect cs = false) :
    hostWrite h k d s = (sDenied, noteLast h 1 k sDenied s) := by
  have hb : (!mayWrite s h k || !hasDirect cs) = true := by rcases hw with hw | hw <;> simp [hw]
  simp only [hostWrite, writeWord, hk, hr, hb, Bool.false_eq_true, if_true, if_false]

theorem armCommit_noReg {h : Port} {k : Nat} {d : D28} {s : State} (hk : classesAt s k = none) :
    armCommit h k d s = (sNoReg, noteLast h 2 k sNoReg s) := by simp only [armCommit, armJudge, hk]

theorem armCommit_denied {h : Port} {k : Nat} {d : D28} {s : State} {cs : List Cls} (hk : classesAt s k = some cs)
    (hw : mayWrite s h k = false ∨ hasA cs = false) : armCommit h k d s = (sDenied, noteLast h 2 k sDenied s) := by
  have hb : (!mayWrite s h k || !hasA cs) = true := by rcases hw with hw | hw <;> simp [hw]
  simp only [armCommit, armJudge, hk, hb, if_true]

theorem dbgWord_denied {k : Nat} {d : D28} {s : State} {cs : List Cls} (hk : classesAt s k = some cs)
    (hr : resv (reservedAt s k) d = false) (hd : hasDirect cs = false) : dbgWord k d s = (sDenied, s) := by
  simp only [dbgWord, hk, hr, hd, Bool.not_false, Bool.false_eq_true, if_true, if_false]

/-- A row that writes one register word is DENIED at its ARM where the register has no field of class A. -/
theorem armDenied_gives {i : Instr} {h : Port} {k : Nat} {d : D28} {s : State} {r : RegInfo} (hl : linkUp s h = true)
    (ho : overrideOf s k = none) (hr : baseInfo s k = some r) (ha : hasA r.1 = false)
    (hi : exec i s = done (writeRow (.commit h) k d s)) : GivesStatus i s sDenied (noteLast h 2 k sDenied s) := by
  have hk : classesAt s k = some r.1 := by rw [classesAt_base ho, hr]; rfl
  rw [GivesStatus, Gives, hi, writeRow_commit hl, armCommit_denied hk (Or.inr ha)]
  rfl

/-! ### Words that are stored -/

/-- A word that reaches its register and is taken by it is OK. -/
theorem registerWrite_stores {a : Access} {addr : BitVec 12} {k : Nat} {d : D28} {s x : State} {r : RegInfo} (hk : addr.toNat = k)
    (hm : MayStore s a k) (hi : baseInfo s k = some r) (hr : resv r.2 d = false) (hd : hasDirect r.1 = true)
    (he : effect a k d s = (sOk, x)) : GivesStatus (.registerWrite a addr d) s sOk x := by
  subst hk
  have hres : resv (reservedAt s addr.toNat) d = false := by rw [reservedAt, hi]; exact hr
  exact registerWrite_gives (writeRow_stores hm (by rw [hi]; rfl) hres hd he)

/-- The word of a register that CORE owns. -/
theorem registerWrite_core {a : Access} {addr : BitVec 12} {k : Nat} {d : D28} {s x : State} {r : RegInfo} (hk : addr.toNat = k)
    (hm : MayStore s a k) (hi : baseInfo s k = some r) (hr : resv r.2 d = false) (hd : hasDirect r.1 = true)
    (hs : domainStopped s k = false) (ho : ownEffect a k d s = (sOk, x)) : GivesStatus (.registerWrite a addr d) s sOk x :=
  registerWrite_stores hk hm hi hr hd ((effect_own hs).trans ho)

/-! ### Registers of class K -/

/-- The fault collector's two K registers (07 R187, R204). -/
theorem fltInfo_sticky (w : Fin 5) : fltInfo (0x10 + w) = some ([.k], 0xF000000) := by
  revert w; decide

theorem fltInfo_conseq (w : Fin 5) : fltInfo (0x1F + w) = some ([.k], 0xF000000) := by
  revert w; decide

theorem fltWrite_sticky (a : Access) (w : Fin 5) (d : D28) (s : State) :
    fltWrite a (0x10 + w) d s = (sOk, s.onFlt fun f => { f with sticky := clearWord f.sticky w d }) := by
  have hw : 0x10 + w.val - 0x10 = w.val := by omega
  simp (disch := omega) only [fltWrite, if_neg, if_pos, Bool.and_eq_true, decide_eq_true_eq, hw]

theorem fltWrite_conseq (a : Access) (w : Fin 5) (d : D28) (s : State) :
    fltWrite a (0x1F + w) d s = (sOk, s.onFlt fun f => { f with conseq := clearWord f.conseq w d }) := by
  have hw : 0x1F + w.val - 0x1F = w.val := by omega
  simp (disch := omega) only [fltWrite, if_neg, if_pos, Bool.and_eq_true, decide_eq_true_eq, hw]

/-- What a running GUARD gets from a word of FLT_STICKY, and what its mirror shows at once. -/
theorem ownEffect_sticky {a : Access} {k : Nat} (w : Fin 5) (d : D28) (s : State) (hk : k = 0x090 + w.val) :
    ownEffect a k d s = (sOk, s.onFlt fun f => { f with sticky := clearWord f.sticky w d }) := by
  have ho : k - 0x80 = 0x10 + w.val := by omega
  rw [ownEffect_flt (by omega) (by omega), ho, fltWrite_sticky]

theorem ownEffect_conseq {a : Access} {k : Nat} (w : Fin 5) (d : D28) (s : State) (hk : k = 0x09F + w.val) :
    ownEffect a k d s = (sOk, s.onFlt fun f => { f with conseq := clearWord f.conseq w d }) := by
  have ho : k - 0x80 = 0x1F + w.val := by omega
  rw [ownEffect_flt (by omega) (by omega), ho, fltWrite_conseq]

theorem baseInfo_sticky {s : State} {k : Nat} (w : Fin 5) (hk : k = 0x090 + w.val) : baseInfo s k = some ([.k], 0xF000000) := by
  have ho : k - 0x80 = 0x10 + w.val := by omega
  rw [baseInfo_flt (by omega) (by omega), ho, fltInfo_sticky]

theorem baseInfo_conseq {s : State} {k : Nat} (w : Fin 5) (hk : k = 0x09F + w.val) : baseInfo s k = some ([.k], 0xF000000) := by
  have ho : k - 0x80 = 0x1F + w.val := by omega
  rw [baseInfo_flt (by omega) (by omega), ho, fltInfo_conseq]

/-- A word of TMRt_STAT clears the two bits of class K that are one in it. -/
theorem ownEffect_tmrStat {a : Access} {k : Nat} (t : Fin 20) (d : D28) (s : State) (hk : k = 0x105 + 8 * t.val) :
    ownEffect a k d s = (sOk, s.onTm t fun m => { m with
      claprepl := m.claprepl && !bitAt d 25, loadReject := m.loadReject && !bitAt d 24 }) :=
  ownEffect_tmr (o := 5) t.isLt (by omega) (by omega)

theorem baseInfo_tmrStat {s : State} {k : Nat} (t : Fin 20) (hk : k = 0x105 + 8 * t.val) :
    baseInfo s k = some ([.v, .k], 0x007FFFF) := baseInfo_tmr (o := 5) t.isLt (by omega) (by omega)

theorem mirrored_tmrStat {k : Nat} (t : Fin 20) (hk : k = 0x105 + 8 * t.val) : mirrored k = true := by
  simp [mirrored, isStat]; omega

theorem mirrored_sticky {k : Nat} (w : Fin 5) (hk : k = 0x090 + w.val) : mirrored k = true := by
  simp [mirrored]; omega

/-- The reserved masks of the K registers lie within the fields that the words leave zero. -/
theorem resv_top4 {d : D28} (h : fld d 27 24 = 0) : resv 0xF000000 d = false := resv_of_fld h (by decide)

theorem resv_tmrStat {d : D28} (h : fld d 18 0 = 0) : resv 0x007FFFF d = false := resv_of_fld h (by decide)

theorem resv_tbaseStat {d : D28} (h : fld d 27 5 = 0) : resv 0xFFFFFE0 d = false := resv_of_fld h (by decide)

/-- CLK_STAT reserves bit 0 beside DATA[27:12]. -/
theorem resv_clkStat {d : D28} (h : fld d 27 12 = 0) (h0 : bitAt d 0 = false) : resv 0xFFFF001 d = false := by
  refine resv_eq_false fun i hi hb => ?_
  have hi' : i = 0 ∨ 12 ≤ i := (by decide : ∀ i < 28, Nat.testBit 0xFFFF001 i = true → i = 0 ∨ 12 ≤ i) i hi hb
  rcases hi' with rfl | hi'
  · exact h0
  · exact bitAt_of_fld h hi' (by omega)

/-! ### DUTY (04 R90) -/

/-- A word of TMRt_DUTY in ticks enters its shadow. -/
theorem ownEffect_duty {a : Access} {k : Nat} (t : Fin 20) (d : D28) (s : State) (hk : k = 0x102 + 8 * t.val) (hf : (s.tm t).func = 1) :
    ownEffect a k d s = (sOk, s.onTm t fun m => { m with dutySh := d }) := by
  rw [ownEffect_tmr (o := 2) t.isLt (by omega) (by omega)]
  simp [tmrWrite, writeDuty, hf]

/-- Settles O49: the judgement by its order, then each K register by its block and its domain. -/
theorem registerWriteIsJudgedInOrder : Obligations.RegisterWriteIsJudgedInOrder := by
  unfold Obligations.RegisterWriteIsJudgedInOrder
  refine ⟨?noReg, ?format, ?denied, ?armDenied, ?dbgDenied, ?duty, ?lost, ?directRows, ?lostHeld, ?clearOnes, ?clearWord, ?sticky, ?conseq,
    ?prot, ?tmrStat, ?portStat, ?kCore, ?stickyHeld, ?tmrStatHeld⟩
  case noReg =>
    intro h addr d s hl hk
    exact ⟨registerWrite_gives (by rw [writeRow_write hl, hostWrite_noReg hk]),
      registerWrite_gives (by rw [writeRow_commit hl, armCommit_noReg hk])⟩
  case format =>
    intro h addr d cs s hl hk hr
    exact registerWrite_gives (by rw [writeRow_write hl, hostWrite_format hk hr])
  case denied =>
    intro h addr d cs s hl hk hr hw
    exact registerWrite_gives (by rw [writeRow_write hl, hostWrite_denied hk hr hw])
  case armDenied =>
    intro h addr d cs s hl hk hw
    exact registerWrite_gives (by rw [writeRow_commit hl, armCommit_denied hk hw])
  case dbgDenied =>
    intro addr d cs s hc ht hk hr hd
    exact registerWrite_gives (by rw [writeRow_dbg hc ht, dbgWord_denied hk hr hd])
  case duty =>
    intro a t d s hm h0 ht hf
    have hk : (BitVec.ofNat 12 (0x102 + 8 * t)).toNat = 0x102 + 8 * t.val := by
      rw [BitVec.toNat_ofNat]; omega
    have hi : baseInfo s (0x102 + 8 * t) = some ([.l], 0xF000000) := by
      rw [baseInfo_tmr (o := 2) t.isLt (by omega) (by omega), ht]; rfl
    exact registerWrite_core hk hm hi (resv_top4 h0) rfl (domainStopped_core (by omega)) (ownEffect_duty t d s rfl hf)
  case lost =>
    intro a d s hm h0 hs
    have hrun : domainStopped s 0x1A1 = false := (domainStopped_time (by omega)).trans hs
    exact registerWrite_core (k := 0x1A1) (r := ([.v, .k], 0xFFFFFE0)) rfl hm rfl (resv_tbaseStat h0) rfl hrun rfl
  case directRows =>
    rintro h i addr s hl ho (⟨n, hi, rfl⟩ | ⟨n, d, rfl, rfl⟩ | ⟨t, d, rfl, rfl⟩ | ⟨t, d, rfl, rfl⟩ | ⟨hi, rfl⟩ | ⟨⟨d, rfl⟩, rfl⟩ | ⟨hi, rfl⟩ |
      ⟨⟨d, rfl⟩, rfl⟩ | ⟨⟨d, rfl⟩, rfl⟩ | ⟨hi, rfl⟩)
    · have hc := baseInfo_ch (s := s) (o := 0) n.isLt (by omega) rfl
      rcases hi with rfl | rfl | ⟨c, rfl⟩ <;> exact armDenied_gives hl ho hc rfl rfl
    · exact armDenied_gives hl ho (baseInfo_ch (o := 4) n.isLt (by omega) (by omega)) rfl rfl
    · exact armDenied_gives hl ho (baseInfo_tmr (o := 1) t.isLt (by omega) (by omega)) rfl rfl
    · exact armDenied_gives hl ho (baseInfo_tmr (o := 4) t.isLt (by omega) (by omega)) rfl rfl
    · rcases hi with ⟨k, rfl⟩ | rfl <;> exact armDenied_gives (r := ([.x], 0xFE00000)) hl ho rfl rfl rfl
    · exact armDenied_gives (r := ([.x], 0xFFF0C00)) hl ho rfl rfl rfl
    · rcases hi with ⟨g, rfl⟩ | rfl <;> exact armDenied_gives (r := ([.x], 0xFFFFFF8)) hl ho rfl rfl rfl
    · exact armDenied_gives (r := ([.x], 0)) hl ho rfl rfl rfl
    · exact armDenied_gives (r := ([.x], 0xFFFF800)) hl ho rfl rfl rfl
    · rcases hi with rfl | rfl | ⟨k, rfl⟩ <;> exact armDenied_gives (r := ([.x], 0xFFFFF00)) hl ho rfl rfl rfl
  case lostHeld =>
    intro a d s hm h0 hs
    have hstop : domainStopped s 0x1A1 = true := (domainStopped_time (by omega)).trans hs
    exact registerWrite_stores (k := 0x1A1) (r := ([.v, .k], 0xFFFFFE0)) rfl hm rfl (resv_tbaseStat h0) rfl (effect_mirrored hstop rfl rfl)
  case clearOnes => exact fun w m d lo i => getLsbD_clearOnes m d lo
  case clearWord => exact fun m w i d => getLsbD_clearWord m w d
  case sticky =>
    intro a addr w d s hk hm h0 hs
    have hrun : domainStopped s addr.toNat = false := (domainStopped_flt (by omega) (by omega)).trans hs
    exact registerWrite_core rfl hm (baseInfo_sticky w hk) (resv_top4 h0) rfl hrun (ownEffect_sticky w d s hk)
  case conseq =>
    intro a addr w d s hk hm h0 hs
    have hrun : domainStopped s addr.toNat = false := (domainStopped_flt (by omega) (by omega)).trans hs
    exact registerWrite_core rfl hm (baseInfo_conseq w hk) (resv_top4 h0) rfl hrun (ownEffect_conseq w d s hk)
  case prot =>
    intro a addr n d s hk hm h0
    have hi : baseInfo s addr.toNat = some ([.v, .k], 0xFFFF800) := baseInfo_ch (o := 12) n.isLt (by omega) (by omega)
    exact registerWrite_core rfl hm hi (resv_of_fld h0 (by decide)) rfl (domainStopped_core (by omega))
      (ownEffect_ch (o := 12) n.isLt (by omega) (by omega))
  case tmrStat =>
    intro a addr t d s hk hm h0 hs
    have hrun : domainStopped s addr.toNat = false := (domainStopped_time (by omega)).trans hs
    exact registerWrite_core rfl hm (baseInfo_tmrStat t hk) (resv_tmrStat h0) rfl hrun (ownEffect_tmrStat t d s hk)
  case portStat =>
    intro a addr p d s hk hm h0
    rw [hk] at hm
    cases p <;>
      exact registerWrite_core (r := ([.v, .k], 0x1FFFF00)) hk hm rfl (resv_of_fld h0 (by decide)) rfl (domainStopped_core (by simp [portIx])) rfl
  case kCore =>
    intro a d s
    have hrun : ∀ k, 0x3C0 ≤ k → domainStopped s k = false := fun k hk => domainStopped_core (by omega)
    refine ⟨fun hm => ?nvs, fun hm h0 => ?hold, fun hm h0 h1 => ?clk, fun hm => ?bist, fun hm h0 => ?flash, fun hm h0 => ?meas⟩
    case nvs =>
      exact registerWrite_core (k := 0x6C0) (r := ([.v, .k], 0)) rfl hm rfl (resv_zero d) rfl (hrun _ (by omega)) rfl
    case hold =>
      exact registerWrite_core (k := 0x6E0) (r := ([.v, .k], 0x03FFFFF)) rfl hm rfl (resv_of_fld h0 (by decide)) rfl (hrun _ (by omega)) rfl
    case clk =>
      exact registerWrite_core (k := 0x7C0) (r := ([.v, .k], 0xFFFF001)) rfl hm rfl (resv_clkStat h0 h1) rfl (hrun _ (by omega)) rfl
    case bist =>
      exact registerWrite_core (k := 0x682) (r := ([.v, .k], 0)) rfl hm rfl (resv_zero d) rfl (hrun _ (by omega)) rfl
    case flash =>
      exact registerWrite_core (k := 0x741) (r := ([.v, .k], 0x0003800)) rfl hm rfl (resv_of_fld h0 (by decide)) rfl (hrun _ (by omega)) rfl
    case meas =>
      exact registerWrite_core (k := 0x3CD) (r := ([.v, .k], 0xF000000)) rfl hm rfl (resv_top4 h0) rfl (hrun _ (by omega)) rfl
  case stickyHeld =>
    intro a addr w d s hk hm h0 hs
    have hstop : domainStopped s addr.toNat = true := (domainStopped_flt (by omega) (by omega)).trans hs
    exact registerWrite_stores rfl hm (baseInfo_sticky w hk) (resv_top4 h0) rfl
      (effect_mirrored hstop (mirrored_sticky w hk) (ownEffect_sticky w d s hk))
  case tmrStatHeld =>
    intro a addr t d s hk hm h0 hs
    have hstop : domainStopped s addr.toNat = true := (domainStopped_time (by omega)).trans hs
    exact registerWrite_stores rfl hm (baseInfo_tmrStat t hk) (resv_tmrStat h0) rfl
      (effect_mirrored hstop (mirrored_tmrStat t hk) (ownEffect_tmrStat t d s hk))

end Sys2Proof.Machine

/-! The aftermath of a command makes a state safe, and no command answers without it (01 R18, 02 R23, R32, R44, R49, 06 R142, 07 R183, R195, R200, R201, 13 R345, R445). -/

namespace Sys2Proof.Machine

/-! ### Every command ends in the aftermath -/

/-- Whatever the command, its outcome is a state of its own with the aftermath done. -/
theorem exec_gives (i : Instr) (s : State) : ∃ x, Gives i s x := by
  cases i <;> exact ⟨_, rfl⟩

/-- What a command answers has had the aftermath. -/
theorem settled_of_exec {i : Instr} {s t : State} (h : exec i s = .next t) : ∃ x, t = settle x := by
  obtain ⟨x, hx⟩ := exec_gives i s
  exact ⟨x, Host.Outcome.next.inj (h.symm.trans hx)⟩

/-- An invariant that the aftermath sets up holds after every step that leaves a state with it. -/
theorem step_keeps_of_settle {P : State → Prop} (hP : ∀ x, P (settle x)) {s t : State} (hs : P s) (h : step s = .next t) : P t := by
  unfold step at h
  split at h
  · exact Host.Outcome.next.inj h ▸ hs
  · obtain ⟨x, rfl⟩ := settled_of_exec h
    exact hP x

/-! ### The clamps (02 R23, R32, R44, R49, 06 R142) -/

/-- A channel with every gate off meets every guard. -/
theorem Chan.guarded_of_off {off held : Bool} {c : Chan} (hs : c.hs = 0) (hf : c.fw = .off) : c.guarded off held :=
  ⟨fun _ => hs, by simp [hs], by simp [hs], fun _ => hf, fun _ => hf⟩

/-- What the clamps let pass of the high sides lies outside each mask that they take out. -/
theorem clampChan_hs_and (off held : Bool) (c : Chan) :
    (clampChan off held c).hs &&& c.retired = 0 ∧ (clampChan off held c).hs &&& c.tripped = 0 := by
  unfold clampChan
  dsimp only
  split
  · exact ⟨BitVec.zero_and, BitVec.zero_and⟩
  · constructor <;>
    · ext i
      simp only [BitVec.getElem_and, BitVec.getElem_not]
      grind

theorem clampChan_guarded (off held : Bool) (c : Chan) : (clampChan off held c).guarded off held := by
  obtain ⟨hret, htrip⟩ := clampChan_hs_and off held c
  refine ⟨fun h => if_pos h, hret, htrip, fun h => if_pos ?_, fun h => if_pos ?_⟩
  · simpa [clampChan] using Or.inl (Or.inl h)
  · have h' : (c.stuck || held) = true := h
    simp only [Bool.or_eq_true, decide_eq_true_eq] at h' ⊢
    tauto

/-- Which gates are held depends on the running tests, the collector, and a channel's mode and retry machine alone. -/
theorem gatesHeld_congr {s t : State} {n : Nat} (hb : t.bist = s.bist) (hf : t.flt = s.flt) (ht : (t.ch n).topo = (s.ch n).topo)
    (hr : (t.ch n).retry = (s.ch n).retry) : gatesHeld t n = gatesHeld s n := by
  simp only [gatesHeld, underTest, halfHeld, rank3, Chan.baseMode, hb, hf, ht, hr]

theorem gatesHeld_clampGates (s : State) (n : Nat) : gatesHeld (clampGates s) n = gatesHeld s n := by
  have hc : ∀ {α : Type} (g : Chan → α), (∀ off held c, g (clampChan off held c) = g c) → g ((clampGates s).ch n) = g (s.ch n) := by
    intro α g hg
    simp only [clampGates, State.ch, List.getD, List.getElem?_mapIdx]
    cases s.chans[n]? <;> simp [hg]
  exact gatesHeld_congr rfl rfl (hc Chan.topo fun _ _ _ => rfl) (hc Chan.retry fun _ _ _ => rfl)

theorem gatesHeld_noteGates (s : State) (n : Nat) : gatesHeld (noteGates s) n = gatesHeld s n := by
  refine gatesHeld_congr rfl rfl ?_ ?_ <;>
  · simp only [noteGates, State.onChans, State.ch, List.getD, List.getElem?_map]
    cases s.chans[n]? <;> rfl

/-- The clamps make the gates safe. -/
theorem gatesSafe_clampGates (s : State) : GatesSafe (clampGates s) := by
  intro n c hc
  rw [gatesHeld_clampGates]
  simp only [clampGates, List.getElem?_mapIdx, Option.map_eq_some_iff] at hc
  obtain ⟨c, -, rfl⟩ := hc
  exact clampChan_guarded _ _ c

/-- Noting what the gates have come to moves none. -/
theorem gatesSafe_noteGates {s : State} (h : GatesSafe s) : GatesSafe (noteGates s) := by
  intro n c hc
  rw [gatesHeld_noteGates]
  simp only [noteGates, State.onChans, List.getElem?_map, Option.map_eq_some_iff] at hc
  obtain ⟨c, hc, rfl⟩ := hc
  exact h n c hc

/-! ### The pins (07 R200, R201, 13 R445, 15 R385) -/

/-- A host event is noted in the sessions alone. -/
theorem eventAt_eq (p : Port) (tag : Nat) (s : State) : ∃ e, eventAt p tag s = { s with ses := e } := by
  unfold eventAt
  split
  · exact ⟨_, rfl⟩
  · exact ⟨s.ses, rfl⟩

theorem event_eq (tag : Nat) (s : State) : ∃ e, event tag s = { s with ses := e } := by
  obtain ⟨e0, h0⟩ := eventAt_eq .h0 tag s
  obtain ⟨e1, h1⟩ := eventAt_eq .h1 tag { s with ses := e0 }
  exact ⟨e1, by rw [event, h0, h1]⟩

/-- HEALTH takes its level, and nothing changes beside it but the sessions' event tags. -/
theorem driveHealth_eq (s : State) : ∃ e, driveHealth s =
    { s with ses := e, flt := { s.flt with health := healthAllowed s && !s.pins.lostHG && !s.pins.lostHC } } := by
  unfold driveHealth
  dsimp only
  split
  · next h => exact ⟨s.ses, by rw [eq_of_beq h]⟩
  · obtain ⟨e, he⟩ := event_eq 29 (s.onFlt fun f => { f with health := healthAllowed s && !s.pins.lostHG && !s.pins.lostHC })
    exact ⟨e, he⟩

/-- HEALTH, the permits and the pads, driven in this order, are as their rules say. -/
theorem pinsSafe_driven (s : State) : PinsSafe (drivePads (drivePermits (driveHealth s))) := by
  obtain ⟨e, he⟩ := driveHealth_eq s
  rw [he]
  exact ⟨rfl, rfl, rfl, rfl⟩

/-- Driving the pins moves no gate. -/
theorem gatesSafe_driven {s : State} (h : GatesSafe s) : GatesSafe (drivePads (drivePermits (driveHealth s))) := by
  obtain ⟨e, he⟩ := driveHealth_eq s
  rw [he]
  exact h

/-- The conditions of 07 R200, one by one. -/
theorem permitsAllowed_iff (s : State) : permitsAllowed s = true ↔ s.dev.fpermit = true ∧ s.flt.safe = false ∧
    (∀ h ∈ s.flt.holds, h.perm = false) ∧ (s.limp.active = false ∨ s.limp.permKeep = true) := by
  simp [permitsAllowed, permHold, and_assoc]

/-- The conditions of 07 R201, one by one. -/
theorem healthAllowed_iff (s : State) : healthAllowed s = true ↔ s.dev.fpermit = true ∧ s.flt.safe = false ∧
    ∀ r ∈ s.flt.records, r.state = .clear := by
  simp [healthAllowed, noneOutstanding, and_assoc]

/-! ### Safety -/

/-- The aftermath of a command leaves the gates safe: the clamps make them so, and what follows them moves no gate. -/
theorem gatesSafe_settle (s : State) : GatesSafe (settle s) := by
  have hn : ∀ x, GatesSafe x → GatesSafe (noteQuiet x) := fun _ h => h
  exact gatesSafe_driven (hn _ (gatesSafe_noteGates (gatesSafe_clampGates _)))

theorem safe_settle (s : State) : Safe (settle s) :=
  ⟨gatesSafe_settle s, pinsSafe_driven _, leaseJudged_settle s⟩

theorem safe_of_exec {i : Instr} {s t : State} (h : exec i s = .next t) : Safe t := by
  obtain ⟨x, rfl⟩ := settled_of_exec h
  exact safe_settle x

/-- Settles O55: every command ends in the aftermath, which makes any state safe; the levels of the pins are then those of R200 and R201. -/
theorem everyStepKeepsSafe : Obligations.EveryStepKeepsSafe := by
  unfold Obligations.EveryStepKeepsSafe
  refine ⟨fun i s t => safe_of_exec, fun s t => step_keeps_of_settle safe_settle, fun i s t h => ?_⟩
  obtain ⟨-, ⟨h0, h1, hh, -⟩, -⟩ := safe_of_exec h
  simp only [h0, h1, hh, Bool.and_eq_true, Bool.not_eq_true', permitsAllowed_iff, healthAllowed_iff, and_assoc, true_and]

/-- In reset every gate is off and clamped (01 R18). -/
theorem gatesSafe_start (otp : Otp) (store : Store) : GatesSafe (State.start otp store) := by
  intro n c hc
  obtain rfl : c = Chan.reset := List.eq_of_mem_replicate (List.mem_of_getElem? hc)
  exact Chan.guarded_of_off rfl rfl

/-- Settles O54: no gate is on, no permit and no HEALTH is given, no key is provisioned, and the log is the store's. -/
theorem resetIsSafe : Obligations.ResetIsSafe := by
  unfold Obligations.ResetIsSafe
  intro otp store
  have hpins : PinsSafe (State.start otp store) := ⟨rfl, rfl, rfl, rfl⟩
  have hprov : (State.start otp store).trust.provKey = none := rfl
  exact ⟨⟨gatesSafe_start otp store, hpins, rfl⟩, fun _ _ => hprov,
    fun h => ⟨h, Nat.zero_le _, Nat.zero_le _, fun hr => nomatch hr⟩⟩

end Sys2Proof.Machine

/-! Channels after a step: what an update of some channels leaves of each, what `State.still` tells of it, and how a command's outcome is shown. -/

namespace Sys2Proof.Machine

/-! ### Reads of a channel -/

/-- Channel k after an update of channel n. -/
theorem ch_onCh_eq (s : State) (n k : Nat) (f : Chan → Chan) :
    (s.onCh n f).ch k = if n = k ∧ k < s.chans.length then f (s.ch k) else s.ch k := by
  by_cases hn : n = k
  · subst hn
    by_cases hl : n < s.chans.length
    · rw [ch_onCh s n f hl, if_pos ⟨rfl, hl⟩]
    · simp [State.onCh, State.ch, hl]
  · rw [ch_onCh_ne s n k f hn, if_neg fun h => hn h.1]

/-- Beyond the channels there is a channel in reset. -/
theorem ch_of_length_le {s : State} {k : Nat} (h : s.chans.length ≤ k) : s.ch k = Chan.reset := by
  simp [State.ch, List.getD, h]

/-- A channel that is not as in reset is one of the die's. -/
theorem lt_length_of_ch_ne {s : State} {k : Nat} (h : s.ch k ≠ Chan.reset) : k < s.chans.length :=
  not_le.mp fun hk => h (ch_of_length_le hk)

theorem lt_length_of_hs {s : State} {k : Nat} (h : (s.ch k).hs ≠ 0) : k < s.chans.length :=
  lt_length_of_ch_ne fun e => h (by rw [e]; rfl)

/-- An update counts for what it makes of the channel as it stands. -/
theorem onCh_congr {s : State} {n : Nat} {f g : Chan → Chan} (h : f (s.ch n) = g (s.ch n)) : s.onCh n f = s.onCh n g := by
  have hl : s.chans.modify n f = s.chans.modify n g := by
    apply List.ext_getElem?
    intro i
    rw [List.getElem?_modify, List.getElem?_modify]
    by_cases hi : n = i
    · subst hi
      cases hc : s.chans[n]? with
      | none => rfl
      | some c =>
        have hch : s.ch n = c := by simp [State.ch, List.getD, hc]
        simp [← hch, h]
    · simp [hi]
  rw [State.onCh, State.onCh, hl]

theorem onCh_id {s : State} {n : Nat} {f : Chan → Chan} (h : f (s.ch n) = s.ch n) : s.onCh n f = s := by
  have hid : s.onCh n (fun c => c) = s := by
    have hl : s.chans.modify n (fun c => c) = s.chans := by
      apply List.ext_getElem?
      intro i
      rw [List.getElem?_modify]
      simp
    rw [State.onCh, hl]
  rw [onCh_congr (g := fun c => c) h, hid]

theorem onCh_onCh (s : State) (n : Nat) (f g : Chan → Chan) : (s.onCh n f).onCh n g = s.onCh n fun c => g (f c) := by
  have hl : (s.chans.modify n f).modify n g = s.chans.modify n fun c => g (f c) := by
    apply List.ext_getElem?
    intro i
    simp only [List.getElem?_modify]
    split <;> cases s.chans[i]? <;> rfl
  simp only [State.onCh, hl]

/-! ### A run of updates -/

/-- What every update keeps, the run keeps. -/
theorem forEach_keeps {α β : Type} {g : State → β} {f : α → State → State} (h : ∀ a t, g (f a t) = g t) (l : List α) (s : State) :
    g (forEach l f s) = g s := by
  induction l generalizing s with
  | nil => rfl
  | cons a l ih => exact (ih (f a s)).trans (h a s)

@[simp] theorem forEach_nil {α : Type} (f : α → State → State) (s : State) : forEach [] f s = s := rfl

theorem forEach_cons {α : Type} (a : α) (l : List α) (f : α → State → State) (s : State) : forEach (a :: l) f s = forEach l f (f a s) := rfl

/-- A run over channels, each once, changes just those. What an update takes from the state may be read beforehand (`P` says that it stands). -/
theorem ch_forEach {F : State → Nat → Chan → Chan} {g : Nat → Chan → Chan} {P : State → Prop} {l : List Nat} (hl : l.Nodup)
    (hP : ∀ t n, P t → P (t.onCh n (F t n))) (hF : ∀ t n, P t → F t n (t.ch n) = g n (t.ch n)) {s : State} (h0 : P s) (k : Nat) :
    (forEach l (fun n t => t.onCh n (F t n)) s).ch k = if k ∈ l ∧ k < s.chans.length then g k (s.ch k) else s.ch k := by
  induction l generalizing s with
  | nil => simp
  | cons a l ih =>
    obtain ⟨ha, hl⟩ := List.nodup_cons.mp hl
    rw [forEach_cons, ih hl (hP s a h0), onCh_length, ch_onCh_eq]
    by_cases hk : a = k
    · subst hk
      simp [ha, hF s a h0]
    · have hk' : k ≠ a := fun e => hk e.symm
      simp [hk, hk']

/-- A run whose updates take nothing from the state. -/
theorem ch_forEach_const {g : Nat → Chan → Chan} {l : List Nat} (hl : l.Nodup) (s : State) (k : Nat) :
    (forEach l (fun n t => t.onCh n (g n)) s).ch k = if k ∈ l ∧ k < s.chans.length then g k (s.ch k) else s.ch k :=
  ch_forEach (F := fun _ n => g n) (P := fun _ => True) hl (fun _ _ _ => trivial) (fun _ _ _ => rfl) trivial k

@[simp] theorem forEachCh_length {F : State → Nat → Chan → Chan} (l : List Nat) (s : State) :
    (forEach l (fun n t => t.onCh n (F t n)) s).chans.length = s.chans.length :=
  forEach_keeps (g := fun t => t.chans.length) (fun _ _ => onCh_length _ _ _) l s

/-- A field that each update of a run keeps. -/
theorem forEachCh_keep {α : Type} (g : Chan → α) {F : State → Nat → Chan → Chan} (h : ∀ t n c, g (F t n c) = g c) (l : List Nat) (s : State) (k : Nat) :
    g ((forEach l (fun n t => t.onCh n (F t n)) s).ch k) = g (s.ch k) :=
  forEach_keeps (g := fun t => g (t.ch k)) (fun n t => ch_onCh_keep g t n k _ (h t n)) l s

/-! ### What `State.still` tells -/

theorem chans_length_of_still {s t : State} (h : t.still = s.still) : t.chans.length = s.chans.length := by
  have hc := congrArg (fun x => x.chans.length) h
  simpa [State.still] using hc

theorem ch_still_of_still {s t : State} (h : t.still = s.still) (k : Nat) : (t.ch k).still = (s.ch k).still := by
  have hc : t.chans.map Chan.still = s.chans.map Chan.still := congrArg State.chans h
  have hk := congrArg (fun l => l[k]?) hc
  simp only [List.getElem?_map] at hk
  simp only [State.ch, List.getD]
  cases ht : t.chans[k]? <;> cases hs : s.chans[k]? <;> simp_all

/-- A field of the channels that `Chan.still` leaves as it is. -/
theorem ch_keeps {α : Type} (g : Chan → α) (hg : ∀ c : Chan, g c.still = g c) {s t : State} (h : t.still = s.still) (k : Nat) :
    g (t.ch k) = g (s.ch k) := by
  rw [← hg (t.ch k), ch_still_of_still h k, hg]

/-- A part of the state that `State.still` leaves as it is. -/
theorem still_keeps {α : Type} (g : State → α) (hg : ∀ s : State, g s.still = g s) {s t : State} (h : t.still = s.still) : g t = g s := by
  rw [← hg t, h, hg]

/-- An update of one channel carries over to states that agree on `State.still`. -/
theorem still_onCh_congr {s t : State} {n : Nat} {f g : Chan → Chan} (h : t.still = s.still)
    (hf : ∀ c d : Chan, c.still = d.still → (f c).still = (g d).still) : (t.onCh n f).still = (s.onCh n g).still := by
  have hc : t.chans.map Chan.still = s.chans.map Chan.still := congrArg State.chans h
  have hm : (t.chans.modify n f).map Chan.still = (s.chans.modify n g).map Chan.still := by
    apply List.ext_getElem?
    intro i
    have hi := congrArg (fun l => l[i]?) hc
    simp only [List.getElem?_map] at hi
    simp only [List.getElem?_map, List.getElem?_modify]
    split <;> cases ht : t.chans[i]? <;> cases hs : s.chans[i]? <;> simp_all
    exact hf _ _ hi
  have he : (t.onCh n f).still = { t.still with chans := (t.chans.modify n f).map Chan.still } := rfl
  rw [he, hm, h]
  rfl

/-! ### Units -/

/-- Who leads whom is a matter of the TOPO words alone (08 R230). -/
theorem leader_congr {s t : State} {k : Nat} (h : (t.ch k).topo = (s.ch k).topo) : leader t k = leader s k := by
  simp only [leader, Chan.baseMode, Chan.group, h] <;> rfl

theorem members_congr {s t : State} (h : ∀ k, (t.ch k).topo = (s.ch k).topo) (u : Nat) : members t u = members s u := by
  simp only [members, fun k => leader_congr (h k)]

theorem isBridge_congr {s t : State} {u : Nat} (h : (t.ch u).topo = (s.ch u).topo) : isBridge t u = isBridge s u := by
  simp only [isBridge, Chan.baseMode, h]

theorem members_nodup (s : State) (u : Nat) : (members s u).Nodup := List.nodup_range.filter _

/-! ### Outcomes -/

theorem gives_of_eq {i : Instr} {s x y : State} (hi : exec i s = done y) (h : y = x) : Gives i s x := h ▸ hi

theorem completes_of_still {i : Instr} {s x y : State} (hi : exec i s = done y) (h : y.still = x.still) : Completes i s x :=
  ⟨settle y, hi, (still_settle y).trans h⟩

theorem raises_of_still {i : Instr} {s x y : State} {srcs : List Nat} (hi : exec i s = done y) (h : y.still = x.still)
    (hs : ∀ k ∈ srcs, seen y k) : Raises i s x srcs :=
  ⟨settle y, hi, (still_settle y).trans h, fun k hk => settle_seen (hs k hk)⟩

/-- A channel of a settled state is guarded as its latches stand (`Safe`). -/
theorem settle_guarded (s : State) {n : Nat} (h : n < s.chans.length) : ((settle s).ch n).guarded
    (gatesBarred (settle s)) (gatesHeld (settle s) n) := by
  have hl : n < (settle s).chans.length := by rw [chans_length_of_still (still_settle s)]; exact h
  refine gatesSafe_settle s n _ ?_
  simp [State.ch, List.getD, hl]

/-- After the aftermath no high side is on behind a trip latch, and no retired segment is (02 R44, 06 R142). -/
theorem settle_hs_of_latch {s : State} {n : Nat} (h : n < s.chans.length)
    (hl : ((s.ch n).scLatch || (s.ch n).hsLatch || (s.ch n).dsLatch) = true) : ((settle s).ch n).hs = 0 := by
  obtain ⟨hoff, -⟩ := settle_guarded s h
  have hk := ch_keeps (fun c => c.scLatch || c.hsLatch || c.dsLatch) (fun _ => rfl) (still_settle s) n
  apply hoff
  simp only [← hk, Bool.or_eq_true] at hl ⊢
  tauto

theorem settle_hs_retired {s : State} {n i : Nat} (h : n < s.chans.length) (hr : (s.ch n).retired.getLsbD i = true) :
    ((settle s).ch n).hs.getLsbD i = false := by
  obtain ⟨-, hret, -⟩ := settle_guarded s h
  have hb := congrArg (fun m : Mask42 => m.getLsbD i) hret
  simp only [BitVec.getLsbD_and, ch_keeps Chan.retired (fun _ => rfl) (still_settle s), hr] at hb
  simpa using hb

theorem settle_fw_stuck {s : State} {n : Nat} (h : n < s.chans.length) (hk : (s.ch n).stuck = true) : ((settle s).ch n).fw = .off := by
  obtain ⟨-, -, -, -, hfw⟩ := settle_guarded s h
  exact hfw (by rw [ch_keeps Chan.stuck (fun _ => rfl) (still_settle s), hk]; rfl)

end Sys2Proof.Machine

/-! A bridge's halves and the unit that they make: the clause of O6 on both halves held is stated for every index, and fails at the half that leads no unit. -/

namespace Sys2Proof.Machine

/-- A bridge of CH0 and CH1 with structure applied, the retry machines of both halves in LOCKOUT (06 R161), and the on-request of each set. -/
def lockedBridge : State := { State.reset with
  dev := { Dev.reset with phase := .service, struct := true }
  chans := List.replicate 2 { Chan.reset with topo := 0x4000000, onReq := true, retry := { Retry.reset with state := .lockout } } ++
    List.replicate 10 Chan.reset }

/-- The second half of a bridge leads no unit, so that no channel is a member of a unit of its index. -/
theorem lockedBridge_members : members lockedBridge 1 = [] := by decide

/-- Refutes O6: its clause on a bridge all of whose members are held at rank 3 speaks of every index `u`, also of the second half of a bridge, whose index
leads no unit. There no member is held, and `wantOf` answers by CH1's own on-request. The clause holds of a unit's leader. -/
theorem not_unitsFollowWhatIsAsked : ¬ Obligations.UnitsFollowWhatIsAsked := by
  unfold Obligations.UnitsFollowWhatIsAsked
  rintro ⟨-, -, -, -, -, -, -, -, -, -, -, -, -, -, -, -, -, -, -, -, -, -, bothHalvesHeld, -⟩
  have hbridge : isBridge lockedBridge 1 = true := by decide
  have hheld : ∀ m ∈ members lockedBridge 1, rank3 lockedBridge m = true := by
    rw [lockedBridge_members]
    simp
  have hasked : (wantOf lockedBridge 1).1 ≠ .off := by decide
  exact hasked (bothHalvesHeld 1 lockedBridge hbridge hheld)

end Sys2Proof.Machine

/-! The protection registers and the exit from limp-home (02 R41, 06 R174, R176 to R178). -/

namespace Sys2Proof.Machine

/-! ### Rows that store or commit one word -/

/-- A committed pair that reaches its register: the block's answer, and its record. -/
theorem commit_gives {i : Instr} {h : Port} {k : Nat} {d : D28} {s x : State} {st : BitVec 8} {r : RegInfo} (hm : MayCommit s h k)
    (hi : baseInfo s k = some r) (hr : resv r.2 d = false) (ha : hasA r.1 = true) (he : effect (.commit h) k d s = (st, x))
    (hx : exec i s = done (writeRow (.commit h) k d s)) : GivesStatus i s st (noteLast h 3 k st x) := by
  have hres : resv (reservedAt s k) d = false := by rw [reservedAt, hi]; exact hr
  rw [GivesStatus, Gives, hx, writeRow_commits hm (by rw [hi]; rfl) hres ha he]
  rfl

/-- CORE owns every register of a channel but CHn_CTL, so that its word is its block's (13 R344). -/
theorem effect_ch {a : Access} {n o k : Nat} {d : D28} {s : State} (hn : n < 12) (h0 : 0 < o) (ho : o < 32) (hk : k = 0x200 + 32 * n + o) :
    effect a k d s = chWrite n o d s :=
  (effect_own (domainStopped_core (by omega))).trans (ownEffect_ch hn ho hk)

/-- A committed word of CHn. -/
theorem chCommit_gives {i : Instr} {h : Port} {n : Fin 12} {o : Nat} {d : D28} {s x : State} {st : BitVec 8} {r : RegInfo} (k : Nat)
    (hk : k = 0x200 + 32 * n.val + o) (ho : 0 < o ∧ o < 32) (hm : MayCommit s h k) (hi : chInfo o = some r) (hr : resv r.2 d = false)
    (ha : hasA r.1 = true) (he : chWrite n o d s = (st, x)) (hx : exec i s = done (writeRow (.commit h) k d s)) :
    GivesStatus i s st (noteLast h 3 k st x) :=
  commit_gives hm ((baseInfo_ch n.isLt ho.2 hk).trans hi) hr ha ((effect_ch n.isLt ho.1 ho.2 hk).trans he) hx

/-- A committed word of CHn that its register takes. -/
theorem chCommit_gives_ok {i : Instr} {h : Port} {n : Fin 12} {o : Nat} {d : D28} {s x : State} {r : RegInfo} (k : Nat)
    (hk : k = 0x200 + 32 * n.val + o) (ho : 0 < o ∧ o < 32) (hm : MayCommit s h k) (hi : chInfo o = some r) (hr : resv r.2 d = false)
    (ha : hasA r.1 = true) (he : chWrite n o d s = (sOk, x)) (hx : exec i s = done (writeRow (.commit h) k d s)) : GivesStatus i s sOk x := by
  rw [← noteLast_ok h 3 k x]
  exact chCommit_gives k hk ho hm hi hr ha he hx

/-! ### ILIM, SCTH and I2T (06 R176 to R178) -/

theorem writeIlim_in {n : Nat} {d : D28} {s : State} (h8 : 8 ≤ fld d 8 0) (h320 : fld d 8 0 ≤ 320) :
    writeIlim n d s = (sOk, s.onCh n fun c => { c with ilimSh := d }) := by
  simp [writeIlim, h8, h320]

theorem writeIlim_out {n : Nat} {d : D28} {s : State} (h : fld d 8 0 < 8 ∨ 320 < fld d 8 0) : writeIlim n d s = (sFormat, s) := by
  simp [writeIlim, h]

theorem writeScth_in {n : Nat} {d : D28} {s : State} (h20 : 20 ≤ fld d 7 0) (h200 : fld d 7 0 ≤ 200)
    (hl : topIlim (chLadder s n) + 40 ≤ 4 * fld d 7 0) : writeScth n d s = (sOk, s.onCh n fun c => { c with scth := d }) := by
  simp [writeScth, h20, h200, hl]

theorem writeScth_out {n : Nat} {d : D28} {s : State} (h : fld d 7 0 < 20 ∨ 200 < fld d 7 0 ∨ 4 * fld d 7 0 < topIlim (chLadder s n) + 40) :
    writeScth n d s = (sFormat, s) := by
  simp [writeScth, h, or_assoc]

theorem writeI2t_in {n : Nat} {d : D28} {s : State} (h13 : fld d 12 9 ≤ 13) (h8 : 8 ≤ fld d 8 0) (h160 : fld d 8 0 ≤ 160) :
    writeI2t n d s = (sOk, s.onCh n fun c => { c with i2t := d }) := by
  simp [writeI2t, h13, h8, h160]

theorem writeI2t_out {n : Nat} {d : D28} {s : State} (h : 13 < fld d 12 9 ∨ fld d 8 0 < 8 ∨ 160 < fld d 8 0) : writeI2t n d s = (sFormat, s) := by
  simp [writeI2t, h, or_assoc]

/-! ### The exit from limp-home (06 R174) -/

/-- BANK_LIMPEXIT while GUARD, whose register it is, runs. -/
theorem effect_limpExit {a : Access} {d : D28} {s : State} (hg : s.clk.guardStop = false) : effect a 0x3A1 d s = writeLimpExit d s := by
  have hrun : domainStopped s 0x3A1 = false := by simp [domainStopped, hg, isEdge, isStat, isCtl]
  exact (effect_own hrun).trans rfl

/-- A refusal is answered whether GUARD runs or not (13 R348). -/
theorem effect_limpExit_refused {a : Access} {d : D28} {s x : State} {st : BitVec 8} (hw : writeLimpExit d s = (st, x)) (hst : st ≠ sOk) :
    effect a 0x3A1 d s = (st, x) := by
  have ho : ownEffect a 0x3A1 d s = (st, x) := hw
  have he : isEdge 0x3A1 = false := rfl
  have hc : isCtl 0x3A1 = false := rfl
  simp [effect, heldEffect, ho, hst, he, hc]

theorem writeLimpExit_leaves {d : D28} {s : State} (hb : bitAt d 0 = true) (ha : s.limp.active = true) (he : exitOk s = true) :
    writeLimpExit d s = (sOk, leaveLimp s) := by
  simp [writeLimpExit, hb, ha, he]

theorem writeLimpExit_denied {d : D28} {s : State} (hb : bitAt d 0 = true) (ha : s.limp.active = true) (he : exitOk s = false) :
    writeLimpExit d s = (sDenied, s) := by
  simp [writeLimpExit, hb, ha, he]

theorem writeLimpExit_idle {d : D28} {s : State} (h : bitAt d 0 = false ∨ s.limp.active = false) : writeLimpExit d s = (sOk, s) := by
  rcases h with h | h <;> simp [writeLimpExit, h]

/-- The row LIMP_EXIT that its register answers. -/
theorem limpExit_gives {h : Port} {d : D28} {s x : State} {st : BitVec 8} (hm : MayCommit s h 0x3A1) (h0 : fld d 27 1 = 0)
    (he : effect (.commit h) 0x3A1 d s = (st, x)) : GivesStatus (.limpExit h d) s st (noteLast h 3 0x3A1 st x) :=
  commit_gives (r := ([.a], 0xFFFFFFE)) hm rfl (resv_of_fld h0 (by decide)) rfl he rfl

theorem limpExit_gives_ok {h : Port} {d : D28} {s x : State} (hm : MayCommit s h 0x3A1) (h0 : fld d 27 1 = 0)
    (he : effect (.commit h) 0x3A1 d s = (sOk, x)) : GivesStatus (.limpExit h d) s sOk x := by
  rw [← noteLast_ok h 3 0x3A1 x]
  exact limpExit_gives hm h0 he

theorem holderLeased_iff (s : State) : holderLeased s = true ↔ ∃ p, s.auth.holder = some p ∧ (s.ses.get p).leaseValid = true := by
  unfold holderLeased leaseValid
  cases s.auth.holder <;> simp

/-- The conditions of R174, one by one. -/
theorem exitOk_iff (s : State) : exitOk s = true ↔
    s.limp.released = true ∧ (∃ p, s.auth.holder = some p ∧ (s.ses.get p).leaseValid = true) ∧ ∀ h ∈ s.flt.holds, h.limp = false := by
  simp [exitOk, limpHold, holderLeased_iff, and_assoc]

theorem drivenOn_iff (d : Drive) : drivenOn d = true ↔ d = .steady ∨ d = .ladder ∨ ∃ t, d = .timed t := by
  cases d <;> simp [drivenOn]

/-- A host event moves no channel and no line. -/
@[simp] theorem event_ch (tag : Nat) (s : State) (k : Nat) : (event tag s).ch k = s.ch k := by
  obtain ⟨e, he⟩ := event_eq tag s
  rw [he]
  rfl

@[simp] theorem event_limp (tag : Nat) (s : State) : (event tag s).limp = s.limp := by
  obtain ⟨e, he⟩ := event_eq tag s
  rw [he]

/-- Each channel as limp-home ends. -/
theorem leaveLimp_ch {s : State} {n : Nat} (h : n < s.chans.length) : (leaveLimp s).ch n = leaveChan s n (s.ch n) := by
  rw [leaveLimp, event_ch]
  simp [onLimp, State.ch, List.getD, h]

/-- What lingers is what the map has on and no request keeps on, while its timer runs (log 129). -/
theorem leaveChan_lingers (s : State) (n : Nat) (c : Chan) : (leaveChan s n c).lingers = true ↔
    c.byLimp = true ∧ c.onReq = false ∧ drivenOn c.drive = true ∧ ∃ t, chTimer s n = some t ∧ (s.tm t).run = true := by
  unfold leaveChan
  cases chTimer s n
  · simp
  · simp only [Bool.and_eq_true, Bool.not_eq_true', Option.some.injEq, exists_eq_left']
    tauto

/-- A unit that lingers is asked to stay as it was (R174). -/
theorem wantOf_lingers {s : State} {u : Nat} (hl : (s.ch u).lingers = true) (hq : (s.ch u).onReq = false) (ha : s.limp.active = false)
    (hs : s.dev.struct = true) (hf : s.flt.safe = false) (hm : ∀ m ∈ members s u, rank2 (s.ch m) = false ∧ rank3 s m = false) :
    wantOf s u = ((s.ch u).want, true) := by
  have h2 : (members s u).any (fun n => rank2 (s.ch n)) = false := List.any_eq_false.mpr fun m h => by simp [(hm m h).1]
  have h3 : unitHeld s u = false := by
    have : (members s u).any (rank3 s) = false := List.any_eq_false.mpr fun m h => by simp [(hm m h).2]
    simp [unitHeld, this]
  simp [wantOf, hs, hf, h2, h3, ha, hq, hl]

theorem wantOf_unasked {s : State} {u : Nat} (hl : (s.ch u).lingers = false) (hq : (s.ch u).onReq = false) (ha : s.limp.active = false) :
    (wantOf s u).1 = .off := by
  simp only [wantOf, hl, hq, ha]
  split <;> rfl

/-- A unit whose asking has not changed is left as it is. -/
theorem settleUnit_same {s : State} {u : Nat} (hw : wantOf s u = ((s.ch u).want, (s.ch u).byLimp)) (ho : (s.ch u).want ≠ .off) : settleUnit u s = s := by
  simp [settleUnit, hw, ho]

/-- The period start that a lingering unit waits for ends its lingering. -/
theorem unitPeriod_lingers {t u : Nat} {r : List Nat} {s : State} (hl : (s.ch u).lingers = true) (hq : (s.ch u).onReq = false)
    (hr : routeOf s u = some t) : unitPeriod t r u s = endLinger u s := by
  simp [unitPeriod, hl, hq, hr]

/-- A unit that waits for its routed timer's next period start needs the timer (04 R98, log 129). -/
theorem timerNeeded_of_awaits {s : State} {t u : Nat} (hf : (s.tm t).func = 1) (hu : u ∈ leaders s) (ha : awaits s t u = true) :
    timerNeeded s t = true := by
  have hany : ((leaders s).any fun u => (s.ch u).drive == .timed t || awaits s t u) = true :=
    List.any_eq_true.mpr ⟨u, hu, by rw [ha, Bool.or_true]⟩
  simp [timerNeeded, hf, hany]

/-! ### Retirement (02 R41, R43) -/

theorem flaconOk_iff (s : State) : flaconOk s = true ↔ 2620 ≤ s.hold.eav ∧ ∃ v, s.hold.vhold = some v ∧ s.now ≤ v.tc + 50 := by
  unfold flaconOk
  cases s.hold.vhold <;> simp

/-- A check for the waiting programs moves nothing but the store and its controller. -/
theorem tryProgram_eq (s : State) : ∃ v st, tryProgram s = { s with nvs := v, store := st } := by
  unfold tryProgram
  split
  · exact ⟨s.nvs, s.store, rfl⟩
  · split
    · exact ⟨s.nvs, s.store, rfl⟩
    · split
      · exact ⟨_, _, rfl⟩
      · exact ⟨_, s.store, rfl⟩

/-- A requested map record marks its channel RETPEND at most; everything else of the gates and the collector stands. -/
theorem requestMap_eq (n : Nat) (s : State) : ∃ v st, requestMap n s = { s with nvs := v, store := st } ∨
    requestMap n s = ({ s with nvs := v, store := st } : State).onCh n fun c => { c with retPend := true } := by
  unfold requestMap
  dsimp only
  generalize hx : (s.onNvs fun v => { v with mapPend := true, mapRest := false }) = x
  obtain ⟨v, st, hv⟩ : ∃ v st, (if (x.nvs.running.isSome && !flaconOk x && !x.clk.coreStop) = true then deferProgram x else tryProgram x) =
      { s with nvs := v, store := st } := by
    subst hx
    split
    · exact ⟨_, s.store, rfl⟩
    · obtain ⟨v, st, h⟩ := tryProgram_eq (s.onNvs fun v => { v with mapPend := true, mapRest := false })
      exact ⟨v, st, h⟩
  rw [hv]
  refine ⟨v, st, ?_⟩
  split
  · exact Or.inr rfl
  · exact Or.inl rfl

theorem requestMap_keep {α : Type} (g : Chan → α) (hg : ∀ c b, g { c with retPend := b } = g c) (n k : Nat) (s : State) :
    g ((requestMap n s).ch k) = g (s.ch k) := by
  obtain ⟨v, st, h | h⟩ := requestMap_eq n s
  · rw [h]; rfl
  · rw [h, ch_onCh_keep g _ n k _ fun c => hg c true]; rfl

@[simp] theorem requestMap_clk (n : Nat) (s : State) : (requestMap n s).clk = s.clk := by
  obtain ⟨v, st, h | h⟩ := requestMap_eq n s <;> simp [h]

@[simp] theorem requestMap_length (n : Nat) (s : State) : (requestMap n s).chans.length = s.chans.length := by
  obtain ⟨v, st, h | h⟩ := requestMap_eq n s <;> simp [h]

/-- A unit with a dead member turns off, and nothing else of it changes. -/
@[simp] theorem still_barIfDead (n : Nat) (s : State) : (barIfDead n s).still = s.still := by
  unfold barIfDead
  exact still_ite (still_onCh' (fun _ => rfl) (still_unitOff _ _)) rfl

/-- A retirement sets the segment's latch (02 R41). -/
theorem retire_retired {n i : Nat} {s : State} (h : n < s.chans.length) : ((retire n i s).ch n).retired = setBit (s.ch n).retired i := by
  rw [retire, requestMap_keep Chan.retired (fun _ _ => rfl), ch_keeps Chan.retired (fun _ => rfl) (still_barIfDead _ _), ch_onCh _ _ _ h]

@[simp] theorem retire_clk (n i : Nat) (s : State) : (retire n i s).clk = s.clk := by
  rw [retire, requestMap_clk, still_keeps State.clk (fun _ => rfl) (still_barIfDead _ _), onCh_clk]

@[simp] theorem retire_length (n i : Nat) (s : State) : (retire n i s).chans.length = s.chans.length := by
  rw [retire, requestMap_length, chans_length_of_still (still_barIfDead _ _), onCh_length]

/-- A retirement is reported by its own source: CHn_DEGRADED for the fifth, CHn_SEGRET else. -/
theorem retireEvent_src (s : State) (n : Nat) : (retireEvent s n).src = 8 * n + if popcount (s.ch n).retired = 5 then 5 else 6 := by
  simp [retireEvent, evCh]

/-- The sources of a retirement are not GUARD's: they are recorded unless GUARD and CORE have stopped together (07 R198, 13 R445). -/
theorem unrecorded_retireEvent {s x : State} {n : Nat} (hn : n < 12) (h : lightsOut s = false) : unrecorded s (retireEvent x n).src = false := by
  have hg : guardSource (retireEvent x n).src = false := by
    rw [retireEvent_src]
    have hlt : 8 * n + (if popcount (x.ch n).retired = 5 then 5 else 6) < 96 := by split <;> omega
    have hmod : (8 * n + if popcount (x.ch n).retired = 5 then 5 else 6) % 8 = if popcount (x.ch n).retired = 5 then 5 else 6 := by
      split <;> omega
    simp only [guardSource, hlt, if_true, hmod]
    split <;> rfl
  simp [unrecorded, hg, h]

/-- A reported retirement leaves its mark. -/
theorem retired_seen {n i : Nat} {s : State} (hn : n < 12) (h : lightsOut s = false) :
    seen (raise [retireEvent (retire n i s) n] (retire n i s)) (retireEvent (retire n i s) n).src := by
  refine raise_seen (List.mem_singleton_self _) ?_ (unrecorded_retireEvent hn ?_)
  · rw [retireEvent_src]
    split <;> omega
  · simpa [lightsOut] using h

/-- What the aftermath of a reported retirement shows (02 R41): the latch set, its gate off, and the report's mark. -/
theorem settle_retired {n i : Nat} {s x : State} {st : BitVec 8} (hn : n < 12) (hl : n < s.chans.length) (hi : i < 42) (ho : lightsOut s = false)
    (hx : x = { raise [retireEvent (retire n i s) n] (retire n i s) with status := st }) :
    ((settle x).ch n).retired = setBit (s.ch n).retired i ∧ ((settle x).ch n).hs.getLsbD i = false ∧
      seen (settle x) (8 * n + if popcount (setBit (s.ch n).retired i) = 5 then 5 else 6) := by
  have hch : ∀ k, x.ch k = (raise [retireEvent (retire n i s) n] (retire n i s)).ch k := fun k => by rw [hx]; rfl
  have hr : (x.ch n).retired = setBit (s.ch n).retired i := by
    rw [hch, ch_keeps Chan.retired (fun _ => rfl) (still_raise _ _), retire_retired hl]
  have hlen : n < x.chans.length := by
    have hraise := chans_length_of_still (still_raise [retireEvent (retire n i s) n] (retire n i s))
    rw [retire_length] at hraise
    rw [hx]
    exact hraise ▸ hl
  refine ⟨(ch_keeps Chan.retired (fun _ => rfl) (still_settle x) n).trans hr, settle_hs_retired hlen ?_, settle_seen ?_⟩
  · rw [hr]
    exact setBit_self _ hi
  · have hseen := retired_seen (i := i) hn ho
    rw [retireEvent_src, retire_retired hl] at hseen
    rw [hx]
    exact hseen

/-- A committed CHn_RETIRE of a segment in service (02 R41, R43). -/
theorem writeRetire_retires {n : Nat} {d : D28} {s : State} (hi : fld d 5 0 < 42) (hr : (s.ch n).retired.getLsbD (fld d 5 0) = false) :
    writeRetire n d s = (if flaconOk s then sOk else sDeferred, raise [retireEvent (retire n (fld d 5 0) s) n] (retire n (fld d 5 0) s)) := by
  have hlt : ¬ 42 ≤ fld d 5 0 := not_le.mpr hi
  simp [writeRetire, hlt, hr]

/-- The row CH_RETIRE of a segment in service: OK or DEFERRED as the flacon stands, and the segment out of service at once (02 R41, R43). -/
theorem chRetire_gives {h : Port} {n : Fin 12} {d : D28} {s : State} (hm : MayCommit s h (0x21F + 32 * n)) (h0 : fld d 27 6 = 0)
    (hi : fld d 5 0 < 42) (hr : (s.ch n).retired.getLsbD (fld d 5 0) = false) :
    GivesStatus (.chRetire h n d) s (if flaconOk s then sOk else sDeferred)
      (raise [retireEvent (retire n (fld d 5 0) s) n] (retire n (fld d 5 0) s)) := by
  have hg := chCommit_gives (i := .chRetire h n d) (o := 31) (r := ([.a], 0xFFFFFC0)) _ (by omega) (by omega) hm rfl (resv_of_fld h0 (by decide)) rfl
    (writeRetire_retires hi hr) rfl
  have hnote : ∀ x, noteLast h 3 (0x21F + 32 * n) (if flaconOk s then sOk else sDeferred) x = x := fun x => by
    split
    · exact noteLast_ok _ _ _ _
    · exact noteLast_deferred _ _ _ _
  rwa [hnote] at hg

theorem seen_either {t : State} {n a b : Nat} {p : Prop} [Decidable p] (h : seen t (n + if p then a else b)) : seen t (n + a) ∨ seen t (n + b) := by
  split at h
  · exact Or.inl h
  · exact Or.inr h

theorem linkUp_lit {s : State} {h : Port} (hl : linkUp s h = true) : lightsOut s = false := by
  simp only [linkUp, State.coreRuns, Bool.and_eq_true, Bool.not_eq_true'] at hl
  simp [lightsOut, hl.1.2]

@[simp] theorem settle_status (s : State) : (settle s).status = s.status := still_keeps State.status (fun _ => rfl) (still_settle s)

/-- Settles O21: each row by its register, the exit by its conditions, and what lingers by the unit that it leaves on. -/
theorem protectionRows : Obligations.ProtectionRows := by
  unfold Obligations.ProtectionRows
  refine ⟨?exit, ?exitDenied, ?ilim, ?ilimFormat, ?scth, ?scthFormat, ?i2t, ?i2tFormat, ?retire, ?retireFormat, ?exitIdle, ?exitNot, exitOk_iff,
    ?leave, ?lingers, ?lingerEnd, ?needed, flaconOk_iff⟩
  case exit =>
    intro h d s hm h0 hb ha he hg
    exact limpExit_gives_ok hm h0 ((effect_limpExit hg).trans (writeLimpExit_leaves hb ha he))
  case exitDenied =>
    intro h d s hm h0 hb ha he
    exact limpExit_gives hm h0 (effect_limpExit_refused (writeLimpExit_denied hb ha he) (by decide))
  case exitIdle =>
    intro h d s hm h0 _ ha hg
    exact limpExit_gives_ok hm h0 ((effect_limpExit hg).trans (writeLimpExit_idle (Or.inr ha)))
  case exitNot =>
    intro h d s hm h0 hb hg
    exact limpExit_gives_ok hm h0 ((effect_limpExit hg).trans (writeLimpExit_idle (Or.inl hb)))
  case ilim =>
    intro a n d s hm h0 h8 h320
    have hk : baseInfo s (0x204 + 32 * n) = some ([.l], 0xFFFFE00) := baseInfo_ch (o := 4) n.isLt (by omega) (by omega)
    have hr : resv (reservedAt s (0x204 + 32 * n)) d = false := by
      rw [reservedAt, hk]
      exact resv_of_fld h0 (by decide)
    have he := (effect_ch (a := a) (s := s) (d := d) n.isLt (by omega : 0 < 4) (by omega) (by omega : 0x204 + 32 * n.val = _)).trans (writeIlim_in h8 h320)
    exact gives_of_eq rfl (writeRow_stores hm (by rw [hk]; rfl) hr rfl he)
  case ilimFormat =>
    intro h n d s hm h0 hout
    have hk : baseInfo s (0x204 + 32 * n) = some ([.l], 0xFFFFE00) := baseInfo_ch (o := 4) n.isLt (by omega) (by omega)
    have hr : resv (reservedAt s (0x204 + 32 * n)) d = false := by
      rw [reservedAt, hk]
      exact resv_of_fld h0 (by decide)
    have he := (effect_ch (a := .write h) (s := s) (d := d) n.isLt (by omega : 0 < 4) (by omega) (by omega : 0x204 + 32 * n.val = _)).trans (writeIlim_out hout)
    exact gives_of_eq rfl (writeRow_turned hm (by rw [hk]; rfl) hr rfl he)
  case scth =>
    intro h n d s hm h0 h20 h200 hl
    exact chCommit_gives_ok (n := n) (o := 5) (r := ([.a], 0xFFFFF00)) _ (by omega) (by omega) hm rfl (resv_of_fld h0 (by decide)) rfl (writeScth_in h20 h200 hl) rfl
  case scthFormat =>
    intro h n d s hm h0 hout
    exact chCommit_gives (n := n) (o := 5) (r := ([.a], 0xFFFFF00)) _ (by omega) (by omega) hm rfl (resv_of_fld h0 (by decide)) rfl (writeScth_out hout) rfl
  case i2t =>
    intro h n d s hm h0 h13 h8 h160
    exact chCommit_gives_ok (n := n) (o := 6) (r := ([.a], 0xFFFE000)) _ (by omega) (by omega) hm rfl (resv_of_fld h0 (by decide)) rfl (writeI2t_in h13 h8 h160) rfl
  case i2tFormat =>
    intro h n d s hm h0 hout
    exact chCommit_gives (n := n) (o := 6) (r := ([.a], 0xFFFE000)) _ (by omega) (by omega) hm rfl (resv_of_fld h0 (by decide)) rfl (writeI2t_out hout) rfl
  case retire =>
    intro h n d s hm h0 hi hr hl
    obtain ⟨hret, hoff, hseen⟩ := settle_retired (st := if flaconOk s then sOk else sDeferred) n.isLt hl hi (linkUp_lit hm.2.1) rfl
    exact ⟨_, chRetire_gives hm h0 hi hr, settle_status _, hret, hoff, seen_either hseen⟩
  case retireFormat =>
    intro h n d s hm h0 hi
    have he : writeRetire n d s = (sFormat, s) := by simp [writeRetire, hi]
    exact chCommit_gives (n := n) (o := 31) (r := ([.a], 0xFFFFFC0)) _ (by omega) (by omega) hm rfl (resv_of_fld h0 (by decide)) rfl he rfl
  case leave =>
    intro n s hl
    rw [leaveLimp_ch hl, leaveChan_lingers, drivenOn_iff]
    exact ⟨by rw [leaveLimp, event_limp]; rfl, Iff.rfl, rfl, rfl, rfl⟩
  case lingers =>
    intro u s hl hq ha hs hf hm ho hb
    exact settleUnit_same (by rw [hb]; exact wantOf_lingers hl hq ha hs hf hm) ho
  case lingerEnd =>
    intro t u r s hl hq hr ha
    rw [unitPeriod_lingers hl hq hr]
    refine ⟨rfl, fun hu => wantOf_unasked ?_ ?_ ha⟩
    · rw [endLinger, ch_onCh _ _ _ hu]
    · rw [endLinger, ch_onCh _ _ _ hu]
      exact hq
  case needed =>
    intro t u s hf hu hr hl
    exact timerNeeded_of_awaits hf hu (by simp [awaits, hr, hl])

end Sys2Proof.Machine

/-! Page programs: what waits, what starts and what is deferred (15 R390, R391, R394). -/

namespace Sys2Proof.Machine

/-- A field of the store's controller that `Nvs.still` leaves as it is: any but the fault log's image and queue. -/
theorem nvs_keeps {α : Type} (g : Nvs → α) (hg : ∀ v : Nvs, g v.still = g v) {s t : State} (h : t.still = s.still) : g t.nvs = g s.nvs :=
  still_keeps (fun x => g x.nvs) (fun x => hg x.nvs) h

@[simp] theorem settle_store (s : State) : (settle s).store = s.store := still_keeps State.store (fun _ => rfl) (still_settle s)

/-- The flacon check reads the hold-up and the clock. -/
theorem flaconOk_congr {s t : State} (hh : t.hold = s.hold) (hn : t.now = s.now) : flaconOk t = flaconOk s := by
  simp only [flaconOk, hh, hn]

/-- The page that a program takes depends on the store and the bad-page list. -/
theorem targetPage_congr {s t : State} (hs : t.store = s.store) (hb : t.nvs.bad = s.nvs.bad) (p : Program) : targetPage t p = targetPage s p := by
  simp only [targetPage, hs, hb]

/-! ### What waits (15 R391) -/

theorem waiting_shadow {v : Nvs} (h : v.shadowPend = true) : waiting v = some .shadow := by simp [waiting, h]

theorem waiting_map {v : Nvs} (hs : v.shadowPend = false) (hm : v.mapPend = true) (hr : v.mapRest = false) : waiting v = some .map := by
  simp [waiting, hs, hm, hr]

/-- Behind the shadow and a map record that is to be tried, the counters come before the log. -/
theorem waiting_rest {v : Nvs} (hs : v.shadowPend = false) (hm : v.mapPend = false ∨ v.mapRest = true) :
    waiting v = if v.cntPend then some .counters else if v.logDue then some .log else none := by
  rcases hm with hm | hm <;> simp [waiting, hs, hm]

theorem waiting_none_iff (v : Nvs) : waiting v = none ↔
    v.shadowPend = false ∧ (v.mapPend = false ∨ v.mapRest = true) ∧ v.cntPend = false ∧ v.logDue = false := by
  unfold waiting
  cases v.shadowPend <;> cases v.mapPend <;> cases v.mapRest <;> cases v.cntPend <;> cases v.logDue <;> simp

/-- The waiting list reads its five flags alone. -/
theorem waiting_congr {v w : Nvs} (h : (v.shadowPend, v.mapPend, v.mapRest, v.cntPend, v.logDue) = (w.shadowPend, w.mapPend, w.mapRest, w.cntPend, w.logDue)) :
    waiting v = waiting w := by
  obtain ⟨h1, h2, h3, h4, h5⟩ := by simpa only [Prod.mk.injEq] using h
  simp only [waiting, h1, h2, h3, h4, h5]

theorem waiting_of_still {s t : State} (h : t.still = s.still) : waiting t.nvs = waiting s.nvs :=
  waiting_congr (nvs_keeps (fun v => (v.shadowPend, v.mapPend, v.mapRest, v.cntPend, v.logDue)) (fun _ => rfl) h)

/-! ### The check (15 R390) -/

/-- With the control of the store free and the flacon full, the first waiting program starts. -/
theorem tryProgram_starts {p : Program} {s : State} (hr : s.nvs.running = none) (hw : s.sup.ritesWait = none) (hc : s.clk.coreStop = false)
    (hp : waiting s.nvs = some p) (hf : flaconOk s = true) :
    tryProgram s = choosePage p (targetPage s p) (s.onNvs fun v =>
      { v.unwait p with running := some p, inflight := v.image.length, mapImage := s.chans.map Chan.retired,
                        lastLog := if p == .log then some s.now else v.lastLog }) := by
  simp [tryProgram, hr, hw, hc, hp, hf]

/-- The controller after a program's start. -/
theorem tryProgram_starts_nvs {p : Program} {s : State} (hr : s.nvs.running = none) (hw : s.sup.ritesWait = none) (hc : s.clk.coreStop = false)
    (hp : waiting s.nvs = some p) (hf : flaconOk s = true) :
    (tryProgram s).nvs = { s.nvs.unwait p with
      running := some p, inflight := s.nvs.image.length, mapImage := s.chans.map Chan.retired,
      lastLog := if p == .log then some s.now else s.nvs.lastLog, page := (targetPage s p).getD 0, pass := (tryProgram s).nvs.pass } := by
  rw [tryProgram_starts hr hw hc hp hf]
  rfl

/-- A flacon that does not cover the first waiting program defers it. -/
theorem tryProgram_defers {p : Program} {s : State} (hr : s.nvs.running = none) (hw : s.sup.ritesWait = none) (hc : s.clk.coreStop = false)
    (hp : waiting s.nvs = some p) (hf : flaconOk s = false) : tryProgram s = deferProgram s := by
  simp [tryProgram, hr, hw, hc, hp, hf]

/-- A running program holds the others back, and with none waiting there is nothing to check. -/
theorem tryProgram_rests {s : State} (h : s.nvs.running.isSome = true ∨ waiting s.nvs = none) : tryProgram s = s := by
  unfold tryProgram
  rcases h with h | h
  · simp [h]
  · simp [h]

theorem unwait_defcnt (v : Nvs) (p : Program) : (v.unwait p).defcnt = v.defcnt := by cases p <;> rfl

theorem unwait_fail (v : Nvs) (p : Program) : (v.unwait p).fail = v.fail := by cases p <;> rfl

theorem unwait_bad (v : Nvs) (p : Program) : (v.unwait p).bad = v.bad := by cases p <;> rfl

/-- What the aftermath of a start shows. -/
theorem settle_started {p : Program} {s : State} (hr : s.nvs.running = none) (hw : s.sup.ritesWait = none) (hc : s.clk.coreStop = false)
    (hp : waiting s.nvs = some p) (hf : flaconOk s = true) :
    (settle (tryProgram s)).nvs.running = some p ∧ (settle (tryProgram s)).nvs.page = (targetPage s p).getD 0 ∧
      (settle (tryProgram s)).nvs.defcnt = s.nvs.defcnt ∧
      (settle (tryProgram s)).nvs.lastLog = (if p == .log then some s.now else s.nvs.lastLog) ∧
      (settle (tryProgram s)).nvs.inflight = s.nvs.image.length := by
  have hk := nvs_keeps (fun v => (v.running, v.page, v.defcnt, v.lastLog, v.inflight)) (fun _ => rfl) (still_settle (tryProgram s))
  rw [tryProgram_starts_nvs hr hw hc hp hf, unwait_defcnt] at hk
  simpa only [Prod.mk.injEq] using hk

theorem coreRuns_coreStop {s : State} (h : s.coreRuns = true) : s.clk.coreStop = false := by
  simp only [State.coreRuns, Bool.and_eq_true, Bool.not_eq_true'] at h
  exact h.2

theorem programRetry_checks {s : State} (hc : s.coreRuns = true) (ht : s.since s.nvs.triedAt 1000 = true) :
    Gives .programRetry s (tryProgram (s.onNvs fun v => { v with mapRest := false })) :=
  gives_of_eq rfl (by simp [hc, ht])

theorem logProgramDue_checks {s : State} (hc : s.coreRuns = true) (hd : logDueNow s = true) :
    Gives .logProgramDue s (tryProgram (s.onNvs fun v => { v with logDue := true })) :=
  gives_of_eq rfl (by simp [hc, hd])

theorem logProgramDue_rests {s : State} (hd : logDueNow s = false) : Gives .logProgramDue s s :=
  gives_of_eq rfl (by simp [hd])

/-! ### The flacon's energy (15 R388, R389) -/

/-- Eav is nothing without a VALID flacon test, and a judgement of HOLD_LOW leaves it so. -/
theorem holdEnergy_invalid {s : State} (h : s.hold.capValid = false) : (holdEnergy s).hold.eav = 0 := by
  unfold holdEnergy judgeLow
  dsimp only
  split
  · rw [still_keeps State.hold (fun _ => rfl) (still_raise _ _)]
    simp [onHold, h]
  · simp [onHold, h]

@[simp] theorem nearest_hold (q : Rat) (s : State) : (nearest q s).2.hold = s.hold := by
  unfold nearest
  dsimp only
  split
  · rfl
  · split <;> rfl

/-- A conversion of VHOLD leaves Eav at nothing while the test is not VALID. -/
theorem vholdConversion_eav {code : Nat} {s : State} (hp : s.dev.phase ≠ .reset) (hc : s.clk.coreStop = false) (hv : s.hold.capValid = false) :
    ∃ t, exec (.vholdConversion code) s = .next t ∧ t.hold.eav = 0 := by
  have hx : exec (.vholdConversion code) s = done (holdEnergy (onHold (fun h =>
      { h with vhold := some (mkSample (nearest ((5 * code : Nat) / 2 : Rat) s).2 (nearest ((5 * code : Nat) / 2 : Rat) s).1 0) })
        (nearest ((5 * code : Nat) / 2 : Rat) s).2)) := congrArg done (if_neg (by simp [hp, hc]))
  refine ⟨_, hx, ?_⟩
  rw [still_keeps (fun t => t.hold.eav) (fun _ => rfl) (still_settle _), holdEnergy_invalid]
  rw [onHold_hold, nearest_hold]
  exact hv

/-! ### When the log's own program is due (15 R394) -/

theorem logDueNow_early {t0 : Nat} {s : State} (hl : s.nvs.lastLog = some t0) (hs : s.since t0 100000 = false) : logDueNow s = false := by
  simp [logDueNow, hl, hs]

theorem logDueNow_unscanned {s : State} (h : s.nvs.scanned = false) : logDueNow s = false := by
  simp [logDueNow, h]

/-- Settles O31: the check starts what waits or defers it, in the order of the waiting list. -/
theorem programsStartOrAreDeferred : Obligations.ProgramsStartOrAreDeferred := by
  unfold Obligations.ProgramsStartOrAreDeferred
  refine ⟨?starts, ?defers, ?logStarts, ?logEarly, ?order, fun v => waiting_shadow, ?check, fun s => tryProgram_rests, flaconOk_iff, ?invalid,
    fun s h => logProgramDue_rests (logDueNow_unscanned h)⟩
  case starts =>
    intro p s hc ht hr hw hp hf
    obtain ⟨hrun, hpage, hdef, -, -⟩ := settle_started (s := s.onNvs fun v => { v with mapRest := false }) hr hw (coreRuns_coreStop hc) hp hf
    exact ⟨_, programRetry_checks hc ht, hrun, hpage.trans (congrArg (·.getD 0) (targetPage_congr rfl rfl p)), hdef⟩
  case defers =>
    intro p s hc ht hr hw hp hf
    have hd := tryProgram_defers (s := s.onNvs fun v => { v with mapRest := false }) hr hw (coreRuns_coreStop hc) hp hf
    have hg := programRetry_checks hc ht
    rw [hd] at hg
    exact hg
  case logStarts =>
    intro s hc hd hr hw hn hf
    obtain ⟨hsh, hmap, hcnt, -⟩ := (waiting_none_iff _).mp hn
    have hp : waiting { s.nvs with logDue := true } = some .log :=
      (waiting_rest (v := { s.nvs with logDue := true }) hsh hmap).trans (by simp [hcnt])
    obtain ⟨hrun, -, -, hlast, hfly⟩ := settle_started (s := s.onNvs fun v => { v with logDue := true }) hr hw (coreRuns_coreStop hc) hp hf
    exact ⟨_, logProgramDue_checks hc hd, hrun, hlast, hfly⟩
  case logEarly => exact fun t0 s hl hs => logProgramDue_rests (logDueNow_early hl hs)
  case order =>
    intro v hs
    refine ⟨waiting_map hs, fun hm hcnt => ?_, fun hm hcnt hlog => ?_, fun hm hcnt hlog => ?_⟩ <;> rw [waiting_rest hs hm]
    · simp [hcnt]
    · simp [hcnt, hlog]
    · simp [hcnt, hlog]
  case check =>
    intro p s hr hw hc hp
    refine ⟨fun hf => ?_, fun hf => ?_⟩
    · rw [tryProgram_starts_nvs hr hw hc hp hf]
      exact ⟨rfl, rfl⟩
    · rw [tryProgram_defers hr hw hc hp hf]
      exact ⟨hr, rfl⟩
  case invalid =>
    intro code s hp hc hv
    obtain ⟨t, ht, he⟩ := vholdConversion_eav hp hc hv
    exact ⟨t, ht, by simp [flaconOk, he]⟩

end Sys2Proof.Machine

/-! Page programs that end: what a copy or a log page that reads back leaves, and what a program that does not (02 R43, 15 R392 to R395). -/

namespace Sys2Proof.Machine

/-! ### The newest copy of an area (15 R392) -/

theorem laterCopy_none {α : Type} (best : Option (Copy α)) : laterCopy best none = best := by
  cases best <;> rfl

/-- What holds of every copy that is compared holds of the later one. -/
theorem foldl_laterCopy_of_forall {α : Type} {P : Copy α → Prop} {l : List (Option (Copy α))} {best : Option (Copy α)} (hb : ∀ c, best = some c → P c)
    (hl : ∀ x ∈ l, ∀ c, x = some c → P c) : ∀ c, l.foldl laterCopy best = some c → P c := by
  induction l generalizing best with
  | nil => exact hb
  | cons x l ih =>
    refine ih (fun c hc => ?_) fun y hy => hl y (List.mem_cons_of_mem x hy)
    cases x with
    | none => exact hb c ((laterCopy_none best).symm.trans hc)
    | some d =>
      have hd : P d := hl _ List.mem_cons_self d rfl
      cases best with
      | none => exact Option.some.inj hc ▸ hd
      | some b =>
        simp only [laterCopy] at hc
        split at hc
        · exact Option.some.inj hc ▸ hd
        · exact hb c hc

/-- A copy stands against others of no higher generation that come after it. -/
theorem foldl_laterCopy_of_le {α : Type} {b : Copy α} {l : List (Option (Copy α))} (hl : ∀ x ∈ l, ∀ c, x = some c → c.gen ≤ b.gen) :
    l.foldl laterCopy (some b) = some b := by
  induction l with
  | nil => rfl
  | cons x l ih =>
    have hx : laterCopy (some b) x = some b := by
      cases x with
      | none => rfl
      | some c => exact if_neg (not_lt.mpr (hl _ List.mem_cons_self c rfl))
    rw [List.foldl_cons, hx]
    exact ih fun y hy => hl y (List.mem_cons_of_mem x hy)

/-- The latest copy is no older than the one compared first. -/
theorem le_foldl_laterCopy {α : Type} (b : Copy α) (l : List (Option (Copy α))) : ∃ r, l.foldl laterCopy (some b) = some r ∧ b.gen ≤ r.gen := by
  induction l generalizing b with
  | nil => exact ⟨b, rfl, le_rfl⟩
  | cons x l ih =>
    cases x with
    | none => exact ih b
    | some c =>
      by_cases h : b.gen < c.gen
      · obtain ⟨r, hr, hle⟩ := ih c
        exact ⟨r, by rw [List.foldl_cons, laterCopy, if_pos h, hr], by omega⟩
      · obtain ⟨r, hr, hle⟩ := ih b
        exact ⟨r, by rw [List.foldl_cons, laterCopy, if_neg h, hr], hle⟩

/-- No copy is younger than the latest one. -/
theorem le_gen_of_mem {α : Type} {l : List (Option (Copy α))} {c : Copy α} (hc : some c ∈ l) (best : Option (Copy α)) :
    ∃ r, l.foldl laterCopy best = some r ∧ c.gen ≤ r.gen := by
  induction l generalizing best with
  | nil => cases hc
  | cons x l ih =>
    rcases List.mem_cons.mp hc with rfl | hc
    · cases best with
      | none => exact le_foldl_laterCopy c l
      | some b =>
        by_cases h : b.gen < c.gen
        · rw [List.foldl_cons, laterCopy, if_pos h]
          exact le_foldl_laterCopy c l
        · obtain ⟨r, hr, hle⟩ := le_foldl_laterCopy b l
          exact ⟨r, by rw [List.foldl_cons, laterCopy, if_neg h, hr], by omega⟩
    · exact ih hc _

/-- One copy of a higher generation than all others is the latest, wherever it stands. -/
theorem foldl_laterCopy_set {α : Type} {l : List (Option (Copy α))} {c : Copy α} {i : Nat} (hi : i < l.length)
    (hl : ∀ x ∈ l, ∀ d, x = some d → d.gen < c.gen) : (l.set i (some c)).foldl laterCopy none = some c := by
  have hbefore := foldl_laterCopy_of_forall (P := fun d => d.gen < c.gen) (best := none) (l := l.take i) (fun d h => nomatch h)
    fun x hx => hl x (List.mem_of_mem_take hx)
  have hafter := foldl_laterCopy_of_le (b := c) (l := l.drop (i + 1)) fun x hx d hd => (hl x (List.mem_of_mem_drop hx) d hd).le
  rw [List.set_eq_take_append_cons_drop, if_pos hi, List.foldl_append, List.foldl_cons]
  suffices h : laterCopy ((l.take i).foldl laterCopy none) (some c) = some c by rw [h, hafter]
  cases hb : (l.take i).foldl laterCopy none with
  | none => rfl
  | some b => exact if_pos (hbefore b hb)

/-- A copy put on a page of its area is the newest, one generation on (15 R392). -/
theorem newest_putCopy {α : Type} (f : Layout α) {base pg : Nat} {v : α} {l : List Slot} (hb : base ≤ pg) (hl : pg < base + l.length)
    (hv : f.get (f.put v) = v) (hg : ∀ c, newest f base l = some c → c.gen + 1 < 2 ^ 28) :
    newest f base (putCopy f base pg v l) = some ⟨pg, ((newest f base l).map Copy.gen).getD 0 + 1, v⟩ := by
  have hgen : ((newest f base l).map Copy.gen).getD 0 + 1 < 2 ^ 28 := by
    cases hn : newest f base l with
    | none => exact Nat.one_lt_two_pow (by decide)
    | some c => exact hg c hn
  have hread := readCopy_copyWords f pg _ v hgen
  rw [hv] at hread
  have hpg : base + (pg - base) = pg := by omega
  have hset : (putCopy f base pg v l).mapIdx (fun i x => readCopy f (base + i) x) =
      (l.mapIdx fun i x => readCopy f (base + i) x).set (pg - base) (some ⟨pg, ((newest f base l).map Copy.gen).getD 0 + 1, v⟩) := by
    rw [putCopy, List.mapIdx_set, hpg, hread]
  rw [newest, hset]
  refine foldl_laterCopy_set (by rw [List.length_mapIdx]; omega) ?_
  rintro x hx d rfl
  obtain ⟨r, hr, hle⟩ := le_gen_of_mem hx none
  have hn : newest f base l = some r := hr
  rw [hn]
  exact Nat.lt_succ_of_le hle

/-! ### Words of a page (15 R393) -/

/-- A page's words are data, each over its own store address. -/
theorem pageWords_isData {pg i : Nat} {w : W36} {ds : List D28} (h : (pageWords pg ds)[i]? = some w) : isData (pageAddr pg i) w = true := by
  rw [pageWords, List.getElem?_mapIdx] at h
  obtain ⟨d, -, rfl⟩ := Option.map_eq_some_iff.mp h
  exact isData_dataWord _ _

/-- A copy with a word that is no data is none (00 R11, R12). -/
theorem readCopy_of_notData {α : Type} (f : Layout α) {pg i : Nat} {w : W36} {ws : List W36} (hw : ws[i]? = some w) (hd : isData (pageAddr pg i) w = false) :
    readCopy f pg (.copy ws) = none := by
  have hok : (ws.mapIdx fun k w => isData (pageAddr pg k) w).all id = false := by
    rw [List.all_eq_false]
    refine ⟨false, ?_, by simp⟩
    have hi : (ws.mapIdx fun k w => isData (pageAddr pg k) w)[i]? = some false := by rw [List.getElem?_mapIdx, hw, Option.map_some, hd]
    exact List.mem_of_getElem? hi
  have hp : pageData pg ws = none := by
    unfold pageData
    simp only [hok, Bool.false_eq_true, if_false]
  simp only [readCopy, hp]

/-- An entry of lists of one length, laid end to end. -/
theorem getElem?_flatten_mapIdx {α β : Type} {m : Nat} (l : List α) (f : Nat → α → List β) (hf : ∀ i a, (f i a).length = m) (i : Nat) {k : Nat} (hk : k < m) :
    (l.mapIdx f).flatten[m * i + k]? = l[i]?.bind fun a => (f i a)[k]? := by
  induction l generalizing f i with
  | nil => simp
  | cons a l ih =>
    rw [List.mapIdx_cons, List.flatten_cons]
    cases i with
    | zero =>
      rw [List.getElem?_append_left (by rw [hf]; omega)]
      simp
    | succ i =>
      have hsub : m * (i + 1) + k - (f 0 a).length = m * i + k := by rw [hf, Nat.mul_succ]; omega
      rw [List.getElem?_append_right (by rw [hf, Nat.mul_succ]; omega), hsub, ih (fun i => f (i + 1)) (fun i a => hf (i + 1) a)]
      rfl

/-- The words of a record in their order (15 R398). -/
def Rec.data (r : Rec) : List D28 := [r.r0, r.r1, r.r2, r.r3]

theorem recWords_getElem? (pg : Nat) (rs : List Rec) (i : Nat) {k : Nat} (hk : k < 4) :
    (recWords pg rs)[4 * i + k]? = rs[i]?.map fun r => dataWord (recAddr pg i k) (r.data.getD k 0) := by
  rw [recWords, getElem?_flatten_mapIdx (m := 4) _ _ (fun _ _ => rfl) i hk, Option.map_eq_bind]
  congr 1
  funext r
  obtain rfl | rfl | rfl | rfl : k = 0 ∨ k = 1 ∨ k = 2 ∨ k = 3 := by omega
  all_goals rfl

theorem recWords_getD {pg : Nat} {rs : List Rec} {i : Nat} {r : Rec} (hr : rs[i]? = some r) {k : Nat} (hk : k < 4) :
    (recWords pg rs).getD (4 * i + k) 0 = dataWord (recAddr pg i k) (r.data.getD k 0) := by
  rw [List.getD, recWords_getElem? pg rs i hk, hr]
  rfl

theorem recWords_length (pg : Nat) (rs : List Rec) : (recWords pg rs).length = 4 * rs.length := by
  have h4 : ∀ x ∈ (rs.mapIdx fun i r => [dataWord (recAddr pg i 0) r.r0, dataWord (recAddr pg i 1) r.r1, dataWord (recAddr pg i 2) r.r2,
      dataWord (recAddr pg i 3) r.r3]).map List.length, x = 4 := by
    simp [List.mem_mapIdx]
  rw [recWords, List.length_flatten, List.eq_replicate_of_mem h4, List.sum_replicate]
  simp [Nat.mul_comm]

/-- A log page as programmed (15 R394). -/
def writtenPage (pg : Nat) (hd : List W36) (rs : List Rec) : LogPage := ⟨pg, hd, recWords pg rs, false⟩

/-- Record i of a log page reads back. -/
theorem writtenPage_rec {pg : Nat} {hd : List W36} {rs : List Rec} {i : Nat} {r : Rec} (hr : rs[i]? = some r) : (writtenPage pg hd rs).rec? i = some r := by
  have hw : ∀ k, k < 4 → (writtenPage pg hd rs).word i k = dataWord (recAddr pg i k) (r.data.getD k 0) := fun k => recWords_getD hr
  have hall : ((List.range 4).all fun k => isData (recAddr (writtenPage pg hd rs).page i k) ((writtenPage pg hd rs).word i k)) = true := by
    rw [List.all_eq_true]
    intro k hk
    rw [hw k (List.mem_range.mp hk)]
    exact isData_dataWord _ _
  rw [LogPage.rec?, hall, hw 0 (by omega), hw 1 (by omega), hw 2 (by omega), hw 3 (by omega)]
  simp [writtenPage, Rec.data]

theorem filterMap_getElem?_range {α : Type} (l : List α) : (List.range l.length).filterMap (fun i => l[i]?) = l := by
  induction l with
  | nil => rfl
  | cons a l ih =>
    simpa [List.range_succ_eq_map, List.filterMap_map, Function.comp_def] using ih

/-- A programmed log page holds its records, in their order. -/
theorem writtenPage_recs (pg : Nat) (hd : List W36) (rs : List Rec) : (writtenPage pg hd rs).recs = rs := by
  have hlen : (writtenPage pg hd rs).words.length / 4 = rs.length := by
    change (recWords pg rs).length / 4 = _
    rw [recWords_length]
    omega
  have hmap : (List.range rs.length).filterMap (writtenPage pg hd rs).rec? = (List.range rs.length).filterMap fun i => rs[i]? := by
    refine List.filterMap_congr fun i hi => ?_
    have hi' : i < rs.length := List.mem_range.mp hi
    rw [List.getElem?_eq_getElem hi', writtenPage_rec (List.getElem?_eq_getElem hi')]
  rw [LogPage.recs, hlen, hmap, filterMap_getElem?_range]

/-- The header's second word reads back as the count of cycles, up to 28 bits. -/
theorem writtenPage_cycles (pg pass n : Nat) (rs : List Rec) : (writtenPage pg (headerWords pg pass n) rs).cycles = sat 0xFFFFFFF n := by
  have hw : (writtenPage pg (headerWords pg pass n) rs).header[1]? = some (dataWord (pageAddr pg 1) (d28 (sat 0xFFFFFFF n))) := rfl
  have hlt : sat 0xFFFFFFF n < 2 ^ 28 := by
    have := Nat.min_le_left 0xFFFFFFF n
    unfold sat
    omega
  simp only [LogPage.cycles, LogPage.head, hw]
  simp [writtenPage, d28]
  omega

/-- A page reads from the log's entries alone. -/
theorem logPage_congr {st st' : Store} (h : st'.log = st.log) (pg : Nat) : logPage st' pg = logPage st pg := by
  simp only [logPage, h]

/-! ### Programs that read back (15 R392, R394) -/

/-- The end of a program outside last rites. -/
theorem pageProgramDone_gives {env : RitesEnv} {reads : Bool} {p : Program} {s x : State} (hr : s.nvs.running = some p) (hc : s.clk.coreStop = false)
    (hx : programDone reads s = x) (hw : x.sup.ritesWait = none) : Gives (.pageProgramDone reads env) s x := by
  refine gives_of_eq rfl ?_
  have h : ¬(s.nvs.running.isNone || s.clk.coreStop) = true := by simp [hr, hc]
  rw [if_neg h, hx]
  simp only [hw]

theorem tryProgram_sup (s : State) : (tryProgram s).sup = s.sup := by
  obtain ⟨v, st, h⟩ := tryProgram_eq s
  rw [h]

theorem tryProgram_flt (s : State) : (tryProgram s).flt = s.flt := by
  obtain ⟨v, st, h⟩ := tryProgram_eq s
  rw [h]

/-- A check moves the head of the log at most. -/
theorem tryProgram_log (s : State) : (tryProgram s).store.log = s.store.log := by
  unfold tryProgram
  split
  · rfl
  · split
    · rfl
    · split <;> rfl

/-- No check takes back NVS_FAIL or the bad-page list. -/
theorem tryProgram_failed (s : State) : (tryProgram s).nvs.fail = s.nvs.fail ∧ (tryProgram s).nvs.bad = s.nvs.bad := by
  unfold tryProgram
  split
  · exact ⟨rfl, rfl⟩
  · split
    · exact ⟨rfl, rfl⟩
    · next p _ =>
      split
      · exact ⟨unwait_fail s.nvs p, unwait_bad s.nvs p⟩
      · exact ⟨rfl, rfl⟩

/-- A program that reads back is stored, and the next one that waits is checked. -/
theorem programDone_reads {p : Program} {s : State} (hr : s.nvs.running = some p) (ha : (area p).1 ≤ s.nvs.page) :
    programDone true s = tryProgram (stored p (s.onNvs fun v => { v with running := none })) := by
  simp [programDone, hr, inArea, ha]

/-- A program that reads back where no other waits. -/
theorem programDone_reads_alone {p : Program} {s x : State} (hr : s.nvs.running = some p) (ha : (area p).1 ≤ s.nvs.page)
    (hn : waiting s.nvs = none) (hx : stored p (s.onNvs fun v => { v with running := none }) = x) (hv : x.nvs = { s.nvs with running := none }) :
    programDone true s = x := by
  have hw : waiting x.nvs = none := by rw [hv]; exact hn
  rw [programDone_reads hr ha, hx, tryProgram_rests (Or.inr hw)]

/-- The log as a log program leaves it. -/
theorem stored_log (s : State) : (stored .log s).store.log = putLogPage s.store.log
    (writtenPage s.nvs.page (headerWords s.nvs.page s.nvs.pass ((logPage s.store s.nvs.page).cycles + 1)) (s.nvs.image.take s.nvs.inflight)) := by
  unfold stored nextImage
  dsimp only
  split <;> rfl

theorem stored_log_sup (s : State) : (stored .log s).sup = s.sup := by
  unfold stored nextImage
  dsimp only
  split <;> rfl

/-! ### Programs that do not (15 R390, R395) -/

/-- The state with the page of a failed program torn and listed bad, and NVS_FAIL. -/
def failedPage (p : Program) (s : State) : State :=
  { s with store := tornPage p s.nvs.page s.store, nvs := { s.nvs with fail := true, running := none, bad := s.nvs.bad ++ [s.nvs.page] } }

theorem programDone_fails {p : Program} {s : State} (hr : s.nvs.running = some p) (ha : (area p).1 ≤ s.nvs.page) :
    programDone false s = tryProgram (raise [ev 118] (programWaits p (targetPage (failedPage p s) p).isNone (failedPage p s))) := by
  simp only [programDone, hr, programFailed, inArea, ha]
  rfl

/-- NVS_FAIL's event is CORE's own, which records it while it runs. -/
theorem unrecorded_nvsFail {s : State} (h : s.clk.coreStop = false) : unrecorded s 118 = false := by
  simp [unrecorded, guardSource, lightsOut, h]

/-- Waiting for a repeat changes the controller's list, RETPEND and an abandoned advance alone. -/
theorem programWaits_keeps {α : Type} (g : State → α) (hg : ∀ (s : State) (v : Nvs) (cs : List Chan) (tr : Trust),
      g { s with nvs := v, chans := cs, trust := tr } = g s) (p : Program) (out : Bool) (s : State) : g (programWaits p out s) = g s := by
  cases p with
  | map => exact hg s _ _ s.trust
  | counters => exact hg s _ s.chans s.trust
  | log => rfl
  | shadow =>
    unfold programWaits
    dsimp only
    split
    · exact hg s s.nvs s.chans _
    · exact hg s _ s.chans s.trust

theorem programWaits_nvs (p : Program) (out : Bool) (s : State) :
    ((programWaits p out s).nvs.running, (programWaits p out s).nvs.fail, (programWaits p out s).nvs.bad, (programWaits p out s).nvs.lastLog) =
      (s.nvs.running, s.nvs.fail, s.nvs.bad, s.nvs.lastLog) := by
  cases p with
  | shadow =>
    unfold programWaits
    dsimp only
    split <;> rfl
  | _ => rfl

/-- The state before the check that may start the repeat of a failed program. -/
def failedState (p : Program) (s : State) : State :=
  raise [ev 118] (programWaits p (targetPage (failedPage p s) p).isNone (failedPage p s))

theorem failedState_still (p : Program) (s : State) :
    (failedState p s).still = (programWaits p (targetPage (failedPage p s) p).isNone (failedPage p s)).still := still_raise _ _

/-- The clocks, the supply, the hold-up and the store stand as the failed page leaves them. -/
theorem failedState_keeps {α : Type} (g : State → α) (hs : ∀ s : State, g s.still = g s)
    (hg : ∀ (s : State) (v : Nvs) (cs : List Chan) (tr : Trust), g { s with nvs := v, chans := cs, trust := tr } = g s) (p : Program) (s : State) :
    g (failedState p s) = g (failedPage p s) :=
  (still_keeps g hs (failedState_still p s)).trans (programWaits_keeps g hg _ _ _)

/-- The controller after a failed program: NVS_FAIL, no program under way, the page listed bad. -/
theorem failedState_nvs (p : Program) (s : State) : (failedState p s).nvs.running = none ∧ (failedState p s).nvs.fail = true ∧
    (failedState p s).nvs.bad = s.nvs.bad ++ [s.nvs.page] ∧ (failedState p s).nvs.lastLog = s.nvs.lastLog := by
  have hk := nvs_keeps (fun v => (v.running, v.fail, v.bad, v.lastLog)) (fun _ => rfl) (failedState_still p s)
  rw [programWaits_nvs] at hk
  simp only [Prod.mk.injEq] at hk
  exact hk

theorem failedState_store (p : Program) (s : State) : (failedState p s).store = tornPage p s.nvs.page s.store :=
  failedState_keeps State.store (fun _ => rfl) (fun _ _ _ _ => rfl) p s

theorem failedState_sup (p : Program) (s : State) : (failedState p s).sup = s.sup :=
  failedState_keeps State.sup (fun _ => rfl) (fun _ _ _ _ => rfl) p s

theorem failedState_clk (p : Program) (s : State) : (failedState p s).clk = s.clk :=
  failedState_keeps State.clk (fun _ => rfl) (fun _ _ _ _ => rfl) p s

theorem failedState_flaconOk (p : Program) (s : State) : flaconOk (failedState p s) = flaconOk s :=
  flaconOk_congr (failedState_keeps State.hold (fun _ => rfl) (fun _ _ _ _ => rfl) p s)
    (failedState_keeps State.now (fun _ => rfl) (fun _ _ _ _ => rfl) p s)

theorem failedState_targetPage (p : Program) (s : State) : targetPage (failedState p s) p = targetPage (failedPage p s) p :=
  targetPage_congr (failedState_store p s) (failedState_nvs p s).2.2.1 p

theorem failedState_waiting (p : Program) (s : State) : waiting (failedState p s).nvs =
    waiting (programWaits p (targetPage (failedPage p s) p).isNone (failedPage p s)).nvs := waiting_of_still (failedState_still p s)

theorem failedState_seen {p : Program} {s : State} (h : s.clk.coreStop = false) : seen (failedState p s) 118 := by
  refine raise_seen (e := ev 118) (List.mem_singleton_self _) (by decide) (unrecorded_nvsFail ?_)
  rw [programWaits_keeps (fun x => x.clk.coreStop) (fun _ _ _ _ => rfl)]
  exact h

/-- Outside the log, a failed program with a good page left waits, and first where none else does. -/
theorem programWaits_waits {p : Program} {s : State} (hp : p ≠ .log) (hr : s.nvs.mapRest = false) :
    (waiting (programWaits p false s).nvs).isSome = true := by
  rw [Option.isSome_iff_ne_none]
  intro hn
  obtain ⟨hs, hm, hc, -⟩ := (waiting_none_iff _).mp hn
  cases p with
  | map => rcases hm with hm | hm <;> simp [programWaits, mapMissed, hr] at hm
  | counters => simp [programWaits] at hc
  | log => exact hp rfl
  | shadow => simp [programWaits] at hs

theorem programWaits_first {p : Program} {s : State} (hp : p ≠ .log) (hr : s.nvs.mapRest = false) (hn : waiting s.nvs = none) :
    waiting (programWaits p false s).nvs = some p := by
  obtain ⟨hs, hm, hc, hl⟩ := (waiting_none_iff _).mp hn
  cases p with
  | map => exact waiting_map hs rfl (by simp [programWaits, mapMissed, hr])
  | counters =>
    refine (waiting_rest (v := (programWaits .counters false s).nvs) hs hm).trans ?_
    simp [programWaits]
  | log => exact absurd rfl hp
  | shadow => exact waiting_shadow rfl

/-- A program that fails outside last rites: NVS_FAIL, the page listed bad, and then a check of what waits. -/
theorem pageProgramDone_fails {env : RitesEnv} {p : Program} {s : State} (hr : s.nvs.running = some p) (hw : s.sup.ritesWait = none)
    (hc : s.clk.coreStop = false) (ha : (area p).1 ≤ s.nvs.page) : Gives (.pageProgramDone false env) s (tryProgram (failedState p s)) := by
  refine pageProgramDone_gives hr hc (programDone_fails hr ha) ?_
  rw [tryProgram_sup]
  exact (congrArg Sup.ritesWait (failedState_sup p s)).trans hw

/-- What every failed program shows after the aftermath. -/
theorem settle_failed {p : Program} {s : State} (hc : s.clk.coreStop = false) :
    (settle (tryProgram (failedState p s))).nvs.fail = true ∧ (settle (tryProgram (failedState p s))).nvs.bad = s.nvs.bad ++ [s.nvs.page] ∧
      seen (settle (tryProgram (failedState p s))) 118 := by
  obtain ⟨-, hfail, hbad, -⟩ := failedState_nvs p s
  obtain ⟨hf, hb⟩ := tryProgram_failed (failedState p s)
  have hk := nvs_keeps (fun v => (v.fail, v.bad)) (fun _ => rfl) (still_settle (tryProgram (failedState p s)))
  rw [hf, hb, hfail, hbad, Prod.mk.injEq] at hk
  refine ⟨hk.1, hk.2, settle_seen ?_⟩
  have hseen := failedState_seen (p := p) hc
  simpa only [seen, tryProgram_flt] using hseen

/-- Settles O32: what reads back is stored, one generation on; what does not is torn, listed bad and repeated or waits. -/
theorem programsCompleteOrFail : Obligations.ProgramsCompleteOrFail := by
  unfold Obligations.ProgramsCompleteOrFail
  refine ⟨?counters, ?map, ?shadow, ?log, ?repeats, ?waits, ?newestShadow, ?tornOther, ?tornLog, ?logFails, ?mapRests, ?newestMap,
    fun pg i w ds => pageWords_isData, ?recs, ?noCopy⟩
  case counters =>
    intro env s hr hw hc hn ha
    exact pageProgramDone_gives hr hc (programDone_reads_alone hr ha hn rfl rfl) hw
  case map =>
    intro env s hr hw hc hn ha
    refine ⟨_, pageProgramDone_gives hr hc (programDone_reads_alone hr ha hn rfl rfl) hw, ?_, settle_store _, fun n hl => ?_⟩
    · exact nvs_keeps Nvs.running (fun _ => rfl) (still_settle _)
    · rw [ch_keeps Chan.retPend (fun _ => rfl) (still_settle _)]
      simp [stored, mapStored, State.ch, List.getD, hl]
  case shadow =>
    intro env l s hr hw hc hn ha hadv
    refine pageProgramDone_gives hr hc (programDone_reads_alone hr ha hn ?_ rfl) hw
    simp only [stored, onNvs_trust, hadv]
    rfl
  case log =>
    intro env s hr hw hc ha
    have hg : Gives (.pageProgramDone true env) s (tryProgram (stored .log (s.onNvs fun v => { v with running := none }))) := by
      refine pageProgramDone_gives hr hc (programDone_reads hr ha) ?_
      rw [tryProgram_sup, stored_log_sup]
      exact hw
    have hlog : (settle (tryProgram (stored .log (s.onNvs fun v => { v with running := none })))).store.log = putLogPage s.store.log
        (writtenPage s.nvs.page (headerWords s.nvs.page s.nvs.pass ((logPage s.store s.nvs.page).cycles + 1)) (s.nvs.image.take s.nvs.inflight)) := by
      rw [settle_store, tryProgram_log, stored_log]
      rfl
    have hpage := logPage_put_same s.store
      (writtenPage s.nvs.page (headerWords s.nvs.page s.nvs.pass ((logPage s.store s.nvs.page).cycles + 1)) (s.nvs.image.take s.nvs.inflight))
    refine ⟨_, hg, ?_, ?_, fun pg hpg => ?_⟩
    · rw [logPage_congr (st := { s.store with log := _ }) hlog]
      exact (congrArg LogPage.recs hpage).trans (writtenPage_recs _ _ _)
    · rw [logPage_congr (st := { s.store with log := _ }) hlog]
      exact (congrArg LogPage.cycles hpage).trans (writtenPage_cycles _ _ _ _)
    · rw [logPage_congr (st := { s.store with log := _ }) hlog]
      exact logPage_put_other s.store _ pg hpg
  case repeats =>
    rintro env p pg s x hr hw hc ha hn hrest hp hf rfl ht
    have htarget : targetPage (failedPage p s) p = some pg := (targetPage_congr rfl rfl p).trans ht
    have hwait : waiting (failedState p s).nvs = some p := by
      rw [failedState_waiting, htarget]
      exact programWaits_first hp hrest hn
    have hsup : (failedState p s).sup.ritesWait = none := (congrArg Sup.ritesWait (failedState_sup p s)).trans hw
    have hclk : (failedState p s).clk.coreStop = false := (congrArg Clk.coreStop (failedState_clk p s)).trans hc
    obtain ⟨hrun, hpage, -⟩ := settle_started (failedState_nvs p s).1 hsup hclk hwait ((failedState_flaconOk p s).trans hf)
    rw [failedState_targetPage, htarget] at hpage
    obtain ⟨hfail, hbad, hseen⟩ := settle_failed (p := p) hc
    exact ⟨_, pageProgramDone_fails hr hw hc ha, hfail, hbad, hrun, hpage, hseen⟩
  case waits =>
    rintro env p s x hr hw hc ha hf rfl ht hrest hp
    have htarget : (targetPage (failedPage p s) p).isNone = false := by
      rw [show targetPage (failedPage p s) p = _ from targetPage_congr rfl rfl p, Option.isNone_eq_false_iff]
      exact ht
    have hwait : (waiting (failedState p s).nvs).isSome = true := by
      rw [failedState_waiting, htarget]
      exact programWaits_waits hp hrest
    obtain ⟨q, hq⟩ := Option.isSome_iff_exists.mp hwait
    have hsup : (failedState p s).sup.ritesWait = none := (congrArg Sup.ritesWait (failedState_sup p s)).trans hw
    have hclk : (failedState p s).clk.coreStop = false := (congrArg Clk.coreStop (failedState_clk p s)).trans hc
    have hdefer := tryProgram_defers (failedState_nvs p s).1 hsup hclk hq ((failedState_flaconOk p s).trans hf)
    obtain ⟨hfail, hbad, hseen⟩ := settle_failed (p := p) hc
    refine ⟨_, pageProgramDone_fails hr hw hc ha, hfail, hbad, ?_, ?_, ?_, hseen⟩
    · rw [settle_store, hdefer]
      exact failedState_store p s
    · rw [nvs_keeps Nvs.running (fun _ => rfl) (still_settle _), hdefer]
      exact (failedState_nvs p s).1
    · rw [waiting_of_still (still_settle _), hdefer]
      exact hwait
  case newestShadow =>
    intro base pg v l hb hl hv hg
    exact newest_putCopy shadowLayout hb hl (shadowLayout_get v hv) hg
  case tornOther =>
    intro p pg st hp
    cases p with
    | log => exact absurd rfl hp
    | _ => rfl
  case tornLog =>
    intro pg st
    exact (congrArg LogPage.recs (logPage_put_same st ⟨pg, [], [], true⟩)).trans (by simp [LogPage.recs])
  case logFails =>
    intro env s hr hw hc ha hn
    obtain ⟨hrun, -, -, hlast⟩ := failedState_nvs .log s
    have hflags : waiting (failedState .log s).nvs = none := (failedState_waiting .log s).trans hn
    have hdue : (failedState .log s).nvs.logDue = false := ((waiting_none_iff _).mp hflags).2.2.2
    have hrest := tryProgram_rests (Or.inr hflags)
    obtain ⟨hfail, hbad, hseen⟩ := settle_failed (p := .log) hc
    have hk := nvs_keeps (fun v => (v.running, v.logDue, v.lastLog)) (fun _ => rfl) (still_settle (tryProgram (failedState .log s)))
    rw [hrest, hrun, hdue, hlast] at hk
    simp only [Prod.mk.injEq] at hk
    obtain ⟨h1, h2, h3⟩ := hk
    rw [hrest] at hfail hbad hseen
    have hg := pageProgramDone_fails (env := env) hr hw hc ha
    rw [hrest] at hg
    exact ⟨_, hg, hfail, hbad, (settle_store _).trans (failedState_store .log s), h1, h2, h3, hseen⟩
  case mapRests =>
    rintro env s x hr hw hc ha hn rfl ht
    have htarget : targetPage (failedPage .map s) .map = none := (targetPage_congr rfl rfl .map).trans ht
    have hstill := failedState_still .map s
    rw [htarget] at hstill
    have hflags : waiting (failedState .map s).nvs = none := by
      obtain ⟨hsh, -, hcnt, hlog⟩ := (waiting_none_iff _).mp hn
      rw [waiting_of_still hstill, waiting_none_iff]
      exact ⟨hsh, Or.inr (Bool.or_true _), hcnt, hlog⟩
    have hrest := tryProgram_rests (Or.inr hflags)
    obtain ⟨-, -, hseen⟩ := settle_failed (p := .map) hc
    have hk := nvs_keeps (fun v => (v.mapPend, v.mapRest, v.triedAt, v.running)) (fun _ => rfl) ((still_settle (failedState .map s)).trans hstill)
    simp only [Prod.mk.injEq] at hk
    obtain ⟨h1, h2, h3, h4⟩ := hk
    have hg := pageProgramDone_fails (env := env) hr hw hc ha
    rw [hrest] at hg hseen
    exact ⟨_, hg, h1, h2.trans (Bool.or_true _), h3, h4, hseen⟩
  case newestMap =>
    intro base pg v l hb hl hv hg
    exact newest_putCopy mapLayout hb hl (mapLayout_get v hv) hg
  case recs =>
    intro pg i k r rs hr hk
    rw [recWords_getD hr hk]
    exact isData_dataWord _ _
  case noCopy =>
    intro pg i w ws hw hd
    exact ⟨readCopy_of_notData _ hw hd, readCopy_of_notData _ hw hd, readCopy_of_notData _ hw hd⟩

end Sys2Proof.Machine

/-! The gate operations on a unit, each by what it leaves of a channel: turn-on and turn-off, the hold and the refusal of a turn-on, and what a unit does
when its asking changes (02 R29, R45, R52, 03 R59, R60, R70, 06 R158). -/

namespace Sys2Proof.Machine

/-! ### What the operations leave alone -/

/-- Taking a unit back from its self-test changes the test controller alone. -/
theorem bistIncomplete_eq (l : Lane) (d : BitVec 2) (s : State) : ∃ b, bistIncomplete l d s = { s with bist := b } := by
  unfold bistIncomplete
  split
  · exact ⟨s.bist, rfl⟩
  · exact ⟨_, rfl⟩

theorem returnUnit_keeps {α : Type} (g : State → α) (hg : ∀ (s : State) b, g { s with bist := b } = g s) (u : Nat) (s : State) :
    g (returnUnit u s) = g s := by
  refine forEach_keeps (fun l t => ?_) _ s
  split
  · split
    · obtain ⟨b, hb⟩ := bistIncomplete_eq l 1 t
      rw [hb, hg]
    · rfl
  · rfl

@[simp] theorem returnUnit_chans (u : Nat) (s : State) : (returnUnit u s).chans = s.chans := returnUnit_keeps State.chans (fun _ _ => rfl) u s

@[simp] theorem returnUnit_ch (u k : Nat) (s : State) : (returnUnit u s).ch k = s.ch k := by simp only [State.ch, returnUnit_chans]

@[simp] theorem returnUnit_now (u : Nat) (s : State) : (returnUnit u s).now = s.now := returnUnit_keeps State.now (fun _ _ => rfl) u s

@[simp] theorem returnUnit_dev (u : Nat) (s : State) : (returnUnit u s).dev = s.dev := returnUnit_keeps State.dev (fun _ _ => rfl) u s

@[simp] theorem returnUnit_timers (u : Nat) (s : State) : (returnUnit u s).timers = s.timers := returnUnit_keeps State.timers (fun _ _ => rfl) u s

@[simp] theorem returnUnit_sup (u : Nat) (s : State) : (returnUnit u s).sup = s.sup := returnUnit_keeps State.sup (fun _ _ => rfl) u s

@[simp] theorem members_returnUnit (u v : Nat) (s : State) : members (returnUnit u s) v = members s v := members_congr (fun _ => by rw [returnUnit_ch]) v

@[simp] theorem isBridge_returnUnit (u v : Nat) (s : State) : isBridge (returnUnit u s) v = isBridge s v := isBridge_congr (by rw [returnUnit_ch])

/-- An update that keeps the TOPO word moves no channel to another unit. -/
theorem topo_onCh {f : Chan → Chan} (hf : ∀ c, (f c).topo = c.topo) (s : State) (n k : Nat) : ((s.onCh n f).ch k).topo = (s.ch k).topo :=
  ch_onCh_keep Chan.topo s n k f hf

theorem members_onCh {f : Chan → Chan} (hf : ∀ c, (f c).topo = c.topo) (s : State) (n u : Nat) : members (s.onCh n f) u = members s u :=
  members_congr (topo_onCh hf s n) u

theorem leader_onCh {f : Chan → Chan} (hf : ∀ c, (f c).topo = c.topo) (s : State) (n u : Nat) : leader (s.onCh n f) u = leader s u :=
  leader_congr (topo_onCh hf s n u)

theorem isBridge_onCh {f : Chan → Chan} (hf : ∀ c, (f c).topo = c.topo) (s : State) (n u : Nat) : isBridge (s.onCh n f) u = isBridge s u :=
  isBridge_congr (topo_onCh hf s n u)

/-! ### Turn-off (03 R60, R70) -/

/-- The rest of a freewheel stage is a matter of its channel's TOPO word and comparator, of the latch and of the collector. -/
theorem restFw_congr {s t : State} {n : Nat} (h : ((t.ch n).stuck, (t.ch n).topo, (t.ch n).zeroI) = ((s.ch n).stuck, (s.ch n).topo, (s.ch n).zeroI))
    (hf : t.flt = s.flt) : restFw t n = restFw s n := by
  simp only [Prod.mk.injEq] at h
  obtain ⟨h1, h2, h3⟩ := h
  simp only [restFw, Chan.fwOpt, h1, h2, h3, hf] <;> rfl

/-- A channel of a unit whose gates go off, before what the leader keeps of the unit. -/
theorem gatesRest_ch (u k : Nat) (s : State) : (forEach (members s u) (fun n s => s.onCh n fun c => { c with hs := 0, fw := restFw s n }) s).ch k =
    if k ∈ members s u ∧ k < s.chans.length then { s.ch k with hs := 0, fw := restFw s k } else s.ch k := by
  refine ch_forEach (F := fun t n c => { c with hs := 0, fw := restFw t n }) (g := fun n c => { c with hs := 0, fw := restFw s n })
    (P := fun t => ∀ n, restFw t n = restFw s n) (members_nodup s u) (fun t n h k => ?_) (fun t n h => by rw [h n]) (fun _ => rfl) k
  have hkeep := ch_onCh_keep (fun c => (c.stuck, c.topo, c.zeroI)) t n k (fun c => { c with hs := 0, fw := restFw t n }) fun _ => rfl
  exact (restFw_congr hkeep rfl).trans (h k)

/-- What the leader keeps of a unit that is off. -/
def offLead (c : Chan) : Chan :=
  { c with drive := .off, pulse := .off, dt := .none, chopOff := false, cutOff := false, cutPeriod := false,
           refreshing := false, refreshDue := false, lingers := false, bridge := .coast, revTo := none, lad := abortLadder c.lad }

theorem unitOff_eq (u : Nat) (s : State) : unitOff u s =
    (forEach (members s u) (fun n s => s.onCh n fun c => { c with hs := 0, fw := restFw s n }) s).onCh u offLead := rfl

@[simp] theorem unitOff_length (u : Nat) (s : State) : (unitOff u s).chans.length = s.chans.length := chans_length_of_still (still_unitOff u s)

/-- The gates of a unit that is off, and its freewheel stages at rest. -/
theorem unitOff_gates {u m : Nat} {s : State} (hm : m ∈ members s u) :
    ((unitOff u s).ch m).hs = 0 ∧ (m < s.chans.length → ((unitOff u s).ch m).fw = restFw s m) := by
  have hk := ch_onCh_keep (fun c => (c.hs, c.fw))
    (forEach (members s u) (fun n s => s.onCh n fun c => { c with hs := 0, fw := restFw s n }) s) u m offLead fun _ => rfl
  rw [← unitOff_eq, gatesRest_ch, Prod.mk.injEq] at hk
  by_cases hl : m < s.chans.length
  · rw [if_pos ⟨hm, hl⟩] at hk
    exact ⟨hk.1, fun _ => hk.2⟩
  · rw [if_neg fun h => hl h.2, ch_of_length_le (not_lt.mp hl)] at hk
    exact ⟨hk.1, fun h => absurd h hl⟩

/-- The leader of a unit that is off. -/
theorem unitOff_lead {u : Nat} {s : State} (hu : u < s.chans.length) : ((unitOff u s).ch u).drive = .off ∧
    ((unitOff u s).ch u).lad = abortLadder (s.ch u).lad ∧ ((unitOff u s).ch u).want = (s.ch u).want := by
  have hk : ∀ {α : Type} (g : Chan → α), (∀ c h f, g { c with hs := h, fw := f } = g c) →
      g ((forEach (members s u) (fun n s => s.onCh n fun c => { c with hs := 0, fw := restFw s n }) s).ch u) = g (s.ch u) := fun g hg =>
    forEachCh_keep g (F := fun t n c => { c with hs := 0, fw := restFw t n }) (fun _ _ c => hg c _ _) _ s u
  rw [unitOff_eq, ch_onCh _ _ _ (by rw [forEachCh_length]; exact hu)]
  exact ⟨rfl, congrArg abortLadder (hk Chan.lad fun _ _ _ => rfl), hk Chan.want fun _ _ _ => rfl⟩

/-! ### Turn-on (02 R29, R45, R52, 03 R59) -/

/-- The legs of a unit are distinct. -/
theorem legs_nodup (s : State) (u : Nat) : (legs s u).Nodup := by
  unfold legs unheld
  split
  · split
    · exact (List.nodup_singleton u).filter _
    · exact (List.nodup_singleton (u + 1)).filter _
    · exact List.nodup_nil
  · exact members_nodup s u

theorem legs_of_not_bridge {s : State} {u : Nat} (h : isBridge s u = false) : legs s u = members s u := by
  simp [legs, h]

/-- What a turn-on takes from the state: the drive, step and TOPO word of the leader, the ladders and the blanking timers. -/
theorem chanOn_congr {s t : State} {u : Nat} (hu : ((t.ch u).drive, (t.ch u).lad, (t.ch u).topo) = ((s.ch u).drive, (s.ch u).lad, (s.ch u).topo))
    (hd : t.dev = s.dev) (ht : t.timers = s.timers) (b : Bool) (c : Chan) : chanOn t b u c = chanOn s b u c := by
  simp only [Prod.mk.injEq] at hu
  obtain ⟨h1, h2, h3⟩ := hu
  simp only [chanOn, onSet, loadedLimit, ladderOf, openBlank, blankLen, State.tm, Chan.ladderIx, h1, h2, h3, hd, ht] <;> rfl

/-- A blanking window changes no more than its own two flags. -/
theorem chanOn_keep {α : Type} (g : Chan → α) (hg : ∀ (c : Chan) b b', g { c with blank := b, blankCap := b' } = g c) (s : State) (b : Bool) (u : Nat) (c : Chan) :
    g (chanOn s b u c) = g { c with hs := onSet s u c, tripped := 0, fw := .off, zeroI := false, limit := loadedLimit s u c } := by
  unfold chanOn openBlank
  dsimp only
  split
  · split
    · rfl
    · exact hg { c with hs := onSet s u c, tripped := 0, fw := .off, zeroI := false, limit := loadedLimit s u c } _ _
  · rfl

/-- A turn-on of a unit turns on each leg, and no other channel. -/
theorem gatesOn_ch (b : Bool) (u m : Nat) (s : State) : (gatesOn b u s).ch m =
    if m ∈ legs s u ∧ m < s.chans.length then chanOn s b u (s.ch m) else s.ch m := by
  have h := ch_forEach (F := fun t _ => chanOn t b u) (g := fun _ => chanOn s b u) (s := returnUnit u s)
    (P := fun t => ((t.ch u).drive, (t.ch u).lad, (t.ch u).topo) = ((s.ch u).drive, (s.ch u).lad, (s.ch u).topo) ∧ t.dev = s.dev ∧ t.timers = s.timers)
    (legs_nodup s u) ?_ (fun t n h => chanOn_congr h.1 h.2.1 h.2.2 b _) ⟨by rw [returnUnit_ch], returnUnit_dev u s, returnUnit_timers u s⟩ m
  · rw [returnUnit_ch, returnUnit_chans] at h
    exact h
  · rintro t n ⟨hc, hd, ht⟩
    exact ⟨(ch_onCh_keep (fun c => (c.drive, c.lad, c.topo)) t n u _ fun c => chanOn_keep (fun c => (c.drive, c.lad, c.topo)) (fun _ _ _ => rfl) t b u c).trans hc, hd, ht⟩

/-- A field that no turn-on of a gate changes. -/
theorem gatesOn_keep {α : Type} (g : Chan → α) (hg : ∀ (c : Chan) b b', g { c with blank := b, blankCap := b' } = g c)
    (hk : ∀ (c : Chan) h l, g { c with hs := h, tripped := 0, fw := .off, zeroI := false, limit := l } = g c) (b : Bool) (u m : Nat) (s : State) :
    g ((gatesOn b u s).ch m) = g (s.ch m) := by
  rw [gatesOn_ch]
  split
  · rw [chanOn_keep g hg, hk]
  · rfl

/-- A turn-on with a gate supply below BST_LOW is held (02 R29). -/
theorem attempt_waits {u : Nat} {s : State} (h : ((members s u).any fun k => (s.ch k).bstLow) = true) :
    attempt u s = (returnUnit u s).onCh u fun c => { c with drive := .waiting s.now } := by
  simp only [attempt, members_returnUnit, returnUnit_ch, returnUnit_now, h, if_true]

theorem attempt_proceeds {u : Nat} {s : State} (h : ((members s u).any fun k => (s.ch k).bstLow) = false) :
    attempt u s = proceed u (returnUnit u s) := by
  simp only [attempt, members_returnUnit, returnUnit_ch, h, Bool.false_eq_true, if_false]

/-- A turn-on with a dead member, or without the bank's battery, is refused (02 R45, R52). -/
theorem proceed_bars {u : Nat} {s : State} (h : ((members s u).any fun k => (s.ch k).alive == 0) = true ∨ vbatOk s u = false) :
    proceed u s = s.onCh u fun c => { c with drive := .barred } := by
  unfold proceed
  rw [if_pos]
  rcases h with h | h <;> simp [h]

theorem proceed_begins {u : Nat} {s : State} (h : ((members s u).any fun k => (s.ch k).alive == 0) = false) (hv : vbatOk s u = true) :
    proceed u s = beginUnit u s := by
  simp [proceed, h, hv]

/-- A turn-on of a unit without a timer and a ladder (03 R59). -/
theorem beginUnit_steady {u : Nat} {s : State} (hw : (s.ch u).want = .on) (hb : isBridge s u = false) (hl : (s.ch u).hasLadder = false) :
    beginUnit u s = gatesOn true u (s.onCh u fun c => { c with drive := .steady }) := by
  simp [beginUnit, hb, hl, hw]

/-- What such a turn-on leaves: every segment in service engaged, the freewheel stage off. -/
theorem beginUnit_steady_on {u : Nat} {s : State} (hw : (s.ch u).want = .on) (hb : isBridge s u = false) (hl : (s.ch u).hasLadder = false)
    (hu : u < s.chans.length) : ((beginUnit u s).ch u).drive = .steady ∧
      ∀ m ∈ members s u, m < s.chans.length → ((beginUnit u s).ch m).hs = ~~~(s.ch m).retired ∧ ((beginUnit u s).ch m).fw = .off := by
  have hd : ((s.onCh u fun c => { c with drive := .steady }).ch u).drive = .steady := by rw [ch_onCh _ _ _ hu]
  rw [beginUnit_steady hw hb hl]
  refine ⟨?_, fun m hm hlm => ?_⟩
  · rw [gatesOn_keep Chan.drive (fun _ _ _ => rfl) (fun _ _ _ => rfl), hd]
  · have hlegs : m ∈ legs (s.onCh u fun c => { c with drive := .steady }) u := by
      rw [legs_of_not_bridge ((isBridge_onCh (f := fun c => { c with drive := .steady }) (fun _ => rfl) s u u).trans hb)]
      exact (members_onCh (f := fun c => { c with drive := .steady }) (fun _ => rfl) s u u).symm ▸ hm
    have hret := ch_onCh_keep Chan.retired s u m (fun c => { c with drive := .steady }) fun _ => rfl
    have hon := chanOn_keep (fun c => (c.hs, c.fw)) (fun _ _ _ => rfl) (s.onCh u fun c => { c with drive := .steady }) true u
      ((s.onCh u fun c => { c with drive := .steady }).ch m)
    rw [gatesOn_ch, if_pos ⟨hlegs, by rw [onCh_length]; exact hlm⟩]
    simp only [onSet, hd, Prod.mk.injEq] at hon
    exact ⟨by rw [hon.1, ← hret]; rfl, hon.2⟩

/-- A turn-on keeps whether a turn-on of the unit was cancelled. -/
theorem startLadder_cancelled (u k : Nat) (s : State) : ((startLadder u s).ch k).cancelled = (s.ch k).cancelled := by
  unfold startLadder
  dsimp only
  rw [gatesOn_keep Chan.cancelled (fun _ _ _ => rfl) (fun _ _ _ => rfl)]
  refine (ch_onCh_keep Chan.cancelled _ u k _ ?_).trans (forEachCh_keep Chan.cancelled (F := fun _ _ c => { c with ring := 0 }) (fun _ _ _ => rfl) _ s k)
  exact fun _ => rfl

theorem beginUnit_cancelled (u k : Nat) (s : State) : ((beginUnit u s).ch k).cancelled = (s.ch k).cancelled := by
  have hset : ∀ f : Chan → Chan, (∀ c, (f c).cancelled = c.cancelled) → ((s.onCh u f).ch k).cancelled = (s.ch k).cancelled :=
    fun f hf => ch_onCh_keep Chan.cancelled s u k f hf
  unfold beginUnit
  dsimp only
  split
  · split
    · exact hset _ fun _ => rfl
    · rfl
  · split
    · split
      · exact hset _ fun c => by split <;> rfl
      · exact startLadder_cancelled u k s
      · rfl
    · split
      · exact hset _ fun _ => rfl
      · exact (gatesOn_keep Chan.cancelled (fun _ _ _ => rfl) (fun _ _ _ => rfl) true u k _).trans (hset _ fun _ => rfl)
      · rfl

theorem attempt_cancelled (u k : Nat) (s : State) : ((attempt u s).ch k).cancelled = (s.ch k).cancelled := by
  cases hb : (members s u).any fun k => (s.ch k).bstLow with
  | true =>
    rw [attempt_waits hb, ← returnUnit_ch u k s]
    exact ch_onCh_keep Chan.cancelled _ u k _ fun _ => rfl
  | false =>
    rw [attempt_proceeds hb, proceed, ← returnUnit_ch u k s]
    split
    · exact ch_onCh_keep Chan.cancelled _ u k _ fun _ => rfl
    · exact beginUnit_cancelled u k _

/-! ### What a unit does when its asking changes (06 R158) -/

/-- A trip latch or the BST_UV hold of any member asks the unit off (rank 2). -/
theorem wantOf_rank2 {s : State} {u m : Nat} (hm : m ∈ members s u) (h : rank2 (s.ch m) = true) : wantOf s u = (.off, false) := by
  have hany : (members s u).any (fun n => rank2 (s.ch n)) = true := List.any_eq_true.mpr ⟨m, hm, h⟩
  simp [wantOf, hany]

/-- A unit that is asked off, and is not at rest, turns off. -/
theorem settleUnit_off {s : State} {u : Nat} {lp : Bool} (hw : wantOf s u = (.off, lp)) (h : (s.ch u).want ≠ .off ∨ (s.ch u).drive ≠ .off) :
    settleUnit u s = unitOff u (s.onCh u fun c => { c with want := .off, byLimp := lp }) := by
  have hb : ((s.ch u).want == .off && (s.ch u).drive == .off) = false := by
    rcases h with h | h <;> simp [h]
  simp only [settleUnit, hw, hb, beq_self_eq_true, if_true, Bool.false_eq_true, if_false]

/-- A unit that is asked for anew and whose turn-on was cancelled stays barred (02 R29). -/
theorem settleUnit_cancelled {s : State} {u : Nat} (hw : (wantOf s u).1 ≠ .off) (ho : (s.ch u).want = .off) (hc : (s.ch u).cancelled = true) :
    settleUnit u s = (s.onCh u fun c => { c with want := (wantOf s u).1, byLimp := (wantOf s u).2 }).onCh u fun c => { c with drive := .barred } := by
  simp [settleUnit, hw, ho, hc]

/-- A barred unit whose asking stays, or changes to no fresh one of the limp-home map, stays barred. -/
theorem settleUnit_barred {s : State} {u : Nat} (hw : (wantOf s u).1 ≠ .off) (ho : (s.ch u).want ≠ .off) (hd : (s.ch u).drive = .barred)
    (hl : (wantOf s u).2 = true → (s.ch u).byLimp = true) :
    settleUnit u s = s ∨ settleUnit u s = s.onCh u fun c => { c with want := (wantOf s u).1, byLimp := (wantOf s u).2 } := by
  have hlp : ((wantOf s u).2 && !(s.ch u).byLimp) = false := by
    cases h : (wantOf s u).2 with
    | false => rfl
    | true => simp [hl h]
  unfold settleUnit
  simp only [beq_iff_eq, hw, ho, if_false, hd, hlp, Bool.false_eq_true]
  split
  · exact Or.inl rfl
  · exact Or.inr rfl

end Sys2Proof.Machine

/-! The gate supply's events and what tries a refused turn-on again (02 R27, R29, 03 R83, 06 R157). -/

namespace Sys2Proof.Machine

/-! ### Events while GUARD runs -/

/-- While GUARD runs, every event reaches the collector. -/
theorem unrecorded_guarded {s : State} (h : s.clk.guardStop = false) (src : Nat) : unrecorded s src = false := by
  simp [unrecorded, lightsOut, h]

/-- An update that makes of what `Chan.still` leaves of a channel what `g` does. -/
theorem still_onCh_comm {f g : Chan → Chan} (hf : ∀ c, (f c).still = g c.still) {s t : State} (n : Nat) (h : t.still = s.still) :
    (t.onCh n f).still = (s.onCh n f).still :=
  still_onCh_congr h fun c d hcd => by rw [hf c, hf d, hcd]

theorem still_setProt {s t : State} (n i : Nat) (h : t.still = s.still) : (setProt n i t).still = (setProt n i s).still :=
  still_onCh_comm (g := fun c => { c with prot := { c.prot with bits := setBit c.prot.bits i } }) (fun _ => rfl) n h

theorem still_setProts {s t : State} (l : List Nat) (i : Nat) (h : t.still = s.still) :
    (forEach l (fun n => setProt n i) t).still = (forEach l (fun n => setProt n i) s).still := by
  induction l generalizing s t with
  | nil => exact h
  | cons a l ih => exact ih (still_setProt a i h)

@[simp] theorem setProts_clk (l : List Nat) (i : Nat) (s : State) : (forEach l (fun n => setProt n i) s).clk = s.clk :=
  forEach_keeps (g := State.clk) (f := fun n => setProt n i) (fun _ _ => rfl) l s

theorem raiseBstUv_seen {s : State} (chs : List Nat) (h : s.clk.guardStop = false) : seen (raiseBstUv chs s) 98 := by
  refine raise_seen (e := ⟨98, 0, false, _⟩) (List.mem_singleton_self _) (by decide : 98 < 120) (unrecorded_guarded ?_ _)
  rw [setProts_clk, h]

/-- A command whose own effect is BST_UV of some channels. -/
theorem raises_bstUv {i : Instr} {s x y : State} {chs : List Nat} (hi : exec i s = done (raiseBstUv chs y)) (hg : y.clk.guardStop = false)
    (h : y.still = x.still) : Raises i s (forEach chs (fun m => setProt m 7) x) [98] := by
  refine raises_of_still hi ((still_raise _ _).trans (still_setProts _ _ h)) fun k hk => ?_
  rw [List.mem_singleton.mp hk]
  exact raiseBstUv_seen chs hg

/-! ### The supply's commands -/

/-- A channel whose gate supply is above BST_LOW. -/
def supplyReady (n : Nat) (s : State) : State := s.onCh n fun c => { c with bstLow := false, bstUv := false }

theorem leader_supplyReady (n k : Nat) (s : State) : leader (supplyReady n s) k = leader s k :=
  leader_onCh (f := fun c => { c with bstLow := false, bstUv := false }) (fun _ => rfl) s n k

theorem bstReady_idle {n : Fin 12} {s : State} (h : ∀ t, (s.ch (leader s n)).drive ≠ .waiting t) : Gives (.bstReady n) s (supplyReady n s) := by
  have hd : ((supplyReady n s).ch (leader (supplyReady n s) n)).drive = (s.ch (leader s n)).drive := by
    rw [leader_supplyReady]
    exact ch_onCh_keep Chan.drive s n _ _ fun _ => rfl
  refine gives_of_eq rfl (?_ : _ = supplyReady n s)
  show (match ((supplyReady n s).ch (leader (supplyReady n s) n)).drive with | .waiting _ => _ | _ => supplyReady n s) = _
  rw [hd]
  split
  · exact absurd ‹_› (h _)
  · rfl

/-- With a turn-on of the unit held, the supply's readiness decides on it. -/
theorem bstReady_waits {n : Fin 12} {t0 : Nat} {s x : State} (hx : x = supplyReady n s) (h : (x.ch (leader x n)).drive = .waiting t0) :
    Gives (.bstReady n) s (if (members x (leader x n)).any fun m => (x.ch m).bstLow then x else proceed (leader x n) x) := by
  subst hx
  refine gives_of_eq rfl ?_
  show (match ((supplyReady n s).ch (leader (supplyReady n s) n)).drive with | .waiting _ => _ | _ => supplyReady n s) = _
  rw [h]
  rfl

theorem bstReady_proceeds {n : Fin 12} {t0 : Nat} {s x : State} (hx : x = supplyReady n s) (h : (x.ch (leader x n)).drive = .waiting t0)
    (hl : ((members x (leader x n)).all fun m => !(x.ch m).bstLow) = true) : Gives (.bstReady n) s (proceed (leader x n) x) := by
  have hno : ((members x (leader x n)).any fun m => (x.ch m).bstLow) = false := by simpa using hl
  simpa only [hno, Bool.false_eq_true, if_false] using bstReady_waits hx h

theorem bstwaitTimeout_bars {n : Fin 12} {t0 : Nat} {s : State} (hd : (s.ch (leader s n)).drive = .waiting t0) (ht : s.since t0 20000 = true) :
    exec (.bstwaitTimeout n) s = done (raiseBstUv ((members s (leader s n)).filter fun m => (s.ch m).bstLow)
      (s.onCh (leader s n) fun c => { c with drive := .barred, cancelled := true })) := by
  show execBstwaitTimeout n s = _
  simp only [execBstwaitTimeout, hd, ht, if_true]

/-- A channel whose gate supply falls below BST_UV. -/
def supplyLost (n : Nat) (s : State) : State := s.onCh n fun c => { c with bstLow := true, bstUv := true }

theorem supplyLost_drive (n : Nat) (s : State) : ((supplyLost n s).ch (leader (supplyLost n s) n)).drive = (s.ch (leader s n)).drive := by
  have hl : leader (supplyLost n s) n = leader s n := leader_onCh (f := fun c => { c with bstLow := true, bstUv := true }) (fun _ => rfl) s n n
  rw [hl]
  exact ch_onCh_keep Chan.drive s n _ _ fun _ => rfl

theorem bstUvTurnoff_rests {n : Fin 12} {s : State}
    (h : (s.ch (leader s n)).drive = .off ∨ (s.ch (leader s n)).drive = .barred ∨ underTest s n = true) :
    Gives (.bstUvTurnoff n) s (supplyLost n s) := by
  refine gives_of_eq rfl ?_
  show (match ((supplyLost n s).ch (leader (supplyLost n s) n)).drive with
    | .off | .barred | .waiting _ => supplyLost n s
    | _ => if underTest s n then supplyLost n s else _) = _
  rw [supplyLost_drive]
  rcases h with h | h | h
  · rw [h]
  · rw [h]
  · rw [if_pos h]
    split <;> rfl

theorem bstUvTurnoff_raises {n : Fin 12} {s : State} (ho : (s.ch (leader s n)).drive ≠ .off) (hb : (s.ch (leader s n)).drive ≠ .barred)
    (hw : ∀ t, (s.ch (leader s n)).drive ≠ .waiting t) (hu : underTest s n = false) : exec (.bstUvTurnoff n) s =
      done (raiseBstUv [n.val] (s.onCh n fun c => { c with bstLow := true, bstUv := true, uvHold := true })) := by
  refine congrArg done ?_
  show (match ((supplyLost n s).ch (leader (supplyLost n s) n)).drive with
    | .off | .barred | .waiting _ => supplyLost n s
    | _ => if underTest s n then supplyLost n s else raiseBstUv [n.val] ((supplyLost n s).onCh n fun c => { c with uvHold := true })) = _
  rw [supplyLost_drive, if_neg (by simp [hu])]
  split
  · exact absurd ‹_› ho
  · exact absurd ‹_› hb
  · exact absurd ‹_› (hw _)
  · rw [supplyLost, onCh_onCh]

/-! ### What tries a cancelled turn-on again -/

theorem retryTurnOn_cancelled (n : Nat) (cls : RetryClass) {s : State} (h : leader s n < s.chans.length) :
    ((retryTurnOn n cls s).ch (leader s n)).cancelled =
      ((s.ch (leader s n)).cancelled && !(cls == .bst || (s.ch n).retry.taken.contains 98)) := by
  have hkeep : ((retryTurnOn n cls s).ch (leader s n)).cancelled =
      ((if retryUncancels cls (s.ch n).retry then s.onCh (leader s n) fun c => { c with cancelled := false } else s).ch (leader s n)).cancelled :=
    ch_onCh_keep Chan.cancelled _ n _ _ fun _ => rfl
  rw [hkeep]
  change _ = ((s.ch (leader s n)).cancelled && !retryUncancels cls (s.ch n).retry)
  cases retryUncancels cls (s.ch n).retry with
  | true => rw [if_pos rfl, ch_onCh _ _ _ h, Bool.not_true, Bool.and_false]
  | false => rw [if_neg Bool.false_ne_true, Bool.not_false, Bool.and_true]

theorem requestOn_lead {n : Nat} {s : State} (hq : (s.ch n).onReq = false) (h : n < s.chans.length) :
    ((requestOn n s).ch n).cancelled = false ∧
      ((s.ch n).drive = .barred → ((requestOn n s).ch n).drive = .off ∧ ((requestOn n s).ch n).want = .off) := by
  have hkeep : ∀ {α : Type} (g : Chan → α), (∀ c : Chan, g { c with scLatch := false, hsLatch := false, dsLatch := false, uvHold := false } = g c) →
      g ((requestOn n s).ch n) = g { s.ch n with onReq := true, cancelled := false, want := if (s.ch n).drive == .barred then .off else (s.ch n).want,
                                                 drive := if (s.ch n).drive == .barred then .off else (s.ch n).drive } := by
    intro α g hg
    rw [requestOn, if_neg (by simp [hq])]
    refine (forEachCh_keep g (F := fun _ _ c => { c with scLatch := false, hsLatch := false, dsLatch := false, uvHold := false })
      (fun _ _ => hg) _ _ n).trans ?_
    rw [ch_onCh _ _ _ h]
  refine ⟨hkeep Chan.cancelled fun _ => rfl, fun hd => ⟨?_, ?_⟩⟩
  · rw [hkeep Chan.drive fun _ => rfl, hd]
    rfl
  · rw [hkeep Chan.want fun _ => rfl, hd]
    rfl

theorem enterLimp_ch {u : Nat} {s : State} (ha : s.limp.active = false) (hs : s.dev.struct = true) (h : u < s.chans.length) :
    (enterLimp s).ch u = limpChan (s.ch u) := by
  rw [enterLimp, if_neg (by simp [ha, hs]), event_ch]
  simp [endFreeze, State.onChans, State.ch, List.getD, h]

/-- Settles O4: each command by what the leader's drive makes of it, each attempt by what it clears of the cancelled turn-on. -/
theorem gateSupplyCommands : Obligations.GateSupplyCommands := by
  unfold Obligations.GateSupplyCommands
  refine ⟨fun n s h => bstReady_idle h, fun n t0 s x hx hd hl ha hv => ?_, fun n t0 s hd ht hg => ⟨?_, ?_⟩, fun n s ho hb hw hg hu => ⟨?_, ?_⟩,
    fun n s => rfl, fun n t0 s x hx hd hl => ?_, fun n t0 s x hx hd hl hb => ?_, fun n s h => ?_, fun u m s hm huv hd hu => ?_,
    fun u s hw ho hd hl => ?_, fun n s h => ?_, fun u s hw ho hc hu => ?_, fun n cls s hl _ => retryTurnOn_cancelled n cls hl,
    fun n s hq h => requestOn_lead hq h, fun u s ha hs h => ?_⟩
  · have h := bstReady_proceeds hx hd hl
    rwa [proceed_begins (by simpa [bne] using ha) hv] at h
  · exact bstwaitTimeout_bars hd ht
  · exact raises_bstUv (bstwaitTimeout_bars hd ht) hg (still_onCh _ _ _ fun _ => rfl)
  · exact bstUvTurnoff_raises ho hb hw hu
  · exact raises_bstUv (bstUvTurnoff_raises ho hb hw hu) hg rfl
  · simpa only [hl, if_true] using bstReady_waits hx hd
  · have h := bstReady_proceeds hx hd hl
    rwa [proceed_bars hb] at h
  · exact bstUvTurnoff_rests (h.elim .inl fun h => .inr (.inl h))
  · rw [settleUnit_off (wantOf_rank2 hm (by simp [rank2, huv])) (.inr hd)]
    refine ⟨(unitOff_lead (by rwa [onCh_length])).1, fun k hk => (unitOff_gates ?_).1⟩
    rwa [members_onCh (f := fun c => { c with want := .off, byLimp := false }) fun _ => rfl]
  · rcases settleUnit_barred hw ho hd hl with h | h <;> rw [h]
    · exact ⟨hd, fun _ => rfl⟩
    · exact ⟨hd ▸ ch_onCh_keep Chan.drive s u u _ fun _ => rfl, fun k => ch_onCh_keep Chan.hs s u k _ fun _ => rfl⟩
  · exact bstUvTurnoff_rests (.inr (.inr h))
  · rw [settleUnit_cancelled hw ho hc, onCh_onCh]
    refine ⟨by rw [ch_onCh _ _ _ hu], ?_, fun k => ch_onCh_keep Chan.hs s u k _ fun _ => rfl⟩
    exact hc ▸ ch_onCh_keep Chan.cancelled s u u _ fun _ => rfl
  · rw [enterLimp_ch ha hs h]
    rfl

end Sys2Proof.Machine

/-! A bank's battery and the freewheel stages (02 R31, R33, R52, R53). -/

namespace Sys2Proof.Machine

/-! ### The dip -/

/-- A unit in use at the dip: off, barred, its ladder result kept. -/
theorem dipUnit_inUse {u : Nat} {s : State} (ho : (s.ch u).drive ≠ .off) (hb : (s.ch u).drive ≠ .barred) (hw : ∀ t, (s.ch u).drive ≠ .waiting t) :
    dipUnit u s = (unitOff u s).onCh u fun c => { c with drive := .barred, lad := { c.lad with res := (s.ch u).lad.res } } := by
  unfold dipUnit
  split
  · exact absurd ‹_› ho
  · exact absurd ‹_› hb
  · exact absurd ‹_› (hw _)
  · rfl

/-- At the dip no more changes than a turn-off changes. -/
@[simp] theorem still_dipUnit (u : Nat) (s : State) : (dipUnit u s).still = s.still := by
  unfold dipUnit
  split
  · rfl
  · rfl
  · rfl
  · exact still_onCh' (fun _ => rfl) (still_unitOff u s)

theorem dipUnit_leaves {u : Nat} {s : State} (ho : (s.ch u).drive ≠ .off) (hb : (s.ch u).drive ≠ .barred) (hw : ∀ t, (s.ch u).drive ≠ .waiting t)
    (hu : u < s.chans.length) :
    ((dipUnit u s).ch u).drive = .barred ∧ ((dipUnit u s).ch u).lad.res = (s.ch u).lad.res ∧ ((dipUnit u s).ch u).want = (s.ch u).want ∧
      ∀ m ∈ members s u, ((dipUnit u s).ch m).hs = 0 ∧ (m < s.chans.length → ((dipUnit u s).ch m).fw = restFw s m) := by
  have hgates : ∀ m, (((dipUnit u s).ch m).hs, ((dipUnit u s).ch m).fw) = (((unitOff u s).ch m).hs, ((unitOff u s).ch m).fw) := fun m => by
    rw [dipUnit_inUse ho hb hw]
    exact ch_onCh_keep (fun c => (c.hs, c.fw)) _ u m _ fun _ => rfl
  have hlead : (dipUnit u s).ch u = { (unitOff u s).ch u with drive := .barred, lad := { ((unitOff u s).ch u).lad with res := (s.ch u).lad.res } } := by
    rw [dipUnit_inUse ho hb hw, ch_onCh _ _ _ (by rwa [unitOff_length])]
  refine ⟨by rw [hlead], by rw [hlead], by rw [hlead, ← (unitOff_lead hu).2.2], fun m hm => ?_⟩
  obtain ⟨hhs, hfw⟩ := Prod.mk.inj (hgates m)
  rw [hhs, hfw]
  exact unitOff_gates hm

/-! ### The return -/

/-- A unit whose bank is back, before its new turn-on. -/
def freed (u : Nat) (s : State) : State :=
  (forEach (members s u) (fun m y => y.onCh m fun c => { c with uvHold := false }) s).onCh u fun c => { c with cancelled := false }

theorem freed_keep {α : Type} (g : Chan → α) (hu : ∀ c : Chan, g { c with uvHold := false } = g c) (hc : ∀ c : Chan, g { c with cancelled := false } = g c)
    (u k : Nat) (s : State) : g ((freed u s).ch k) = g (s.ch k) :=
  (ch_onCh_keep g _ u k _ hc).trans (forEachCh_keep g (F := fun _ _ c => { c with uvHold := false }) (fun _ _ => hu) _ s k)

theorem freed_uvHold {u m : Nat} {s : State} (hm : m ∈ members s u) (h : m < s.chans.length) : ((freed u s).ch m).uvHold = false := by
  have hk : ((freed u s).ch m).uvHold = ((forEach (members s u) (fun m y => y.onCh m fun c => { c with uvHold := false }) s).ch m).uvHold :=
    ch_onCh_keep Chan.uvHold _ u m _ fun _ => rfl
  rw [hk, ch_forEach_const (g := fun _ c => { c with uvHold := false }) (members_nodup s u), if_pos ⟨hm, h⟩]

theorem batteryBack_eq (u : Nat) (s : State) :
    batteryBack u s = if (s.ch u).drive = .barred ∧ (s.ch u).want ≠ .off then attempt u (freed u s) else freed u s := by
  have hd : ((freed u s).ch u).drive = (s.ch u).drive := freed_keep Chan.drive (fun _ => rfl) (fun _ => rfl) u u s
  have hw : ((freed u s).ch u).want = (s.ch u).want := freed_keep Chan.want (fun _ => rfl) (fun _ => rfl) u u s
  show (if ((freed u s).ch u).drive == .barred && decide (((freed u s).ch u).want ≠ .off) then attempt u (freed u s) else freed u s) = _
  simp only [hd, hw, Bool.and_eq_true, beq_iff_eq, decide_eq_true_eq]

/-- What a turn-on keeps of a channel, a unit's return leaves as it frees it. -/
theorem batteryBack_keep {α : Type} (g : Chan → α) {u k : Nat} {s : State} (h : g ((attempt u (freed u s)).ch k) = g ((freed u s).ch k)) :
    g ((batteryBack u s).ch k) = g ((freed u s).ch k) := by
  rw [batteryBack_eq]
  split
  · exact h
  · rfl

theorem batteryBack_uvHold {u m : Nat} {s : State} (hm : m ∈ members s u) (h : m < s.chans.length) : ((batteryBack u s).ch m).uvHold = false :=
  (batteryBack_keep Chan.uvHold (ch_keeps Chan.uvHold (fun _ => rfl) (still_attempt u _) m)).trans (freed_uvHold hm h)

theorem batteryBack_cancelled {u : Nat} {s : State} (h : u < s.chans.length) : ((batteryBack u s).ch u).cancelled = false := by
  rw [batteryBack_keep Chan.cancelled (attempt_cancelled u u _), freed, ch_onCh _ _ _ (by rwa [forEachCh_length])]

/-- A turn-on of a unit without a timer and a ladder, with its gate supplies, its battery and its segments there. -/
theorem attempt_steady {u m : Nat} {s : State} (hw : (s.ch u).want = .on) (hb : isBridge s u = false) (hl : (s.ch u).hasLadder = false)
    (hu : u < s.chans.length) (hs : ((members s u).any fun k => (s.ch k).bstLow) = false) (ha : ((members s u).any fun k => (s.ch k).alive == 0) = false)
    (hv : vbatOk s u = true) (hm : m ∈ members s u) (hlm : m < s.chans.length) :
    ((attempt u s).ch u).drive = .steady ∧ ((attempt u s).ch m).hs = ~~~(s.ch m).retired := by
  have hv' : vbatOk (returnUnit u s) u = true := by simpa only [vbatOk, returnUnit_sup] using hv
  rw [attempt_proceeds hs, proceed_begins (by simpa only [members_returnUnit, returnUnit_ch] using ha) hv']
  obtain ⟨hd, hon⟩ := beginUnit_steady_on (u := u) (s := returnUnit u s) (by rwa [returnUnit_ch]) (by rwa [isBridge_returnUnit]) (by rwa [returnUnit_ch])
    (by rwa [returnUnit_chans])
  refine ⟨hd, ?_⟩
  rw [(hon m (by rwa [members_returnUnit]) (by rwa [returnUnit_chans])).1, returnUnit_ch]

/-! ### The freewheel stage -/

theorem restFw_diode {n : Nat} {s : State} (hk : (s.ch n).stuck = false) (hf : s.flt.safe = false) :
    restFw s n = if (s.ch n).fwOpt = 1 ∧ (s.ch n).zeroI = false then .diode else .off := by
  simp only [restFw, hk, hf, beq_iff_eq, Bool.false_or, Bool.false_eq_true, if_false]
  by_cases h0 : (s.ch n).fwOpt = 0
  · simp [h0]
  · cases (s.ch n).zeroI <;> simp [h0]

/-- Option NONE (02 R31). -/
theorem restFw_none {n : Nat} {s : State} (h : (s.ch n).fwOpt = 0) : restFw s n = .off := by
  simp [restFw, h]

/-- Settles O5: the dip by what a turn-off leaves, the return by what it frees and by the turn-on that follows. -/
theorem batteryAndFreewheelCommands : Obligations.BatteryAndFreewheelCommands := by
  unfold Obligations.BatteryAndFreewheelCommands
  refine ⟨fun x s h => gives_of_eq rfl (if_pos h), fun u s ho hb hw hu => dipUnit_leaves ho hb hw hu,
    fun x s h => completes_of_still (congrArg done (if_pos h)) (still_forEach _ _ still_dipUnit _), fun s h => ?_, fun s h => ?_, fun n s h => ?_, fun n s h => ?_,
    fun x s h => gives_of_eq rfl (if_pos h), fun n s hk hf => restFw_diode hk hf, fun u m s hw hb hl hu hs ha hv hm hlm => attempt_steady hw hb hl hu hs ha hv hm hlm,
    fun n s h => restFw_none h, fun u s x hx => hx ▸ batteryBack_eq u s, fun u m s hm h => batteryBack_uvHold hm h, fun u s h => batteryBack_cancelled h⟩
  · exact gives_of_eq rfl (if_neg (by simp [bankOk, h]))
  · exact gives_of_eq rfl (if_neg (by simp [bankOk, h]))
  · refine gives_of_eq rfl (onCh_congr ?_)
    simp [h]
  · exact gives_of_eq rfl (onCh_id (if_neg (by simpa using h)))

end Sys2Proof.Machine

/-! What a raised event of class F brings, and the bus fault of two latches of a bank (06 R154, 07 R187, R195). -/

namespace Sys2Proof.Machine

/-! ### Recorded events -/

/-- GUARD detects desaturation, hard shorts, short circuits and stuck channels; CORE the other events of a channel (07 R198). -/
theorem guardSource_channel {n j : Nat} (hn : n < 12) (hj : j < 8) : guardSource (8 * n + j) = (j == 0 || j == 1 || j == 7) := by
  have hlt : 8 * n + j < 96 := by omega
  have hmod : (8 * n + j) % 8 = j := by omega
  simp only [guardSource, hlt, if_true, hmod]

theorem unrecorded_lit {s : State} {src : Nat} (hg : guardSource src = false) (h : lightsOut s = false) : unrecorded s src = false := by
  simp [unrecorded, hg, h]

/-- What one update of a run reaches, under what every update keeps, the run reaches. -/
theorem forEach_reaches {α : Type} {f : α → State → State} {I Q : State → Prop} (hI : ∀ a t, I t → I (f a t)) (hQ : ∀ a t, Q t → Q (f a t))
    {l : List α} {e : α} (he : e ∈ l) (h : ∀ t, I t → Q (f e t)) {s : State} (hs : I s) : Q (forEach l f s) := by
  have hrest : ∀ (l : List α) (t : State), Q t → Q (forEach l f t) := fun l => by
    induction l with
    | nil => exact fun _ h => h
    | cons a l ih => exact fun t ht => ih (f a t) (hQ a t ht)
  induction l generalizing s with
  | nil => cases he
  | cons a l ih =>
    rcases List.mem_cons.mp he with rfl | he
    · exact hrest l _ (h s hs)
    · exact ih he (hI a s hs)

/-! ### Class F -/

theorem enterSafe_safe (s : State) : (enterSafe s).flt.safe = true := by
  unfold enterSafe
  split
  · assumption
  · have hflt : ∀ x : State, (forEach (leaders x) safeUnit x).flt = x.flt := fun x =>
      flt_forEach' (fun u t => (flt_onCh' (flt_unitOff _ _) : (safeUnit u t).flt = t.flt)) rfl
    rw [hflt]
    exact congrArg Flt.safe (flt_bistAbortAll 3 (endFreeze (s.onFlt fun f => { f with safe := true })))

/-- The recording of an event of class F ends in the safe state (07 R195). -/
theorem recordEvent_safe {e : Ev} {s : State} (hc : classOf s e.src = 2) : (recordEvent e s).flt.safe = true := by
  cases hs : s.flt.safe with
  | true => exact (grows_recordEvent e s).safe hs
  | false =>
    have hr : appliedReact s e = 6 := by simp [appliedReact, hs, hc]
    unfold recordEvent
    simp only [hc, hr, hs, issue, beq_self_eq_true, if_true, Bool.false_eq_true, if_false]
    exact enterSafe_safe _

/-- A recorded event of class F that no open window lists brings the safe state (07 R195, R204). -/
theorem raise_safe {evs : List Ev} {e : Ev} {s : State} (he : e ∈ evs) (h : e.src < 120) (hu : unrecorded s e.src = false)
    (hc : ∀ t, classOf t e.src = 2) (hw : ((openWindows s).any fun w => lists s.flt w e.src) = false) : (raise evs s).flt.safe = true := by
  obtain ⟨x, hx, hsrc⟩ := ranked_mem s (List.mem_filter.mpr ⟨he, by simp [hu]⟩ : e ∈ evs.filter fun e => !unrecorded s e.src) h
  rw [← hsrc] at hc hw
  have hstep : ∀ (a : Ev) (t : State), (if lastingSource a.src = true then t.onFlt fun f => { f with lasting := setBit f.lasting a.src } else t).still = t.still :=
    fun a t => still_ite (still_onFlt _ _ fun _ => rfl) rfl
  refine forEach_reaches (I := fun t => t.still = s.still) (Q := fun t => t.flt.safe = true) (fun a t ht => ?_)
    (fun a t ht => (grows_raiseOne _ a t).safe ht) hx (fun t ht => ?_) rfl
  · exact (still_ite ((still_conseqEvent _ _).trans (hstep a t)) ((still_recordEvent _ _).trans (hstep a t))).trans ht
  · have hno : ((openWindows s).any fun w => lists (if lastingSource x.src = true then t.onFlt fun f => { f with lasting := setBit f.lasting x.src } else t).flt w x.src)
        = false := by
      rw [← hw]
      exact congrArg (openWindows s).any (funext fun w => still_keeps (fun t => lists t.flt w x.src) (fun _ => rfl) ((hstep x t).trans ht))
    rw [if_neg (by rw [hno]; exact Bool.false_ne_true)]
    exact recordEvent_safe (hc _)

/-! ### The bus fault -/

/-- A bus fault is the bank's, and is there when another channel of the bank, not of the same parallel group, latched within 1 µs (06 R154). -/
theorem mem_busEvent {n t : Nat} {e : Ev} {s : State} : e ∈ busEvent s n t ↔ e = ev (if n < 6 then 96 else 97) ∧
    ∃ k t', k < 12 ∧ k ≠ n ∧ k / 6 = n / 6 ∧ ((s.ch n).baseMode ≠ 3 ∨ leader s k ≠ leader s n) ∧ (s.ch k).latchAt = some t' ∧
      t / 50 - t' / 50 ≤ 20 ∧ t' / 50 - t / 50 ≤ 20 := by
  have hany : ((List.range 12).any fun k => k ≠ n && k / 6 == n / 6 && !((s.ch n).baseMode == 3 && leader s k == leader s n) &&
      match (s.ch k).latchAt with
      | some t' => decide (t / 50 - t' / 50 ≤ 20) && decide (t' / 50 - t / 50 ≤ 20)
      | none => false) = true ↔ ∃ k t', k < 12 ∧ k ≠ n ∧ k / 6 = n / 6 ∧ ((s.ch n).baseMode ≠ 3 ∨ leader s k ≠ leader s n) ∧ (s.ch k).latchAt = some t' ∧
      t / 50 - t' / 50 ≤ 20 ∧ t' / 50 - t / 50 ≤ 20 := by
    rw [List.any_eq_true]
    refine exists_congr fun k => ?_
    cases (s.ch k).latchAt with
    | none => simp
    | some t' =>
      simp only [List.mem_range, Bool.and_eq_true, decide_eq_true_eq, beq_iff_eq, Bool.not_eq_true', Bool.and_eq_false_iff, beq_eq_false_iff_ne, Option.some.injEq]
      constructor
      · rintro ⟨hk, ⟨⟨hne, hb⟩, hg⟩, h1, h2⟩
        exact ⟨t', hk, hne, hb, hg, rfl, h1, h2⟩
      · rintro ⟨_, hk, hne, hb, hg, rfl, h1, h2⟩
        exact ⟨hk, ⟨⟨hne, hb⟩, hg⟩, h1, h2⟩
  rw [← hany]
  unfold busEvent
  dsimp only
  split
  · exact ⟨fun he => ⟨List.mem_singleton.mp he, ‹_›⟩, fun he => List.mem_singleton.mpr he.1⟩
  · exact ⟨fun he => absurd he List.not_mem_nil, fun he => absurd he.2 ‹_›⟩

theorem classOf_bus (n : Nat) (t : State) : classOf t (if n < 6 then 96 else 97) = 2 := by
  split <;> rfl

/-- A bus fault raised among others leaves its mark, and brings the safe state where no open window lists it (07 R190). -/
theorem raise_bus {n : Nat} {evs : List Ev} {s : State} (he : ev (if n < 6 then 96 else 97) ∈ evs) (hg : s.clk.guardStop = false) :
    seen (settle (raise evs s)) (if n < 6 then 96 else 97) ∧
      (((openWindows s).any fun w => lists s.flt w (if n < 6 then 96 else 97)) = false → (settle (raise evs s)).flt.safe = true) := by
  have hlt : (if n < 6 then 96 else 97) < 120 := by split <;> omega
  have hu := unrecorded_guarded hg (if n < 6 then 96 else 97)
  exact ⟨settle_seen (raise_seen he hlt hu), fun hw => (grows_settle _).safe (raise_safe he hlt hu (classOf_bus n) hw)⟩

/-! ### A latch of the power die -/

/-- A command that latches its channel off: its gate is off, the event has left its mark, and the rest is as the trip left it (06 R142, R154). -/
theorem latch_trips {i : Instr} {n : Nat} {e : Ev} {bus : List Ev} {s x y : State} (hi : exec i s = done (raise (e :: bus) y)) (hy : y.still = x.still)
    (hn : n < y.chans.length) (hl : ((y.ch n).scLatch || (y.ch n).hsLatch || (y.ch n).dsLatch) = true) (hsrc : e.src < 120) (hg : y.clk.guardStop = false) :
    ∃ t, exec i s = .next t ∧ (t.ch n).hs = 0 ∧ seen t e.src ∧ t.still = x.still := by
  refine ⟨_, hi, settle_hs_of_latch ?_ ?_, settle_seen (raise_seen List.mem_cons_self hsrc (unrecorded_guarded hg _)), ?_⟩
  · rwa [chans_length_of_still (still_raise _ _)]
  · rwa [ch_keeps (fun c => c.scLatch || c.hsLatch || c.dsLatch) (fun _ => rfl) (still_raise _ _)]
  · rw [still_settle, still_raise, hy]

end Sys2Proof.Machine

/-! Cycle-limit cuts, CUT reactions, cut milliseconds, short circuits and hard shorts (06 R146 to R151, R154, 07 R190). -/

namespace Sys2Proof.Machine

/-! ### A unit's gates off -/

/-- What updates of channels keep, a turn-off of gates keeps. -/
theorem gatesOff_state {α : Type} (g : State → α) (hg : ∀ s n f, g (State.onCh s n f) = g s) (u : Nat) (s : State) : g (gatesOff u s) = g s :=
  (hg _ u _).trans (forEach_keeps (f := fun n s => s.onCh n fun c => { c with hs := 0 }) (fun _ _ => hg _ _ _) _ s)

theorem gatesOff_keep {α : Type} (g : Chan → α) (hg : ∀ (c : Chan) h d, g { c with hs := h, dt := d } = g c) (u k : Nat) (s : State) :
    g ((gatesOff u s).ch k) = g (s.ch k) :=
  (ch_onCh_keep g _ u k _ fun c => hg c c.hs _).trans (forEachCh_keep g (F := fun _ _ c => { c with hs := 0 }) (fun _ _ c => hg c 0 c.dt) _ s k)

theorem gatesOff_hs {u m : Nat} {s : State} (hm : m ∈ legs s u) : ((gatesOff u s).ch m).hs = 0 := by
  have hk : ((gatesOff u s).ch m).hs = ((forEach (legs s u) (fun n s => s.onCh n fun c => { c with hs := 0 }) s).ch m).hs :=
    ch_onCh_keep Chan.hs _ u m _ fun _ => rfl
  rw [hk, ch_forEach_const (g := fun _ c => { c with hs := 0 }) (legs_nodup s u)]
  by_cases hl : m < s.chans.length
  · rw [if_pos ⟨hm, hl⟩]
  · rw [if_neg fun h => hl h.2, ch_of_length_le (not_lt.mp hl)]
    rfl

@[simp] theorem gatesOff_length (u : Nat) (s : State) : (gatesOff u s).chans.length = s.chans.length :=
  gatesOff_state (fun t => t.chans.length) onCh_length u s

/-! ### The cycle limit (06 R146, R147) -/

/-- The channel whose comparator acts has counted its cut. -/
def counted (n u : Nat) (s : State) : State := (countCut n (gatesOff u s)).onCh n fun c => { c with cutMs := true }

theorem counted_keep {α : Type} (g : Chan → α) (hg : ∀ (c : Chan) h d k b, g { c with hs := h, dt := d, clcuts := k, cutMs := b } = g c) (n u k : Nat) (s : State) :
    g ((counted n u s).ch k) = g (s.ch k) :=
  (ch_onCh_keep g _ n k _ fun c => hg c c.hs c.dt c.clcuts true).trans
    ((ch_onCh_keep g _ n k _ fun c => hg c c.hs c.dt _ c.cutMs).trans (gatesOff_keep g (fun c h d => hg c h d c.clcuts c.cutMs) u k s))

theorem counted_state {α : Type} (g : State → α) (hg : ∀ s n f, g (State.onCh s n f) = g s) (n u : Nat) (s : State) : g (counted n u s) = g s :=
  (hg _ _ _).trans ((hg _ _ _).trans (gatesOff_state g hg u s))

/-- Which timer ends a cut is a matter of the leader's drive, the routes and the timers. -/
theorem cutTimer_congr {s t : State} {u : Nat} (hd : (t.ch u).drive = (s.ch u).drive) (hb : t.tbase = s.tbase) (ht : t.timers = s.timers) :
    cutTimer t u = cutTimer s u := by
  simp only [cutTimer, routeOf, State.tm, hd, hb, ht]

/-- The cut lasts for the rest of its timer's period (06 R146). -/
def cutsPeriod (s : State) (u : Nat) : Bool := ((s.ch u).baseMode == 1 || (s.ch u).baseMode == 2) && cutTimer s u

theorem cycleCut_eq (n u : Nat) (s : State) : cycleCut n u s = (counted n u s).onCh u fun c =>
    if cutsPeriod s u then { c with cutPeriod := true } else { c with chopOff := true, chopAt := s.now } := by
  have hm : ((counted n u s).ch u).baseMode = (s.ch u).baseMode := counted_keep Chan.baseMode (fun _ _ _ _ _ => rfl) n u u s
  have ht : cutTimer (counted n u s) u = cutTimer s u :=
    cutTimer_congr (counted_keep Chan.drive (fun _ _ _ _ _ => rfl) n u u s) (counted_state State.tbase (fun _ _ _ => rfl) n u s)
      (counted_state State.timers (fun _ _ _ => rfl) n u s)
  have hnow : (counted n u s).now = s.now := counted_state State.now (fun _ _ _ => rfl) n u s
  show ((counted n u s).onCh u fun c => if (((counted n u s).ch u).baseMode == 1 || ((counted n u s).ch u).baseMode == 2) && cutTimer (counted n u s) u
    then { c with cutPeriod := true } else { c with chopOff := true, chopAt := (counted n u s).now }) = _
  rw [hm, ht, hnow]
  rfl

theorem cycleCut_hs {n u m : Nat} {s : State} (hm : m ∈ legs s u) : ((cycleCut n u s).ch m).hs = 0 := by
  have hk : ((cycleCut n u s).ch m).hs = ((counted n u s).ch m).hs := by
    rw [cycleCut_eq]
    exact ch_onCh_keep Chan.hs _ u m _ fun _ => by split <;> rfl
  have hc : ((counted n u s).ch m).hs = ((gatesOff u s).ch m).hs :=
    (ch_onCh_keep Chan.hs (countCut n (gatesOff u s)) n m (fun c => { c with cutMs := true }) fun _ => rfl).trans
      (ch_onCh_keep Chan.hs (gatesOff u s) n m _ fun _ => rfl)
  rw [hk, hc, gatesOff_hs hm]

theorem cycleCut_lead {n u : Nat} {s : State} (hu : u < s.chans.length) : (cycleCut n u s).ch u =
    if cutsPeriod s u then { (counted n u s).ch u with cutPeriod := true } else { (counted n u s).ch u with chopOff := true, chopAt := s.now } := by
  rw [cycleCut_eq, ch_onCh _ _ _ (by rwa [counted_state (fun t => t.chans.length) onCh_length])]

theorem still_cycleCut (n u : Nat) (s : State) :
    (cycleCut n u s).still = (s.onCh n fun c => { c with clcuts := sat 0xFFFF (c.clcuts + 1), cutMs := true }).still := by
  have hc : counted n u s = (gatesOff u s).onCh n fun c => { c with clcuts := sat 0xFFFF (c.clcuts + 1), cutMs := true } := onCh_onCh _ n _ _
  rw [cycleCut_eq, still_onCh _ _ _ fun _ => by split <;> rfl, hc]
  exact still_onCh_comm (g := fun c => { c with clcuts := sat 0xFFFF (c.clcuts + 1), cutMs := true }) (fun _ => rfl) n (still_gatesOff u s)

theorem cycleLimitCut_cuts {n : Fin 12} {ma : Nat} {s : State} (hh : (s.ch n).hs ≠ 0) (hm : masked (s.ch n) = false) (hl : inLadder s (leader s n) = false)
    (hr : 250 * (s.ch n).ilimEff ≤ ma) : exec (.cycleLimitCut ⟨n, ma⟩) s = done (cycleCut n (leader s n) s) :=
  congrArg done (if_pos (by simpa [hm, hl, reaches, hr] using hh))

/-! ### A CUT reaction (07 R190) -/

theorem cutUnit_timed {u t : Nat} {s : State} (h : (s.ch u).drive = .timed t) : cutUnit u s = (gatesOff u s).onCh u fun c => { c with cutPeriod := true } := by
  simp only [cutUnit, h]

/-- The routed timer of a unit runs. -/
def routeRuns (s : State) (u : Nat) : Bool :=
  match routeOf s u with
  | some t => (s.tm t).run
  | none => false

theorem cutUnit_steady {u : Nat} {s : State} (h : (s.ch u).drive = .steady) : cutUnit u s = (gatesOff u s).onCh u fun c =>
    if routeRuns s u then { c with cutPeriod := true } else { c with cutOff := true, chopAt := s.now } := by
  simp only [cutUnit, h, routeRuns] <;> rfl

/-- What a leader is told of a cut leaves the gates off. -/
theorem cut_hs {f : Chan → Chan} (hf : ∀ c, (f c).hs = c.hs) {u m : Nat} {s : State} (hm : m ∈ legs s u) : (((gatesOff u s).onCh u f).ch m).hs = 0 := by
  rw [ch_onCh_keep Chan.hs _ u m f hf, gatesOff_hs hm]

theorem cutUnit_steady_hs {u m : Nat} {s : State} (h : (s.ch u).drive = .steady) (hm : m ∈ legs s u) : ((cutUnit u s).ch m).hs = 0 := by
  rw [cutUnit_steady h]
  exact cut_hs (fun _ => by split <;> rfl) hm

theorem cutUnit_runs {u : Nat} {s : State} (h : (s.ch u).drive = .steady) (hr : routeRuns s u = true) (hu : u < s.chans.length) :
    ((cutUnit u s).ch u).cutPeriod = true ∧ ((cutUnit u s).ch u).cutOff = (s.ch u).cutOff := by
  rw [cutUnit_steady h, ch_onCh _ _ _ (by rwa [gatesOff_length]), if_pos hr]
  exact ⟨rfl, gatesOff_keep Chan.cutOff (fun _ _ _ => rfl) u u s⟩

theorem cutUnit_rests {u : Nat} {s : State} (h : (s.ch u).drive = .steady) (hr : routeRuns s u = false) (hu : u < s.chans.length) :
    ((cutUnit u s).ch u).cutOff = true ∧ ((cutUnit u s).ch u).chopAt = s.now := by
  rw [cutUnit_steady h, ch_onCh _ _ _ (by rwa [gatesOff_length]), if_neg (by simp [hr])]
  exact ⟨rfl, rfl⟩

theorem mem_cutUnits {u : Nat} {chs : List Nat} {s : State} : u ∈ cutUnits s chs ↔ u ∈ leaders s ∧ ∃ n ∈ chs, n ∈ legs s u := by
  simp [cutUnits]

/-- A cut for the period of a unit that is held on steady ends with the period of its routed timer (log 45). -/
theorem unitPeriod_endsCut {t u : Nat} {r : List Nat} {s : State} (hd : (s.ch u).drive = .steady) (hw : (s.ch u).want ≠ .timed t)
    (hc : (s.ch u).cutPeriod = true) (hl : (s.ch u).lingers = false ∨ (s.ch u).onReq = true) (hr : routeOf s u = some t) :
    unitPeriod t r u s = resume true u (s.onCh u fun c => { c with cutPeriod := false }) := by
  have hno : ((s.ch u).lingers && !(s.ch u).onReq) = false := by rcases hl with h | h <;> simp [h]
  simp [unitPeriod, hno, hd, hw, hc, hr]

/-! ### Cut milliseconds (06 R148) -/

/-- Each channel as a millisecond of device time ends. -/
def msEnd (c : Chan) : Chan :=
  { c with prot := { c.prot with clact := c.cutMs }, cutRun := if clpDue c then 0 else cutRunNext c, cutMs := false, chopMs := false }

/-- The channels whose run of cut milliseconds reaches CLPERS. -/
def clpDues (s : State) : List Nat := (List.range 12).filter fun n => clpDue (s.ch n)

/-- The state as a millisecond ends, before what is due is raised. -/
def msEnded (s : State) : State := onTBase (fun b => { b with msAt := s.now / 1000 * 1000 }) (s.onChans msEnd)

theorem cutMsBoundary_acts {s : State} (hr : s.timeRuns = true) (ht : s.tbase.msAt < s.now / 1000 * 1000) :
    exec .cutMsBoundary s = done (raise ((clpDues s).map fun n => evCh n 2 causeClp) (forEach (clpDues s) (fun n => setProt n 1) (msEnded s))) :=
  congrArg done (if_pos (by simp [hr, ht]))

theorem raise_nil (s : State) : raise [] s = s := by
  simp [raise, ranked]

theorem msEnded_ch {n : Nat} {s : State} (h : n < s.chans.length) : (msEnded s).ch n = msEnd (s.ch n) := by
  simp [msEnded, onTBase, State.onChans, State.ch, List.getD, h]

theorem cutMsBoundary_counts {s : State} (hr : s.timeRuns = true) (ht : s.tbase.msAt < s.now / 1000 * 1000) (hd : ∀ n, n < 12 → clpDue (s.ch n) = false)
    (hl : s.chans.length = 12) : Gives .cutMsBoundary s { s with
      tbase := { s.tbase with msAt := s.now / 1000 * 1000 },
      chans := s.chans.map fun c => { c with prot := { c.prot with clact := c.cutMs }, cutRun := cutRunNext c, cutMs := false, chopMs := false } } := by
  have hnone : clpDues s = [] := List.filter_eq_nil_iff.mpr fun n hn => by simp [hd n (List.mem_range.mp hn)]
  have hch : s.chans.map msEnd =
      s.chans.map fun c => { c with prot := { c.prot with clact := c.cutMs }, cutRun := cutRunNext c, cutMs := false, chopMs := false } := by
    refine List.map_congr_left fun c hc => ?_
    obtain ⟨n, hn, rfl⟩ := List.getElem_of_mem hc
    have hno : clpDue s.chans[n] = false := by simpa [State.ch, List.getD, hn] using hd n (hl ▸ hn)
    simp [msEnd, hno]
  refine gives_of_eq (cutMsBoundary_acts hr ht) ?_
  rw [hnone, List.map_nil, raise_nil, forEach_nil, ← hch]
  rfl

theorem cutMsBoundary_trips {n : Fin 12} {s : State} (hr : s.timeRuns = true) (ht : s.tbase.msAt < s.now / 1000 * 1000) (hn : n < s.chans.length)
    (hd : clpDue (s.ch n) = true) (ho : lightsOut s = false) :
    ∃ t, exec .cutMsBoundary s = .next t ∧ (t.ch n).prot.bits.getLsbD 1 = true ∧ (t.ch n).cutRun = 0 ∧ seen t (8 * n + 2) := by
  have hdue : n.val ∈ clpDues s := List.mem_filter.mpr ⟨List.mem_range.mpr n.isLt, hd⟩
  have hch : (forEach (clpDues s) (fun n => setProt n 1) (msEnded s)).ch n =
      { msEnd (s.ch n) with prot := { (msEnd (s.ch n)).prot with bits := setBit (msEnd (s.ch n)).prot.bits 1 } } := by
    refine (ch_forEach_const (g := fun _ c => { c with prot := { c.prot with bits := setBit c.prot.bits 1 } }) (List.nodup_range.filter _) (msEnded s) n).trans ?_
    rw [if_pos ⟨hdue, by simpa [msEnded, onTBase, State.onChans] using hn⟩, msEnded_ch hn]
  have hkeep : ∀ {α : Type} (g : Chan → α), (∀ c : Chan, g c.still = g c) →
      g ((settle (raise ((clpDues s).map fun n => evCh n 2 causeClp) (forEach (clpDues s) (fun n => setProt n 1) (msEnded s)))).ch n) =
        g ((forEach (clpDues s) (fun n => setProt n 1) (msEnded s)).ch n) := fun g hg =>
    ch_keeps g hg ((still_settle _).trans (still_raise _ _)) n
  refine ⟨_, cutMsBoundary_acts hr ht, ?_, ?_, settle_seen (raise_seen (e := evCh n 2 causeClp) (List.mem_map_of_mem hdue) ?_ ?_)⟩
  · rw [hkeep Chan.prot fun _ => rfl, hch]
    exact setBit_self _ (by decide)
  · rw [hkeep Chan.cutRun fun _ => rfl, hch]
    exact if_pos hd
  · show 8 * n.val + 2 < 120
    omega
  · refine unrecorded_lit (guardSource_channel n.isLt (by decide)) ?_
    rw [lightsOut, setProts_clk]
    exact ho

/-! ### Short circuits and hard shorts (06 R149 to R151) -/

/-- A channel whose SC latch sets. -/
def scSet (t : Nat) (c : Chan) : Chan := { c with scLatch := true, latchAt := some t, prot := { c.prot with bits := setBit c.prot.bits 4 } }

theorem scTrip_eq (n ns : Nat) (s : State) : scTrip n ns s = raise (evCh n 1 0 :: busEvent s n (nsTime s ns)) (s.onCh n (scSet (nsTime s ns))) :=
  congrArg (raise _) (onCh_onCh s n _ _)

/-- A channel whose HS latch sets. -/
def hsSet (t : Nat) (c : Chan) : Chan := { c with hsLatch := true, latchAt := some t, prot := { c.prot with bits := setBit c.prot.bits 5 } }

theorem hsTrip_eq (n ns : Nat) (s : State) : hsTrip n ns s = raise (evCh n 0 causeHst :: busEvent s n (nsTime s ns)) (s.onCh n (hsSet (nsTime s ns))) :=
  congrArg (raise _) (onCh_onCh s n _ _)

theorem scTrip_acts {n : Fin 12} {ma : Nat} {ns : Fin 1000} {s : State} (hh : (s.ch n).hs ≠ 0) (hm : masked (s.ch n) = false)
    (hl : (s.ch n).scLatch = false) (ha : 1000 * fld (s.ch n).scth 7 0 < ma) : exec (.scTrip ⟨n, ma⟩ ns) s = done (scTrip n ns s) :=
  congrArg done (if_pos (by simpa [hm, hl, aboveScth, ha] using hh))

theorem hsTrip_acts {n : Fin 12} {ns : Fin 1000} {s : State} (hl : (s.ch n).hsLatch = false) (hp : s.dev.phase ≠ .reset) (hu : underTest s n = false) :
    exec (.hsTrip n ns) s = done (hsTrip n ns s) :=
  congrArg done (if_pos (by simp [hl, hp, hu]))

/-- A state that an SC trip finds: what the trip leaves of it (06 R149). -/
theorem scTrip_latches {i : Instr} {n : Fin 12} {ns : Nat} {s y : State} (hi : exec i s = done (scTrip n ns y)) (hy : y.still = s.still)
    (hn : n < y.chans.length) (hg : y.clk.guardStop = false) :
    ∃ t, exec i s = .next t ∧ (t.ch n).hs = 0 ∧ seen t (8 * n + 1) ∧ t.still = (s.onCh n (scSet (nsTime s ns))).still := by
  have ht : nsTime y ns = nsTime s ns := still_keeps (fun s => nsTime s ns) (fun _ => rfl) hy
  have hstill : (y.onCh n (scSet (nsTime y ns))).still = (s.onCh n (scSet (nsTime s ns))).still := by
    rw [ht]
    exact still_onCh_comm (g := scSet (nsTime s ns)) (fun _ => rfl) n hy
  rw [scTrip_eq] at hi
  refine latch_trips hi hstill (by rwa [onCh_length]) ?_ (?_ : 8 * n.val + 1 < 120) hg
  · rw [ch_onCh _ _ _ hn]
    rfl
  · omega

theorem hsTrip_latches {n : Fin 12} {ns : Fin 1000} {s : State} (hl : (s.ch n).hsLatch = false) (hp : s.dev.phase ≠ .reset) (hu : underTest s n = false)
    (hn : n < s.chans.length) (hg : s.clk.guardStop = false) :
    ∃ t, exec (.hsTrip n ns) s = .next t ∧ (t.ch n).hs = 0 ∧ seen t (8 * n) ∧ t.still = (s.onCh n (hsSet (nsTime s ns))).still := by
  have hi := hsTrip_acts (ns := ns) hl hp hu
  rw [hsTrip_eq] at hi
  refine latch_trips hi rfl (by rwa [onCh_length]) ?_ (?_ : 8 * n.val + 0 < 120) hg
  · rw [ch_onCh _ _ _ hn]
    simp [hsSet]
  · omega

/-- A window that closes over a current above SC trips, the blanking gone (06 R150). -/
theorem blankWindowClose_trips {n : Fin 12} {ma : Nat} {ns : Fin 1000} {s : State} (hh : (s.ch n).hs ≠ 0) (hb : (s.ch n).blank = true)
    (hl : (s.ch n).scLatch = false) (ha : 1000 * fld (s.ch n).scth 7 0 < ma) :
    exec (.blankWindowClose n ma ns) s = done (scTrip n ns (s.onCh n fun c => { c with blank := false, blankCap := false })) := by
  have hk := ch_onCh_keep (fun c => aboveScth c ma && decide (c.hs ≠ 0) && !c.scLatch) s n n (fun c => { c with blank := false, blankCap := false }) fun _ => rfl
  refine congrArg done ((if_neg (by simp [hb])).trans (if_pos (hk.trans ?_)))
  simpa [aboveScth, ha, hl] using hh

theorem blankWindowClose_passes {n : Fin 12} {ma : Nat} {ns : Fin 1000} {s : State} (hb : (s.ch n).blank = true)
    (h : ma ≤ 1000 * fld (s.ch n).scth 7 0 ∨ (s.ch n).hs = 0 ∨ (s.ch n).scLatch = true) :
    Gives (.blankWindowClose n ma ns) s (s.onCh n fun c => { c with blank := false, blankCap := false }) := by
  have hk := ch_onCh_keep (fun c => aboveScth c ma && decide (c.hs ≠ 0) && !c.scLatch) s n n (fun c => { c with blank := false, blankCap := false }) fun _ => rfl
  refine gives_of_eq rfl ((if_neg (by simp [hb])).trans (if_neg ?_))
  rw [hk]
  rcases h with h | h | h <;> simp [aboveScth, h]

/-- A trip in the same microsecond as another of the bank is a bus fault (06 R154). -/
theorem bus_of_latch {n k t t' : Nat} {s : State} (hk : k < 12) (hne : k ≠ n) (hb : k / 6 = n / 6) (hl : (s.ch k).latchAt = some t')
    (h1 : t / 50 - t' / 50 ≤ 20) (h2 : t' / 50 - t / 50 ≤ 20) (hp : (s.ch n).baseMode ≠ 3 ∨ leader s k ≠ leader s n) (e : Ev) :
    ev (if n < 6 then 96 else 97) ∈ e :: busEvent s n t :=
  List.mem_cons_of_mem _ (mem_busEvent.mpr ⟨rfl, k, t', hk, hne, hb, hp, hl, h1, h2⟩)

/-- Settles O18: each command by the operation it comes to, each operation by what it leaves of the gates, the leader and the latches. -/
theorem cutAndShortCircuitCommands : Obligations.CutAndShortCircuitCommands := by
  unfold Obligations.CutAndShortCircuitCommands
  refine ⟨?cycle, ?chop, ?period, ?restart, ?expiry, fun s hr ht hd hl => cutMsBoundary_counts hr ht hd hl, fun n s hr ht hn hd ho => cutMsBoundary_trips hr ht hn hd ho,
    ?sc, ?close, fun n ma ns s hb h => blankWindowClose_passes hb h, fun n s h => gives_of_eq rfl (onCh_congr (if_pos h)), ?hard, ?tested, ?ladder, ?unrouted, ?timed, ?steady,
    fun u chs s => mem_cutUnits, fun t u r s hd hw hc hl hr => unitPeriod_endsCut hd hw hc hl hr, fun n t e s => mem_busEvent, fun s ns => rfl, ?scBus, ?hardBus, ?needed⟩
  case cycle =>
    intro n ma s hh hm hl hr
    have hi := cycleLimitCut_cuts hh hm hl hr
    exact ⟨hi, completes_of_still hi (still_cycleCut n _ s)⟩
  case chop =>
    intro n u s hu h
    have hno : cutsPeriod s u = false := by rcases h with h | h | h <;> simp [cutsPeriod, h]
    have hlead := cycleCut_lead (n := n) hu
    rw [hno, if_neg Bool.false_ne_true] at hlead
    exact ⟨by rw [hlead], by rw [hlead], fun m hm => cycleCut_hs hm⟩
  case period =>
    intro n u s hu hb ht
    have hyes : cutsPeriod s u = true := by rcases hb with h | h <;> simp [cutsPeriod, h, ht]
    exact ⟨by rw [cycleCut_lead hu, if_pos hyes], fun m hm => cycleCut_hs hm⟩
  case restart =>
    intro n s hc ht
    exact gives_of_eq rfl (if_pos (by rw [hc, ht]; rfl))
  case expiry =>
    intro n s hc ht
    exact gives_of_eq rfl (if_pos (by rw [hc, ht]; rfl))
  case sc =>
    intro n ma ns s hh hm hl hg ha
    exact scTrip_latches (scTrip_acts hh hm hl ha) rfl (lt_length_of_hs hh) hg
  case close =>
    intro n ma ns s hh hb hl hg ha
    exact scTrip_latches (blankWindowClose_trips hh hb hl ha) (still_onCh _ _ _ fun _ => rfl) (by rw [onCh_length]; exact lt_length_of_hs hh) hg
  case hard =>
    intro n ns s hl hp hg hn hu
    exact hsTrip_latches hl hp hu hn hg
  case tested =>
    intro n ns s hu
    exact gives_of_eq rfl (if_neg (by simp [hu]))
  case ladder =>
    intro u s hd
    simp only [cutUnit, hd]
  case unrouted =>
    intro u s hd hr hu
    obtain ⟨hc, ht⟩ := cutUnit_rests hd (by simp only [routeRuns, hr]) hu
    exact ⟨hc, ht, fun m hm => cutUnit_steady_hs hd hm⟩
  case timed =>
    intro u t s hd hu
    rw [cutUnit_timed hd]
    exact ⟨by rw [ch_onCh _ _ _ (by rwa [gatesOff_length])], fun m hm => cut_hs (f := fun c => { c with cutPeriod := true }) (fun _ => rfl) hm⟩
  case steady =>
    intro u t s hd hr hu
    have hrun : routeRuns s u = (s.tm t).run := by simp only [routeRuns, hr]
    exact ⟨fun m hm => cutUnit_steady_hs hd hm, fun h => cutUnit_runs hd (hrun.trans h) hu, fun h => cutUnit_rests hd (hrun.trans h) hu⟩
  case scBus =>
    intro n ma ns k t' s hh hm hl hg ha hk hne hb hlk h1 h2 hp
    have hi := scTrip_acts (ns := ns) hh hm hl ha
    rw [scTrip_eq] at hi
    exact ⟨_, hi, raise_bus (s := s.onCh n (scSet (nsTime s ns))) (bus_of_latch hk hne hb hlk h1 h2 hp _) hg⟩
  case hardBus =>
    intro n ns k t' s hl hp hg hu hk hne hb hlk h1 h2 hm
    have hi := hsTrip_acts (ns := ns) hl hp hu
    rw [hsTrip_eq] at hi
    exact ⟨_, hi, raise_bus (s := s.onCh n (hsSet (nsTime s ns))) (bus_of_latch hk hne hb hlk h1 h2 hm _) hg⟩
  case needed =>
    intro t u s hf hu hr hd hc
    exact timerNeeded_of_awaits hf hu (by simp [awaits, hr, hc, hd])

end Sys2Proof.Machine

/-! Desaturation, stuck channels, leakage and the notes on gates (02 R23, R24, R40 to R49, 06 R152 to R154). -/

namespace Sys2Proof.Machine

/-! ### One segment in a mask -/

theorem filter_setBit_zero {i : Nat} (h : i < 42) : (List.range 42).filter (fun j => (setBit (0 : Mask42) i).getLsbD j) = [i] := by
  have hone : (List.range 42).filter (fun j => (setBit (0 : Mask42) i).getLsbD j) = (List.range 42).filter (· == i) := by
    refine List.filter_congr fun j hj => ?_
    rw [getLsbD_setBit, show BitVec.getLsbD 0 j = false from BitVec.getLsbD_zero, Bool.false_or, decide_eq_true (List.mem_range.mp hj), Bool.true_and, Bool.beq_eq_decide_eq]
    exact decide_eq_decide.mpr eq_comm
  rw [hone, List.filter_beq, List.count_eq_one_of_mem List.nodup_range (List.mem_range.mpr h)]
  rfl

theorem popcount_setBit_zero {i : Nat} (h : i < 42) : popcount (setBit (0 : Mask42) i) = 1 := congrArg List.length (filter_setBit_zero h)

/-! ### Desaturation (02 R23, R24, 06 R152 to R154) -/

/-- A channel whose segment i has tripped within the event e. -/
def tripSeg (i : Nat) (e : DesatEvent) (c : Chan) : Chan := { c with tripped := setBit c.tripped i, hs := clearBit c.hs i, desat := some e }

/-- A channel that its event e latches off. -/
def dsMark (t : Nat) (e : DesatEvent) (c : Chan) : Chan :=
  { c with desat := some e, dsLatch := true, latchAt := some t, prot := { c.prot with bits := setBit c.prot.bits 6 } }

/-- The trip of segment i completes a channel event (06 R153). -/
def completesEvent (e : DesatEvent) (i : Nat) : Prop := 4 ≤ popcount (setBit e.trips i) ∨ e.engaged &&& ~~~(setBit e.trips i) = 0

/-- The event in which a segment trips: the open one, or a new one. -/
def openEvent (s : State) (n t : Nat) : DesatEvent := (s.ch n).desat.getD ⟨t, (s.ch n).hs, 0, false⟩

/-- A trip of segment i at t, an event that is over having been closed. -/
def tripOn (n i t : Nat) (s : State) : State :=
  let e := { openEvent s n t with trips := setBit (openEvent s n t).trips i }
  let chan := !e.channel && (4 ≤ popcount e.trips || e.engaged &&& ~~~e.trips == 0)
  let s := s.onCh n (tripSeg i { e with channel := e.channel || chan })
  if chan then raise (evCh n 0 causeDesat :: busEvent s n t) (setProt n 6 (s.onCh n fun c => { c with dsLatch := true, latchAt := some t })) else s

/-- Within its microsecond an event takes the next trip (06 R153). -/
theorem desatTrip_open {n i ns : Nat} {s : State} (h : ∀ e, (s.ch n).desat = some e → nsTime s ns ≤ e.first + 1000) :
    desatTrip n i ns s = tripOn n i (nsTime s ns) s := by
  have hopen : (match (s.ch n).desat with | some e => if nsTime s ns ≤ e.first + 1000 then s else desatClose n s | none => s) = s := by
    cases hd : (s.ch n).desat with
    | none => rfl
    | some e => exact if_pos (h e hd)
  exact congrArg (tripOn n i (nsTime s ns)) hopen

theorem tripOn_channel {n i t : Nat} {e : DesatEvent} {s : State} (he : openEvent s n t = e) (hc : e.channel = false) (h : completesEvent e i) :
    tripOn n i t s = raise (evCh n 0 causeDesat :: busEvent (s.onCh n (tripSeg i { e with trips := setBit e.trips i, channel := true })) n t)
      (s.onCh n fun c => dsMark t { e with trips := setBit e.trips i, channel := true } (tripSeg i e c)) := by
  have hyes : (decide (4 ≤ popcount (setBit e.trips i)) || e.engaged &&& ~~~(setBit e.trips i) == 0) = true := by
    rcases h with h | h <;> simp [h]
  simp only [tripOn, he, hc, hyes, Bool.not_false, Bool.true_and, Bool.or_true, if_true, setProt, onCh_onCh]
  rfl

theorem tripOn_solo {n i t : Nat} {e : DesatEvent} {s : State} (he : openEvent s n t = e) (hc : e.channel = false) (h : ¬ completesEvent e i) :
    tripOn n i t s = s.onCh n (tripSeg i { e with trips := setBit e.trips i }) := by
  have hno : (decide (4 ≤ popcount (setBit e.trips i)) || e.engaged &&& ~~~(setBit e.trips i) == 0) = false := by
    simpa [completesEvent] using h
  simp only [tripOn, he, hc, hno, Bool.not_false, Bool.true_and, Bool.or_false, Bool.false_eq_true, if_false]

/-- What an update leaves of the TOPO words and the latches' times decides on a bus fault. -/
theorem busEvent_onCh {f : Chan → Chan} (ht : ∀ c, (f c).topo = c.topo) (hl : ∀ c, (f c).latchAt = c.latchAt) (m n t : Nat) (s : State) :
    busEvent (s.onCh m f) n t = busEvent s n t := by
  have hlead : leader (s.onCh m f) = leader s := funext fun k => leader_onCh ht s m k
  have htopo : ((s.onCh m f).ch n).topo = (s.ch n).topo := topo_onCh ht s m n
  have hlatch : ∀ k, ((s.onCh m f).ch k).latchAt = (s.ch k).latchAt := fun k => ch_onCh_keep Chan.latchAt s m k f hl
  simp only [busEvent, Chan.baseMode, hlead, htopo, hlatch] <;> rfl

/-- A command that completes a channel event. -/
theorem desatTrip_channel {n : Fin 12} {seg : Fin 42} {ns : Fin 1000} {e : DesatEvent} {s : State} (hb : (s.ch n).hs.getLsbD seg = true)
    (hf : ∀ e, (s.ch n).desat = some e → nsTime s ns ≤ e.first + 1000) (he : openEvent s n (nsTime s ns) = e) (hc : e.channel = false)
    (h : completesEvent e seg) : exec (.desatTrip n seg ns) s = done (raise (evCh n 0 causeDesat :: busEvent s n (nsTime s ns))
      (s.onCh n fun c => dsMark (nsTime s ns) { e with trips := setBit e.trips seg, channel := true } (tripSeg seg e c))) := by
  refine congrArg done ((if_pos hb).trans ?_)
  rw [desatTrip_open hf, tripOn_channel he hc h, busEvent_onCh (f := tripSeg _ _) (fun _ => rfl) fun _ => rfl]

/-- A channel event's completion latches the channel off (06 R153, R154). -/
theorem desatTrip_latches {n : Fin 12} {seg : Fin 42} {ns : Fin 1000} {e : DesatEvent} {s : State} (hb : (s.ch n).hs.getLsbD seg = true)
    (hf : ∀ e, (s.ch n).desat = some e → nsTime s ns ≤ e.first + 1000) (he : openEvent s n (nsTime s ns) = e) (hc : e.channel = false)
    (h : completesEvent e seg) (hg : s.clk.guardStop = false) :
    ∃ t, exec (.desatTrip n seg ns) s = .next t ∧ (t.ch n).hs = 0 ∧ seen t (8 * n) ∧
      t.still = (s.onCh n (dsMark (nsTime s ns) { e with trips := setBit e.trips seg, channel := true })).still := by
  have hn : n < s.chans.length := lt_length_of_hs fun h0 => by simp [h0] at hb
  refine latch_trips (desatTrip_channel hb hf he hc h) ?_ (by rwa [onCh_length]) ?_ (?_ : 8 * n.val + 0 < 120) hg
  · exact still_onCh_congr rfl fun c d hcd =>
      (congrArg (dsMark (nsTime s ns) { e with trips := setBit e.trips seg, channel := true }) hcd : _)
  · rw [ch_onCh _ _ _ hn]
    simp [dsMark]
  · omega

/-- A solo event's end counts its trip (06 R153). -/
theorem desatClose_solo {n : Nat} {i : Fin 42} {e : DesatEvent} {s : State} (hd : (s.ch n).desat = some e) (hc : e.channel = false)
    (ht : e.trips = setBit 0 i) (hs : ((s.ch n).segs.getD i SegMon.reset).solo = []) :
    desatClose n s = s.onCh n fun c =>
      { c with desat := none, dssolo := sat 0xFFF (c.dssolo + 1), segs := c.segs.modify i fun m => { m with solo := [s.now] } } := by
  have hsegs : ((s.onCh n fun c => { c with desat := none, dssolo := sat 0xFFF (c.dssolo + 1) }).ch n).segs = (s.ch n).segs :=
    ch_onCh_keep Chan.segs s n n _ fun _ => rfl
  simp only [desatClose, hd, hc, Bool.false_eq_true, if_false, soloClose, ht, popcount_setBit_zero i.isLt, filter_setBit_zero i.isLt, forEach_cons, forEach_nil]
  rw [hsegs, hs]
  simp [onSeg, onCh_onCh]

/-! ### Stuck channels (02 R48, R49) -/

theorem beside_iff {s : State} {n k : Nat} : beside s n k = true ↔ k = n ∨ k / 2 = n / 2 ∨ leader s k = leader s n := by
  simp [beside, or_assoc]

theorem dark_iff {us n : Nat} {s : State} : dark us s n = true ↔ (s.ch n).hs = 0 ∧ ∃ t0, (s.ch n).darkAt = some t0 ∧ t0 + us ≤ guardNow s := by
  unfold dark guardSince
  cases (s.ch n).darkAt <;> simp

/-- CHn, its pair and its unit have been dark as long as R48 asks for. -/
def darkAround (s : State) (n : Nat) : Prop :=
  ∀ k, k < 12 → (k = n ∨ k / 2 = n / 2 ∨ leader s k = leader s n) → dark (if k = n then 40 else 20) s k = true

theorem quiet_iff {s : State} {n : Nat} :
    ((List.range 12).filter (beside s n)).all (fun k => dark (if k = n then 40 else 20) s k) = true ↔ darkAround s n := by
  rw [List.all_eq_true]
  refine ⟨fun h k hk hb => h k (List.mem_filter.mpr ⟨List.mem_range.mpr hk, beside_iff.mpr hb⟩), fun h k hk => ?_⟩
  obtain ⟨hr, hb⟩ := List.mem_filter.mp hk
  exact h k (List.mem_range.mp hr) (beside_iff.mp hb)

theorem stuckDetect_marks {n : Fin 12} {s : State} (h : darkAround s n) (hk : (s.ch n).stuck = false) (hg : s.clk.guardStop = false) (hp : s.dev.phase ≠ .reset) :
    exec (.stuckDetect n) s = done (raise [evCh n 7 0] (s.onCh n fun c => { c with stuck := true, fw := .off })) := by
  refine congrArg done (if_pos ?_)
  simp [quiet_iff.mpr h, hk, hg, hp]

theorem stuckDetect_rests {n : Fin 12} {s : State} (h : ¬ darkAround s n) : Gives (.stuckDetect n) s s := by
  refine gives_of_eq rfl (if_neg ?_)
  simp [Bool.eq_false_iff.mpr fun hq => h (quiet_iff.mp hq)]

/-! ### Leakage (02 R40 to R42) -/

theorem gateLeakEval_due {n : Fin 12} {seg : Fin 42} {above : Bool} {s : State} (h : leakDue s n seg = true) :
    exec (.gateLeakEval n seg above) s = done (leakEval n seg above s) := congrArg done (if_pos h)

/-- An evaluation that is not the second in a row above the limit counts alone. -/
theorem leakEval_counts {n i : Nat} {above : Bool} {s : State} (h : above = true → ((s.ch n).segs.getD i SegMon.reset).leak = 0) :
    leakEval n i above s = onSeg n i (fun m => { m with leak := if above then 1 else 0, evalAt := some s.now }) s := by
  cases above with
  | false => simp [leakEval]
  | true => simp only [leakEval, h rfl]; rfl

/-- A segment evaluated now, with no run of evaluations above the limit. -/
def evaluated (n i : Nat) (s : State) : State := onSeg n i (fun m => { m with leak := 0, evalAt := some s.now }) s

theorem evaluated_retired (n i k : Nat) (s : State) : ((evaluated n i s).ch k).retired = (s.ch k).retired :=
  ch_onCh_keep Chan.retired s n k _ fun _ => rfl

/-- The second evaluation in a row above the limit meets the criterion. -/
theorem leakEval_meets {n i : Nat} {s : State} (h : ((s.ch n).segs.getD i SegMon.reset).leak ≠ 0) :
    leakEval n i true s = criterion n i 1 (evaluated n i s) := by
  simp only [leakEval, evaluated, h, Bool.true_and, ne_eq, not_false_eq_true, decide_true, decide_false, if_true, Bool.false_eq_true, if_false]

theorem criterion_reports {n i : Nat} {why : BitVec 2} {s : State} (hr : (s.ch n).retired.getLsbD i = false) (ho : s.dev.opts.getLsbD 0 = false) :
    criterion n i why s = raise [evCh n 6 0] (s.onCh n fun c => { c with cand := some (i, why) }) :=
  (if_neg (by simp only [hr, Bool.false_eq_true, not_false_eq_true])).trans (if_neg (by simp only [ho, Bool.false_eq_true, not_false_eq_true]))

theorem criterion_retires {n i : Nat} {why : BitVec 2} {s : State} (hr : (s.ch n).retired.getLsbD i = false) (ho : s.dev.opts.getLsbD 0 = true) :
    criterion n i why s = raise [retireEvent (retire n i s) n] (retire n i s) :=
  (if_neg (by simp only [hr, Bool.false_eq_true, not_false_eq_true])).trans (if_pos ho)

theorem leakDue_iff {s : State} {n i : Nat} : leakDue s n i = true ↔ ∃ t0, litAt (s.ch n) i = some t0 ∧ s.since t0 20 = true ∧
    ∀ e, ((s.ch n).segs.getD i SegMon.reset).evalAt = some e → t0 + 20 ≤ e → s.since e 500 = true := by
  unfold leakDue
  cases litAt (s.ch n) i with
  | none => simp
  | some t0 =>
    cases ((s.ch n).segs.getD i SegMon.reset).evalAt with
    | none => simp
    | some e =>
      by_cases hle : t0 + 20 ≤ e
      · have hback : s.since e 500 = true → s.since t0 20 = true := by
          simp only [State.since, Bool.or_eq_true, decide_eq_true_eq]
          exact Or.imp_left fun h => by omega
        simpa [hle] using hback
      · simp [hle]

/-! ### A dead unit (02 R45, 03 R79) -/

theorem barIfDead_bars {n u : Nat} {s : State} (hu : u = leader s n) (hl : u < s.chans.length) (ha : (s.ch n).alive = 0) (hd : (s.ch u).drive ≠ .off) :
    ((barIfDead n s).ch u).drive = .barred ∧ ∀ m ∈ members s u, ((barIfDead n s).ch m).hs = 0 := by
  subst hu
  have hbar : barIfDead n s = (unitOff (leader s n) s).onCh (leader s n) fun c => { c with drive := .barred } := if_pos (by simp [ha, hd])
  rw [hbar]
  refine ⟨by rw [ch_onCh _ _ _ (by rwa [unitOff_length])], fun m hm => ?_⟩
  rw [ch_onCh_keep Chan.hs _ _ m (fun c => { c with drive := .barred }) fun _ => rfl]
  exact (unitOff_gates hm).1

/-! ### Notes on gates (02 R40, R48) -/

theorem noteGates_ch {n : Nat} {s : State} (h : n < s.chans.length) : (noteGates s).ch n =
    { s.ch n with rezero := rezeroWatch (s.ch n), offAt := offSince s.now (s.ch n), lit := litNow s.now (s.ch n), darkAt := darkSince (guardNow s) (s.ch n) } := by
  simp [noteGates, State.onChans, State.ch, List.getD, h]

/-- The notes of earlier times that stand: each without the segments that have gone off. -/
def litKept (hs : Mask42) (l : List (Mask42 × Nat)) : List (Mask42 × Nat) := (l.map fun p => (p.1 &&& hs, p.2)).filter fun p => p.1 ≠ 0

theorem litKept_cons (hs : Mask42) (p : Mask42 × Nat) (l : List (Mask42 × Nat)) :
    litKept hs (p :: l) = if p.1 &&& hs = 0 then litKept hs l else (p.1 &&& hs, p.2) :: litKept hs l := by
  by_cases h : p.1 &&& hs = 0
  · rw [if_pos h, litKept, List.map_cons, List.filter_cons_of_neg (by simpa using h)]
    rfl
  · rw [if_neg h, litKept, List.map_cons, List.filter_cons_of_pos (by simpa using h)]
    rfl

theorem litKept_find {hs : Mask42} {i : Nat} (hi : hs.getLsbD i = true) (l : List (Mask42 × Nat)) :
    ((litKept hs l).find? fun p => p.1.getLsbD i).map Prod.snd = (l.find? fun p => p.1.getLsbD i).map Prod.snd := by
  induction l with
  | nil => rfl
  | cons p l ih =>
    have hbit : (p.1 &&& hs).getLsbD i = p.1.getLsbD i := by rw [BitVec.getLsbD_and, hi, Bool.and_true]
    cases hp : p.1.getLsbD i with
    | true =>
      have hne : p.1 &&& hs ≠ 0 := fun h0 => by simp [h0, hp] at hbit
      rw [litKept_cons, if_neg hne, List.find?_cons_of_pos (by exact hbit.trans hp), List.find?_cons_of_pos (by exact hp)]
      rfl
    | false =>
      have htail : ((litKept hs (p :: l)).find? fun p => p.1.getLsbD i) = (litKept hs l).find? fun p => p.1.getLsbD i := by
        rw [litKept_cons]
        split
        · rfl
        · exact List.find?_cons_of_neg (by rw [hbit, hp]; exact Bool.false_ne_true)
      rw [htail, ih, List.find?_cons_of_neg (by simp [hp])]

/-- A segment is in the masks of a list of notes when one of them has it. -/
theorem foldl_masks (i : Nat) (l : List (Mask42 × Nat)) (m : Mask42) :
    (l.foldl (fun m p => m ||| p.1) m).getLsbD i = (m.getLsbD i || (l.find? fun p => p.1.getLsbD i).isSome) := by
  induction l generalizing m with
  | nil => simp
  | cons p l ih =>
    rw [List.foldl_cons, ih, BitVec.getLsbD_or]
    cases hp : p.1.getLsbD i <;> simp [hp]

/-- A segment that is on has been so since the note of it, or since now. -/
theorem litNow_find {now i : Nat} {c : Chan} (hi : c.hs.getLsbD i = true) :
    ((litNow now c).find? fun p => p.1.getLsbD i).map Prod.snd = some (((c.lit.find? fun p => p.1.getLsbD i).map Prod.snd).getD now) := by
  rw [← litKept_find hi c.lit]
  show ((if c.hs &&& ~~~((litKept c.hs c.lit).foldl (fun m p => m ||| p.1) 0) = 0 then litKept c.hs c.lit
    else litKept c.hs c.lit ++ [(c.hs &&& ~~~((litKept c.hs c.lit).foldl (fun m p => m ||| p.1) 0), now)]).find? fun p => p.1.getLsbD i).map Prod.snd = _
  have hlt : i < 42 := BitVec.lt_of_getLsbD hi
  have hnew : (c.hs &&& ~~~((litKept c.hs c.lit).foldl (fun m p => m ||| p.1) 0)).getLsbD i =
      !((litKept c.hs c.lit).find? fun p => p.1.getLsbD i).isSome := by
    rw [BitVec.getLsbD_and, BitVec.getLsbD_not, foldl_masks, hi]
    simp [hlt]
  cases hfind : (litKept c.hs c.lit).find? fun p => p.1.getLsbD i with
  | some p =>
    split
    · rw [hfind]; rfl
    · rw [List.find?_append, hfind]; rfl
  | none =>
    rw [hfind] at hnew
    split
    · have h0 := ‹_ = _›
      rw [h0] at hnew
      simp at hnew
    · rw [List.find?_append, hfind, Option.none_or, List.find?_singleton, hnew]
      rfl

/-- Since when the gates are on and off, as the aftermath notes it. -/
theorem noteGates_notes {n i : Nat} {s : State} (h : n < s.chans.length) :
    ((noteGates s).ch n).darkAt = (if (s.ch n).hs = 0 then some ((s.ch n).darkAt.getD (guardNow s)) else none) ∧
      litAt ((noteGates s).ch n) i = if (s.ch n).hs.getLsbD i then some ((litAt (s.ch n) i).getD s.now) else none := by
  rw [noteGates_ch h]
  refine ⟨by simp [darkSince], ?_⟩
  unfold litAt
  cases hi : (s.ch n).hs.getLsbD i with
  | false => rfl
  | true => simpa [hi] using litNow_find hi

end Sys2Proof.Machine

/-! The events of a segment (02 R23, R24, R40 to R49, 03 R79, 06 R152 to R154). -/

namespace Sys2Proof.Machine

/-- A first trip on its own switches its segment off, and opens an event (06 R152). -/
theorem desatTrip_opens {n : Fin 12} {seg : Fin 42} {ns : Fin 1000} {s : State} (hb : (s.ch n).hs.getLsbD seg = true) (hd : (s.ch n).desat = none)
    (hmore : (s.ch n).hs &&& ~~~(setBit 0 seg) ≠ 0) : Gives (.desatTrip n seg ns) s (s.onCh n fun c =>
      { c with tripped := setBit c.tripped seg, hs := clearBit c.hs seg, desat := some ⟨nsTime s ns, c.hs, setBit 0 seg, false⟩ }) := by
  have he : openEvent s n (nsTime s ns) = ⟨nsTime s ns, (s.ch n).hs, 0, false⟩ := by rw [openEvent, hd]; rfl
  have hno : ¬ completesEvent ⟨nsTime s ns, (s.ch n).hs, 0, false⟩ seg := by
    rintro (h | h)
    · exact absurd h (by rw [popcount_setBit_zero seg.isLt]; decide)
    · exact hmore h
  refine gives_of_eq rfl ((if_pos hb).trans ?_)
  rw [desatTrip_open (fun e h => by simp [hd] at h), tripOn_solo he rfl hno]
  exact onCh_congr rfl

/-- A trip within the microsecond of the channel's open event belongs to it (06 R153). -/
theorem desatTrip_joins {n : Fin 12} {ns : Fin 1000} {e : DesatEvent} {s : State} (hd : (s.ch n).desat = some e)
    (ht : nsTime s ns ≤ e.first + 1000) :
    openEvent s n (nsTime s ns) = e ∧ ∀ e, (s.ch n).desat = some e → nsTime s ns ≤ e.first + 1000 := by
  refine ⟨by rw [openEvent, hd]; rfl, fun e' h' => ?_⟩
  rw [hd] at h'
  exact Option.some.inj h' ▸ ht

theorem stuckDetect_latches {n : Fin 12} {s : State} (h : darkAround s n) (hn : n < s.chans.length) (hk : (s.ch n).stuck = false)
    (hg : s.clk.guardStop = false) (hp : s.dev.phase ≠ .reset) :
    ∃ t, exec (.stuckDetect n) s = .next t ∧ (t.ch n).fw = .off ∧ seen t (8 * n + 7) ∧ t.still = (s.onCh n fun c => { c with stuck := true }).still := by
  refine ⟨_, stuckDetect_marks h hk hg hp, settle_fw_stuck ?_ ?_,
    settle_seen (raise_seen (e := evCh n 7 0) (List.mem_singleton_self _) ?_ (unrecorded_guarded hg _)), ?_⟩
  · rwa [chans_length_of_still (still_raise _ _), onCh_length]
  · rw [ch_keeps Chan.stuck (fun _ => rfl) (still_raise _ _), ch_onCh _ _ _ hn]
  · show 8 * n.val + 7 < 120
    omega
  · rw [still_settle, still_raise]
    exact still_onCh_congr rfl fun c d hcd => (congrArg (fun c : Chan => { c with stuck := true }) hcd : _)

/-- The criterion's report makes the segment the candidate (02 R42). -/
theorem leakEval_reports {n : Fin 12} {seg : Fin 42} {s : State} (h : leakDue s n seg = true) (hk : ((s.ch n).segs.getD seg SegMon.reset).leak ≠ 0)
    (hr : (s.ch n).retired.getLsbD seg = false) (ho : s.dev.opts.getLsbD 0 = false) (hl : lightsOut s = false) :
    Raises (.gateLeakEval n seg true) s
      ((onSeg n seg (fun m => { m with leak := 0, evalAt := some s.now }) s).onCh n fun c => { c with cand := some (seg.val, 1) }) [8 * n + 6] := by
  have hi := gateLeakEval_due (above := true) h
  have hcrit : criterion n seg 1 (evaluated n seg s) = _ := criterion_reports (by rw [evaluated_retired, hr]) ho
  rw [leakEval_meets hk, hcrit] at hi
  refine raises_of_still hi (still_raise _ _) fun k hmem => ?_
  rw [List.mem_singleton.mp hmem]
  refine raise_seen (e := evCh n 6 0) (List.mem_singleton_self _) ?_ (unrecorded_lit (guardSource_channel n.isLt (by decide)) hl)
  show 8 * n.val + 6 < 120
  omega

/-- Under RETIRE_AUTO the criterion retires the segment (02 R41). -/
theorem leakEval_retires {n : Fin 12} {seg : Fin 42} {s : State} (h : leakDue s n seg = true) (hk : ((s.ch n).segs.getD seg SegMon.reset).leak ≠ 0)
    (hr : (s.ch n).retired.getLsbD seg = false) (ho : s.dev.opts.getLsbD 0 = true) (hn : n < s.chans.length) (hl : lightsOut s = false) :
    ∃ t, exec (.gateLeakEval n seg true) s = .next t ∧ (t.ch n).retired = setBit (s.ch n).retired seg ∧ (t.ch n).hs.getLsbD seg = false ∧
      seen t (8 * n + if popcount (setBit (s.ch n).retired seg) = 5 then 5 else 6) := by
  have hi := gateLeakEval_due (above := true) h
  have hcrit : criterion n seg 1 (evaluated n seg s) = _ := criterion_retires (by rw [evaluated_retired, hr]) ho
  rw [leakEval_meets hk, hcrit] at hi
  have hset := settle_retired (s := evaluated n seg s) (x := raise [retireEvent (retire n seg (evaluated n seg s)) n] (retire n seg (evaluated n seg s)))
    n.isLt (by rwa [evaluated, onSeg, onCh_length]) seg.isLt hl rfl
  rw [evaluated_retired] at hset
  exact ⟨_, hi, hset⟩

/-- Settles O3: a desaturation trip by whether it completes its event, the other events by what their commands come to. -/
theorem segmentSafetyEvents : Obligations.SegmentSafetyEvents := by
  unfold Obligations.SegmentSafetyEvents
  refine ⟨fun n seg ns s hb hd hmore => desatTrip_opens hb hd hmore, ?four, fun n i e s hd hc ht hs => completes_of_still rfl ?close, ?stuck, ?first, ?below,
    fun n seg s h hk hr ho hl => leakEval_reports h hk hr ho hl, fun n seg s h hk hr ho hn hl => leakEval_retires h hk hr ho hn hl,
    fun n u s hu hl ha hd => barIfDead_bars hu hl ha hd, ?every, ?alone, ?bus, fun n i s => leakDue_iff, fun n seg above s h => ?undue, ?lit,
    fun n i s h => noteGates_notes h⟩
  case four =>
    intro n seg ns e s hb hd hc ht h4 hg
    obtain ⟨he, hf⟩ := desatTrip_joins hd ht
    exact desatTrip_latches hb hf he hc (.inl h4) hg
  case close => rw [desatClose_solo hd hc ht hs]
  case stuck =>
    intro n s h hn hk hg hp
    exact stuckDetect_latches (fun k hk hb => dark_iff.mpr (h k hk hb)) hn hk hg hp
  case first =>
    intro n seg s h hk
    exact gives_of_eq (gateLeakEval_due h) (leakEval_counts fun _ => hk)
  case below =>
    intro n seg s h
    exact gives_of_eq (gateLeakEval_due h) (leakEval_counts fun h => absurd h Bool.false_ne_true)
  case every =>
    intro n seg ns e s hb hd hc ht h0 hg
    obtain ⟨he, hf⟩ := desatTrip_joins hd ht
    exact desatTrip_latches hb hf he hc (.inr h0) hg
  case alone =>
    intro n seg ns s hh hd hg
    have he : openEvent s n (nsTime s ns) = ⟨nsTime s ns, setBit 0 seg, 0, false⟩ := by rw [openEvent, hd, hh]; rfl
    exact desatTrip_latches (by rw [hh]; exact setBit_self _ seg.isLt) (fun e h => by simp [hd] at h) he rfl (.inr (BitVec.and_not_self _)) hg
  case bus =>
    intro n seg ns e k t' s hb hd hc ht h4 hg hk hne hbank hlk h1 h2 hp
    obtain ⟨he, hf⟩ := desatTrip_joins hd ht
    exact ⟨_, desatTrip_channel hb hf he hc (.inl h4),
      raise_bus (s := s.onCh n _) (List.mem_cons_of_mem _ (mem_busEvent.mpr ⟨rfl, k, t', hk, hne, hbank, hp, hlk, h1, h2⟩)) hg⟩
  case undue => exact gives_of_eq rfl (if_neg (by simp [h]))
  case lit =>
    intro n k s hk hb h
    refine stuckDetect_rests fun hd => ?_
    obtain ⟨h0, t0, ht0, hle⟩ := dark_iff.mp (hd k hk hb)
    rcases h with h | h
    · exact h h0
    · exact absurd hle (by have := h t0 ht0; omega)

end Sys2Proof.Machine

/-! The rows ON, OFF and BRCMD of CHn_CTL (03 R60, R76, R85, 06 R142, R174, 13 R348). -/

namespace Sys2Proof.Machine

/-! ### The request of a word of CHn_CTL (03 R60) -/

/-- What a word asks of a unit's leader: OFF goes before ON. -/
def ctlRequest (n : Nat) (d : D28) (s : State) : State :=
  if bitAt d 1 then requestOff n s else if bitAt d 0 then requestOn n s else s

theorem ctlRequest_on {n : Nat} {d : D28} (s : State) (h0 : bitAt d 0 = true) (h1 : bitAt d 1 = false) : ctlRequest n d s = requestOn n s := by
  simp [ctlRequest, h0, h1]

theorem ctlRequest_off {n : Nat} {d : D28} (s : State) (h1 : bitAt d 1 = true) : ctlRequest n d s = requestOff n s := by
  simp [ctlRequest, h1]

theorem ctlRequest_none {n : Nat} {d : D28} (s : State) (h0 : bitAt d 0 = false) (h1 : bitAt d 1 = false) : ctlRequest n d s = s := by
  simp [ctlRequest, h0, h1]

/-- The word's BRCMD in the leader's shadow. -/
def stageBrcmd (n : Nat) (d : D28) (s : State) : State := s.onCh n fun c => { c with brcmdSh := BitVec.ofNat 2 (fld d 3 2) }

theorem stageBrcmd_onReq (n k : Nat) (d : D28) (s : State) : ((stageBrcmd n d s).ch k).onReq = (s.ch k).onReq :=
  ch_onCh_keep Chan.onReq s n k _ (by exact fun _ => rfl)

theorem members_stageBrcmd (n u : Nat) (d : D28) (s : State) : members (stageBrcmd n d s) u = members s u :=
  members_onCh (by exact fun _ => rfl) s n u

/-- A channel that leads no unit refuses the word whole, and takes one that asks nothing. -/
theorem writeCtl_follower {n : Nat} {d : D28} {s : State} (hl : leader s n ≠ n) (hd : fld d 3 2 ≠ 0 ∨ bitAt d 0 = true ∨ bitAt d 1 = true) :
    writeCtl n d s = (sDenied, s) := by
  by_cases hb : fld d 3 2 = 0
  · have hact : (bitAt d 0 || bitAt d 1) = true := by rcases hd with h | h | h <;> simp_all
    simp [writeCtl, hl, hb, hact]
  · simp [writeCtl, hl, hb, sDenied, sOk]

/-- The leader of a unit without a bridge: a BRCMD is FORMAT, and ON and OFF are served all the same (03 R76). -/
theorem writeCtl_unbridged {n : Nat} {d : D28} {s : State} (hl : leader s n = n) (hb : (s.ch n).baseMode ≠ 2) :
    writeCtl n d s = (if fld d 3 2 = 0 then sOk else sFormat, ctlRequest n d s) := by
  by_cases hf : fld d 3 2 = 0 <;> simp [writeCtl, ctlRequest, hl, hb, hf, sFormat, sOk]

/-- The leader of a bridge takes BRCMD in its shadow. -/
theorem writeCtl_bridge {n : Nat} {d : D28} {s : State} (hl : leader s n = n) (hb : (s.ch n).baseMode = 2) :
    writeCtl n d s = (sOk, ctlRequest n d (stageBrcmd n d s)) := by
  simp [writeCtl, ctlRequest, stageBrcmd, hl, hb]

/-! ### TIME, where the requests act (13 R344, R348) -/

theorem domainStopped_ctl {n k : Nat} {s : State} (hn : n < 12) (hk : k = 0x200 + 32 * n) : domainStopped s k = s.clk.timeStop := by
  have hg : ((0x80 ≤ k && k < 0x100) || k = 0x3A1 : Bool) = false := by simp; omega
  have ht : ((0x1A0 ≤ k && k < 0x1C0) || isEdge k || isStat k || isCtl k : Bool) = true := by simp [isEdge, isStat, isCtl]; omega
  simp only [domainStopped, hg, ht, Bool.and_true, Bool.and_false, Bool.false_or]

/-- With TIME running the word acts. -/
theorem effect_ctl {a : Access} {n k : Nat} {d : D28} {s : State} (hn : n < 12) (hk : k = 0x200 + 32 * n) (ht : s.clk.timeStop = false) :
    effect a k d s = writeCtl n d s :=
  (effect_own ((domainStopped_ctl hn hk).trans ht)).trans (ownEffect_ch hn (by decide : 0 < 32) hk)

/-- What a word for a stopped TIME leaves: the request of a leader waits, and the rest acts (13 R344). -/
theorem effect_ctl_stopped {a : Access} {n k : Nat} {d : D28} {s : State} (hn : n < 12) (hk : k = 0x200 + 32 * n) (ht : s.clk.timeStop = true) :
    effect a k d s = ((writeCtl n d s).1,
      if fld d 1 0 ≠ 0 ∧ leader s n = n then holdWord k d (writeCtl n (d28 (4 * fld d 3 2)) s).2 else (writeCtl n d s).2) := by
  have hown : ∀ w, ownEffect a k w s = writeCtl n w s := fun w => ownEffect_ch hn (by decide : 0 < 32) hk
  have he : isEdge k = false := by simp [isEdge]; omega
  have hc : isCtl k = true := by simp [isCtl]; omega
  have hq : (k - 0x200) / 32 = n := by omega
  simp [effect, heldEffect, domainStopped_ctl hn hk, ht, hown, he, hc, ctlAsks, hq]

/-- A word that asks no leader for ON or OFF acts whether TIME runs or not. -/
theorem effect_ctl_unasked {a : Access} {n k : Nat} {d : D28} {s : State} (hn : n < 12) (hk : k = 0x200 + 32 * n)
    (h : fld d 1 0 = 0 ∨ leader s n ≠ n) : effect a k d s = writeCtl n d s := by
  cases ht : s.clk.timeStop with
  | false => exact effect_ctl hn hk ht
  | true => rw [effect_ctl_stopped hn hk ht, if_neg fun hask => h.elim hask.1 fun hl => hl hask.2]

/-! ### Rows of CHn_CTL -/

theorem resv_ctl {d : D28} (h : fld d 27 4 = 0) : resv 0xFFFFFF0 d = false := resv_of_fld h (by decide)

/-- A word of CHn_CTL that the channel takes. -/
theorem ctl_gives_ok {i : Instr} {a : Access} {n : Fin 12} {d : D28} {s x : State} (hm : MayStore s a (0x200 + 32 * n)) (hr : fld d 27 4 = 0)
    (he : effect a (0x200 + 32 * n) d s = (sOk, x)) (hx : exec i s = done (writeRow a (0x200 + 32 * n) d s)) : GivesStatus i s sOk x := by
  have hi : baseInfo s (0x200 + 32 * n) = some ([.l, .x], 0xFFFFFF0) := baseInfo_ch n.isLt (by decide : 0 < 32) rfl
  rw [GivesStatus, Gives, hx, writeRow_stores hm (by rw [hi]; rfl) (by rw [reservedAt, hi]; exact resv_ctl hr) rfl he]
  rfl

/-- A word of CHn_CTL of a port, with its record. -/
theorem ctl_gives {i : Instr} {h : Port} {n : Fin 12} {d : D28} {s x : State} {st : BitVec 8} (hm : MayStore s (.write h) (0x200 + 32 * n))
    (hr : fld d 27 4 = 0) (he : effect (.write h) (0x200 + 32 * n) d s = (st, x))
    (hx : exec i s = done (writeRow (.write h) (0x200 + 32 * n) d s)) : GivesStatus i s st (noteLast h 1 (0x200 + 32 * n) st x) := by
  have hi : baseInfo s (0x200 + 32 * n) = some ([.l, .x], 0xFFFFFF0) := baseInfo_ch n.isLt (by decide : 0 < 32) rfl
  rw [GivesStatus, Gives, hx, writeRow_turned hm (by rw [hi]; rfl) (by rw [reservedAt, hi]; exact resv_ctl hr) rfl he]
  rfl

/-- The word of BRCMD_WRITE holds its command and nothing else. -/
theorem brcmdWord_fields (cmd : BitVec 2) : fld (d28 (4 * cmd.toNat)) 27 4 = 0 ∧ fld (d28 (4 * cmd.toNat)) 3 2 = cmd.toNat ∧
    fld (d28 (4 * cmd.toNat)) 1 0 = 0 ∧ bitAt (d28 (4 * cmd.toNat)) 0 = false ∧ bitAt (d28 (4 * cmd.toNat)) 1 = false := by
  revert cmd
  decide

/-! ### What ON and OFF do (03 R60, 06 R142, R161) -/

theorem requestOn_asked {n : Nat} {s : State} (h : (s.ch n).onReq = true) : requestOn n s = s := by rw [requestOn, if_pos h]

theorem requestOff_unasked {n : Nat} {s : State} (h : (s.ch n).onReq = false) : requestOff n s = s := by simp [requestOff, h]

/-- A turn-on sets the on-request of the leader and releases the latches of each member. -/
theorem requestOn_eq {n : Nat} {s : State} (h : (s.ch n).onReq = false) : requestOn n s =
    forEach (members s n) (fun m x => x.onCh m fun c => { c with scLatch := false, hsLatch := false, dsLatch := false, uvHold := false })
      (s.onCh n fun c => { c with onReq := true, cancelled := false, want := if c.drive = .barred then .off else c.want,
                                  drive := if c.drive = .barred then .off else c.drive }) := by
  simp only [requestOn, h, beq_iff_eq, Bool.false_eq_true, if_false]
  exact congrArg (forEach · _ _) (members_onCh (by exact fun _ => rfl) s n n)

theorem requestOff_eq {n : Nat} {s : State} (h : (s.ch n).onReq = true) : requestOff n s =
    forEach (members s n) retryRest (s.onCh n fun c => { c with onReq := false, inrush := false, lingers := false }) := by
  simp only [requestOff, h, Bool.not_true, Bool.false_eq_true, if_false]
  exact congrArg (forEach · _ _) (members_onCh (by exact fun _ => rfl) s n n)

theorem requestOn_onReq {n : Nat} {s : State} (hn : n < s.chans.length) : ((requestOn n s).ch n).onReq = true := by
  cases h : (s.ch n).onReq with
  | true => rw [requestOn_asked h, h]
  | false =>
    rw [requestOn_eq h]
    refine (forEachCh_keep Chan.onReq (F := fun _ _ c => { c with scLatch := false, hsLatch := false, dsLatch := false, uvHold := false })
      (fun _ _ _ => rfl) _ _ n).trans ?_
    rw [ch_onCh _ _ _ hn]

/-- The latches and the hold of a member after a turn-on. -/
theorem requestOn_latches {n m : Nat} {s : State} (h : (s.ch n).onReq = false) (hm : m ∈ members s n) :
    ((requestOn n s).ch m).scLatch = false ∧ ((requestOn n s).ch m).hsLatch = false ∧ ((requestOn n s).ch m).dsLatch = false ∧
      ((requestOn n s).ch m).uvHold = false := by
  rw [requestOn_eq h, ch_forEach_const (g := fun _ c => { c with scLatch := false, hsLatch := false, dsLatch := false, uvHold := false }) (members_nodup s n),
    onCh_length]
  by_cases hl : m < s.chans.length
  · rw [if_pos ⟨hm, hl⟩]
    exact ⟨rfl, rfl, rfl, rfl⟩
  · rw [if_neg fun hc => hl hc.2, ch_of_length_le (by rw [onCh_length]; exact not_lt.mp hl)]
    exact ⟨rfl, rfl, rfl, rfl⟩

/-- ON of a unit without a bridge. -/
theorem ctlOn_gives {a : Access} {n : Fin 12} {s : State} (hm : MayStore s a (0x200 + 32 * n)) (hl : leader s n = n) (hb : (s.ch n).baseMode ≠ 2)
    (ht : s.clk.timeStop = false) : GivesStatus (.ctlOn a n) s sOk (requestOn n s) :=
  ctl_gives_ok hm (by decide) ((effect_ctl n.isLt rfl ht).trans (writeCtl_unbridged hl hb)) rfl

/-- OFF of a unit without a bridge. -/
theorem ctlOff_gives {a : Access} {n : Fin 12} {s : State} (hm : MayStore s a (0x200 + 32 * n)) (hl : leader s n = n) (hb : (s.ch n).baseMode ≠ 2)
    (ht : s.clk.timeStop = false) : GivesStatus (.ctlOff a n) s sOk (requestOff n s) :=
  ctl_gives_ok hm (by decide) ((effect_ctl n.isLt rfl ht).trans (writeCtl_unbridged hl hb)) rfl

/-- A word that asks something of a channel that leads no unit is DENIED, whether TIME runs or not. -/
theorem ctl_gives_denied {i : Instr} {h : Port} {n : Fin 12} {d : D28} {s : State} (hm : MayStore s (.write h) (0x200 + 32 * n)) (hl : leader s n ≠ n)
    (hr : fld d 27 4 = 0) (hd : fld d 3 2 ≠ 0 ∨ bitAt d 0 = true ∨ bitAt d 1 = true)
    (hx : exec i s = done (writeRow (.write h) (0x200 + 32 * n) d s)) : GivesStatus i s sDenied (noteLast h 1 (0x200 + 32 * n) sDenied s) :=
  ctl_gives hm hr ((effect_ctl_unasked n.isLt rfl (.inr hl)).trans (writeCtl_follower hl hd)) hx

/-- A request of a unit's leader waits while TIME is stopped (13 R348). -/
theorem ctl_gives_held {i : Instr} {a : Access} {n : Fin 12} {d : D28} {s : State} (hm : MayStore s a (0x200 + 32 * n)) (hl : leader s n = n)
    (hb : (s.ch n).baseMode ≠ 2) (ht : s.clk.timeStop = true) (hr : fld d 27 4 = 0) (h0 : fld d 3 2 = 0) (hq : fld d 1 0 ≠ 0)
    (hx : exec i s = done (writeRow a (0x200 + 32 * n) d s)) : GivesStatus i s sOk (holdWord (0x200 + 32 * n) d s) := by
  refine ctl_gives_ok hm hr ?_ hx
  rw [effect_ctl_stopped n.isLt rfl ht, if_pos ⟨hq, hl⟩, writeCtl_unbridged hl hb, writeCtl_unbridged hl hb, if_pos h0, h0]
  rfl

/-- ON alone, of a bit of the word's low field. -/
theorem ctlBits_on {d : D28} (h : fld d 1 0 = 1) : bitAt d 0 = true ∧ bitAt d 1 = false := by
  have hlow : d.toNat % 4 = 1 := by simpa [fld] using h
  constructor
  · simp [bitAt, Nat.testBit_eq_decide_div_mod_eq]; omega
  · simp [bitAt, Nat.testBit_eq_decide_div_mod_eq]; omega

/-- Settles O7: each row by what the word leaves of a channel that leads no unit, of a unit's leader and of a bridge's. -/
theorem requestRows : Obligations.RequestRows := by
  unfold Obligations.RequestRows
  refine ⟨?on, ?onAsked, ?off, ?offUnasked, ?brcmd, ?denied, ?bridgeOn, ?bridgeOff, ?brcmdDenied, ?brcmdFormat, ?served, ?held, fun n s h => requestOn_eq h⟩
  case on =>
    intro a n s hm hl hb ht hn hq
    have hkeep : ∀ {α : Type} (g : Chan → α), (∀ c : Chan, g c.still = g c) → ∀ m : Nat,
        g ((settle { requestOn n s with status := sOk }).ch m) = g ((requestOn n s).ch m) := fun g hg m => ch_keeps g hg (still_settle _) m
    refine ⟨_, ctlOn_gives hm hl hb ht, ?_, settle_status _, fun m hmem => ?_, still_settle _⟩
    · rw [hkeep Chan.onReq fun _ => rfl, requestOn_onReq hn]
    · rw [hkeep Chan.scLatch fun _ => rfl, hkeep Chan.hsLatch fun _ => rfl, hkeep Chan.dsLatch fun _ => rfl, hkeep Chan.uvHold fun _ => rfl]
      exact requestOn_latches hq hmem
  case onAsked =>
    intro a n s hm hl hb ht hq
    simpa only [requestOn_asked hq] using ctlOn_gives hm hl hb ht
  case off =>
    intro a n s hm hl hb ht hq
    exact requestOff_eq hq ▸ ctlOff_gives hm hl hb ht
  case offUnasked =>
    intro a n s hm hl hb ht hq
    simpa only [requestOff_unasked hq] using ctlOff_gives hm hl hb ht
  case brcmd =>
    intro a n cmd s hm hl hb
    obtain ⟨hr, hcmd, hq, h0, h1⟩ := brcmdWord_fields cmd
    refine ctl_gives_ok hm hr ((effect_ctl_unasked n.isLt rfl (.inl hq)).trans ((writeCtl_bridge hl hb).trans ?_)) rfl
    rw [ctlRequest_none _ h0 h1, stageBrcmd, hcmd, BitVec.ofNat_toNat, BitVec.setWidth_eq]
  case denied =>
    intro h n s hm hl
    exact ⟨ctl_gives_denied hm hl (by decide) (by decide) rfl, ctl_gives_denied hm hl (by decide) (by decide) rfl⟩
  case bridgeOn =>
    intro a n s hm hl hb ht hn
    refine ⟨ctl_gives_ok hm (by decide) ((effect_ctl n.isLt rfl ht).trans (writeCtl_bridge hl hb)) rfl, requestOn_onReq ?_⟩
    rwa [onCh_length]
  case bridgeOff =>
    intro a n s hm hl hb ht hq
    have hstage : ctlRequest n 2 (stageBrcmd n 2 s) =
        forEach (members s n) retryRest (s.onCh n fun c => { c with brcmdSh := 0, onReq := false, inrush := false, lingers := false }) := by
      rw [ctlRequest_off _ (by decide), requestOff_eq ((stageBrcmd_onReq n n 2 s).trans hq), members_stageBrcmd, stageBrcmd, onCh_onCh]
      rfl
    rw [← hstage]
    exact ctl_gives_ok hm (by decide) ((effect_ctl n.isLt rfl ht).trans (writeCtl_bridge hl hb)) rfl
  case brcmdDenied =>
    intro h n cmd s hm hl hc
    obtain ⟨hr, hcmd, -⟩ := brcmdWord_fields cmd
    exact ctl_gives_denied hm hl hr (.inl (by rw [hcmd]; exact fun h0 => hc (BitVec.eq_of_toNat_eq h0))) rfl
  case brcmdFormat =>
    intro h n cmd s hm hl hb hc
    obtain ⟨hr, hcmd, hq, h0, h1⟩ := brcmdWord_fields cmd
    refine ctl_gives hm hr ((effect_ctl_unasked n.isLt rfl (.inl hq)).trans ((writeCtl_unbridged hl hb).trans ?_)) rfl
    rw [if_neg (by rw [hcmd]; exact fun h0 => hc (BitVec.eq_of_toNat_eq h0)), ctlRequest_none _ h0 h1]
  case served =>
    intro h n addr d s ha hm hl hb ht hr hc hq
    obtain ⟨h0, h1⟩ := ctlBits_on hq
    rw [ha] at hm ⊢
    refine ctl_gives hm hr ((effect_ctl n.isLt rfl ht).trans ((writeCtl_unbridged hl hb).trans ?_)) (congrArg (fun k => done (writeRow (.write h) k d s)) ha)
    rw [if_neg hc, ctlRequest_on _ h0 h1]
  case held =>
    intro a n s hm hl hb ht
    exact ⟨ctl_gives_held hm hl hb ht (by decide) (by decide) (by decide) rfl, ctl_gives_held hm hl hb ht (by decide) (by decide) (by decide) rfl⟩

end Sys2Proof.Machine

/-! The gates of a unit and what its drive asks of them: legs, ladders' sets, the turn-on after an off-interval (03 R59, R65 to R69, 04 R93). -/

namespace Sys2Proof.Machine

/-! ### Legs (03 R72, 06 R158) -/

/-- What of the channels decides which legs of a unit switch. -/
def Chan.wired (c : Chan) : D28 × Retry × Bridge := (c.topo, c.retry, c.bridge)

theorem halfHeld_congr {s t : State} {n : Nat} (h : (t.ch n).wired = (s.ch n).wired) (hf : t.flt = s.flt) : halfHeld t n = halfHeld s n := by
  simp only [Chan.wired, Prod.mk.injEq] at h
  obtain ⟨ht, hr, -⟩ := h
  simp only [halfHeld, rank3, Chan.baseMode, ht, hr, hf]

theorem legs_congr {s t : State} (h : ∀ k, (t.ch k).wired = (s.ch k).wired) (hf : t.flt = s.flt) (u : Nat) : legs t u = legs s u := by
  have htopo : ∀ k, (t.ch k).topo = (s.ch k).topo := fun k => congrArg Prod.fst (h k)
  have hbridge : (t.ch u).bridge = (s.ch u).bridge := congrArg (·.2.2) (h u)
  simp only [legs, unheld, isBridge_congr (htopo u), members_congr htopo, hbridge, fun k => halfHeld_congr (h k) hf]

theorem fwLegs_congr {s t : State} (h : ∀ k, (t.ch k).wired = (s.ch k).wired) (hf : t.flt = s.flt) (u : Nat) : fwLegs t u = fwLegs s u := by
  have hbridge : (t.ch u).bridge = (s.ch u).bridge := congrArg (·.2.2) (h u)
  simp only [fwLegs, unheld, isBridge_congr (congrArg Prod.fst (h u)), legs_congr h hf, hbridge, fun k => halfHeld_congr (h k) hf]

theorem legs_onCh {f : Chan → Chan} (hf : ∀ c, (f c).wired = c.wired) (s : State) (n u : Nat) : legs (s.onCh n f) u = legs s u :=
  legs_congr (fun k => ch_onCh_keep Chan.wired s n k f hf) rfl u

/-- A ladder's counts move no leg. -/
theorem legs_onLad (g : Ladder → Ladder) (s : State) (n u : Nat) : legs (s.onCh n fun c => { c with lad := g c.lad }) u = legs s u :=
  legs_onCh (f := fun c => { c with lad := g c.lad }) (fun _ => rfl) s n u

theorem fwLegs_onCh {f : Chan → Chan} (hf : ∀ c, (f c).wired = c.wired) (s : State) (n u : Nat) : fwLegs (s.onCh n f) u = fwLegs s u :=
  fwLegs_congr (fun k => ch_onCh_keep Chan.wired s n k f hf) rfl u

theorem fwLegs_nodup (s : State) (u : Nat) : (fwLegs s u).Nodup := by
  unfold fwLegs
  split
  · exact (show [u, u + 1].Nodup by simp).filter _
  · exact legs_nodup s u

/-- After a run over some channels of one constant, each of them holds it where a channel in reset does. -/
theorem forEachCh_sets {α : Type} (g : Chan → α) {F : Chan → Chan} {a : α} (hF : ∀ c, g (F c) = a) (hreset : g Chan.reset = a) {l : List Nat} (hl : l.Nodup)
    {m : Nat} (hm : m ∈ l) (s : State) : g ((forEach l (fun n s => s.onCh n F) s).ch m) = a := by
  rw [ch_forEach_const (g := fun _ => F) hl]
  by_cases hk : m < s.chans.length
  · rw [if_pos ⟨hm, hk⟩, hF]
  · rw [if_neg fun h => hk h.2, ch_of_length_le (not_lt.mp hk), hreset]

/-! ### Sets of segments (03 R59, R67) -/

/-- Outside a ladder a member engages every segment in service. -/
theorem onSet_base {s : State} {u : Nat} (h : (s.ch u).drive ≠ .ladder) (c : Chan) : onSet s u c = ~~~c.retired := by
  simp [onSet, h]

/-- In a ladder a member engages the step's set and loads its threshold (03 R65, R68). -/
theorem onSet_ladder {s : State} {u : Nat} (h : (s.ch u).drive = .ladder) (c : Chan) :
    onSet s u c = engagedSet c (stepSegs (ladderOf s u) (s.ch u).lad.step) ∧ loadedLimit s u c = chopThreshold c (ladderOf s u) (s.ch u).lad.step := by
  simp [onSet, loadedLimit, h]

theorem gatesOn_hs {b : Bool} {u m : Nat} {s : State} (hm : m ∈ legs s u) (hl : m < s.chans.length) : ((gatesOn b u s).ch m).hs = onSet s u (s.ch m) := by
  rw [gatesOn_ch, if_pos ⟨hm, hl⟩, chanOn_keep Chan.hs fun _ _ _ => rfl]

end Sys2Proof.Machine

/-! Ladders: chops, rotation, the ends of a step and of the ladder (03 R65 to R69, 06 R147, 07 R182). -/

namespace Sys2Proof.Machine

/-! ### The rotation order (03 R67) -/

/-- An index of a filtered list is a place in the list, with as many kept entries before it. -/
theorem exists_split_of_filter {α : Type} (p : α → Bool) (l : List α) {j : Nat} (hj : j < (l.filter p).length) :
    ∃ a b, l = a ++ (l.filter p)[j] :: b ∧ (a.filter p).length = j := by
  induction l generalizing j with
  | nil => exact absurd hj (Nat.not_lt_zero j)
  | cons x l ih =>
    by_cases hx : p x = true
    · simp only [List.filter_cons_of_pos hx, List.length_cons] at hj ⊢
      cases j with
      | zero => exact ⟨[], l, rfl, rfl⟩
      | succ j =>
        obtain ⟨a, b, hl, ha⟩ := ih (Nat.lt_of_succ_lt_succ hj)
        exact ⟨x :: a, b, by rw [List.getElem_cons_succ, List.cons_append, ← hl], by rw [List.filter_cons_of_pos hx, List.length_cons, ha]⟩
    · simp only [List.filter_cons_of_neg hx] at hj ⊢
      obtain ⟨a, b, hl, ha⟩ := ih hj
      exact ⟨x :: a, b, by rw [List.cons_append, ← hl], by rw [List.filter_cons_of_neg hx, ha]⟩

/-- A filtered list turned to an entry is the list turned to that entry's place, and filtered. -/
theorem exists_rotate_filter {α : Type} (p : α → Bool) (l : List α) (d : α) {j : Nat} (hj : j < (l.filter p).length) :
    ∃ i < l.length, l.getD i d = (l.filter p).getD j d ∧ (l.rotate i).filter p = (l.filter p).rotate j := by
  obtain ⟨a, b, hl, ha⟩ := exists_split_of_filter p l hj
  generalize hg : (l.filter p)[j] = g at hl
  have hget : (l.filter p).getD j d = g := by simp [List.getD, hj, hg]
  subst ha
  refine ⟨a.length, by simp [hl], by rw [hget, hl]; simp [List.getD], ?_⟩
  rw [hl, List.rotate_append_length_eq, List.filter_append, List.filter_append, List.rotate_append_length_eq]

/-- Every segment from a place of the ring on, retired ones among them. -/
def fullRing (r : Nat) : List Nat := (List.range 42).map fun i => rotation ((r + i) % 42)

theorem ringFrom_eq (c : Chan) : ringFrom c = (fullRing c.ring).filter fun g => !c.retired.getLsbD g := rfl

@[simp] theorem fullRing_length (r : Nat) : (fullRing r).length = 42 := by simp [fullRing]

/-- A segment's place in the order is 13 times its index, as its index is 13 times its place. -/
theorem rotation_rotation (j : Nat) : rotation (rotation j) = j % 42 := by
  simp only [rotation]
  omega

/-- The ring from the place of its i-th entry is the ring turned by i. -/
theorem fullRing_rotate {r i : Nat} (hi : i < 42) : fullRing (rotation ((fullRing r).getD i 0)) = (fullRing r).rotate i := by
  have hplace : rotation ((fullRing r).getD i 0) = (r + i) % 42 := by
    simp [fullRing, List.getD, hi, rotation_rotation]
  rw [hplace]
  apply List.ext_getElem
  · simp
  · intro k hk _
    have hk42 : k < 42 := by simpa using hk
    simp only [fullRing, List.getElem_rotate, List.getElem_map, List.getElem_range, List.length_map, List.length_range]
    congr 1
    omega

/-- The ring of an advanced set is the ring turned by as many entries. -/
theorem ringFrom_advance (c : Chan) (k : Nat) : ringFrom (advance c k) = (ringFrom c).rotate k := by
  by_cases hl : ringFrom c = []
  · rw [advance, hl]
    simp [hl]
  · have hj : k % (ringFrom c).length < (ringFrom c).length := Nat.mod_lt _ (List.length_pos_iff.mpr hl)
    obtain ⟨i, hi, hget, hrot⟩ := exists_rotate_filter (fun g => !c.retired.getLsbD g) (fullRing c.ring) 0 hj
    have hadv : advance c k = { c with ring := rotation ((fullRing c.ring).getD i 0) } := by
      rw [hget, ← ringFrom_eq]
      simp [advance, hl]
    rw [hadv, ringFrom_eq, fullRing_rotate (fullRing_length c.ring ▸ hi), ← List.rotate_mod (ringFrom c)]
    exact hrot

/-! ### Chops (03 R65, R67) -/

theorem advance_keep {α : Type} (g : Chan → α) (hg : ∀ (c : Chan) r, g { c with ring := r } = g c) (c : Chan) (k : Nat) : g (advance c k) = g c := by
  unfold advance
  dsimp only
  split
  · rfl
  · exact hg c _

/-- The unit's gates are off, and under ROT = 1 the sets of its legs have advanced. -/
def chopped (u : Nat) (s : State) : State :=
  if stepRot (ladderOf s u) (s.ch u).lad.step == 1 then
    forEach (legs (gatesOff u s) u) (fun n s' => s'.onCh n fun c => advance c (stepSegs (ladderOf s u) (s.ch u).lad.step)) (gatesOff u s)
  else gatesOff u s

theorem chopped_gatesOff {α : Type} (g : Chan → α) (hg : ∀ (c : Chan) r, g { c with ring := r } = g c) (u k : Nat) (s : State) :
    g ((chopped u s).ch k) = g ((gatesOff u s).ch k) := by
  unfold chopped
  split
  · exact forEachCh_keep g (F := fun _ _ c => advance c _) (fun _ _ c => advance_keep g hg c _) _ _ k
  · rfl

theorem chopped_state {α : Type} (g : State → α) (hg : ∀ s n f, g (State.onCh s n f) = g s) (u : Nat) (s : State) : g (chopped u s) = g s := by
  have hoff := gatesOff_state g hg u s
  unfold chopped
  split
  · exact (forEach_keeps (f := fun n s' => s'.onCh n fun c => advance c _) (fun _ _ => hg _ _ _) _ _).trans hoff
  · exact hoff

/-- What the leader keeps of a chop at `now`. -/
def chopLead (l : List D28) (k dead now : Nat) (c : Chan) : Chan :=
  { c with lad := { c.lad with inOff := true, chops := sat 0xFFF (c.lad.chops + 1), lastChop := some now, offt := stepOfft l k },
           dt := if stepOfft l k * 100 ≤ 2 * dead then .none
             else if c.fwOpt ≠ 0 && c.dt == .none then .toFreewheel else c.dt }

theorem ladderChop_eq (u : Nat) (s : State) : ladderChop u s = (chopped u s).onCh u
    (chopLead (ladderOf s u) (s.ch u).lad.step (unitDead (chopped u s) u) (chopped u s).now) := rfl

theorem ladderChop_hs {u m : Nat} {s : State} (hm : m ∈ legs s u) : ((ladderChop u s).ch m).hs = 0 := by
  rw [ladderChop_eq]
  exact (ch_onCh_keep Chan.hs _ u m (chopLead _ _ _ _) fun _ => rfl).trans ((chopped_gatesOff Chan.hs (fun _ _ => rfl) u m s).trans (gatesOff_hs hm))

theorem ladderChop_lad {u : Nat} {s : State} (hu : u < s.chans.length) : ((ladderChop u s).ch u).lad = { (s.ch u).lad with
    inOff := true, chops := sat 0xFFF ((s.ch u).lad.chops + 1), lastChop := some s.now, offt := stepOfft (ladderOf s u) (s.ch u).lad.step } := by
  have hlad : ((chopped u s).ch u).lad = (s.ch u).lad :=
    (chopped_gatesOff Chan.lad (fun _ _ => rfl) u u s).trans (gatesOff_keep Chan.lad (fun _ _ _ => rfl) u u s)
  have hnow : (chopped u s).now = s.now := chopped_state State.now (fun _ _ _ => rfl) u s
  have hlen : (chopped u s).chans.length = s.chans.length := chopped_state (fun t => t.chans.length) onCh_length u s
  rw [ladderChop_eq, ch_onCh _ _ _ (hlen ▸ hu), chopLead, hlad, hnow]

/-! ### The gates that are on follow the step (03 R66 to R68) -/

/-- What a member's set takes from the state: the leader's drive, its step and TOPO word, what asks its gates on, the ladders and the heartbeat. -/
def Chan.engages (c : Chan) : Drive × Ladder × D28 × Pulse × DeadTime := (c.drive, c.lad, c.topo, c.pulse, c.dt)

theorem onSet_congr {s t : State} {u : Nat} (h : (t.ch u).engages = (s.ch u).engages) (hd : t.dev = s.dev) (c : Chan) :
    onSet t u c = onSet s u c ∧ loadedLimit t u c = loadedLimit s u c := by
  simp only [Chan.engages, Prod.mk.injEq] at h
  obtain ⟨h1, h2, h3, -⟩ := h
  simp only [onSet, loadedLimit, ladderOf, Chan.ladderIx, h1, h2, h3, hd, and_self]

theorem asksOn_congr {s t : State} {u : Nat} (h : (t.ch u).engages = (s.ch u).engages) (hp : t.pins = s.pins) : asksOn t u = asksOn s u := by
  simp only [Chan.engages, Prod.mk.injEq] at h
  obtain ⟨h1, -, -, h4, h5⟩ := h
  simp only [asksOn, driveAsks, h1, h4, h5, hp]

theorem reengageChan_congr {s t : State} {u : Nat} (h : (t.ch u).engages = (s.ch u).engages) (hd : t.dev = s.dev) (hp : t.pins = s.pins) (c : Chan) :
    reengageChan t u c = reengageChan s u c := by
  obtain ⟨hset, hlim⟩ := onSet_congr h hd c
  rw [reengageChan, reengageChan, hset, hlim, asksOn_congr h hp]

/-- A member's set is a matter of its gates and its comparator. -/
theorem reengageChan_keep {α : Type} (g : Chan → α) (hg : ∀ (c : Chan) h l f z, g { c with hs := h, limit := l, fw := f, zeroI := z } = g c)
    (s : State) (u : Nat) (c : Chan) : g (reengageChan s u c) = g c := by
  unfold reengageChan
  split
  · exact hg c _ _ c.fw c.zeroI
  · split
    · exact hg c _ _ _ _
    · rfl

theorem reengage_blocked {u : Nat} {s : State} (h : blocked (s.ch u) = true) : reengage u s = s := if_pos h

/-- Outside an off-interval each leg follows, and no other channel. -/
theorem reengage_ch {u : Nat} {s : State} (h : blocked (s.ch u) = false) (m : Nat) :
    (reengage u s).ch m = if m ∈ legs s u ∧ m < s.chans.length then reengageChan s u (s.ch m) else s.ch m := by
  rw [reengage, if_neg (by simp [h])]
  refine ch_forEach (F := fun t _ => reengageChan t u) (g := fun _ => reengageChan s u)
    (P := fun t => (t.ch u).engages = (s.ch u).engages ∧ t.dev = s.dev ∧ t.pins = s.pins) (legs_nodup s u) ?_
    (fun t n h => reengageChan_congr h.1 h.2.1 h.2.2 _) ⟨rfl, rfl, rfl⟩ m
  rintro t n ⟨hc, hd, hp⟩
  exact ⟨(ch_onCh_keep Chan.engages t n u _ (reengageChan_keep Chan.engages (fun _ _ _ _ _ => rfl) t u)).trans hc, hd, hp⟩

theorem reengage_keep {α : Type} (g : Chan → α) (hg : ∀ (c : Chan) h l f z, g { c with hs := h, limit := l, fw := f, zeroI := z } = g c)
    (u k : Nat) (s : State) : g ((reengage u s).ch k) = g (s.ch k) := by
  cases hb : blocked (s.ch u) with
  | true => rw [reengage_blocked hb]
  | false =>
    rw [reengage_ch hb]
    split
    · exact reengageChan_keep g hg s u _
    · rfl

@[simp] theorem still_reengage (u : Nat) (s : State) : (reengage u s).still = s.still :=
  still_ite rfl (still_forEachCh (f := fun t _ => reengageChan t u) (fun t _ c => reengageChan_keep Chan.still (fun _ _ _ _ _ => rfl) t u c) rfl)

/-- A leg that is on follows the step. -/
theorem reengage_lit {u m : Nat} {s : State} (hb : blocked (s.ch u) = false) (hm : m ∈ legs s u) (hh : (s.ch m).hs ≠ 0) :
    ((reengage u s).ch m).hs = onSet s u (s.ch m) &&& ~~~(s.ch m).tripped ∧ ((reengage u s).ch m).limit = loadedLimit s u (s.ch m) := by
  rw [reengage_ch hb, if_pos ⟨hm, lt_length_of_hs hh⟩, reengageChan, if_pos hh]
  exact ⟨rfl, rfl⟩

theorem asksOn_iff {s : State} {u : Nat} : asksOn s u = true ↔ driveAsks (s.ch u) = true ∧ (s.ch u).dt ≠ .toHigh ∧ s.pins.heart = false := by
  simp [asksOn, and_assoc]

/-- A leg that has lost its whole set turns on with the step where the unit's gates are asked on (log 135). -/
theorem reengage_joins {u m : Nat} {s : State} (hb : blocked (s.ch u) = false) (hm : m ∈ legs s u) (hl : m < s.chans.length) (hh : (s.ch m).hs = 0)
    (ha : asksOn s u = true) : ((reengage u s).ch m).hs = onSet s u (s.ch m) &&& ~~~(s.ch m).tripped ∧
      ((reengage u s).ch m).limit = loadedLimit s u (s.ch m) ∧ ((reengage u s).ch m).fw = .off := by
  rw [reengage_ch hb, if_pos ⟨hm, hl⟩, reengageChan, if_neg (not_not.mpr hh), if_pos ha]
  exact ⟨rfl, rfl, rfl⟩

/-- One that is off stays off where nothing asks the unit's gates on. -/
theorem reengage_dark {u m : Nat} {s : State} (hh : (s.ch m).hs = 0) (ha : asksOn s u = false) : ((reengage u s).ch m).hs = 0 := by
  cases hb : blocked (s.ch u) with
  | true => rw [reengage_blocked hb, hh]
  | false =>
    rw [reengage_ch hb]
    split
    · rw [reengageChan, if_neg (not_not.mpr hh), if_neg (by simp [ha]), hh]
    · exact hh

/-! ### The base mode after a ladder (03 R59, R69, R75) -/

/-- The leader of a unit that enters its base mode; `br` says that the unit is a bridge. -/
def baseLead (br : Bool) (c : Chan) : Chan :=
  { c with lad := { c.lad with step := 0 }, pulse := if br then .hold else c.pulse,
           drive := match c.want with
             | .timed t => if br then .timed t else .steady
             | _ => .steady }

theorem enterBase_eq (u : Nat) (s : State) : enterBase u s = reengage u (s.onCh u (baseLead (isBridge s u))) := rfl

theorem baseLead_drive (br : Bool) (c : Chan) :
    (baseLead br c).drive ≠ .ladder ∧ driveAsks (baseLead br c) = true ∧ (br = false → (baseLead br c).drive = .steady) := by
  cases br <;> cases hw : c.want <;> simp [baseLead, driveAsks, hw]

theorem enterBase_lead {u : Nat} {s : State} (hu : u < s.chans.length) : ((enterBase u s).ch u).drive = (baseLead (isBridge s u) (s.ch u)).drive ∧
    ((enterBase u s).ch u).lad = { (s.ch u).lad with step := 0 } := by
  rw [enterBase_eq, reengage_keep Chan.drive fun _ _ _ _ _ => rfl, reengage_keep Chan.lad fun _ _ _ _ _ => rfl, ch_onCh _ _ _ hu]
  exact ⟨rfl, rfl⟩

@[simp] theorem still_enterBase (u : Nat) (s : State) : (enterBase u s).still = s.still :=
  (still_reengage u _).trans (still_onCh _ _ _ fun _ => rfl)

/-- A leg whose gates are on, or turn on as the unit enters its base mode, engages every segment in service. -/
theorem enterBase_hs {u m : Nat} {s : State} (hu : u < s.chans.length) (hm : m ∈ legs s u) (hb : blocked (s.ch u) = false)
    (hon : (s.ch m).hs ≠ 0 ∨ m < s.chans.length ∧ (s.ch u).dt ≠ .toHigh ∧ s.pins.heart = false) :
    ((enterBase u s).ch m).hs = ~~~(s.ch m).retired &&& ~~~(s.ch m).tripped := by
  obtain ⟨hnot, hasks, -⟩ := baseLead_drive (isBridge s u) (s.ch u)
  have hlead : (s.onCh u (baseLead (isBridge s u))).ch u = baseLead (isBridge s u) (s.ch u) := ch_onCh _ _ _ hu
  have hm' : m ∈ legs (s.onCh u (baseLead (isBridge s u))) u := by rwa [legs_onCh (f := baseLead (isBridge s u)) fun _ => rfl]
  have hmem := ch_onCh_keep (fun c => (c.hs, ~~~c.retired &&& ~~~c.tripped)) s u m (baseLead (isBridge s u)) fun _ => rfl
  obtain ⟨hhs, hset⟩ := Prod.mk.injEq _ _ _ _ ▸ hmem
  rw [enterBase_eq, ← hset, ← onSet_base (hlead ▸ hnot)]
  by_cases hh : (s.ch m).hs = 0
  · obtain ⟨hl, hdt, hp⟩ := hon.resolve_left (not_not.mpr hh)
    exact (reengage_joins (hlead ▸ hb) hm' (by rwa [onCh_length]) (hhs.trans hh) (asksOn_iff.mpr (hlead ▸ ⟨hasks, hdt, hp⟩))).1
  · exact (reengage_lit (hlead ▸ hb) hm' (hhs ▸ hh)).1

/-! ### The ends of a step and of the ladder (03 R66, R69) -/

/-- The unit's ladder with its next step begun. -/
def nextStep (u : Nat) (s : State) : State :=
  reengage u (s.onCh u fun c => { c with lad := { c.lad with step := (s.ch u).lad.step + 1, chops := 0, stepUs := 0, rotUs := 0, stepAt := s.now } })

theorem stepEnd_next {u : Nat} {s : State} (h : (s.ch u).lad.step < ladderSteps (ladderOf s u)) : stepEnd u s = nextStep u s := if_pos h

theorem stepEnd_last {u : Nat} {s : State} (h : (s.ch u).lad.step = ladderSteps (ladderOf s u)) : stepEnd u s = ladderEnd u s :=
  if_neg (by omega)

theorem stepDwellEnd_ends {n : Fin 12} {u : Nat} {s : State} (hu : u = leader s n) (hl : inLadder s u = true)
    (hd : stepDwell (ladderOf s u) (s.ch u).lad.step ≤ (s.ch u).lad.stepUs) : exec (.stepDwellEnd n) s = done (stepEnd u s) := by
  subst hu
  exact congrArg done (if_pos (by simp [hl, hd]))

/-- The quiet time of the unit's profile has passed since the latest chop, if there was one. -/
def quietSince (s : State) (u : Nat) : Bool :=
  match (s.ch u).lad.lastChop with
  | some t => s.since t (quietUs (ladderKind (ladderOf s u)))
  | none => true

/-- The running step may end early now (03 R66). -/
def earlyDue (s : State) (u : Nat) : Bool :=
  inLadder s u && stepEarly (ladderOf s u) (s.ch u).lad.step && quietUs (ladderKind (ladderOf s u)) ≤ (s.ch u).lad.stepUs && quietSince s u

theorem stepEarlyEnd_eq (n : Fin 12) (s : State) :
    exec (.stepEarlyEnd n) s = done (if earlyDue s (leader s n) then stepEnd (leader s n) s else s) := rfl

theorem stepEarlyEnd_next {n : Fin 12} {u : Nat} {s : State} (hu : u = leader s n) (hl : inLadder s u = true)
    (he : stepEarly (ladderOf s u) (s.ch u).lad.step = true) (hq : quietUs (ladderKind (ladderOf s u)) ≤ (s.ch u).lad.stepUs)
    (hc : quietSince s u = true) (hk : (s.ch u).lad.step < ladderSteps (ladderOf s u)) : Gives (.stepEarlyEnd n) s (nextStep u s) := by
  subst hu
  refine gives_of_eq (stepEarlyEnd_eq n s) ?_
  rw [if_pos (by simp [earlyDue, hl, he, hq, hc]), stepEnd_next hk]

theorem stepEarlyEnd_rests {n : Fin 12} {s : State} (h : earlyDue s (leader s n) = false) : Gives (.stepEarlyEnd n) s s :=
  gives_of_eq (stepEarlyEnd_eq n s) (if_neg (by simp [h]))

theorem ladderEnd_passes {u : Nat} {s : State} (h : endCheck s u = true) : ladderEnd u s =
    (enterBase u s).onCh u fun c => { c with limpLad := c.limpLad || s.limp.active, lad := { c.lad with res := 1 } } := by
  have hlimp : (enterBase u s).limp.active = s.limp.active := by
    show (reengage u (s.onCh u (baseLead (isBridge s u)))).limp.active = s.limp.active
    unfold reengage
    split
    · rfl
    · exact forEach_keeps (g := fun t => t.limp.active) (f := fun n t => t.onCh n (reengageChan t u)) (fun _ _ => rfl) _ _
  simp only [ladderEnd, h, if_true, hlimp]

theorem ladderEnd_fails {u : Nat} {s : State} (h : endCheck s u = false) : ladderEnd u s =
    raise [evCh u 3 0] ((enterBase u s).onCh u fun c => { c with inrush := true, lad := { c.lad with res := 2 } }) := by
  simp only [ladderEnd, h, Bool.false_eq_true, if_false]

/-- CHn_INRUSH leaves its mark (07 R182). -/
theorem ladderEnd_raises {i : Instr} {u : Nat} {s : State} (hu : u < 12) (h : endCheck s u = false) (hl : lightsOut s = false)
    (hi : exec i s = done (ladderEnd u s)) : Raises i s s [8 * u + 3] := by
  have hstill : ((enterBase u s).onCh u fun c => { c with inrush := true, lad := { c.lad with res := 2 } }).still = s.still :=
    still_onCh' (fun _ => rfl) (still_enterBase u s)
  rw [ladderEnd_fails h] at hi
  refine raises_of_still hi ((still_raise _ _).trans hstill) fun k hk => ?_
  rw [List.mem_singleton.mp hk]
  refine raise_seen (e := evCh u 3 0) (List.mem_singleton_self _) (?_ : 8 * u + 3 < 120) (unrecorded_lit (guardSource_channel hu (by decide)) ?_)
  · omega
  · rw [still_keeps lightsOut (fun _ => rfl) hstill, hl]

theorem endCheck_iff {u : Nat} {s : State} : endCheck s u = true ↔
    (∀ t0, (s.ch u).lad.lastChop = some t0 → checkUs (ladderKind (ladderOf s u)) < s.now - t0) ∧
    (ladderKind (ladderOf s u) = 2 → ∀ m ∈ legs s u, ∀ (i : Int) (q : BitVec 2) (r : List (Int × BitVec 2)), (s.ch m).ipris = (i, q) :: r →
      2 * i ≤ 25 * (stepIlim (ladderOf s u) (ladderSteps (ladderOf s u)) : Int)) := by
  unfold endCheck
  dsimp only
  rw [Bool.and_eq_true]
  refine and_congr ?_ ?_
  · cases (s.ch u).lad.lastChop with
    | none => simp
    | some t => simp
  · rw [Bool.or_eq_true, decide_eq_true_eq, ne_eq, ← imp_iff_not_or, List.all_eq_true]
    refine imp_congr_right fun _ => forall₂_congr fun m _ => ?_
    cases (s.ch m).ipris with
    | nil => simp
    | cons p l =>
      rw [decide_eq_true_eq]
      constructor
      · rintro h i q r hp
        cases hp
        exact h
      · exact fun h => h p.1 p.2 l rfl

/-! ### A ladder's start (03 R63, R67) -/

/-- The leader of a unit whose ladder starts at `now`. -/
def ladderLead (now : Nat) (c : Chan) : Chan :=
  { c with drive := .ladder, inrush := false, cutPeriod := false, lad := { Ladder.reset with step := 1, stepAt := now, res := c.lad.res } }

/-- The members' rings set to their first entries. -/
def ringsReset (u : Nat) (s : State) : State := forEach (members s u) (fun n s => s.onCh n fun c => { c with ring := 0 }) s

theorem startLadder_eq (u : Nat) (s : State) :
    startLadder u s = gatesOn true u ((ringsReset u s).onCh u (ladderLead (ringsReset u s).now)) := rfl

theorem startLadder_lead {u : Nat} {s : State} (hu : u < s.chans.length) :
    ((startLadder u s).ch u).cutPeriod = false ∧ ((startLadder u s).ch u).lad.step = 1 := by
  have hlen : u < (ringsReset u s).chans.length := by rwa [ringsReset, forEachCh_length (F := fun _ _ c => { c with ring := 0 })]
  rw [startLadder_eq, gatesOn_keep Chan.cutPeriod (fun _ _ _ => rfl) (fun _ _ _ => rfl), gatesOn_keep Chan.lad (fun _ _ _ => rfl) (fun _ _ _ => rfl),
    ch_onCh _ _ _ hlen]
  exact ⟨rfl, rfl⟩

/-- Settles O8: each command by the operation it comes to, each operation by what it leaves of the legs and the leader, the ring by its turns. -/
theorem ladderCommands : Obligations.LadderCommands := by
  unfold Obligations.LadderCommands
  refine ⟨?chop, ?chopLeaves, ?offtime, ?rotate, ?dwell, ?early, ?passes, ?fails, ringFrom_advance, fun u s h => reengage_blocked h,
    fun u m s hb hm hh => reengage_lit hb hm hh, fun u s c h => onSet_ladder h c, ?base,
    ?joins, ?dark, ?baseJoins, fun u s hu => startLadder_lead hu, ?earlyChop, ?constants, ?notEarly, fun u s => endCheck_iff⟩
  case chop =>
    intro n ma s hl ho hh hr
    exact gives_of_eq rfl (if_pos (by simpa [hl, ho, reaches, hr] using hh))
  case chopLeaves =>
    intro u s hu
    rw [ladderChop_lad hu]
    exact ⟨rfl, rfl, rfl, rfl, fun m hm => ladderChop_hs hm⟩
  case offtime =>
    intro n t0 s ho hc ht
    exact gives_of_eq rfl (if_pos (by rw [ho, hc]; exact ht))
  case rotate =>
    intro n k s hl hk hr ht
    subst hk
    have hlegs : legs (s.onCh (leader s n) fun c => { c with lad := { c.lad with rotUs := c.lad.rotUs - 1000 } }) (leader s n) = legs s (leader s n) :=
      legs_onLad (fun l => { l with rotUs := l.rotUs - 1000 }) s _ _
    have hdue : (inLadder s (leader s n) && stepRot (ladderOf s (leader s n)) (s.ch (leader s n)).lad.step == 2 &&
        decide (1000 ≤ (s.ch (leader s n)).lad.rotUs)) = true := by rw [hl, hr, decide_eq_true ht]; rfl
    refine gives_of_eq (congrArg done (if_pos hdue)) ?_
    dsimp only
    rw [hlegs]
  case dwell =>
    intro n u s hu hl hd hk
    exact gives_of_eq (stepDwellEnd_ends hu hl hd) (stepEnd_next hk)
  case early =>
    intro n u s hu hl he hq hc hk
    exact stepEarlyEnd_next hu hl he hq (by rw [quietSince, hc]) hk
  case passes =>
    intro n u s hu hl hd hk hc
    exact gives_of_eq (stepDwellEnd_ends hu hl hd) ((stepEnd_last hk).trans (ladderEnd_passes hc))
  case fails =>
    intro n u s hu hlt hl hd hk hc ho
    have hi := stepEnd_last hk ▸ stepDwellEnd_ends hu hl hd
    exact ⟨gives_of_eq hi (ladderEnd_fails hc), ladderEnd_raises hlt hc ho hi⟩
  case base =>
    intro u s hu
    obtain ⟨hdrive, hlad⟩ := enterBase_lead hu
    refine ⟨by rw [hlad], ⟨fun t hw hb => ?_, fun hb => ?_⟩, fun m hm hb hh => enterBase_hs hu hm hb (.inl hh)⟩
    · rw [hdrive, baseLead, hw, hb]
      rfl
    · exact hdrive.trans ((baseLead_drive _ _).2.2 hb)
  case joins =>
    intro u m s hb hm hl hh ha hd hp
    exact reengage_joins hb hm hl hh (asksOn_iff.mpr ⟨ha, hd, hp⟩)
  case dark =>
    intro u m s hh h
    refine reengage_dark hh (Bool.eq_false_iff.mpr fun ha => ?_)
    obtain ⟨hask, hdt, hheart⟩ := asksOn_iff.mp ha
    rcases h with h | h | h <;> simp_all
  case baseJoins =>
    intro u m s hu hm hl hb hh hd hp
    exact enterBase_hs hu hm hb (.inr ⟨hl, hd, hp⟩)
  case earlyChop =>
    intro n u t0 s hu hl he hq hc
    have hquiet : quietSince s u = s.since t0 (quietUs (ladderKind (ladderOf s u))) := by rw [quietSince, hc]
    refine ⟨fun ht hk => stepEarlyEnd_next hu hl he hq (hquiet.trans ht) hk, fun ht => stepEarlyEnd_rests ?_⟩
    rw [← hu, earlyDue, hquiet, ht, Bool.and_false]
  case constants => exact ⟨rfl, rfl, rfl, rfl, rfl, rfl⟩
  case notEarly =>
    intro n u s hu h
    subst hu
    refine stepEarlyEnd_rests ?_
    rcases h with h | h <;> simp [earlyDue, h]

end Sys2Proof.Machine

/-! Refresh pulses, period starts that are due, falling requests and dead times (03 R81 to R84, 04 R89 to R110). -/

namespace Sys2Proof.Machine

/-! ### Where a refresh pulse takes its place (03 R81, R82) -/

/-- What the comparator of a gate supply reads. -/
def supplyLow (n : Nat) (b : Bool) (s : State) : State := s.onCh n fun c => { c with bstLow := b }

theorem supplyLow_keep {α : Type} (g : Chan → α) (hg : ∀ (c : Chan) b, g { c with bstLow := b } = g c) (n k : Nat) (b : Bool) (s : State) :
    g ((supplyLow n b s).ch k) = g (s.ch k) := ch_onCh_keep g s n k _ fun c => hg c b

theorem leader_supplyLow (n k : Nat) (b : Bool) (s : State) : leader (supplyLow n b s) k = leader s k :=
  leader_congr (supplyLow_keep Chan.topo (fun _ _ => rfl) n k b s)

/-- At once in static, parallel-member and inrush operation. -/
theorem placeRefresh_static {n u : Nat} {s : State} (hu : leader s n = u) (he : (s.ch u).refEn = true) (hr : (s.ch u).refreshing = false)
    (hl : (s.ch n).hs ≠ 0 ∨ n ∈ legs s u) (hd : (s.ch u).drive = .steady ∨ (s.ch u).drive = .ladder) : placeRefresh n s = startRefresh u s := by
  have hleg : (decide ((s.ch n).hs ≠ 0) || (legs s u).contains n) = true := by simpa using hl
  unfold placeRefresh
  dsimp only
  rw [hu, he, hr, hleg]
  rcases hd with hd | hd <;> rw [hd] <;> rfl

/-- At the next period start of a unit that follows a timer, but at once on a parallel group whose gates are on or asked for (log 118). -/
theorem placeRefresh_timed {n u t : Nat} {s : State} (hu : leader s n = u) (he : (s.ch u).refEn = true) (hr : (s.ch u).refreshing = false)
    (hl : (s.ch n).hs ≠ 0 ∨ n ∈ legs s u) (hd : (s.ch u).drive = .timed t) : placeRefresh n s =
      if (s.ch u).baseMode = 3 ∧ ((s.ch n).hs ≠ 0 ∨ (s.ch u).pulse ≠ .off) then startRefresh u s
      else s.onCh u fun c => { c with refreshDue := true } := by
  have hleg : (decide ((s.ch n).hs ≠ 0) || (legs s u).contains n) = true := by simpa using hl
  unfold placeRefresh
  dsimp only
  rw [hu, he, hr, hleg, hd]
  simp [driveAsks, hd]

/-- A crossing on a channel that conducts, 100 µs or more after the latest pulse. -/
theorem refresh_places {n u : Nat} {s : State} (hu : leader s n = u) (hh : (s.ch n).hs ≠ 0) (hs : spaced s u = true) : refresh n s = placeRefresh n s := by
  subst hu
  exact if_pos (by rw [decide_eq_true hh, hs]; rfl)

theorem spaced_first {s : State} {u : Nat} (h : (s.ch u).refreshAt = none) : spaced s u = true := by simp only [spaced, h]

theorem spaced_since {s : State} {u t0 : Nat} (h : (s.ch u).refreshAt = some t0) : spaced s u = s.since t0 100 := by simp only [spaced, h]

/-- A crossing on a channel whose unit has had no pulse yet. -/
theorem refreshPulse_places {n : Fin 12} {u : Nat} {s : State} (hu : u = leader s n) (hh : (s.ch n).hs ≠ 0) (ha : (s.ch u).refreshAt = none) :
    Gives (.refreshPulse n) s (placeRefresh n (supplyLow n true s)) := by
  subst hu
  have hhs : ((supplyLow n true s).ch n).hs ≠ 0 := by rwa [supplyLow_keep Chan.hs fun _ _ => rfl]
  have hat : ((supplyLow n true s).ch (leader s n)).refreshAt = none := by rwa [supplyLow_keep Chan.refreshAt fun _ _ => rfl]
  exact gives_of_eq rfl (refresh_places (leader_supplyLow n n true s) hhs (spaced_first hat))

theorem refreshPulse_static {n : Fin 12} {u : Nat} {s : State} (hu : u = leader s n) (he : (s.ch u).refEn = true) (hr : (s.ch u).refreshing = false)
    (hh : (s.ch n).hs ≠ 0) (ha : (s.ch u).refreshAt = none) (hd : (s.ch u).drive = .steady ∨ (s.ch u).drive = .ladder) :
    Gives (.refreshPulse n) s (startRefresh u (supplyLow n true s)) := by
  rw [← placeRefresh_static ((leader_supplyLow n n true s).trans hu.symm)]
  · exact refreshPulse_places hu hh ha
  · rwa [supplyLow_keep Chan.refEn fun _ _ => rfl]
  · rwa [supplyLow_keep Chan.refreshing fun _ _ => rfl]
  · exact .inl (by rwa [supplyLow_keep Chan.hs fun _ _ => rfl])
  · rwa [supplyLow_keep Chan.drive fun _ _ => rfl]

theorem refreshPulse_timed {n : Fin 12} {u t : Nat} {s : State} (hu : u = leader s n) (he : (s.ch u).refEn = true) (hr : (s.ch u).refreshing = false)
    (hh : (s.ch n).hs ≠ 0) (ha : (s.ch u).refreshAt = none) (hd : (s.ch u).drive = .timed t) :
    Gives (.refreshPulse n) s (if (s.ch u).baseMode = 3 then startRefresh u (supplyLow n true s)
      else (supplyLow n true s).onCh u fun c => { c with refreshDue := true }) := by
  have hplace := placeRefresh_timed (t := t) ((leader_supplyLow n n true s).trans hu.symm) ((supplyLow_keep Chan.refEn (fun _ _ => rfl) n u true s).trans he)
    ((supplyLow_keep Chan.refreshing (fun _ _ => rfl) n u true s).trans hr) (.inl ((supplyLow_keep Chan.hs (fun _ _ => rfl) n n true s).symm ▸ hh))
    ((supplyLow_keep Chan.drive (fun _ _ => rfl) n u true s).trans hd)
  have hmode : ((supplyLow n true s).ch u).baseMode = 3 ∧ (((supplyLow n true s).ch n).hs ≠ 0 ∨ ((supplyLow n true s).ch u).pulse ≠ .off) ↔
      (s.ch u).baseMode = 3 := by
    rw [supplyLow_keep Chan.baseMode fun _ _ => rfl, supplyLow_keep Chan.hs fun _ _ => rfl]
    exact and_iff_left (.inl hh)
  simp only [hmode] at hplace
  exact hplace ▸ refreshPulse_places hu hh ha

/-- The recheck of a pulse that began 10 µs ago (03 R82). -/
theorem refreshRecheck_due {n : Fin 12} {t0 : Nat} {b : Bool} {s : State} (ha : (s.ch (leader s n)).refreshAt = some t0) (ht : s.since t0 10 = true) :
    Gives (.refreshRecheck n b) s (if b then refresh n (supplyLow n b s) else supplyLow n b s) := by
  refine gives_of_eq rfl (if_neg ?_)
  simp [ha, ht]

theorem refreshSpacingExpiry_eq (n : Fin 12) (s : State) :
    exec (.refreshSpacingExpiry n) s = done (if (s.ch n).bstLow && spaced s (leader s n) then placeRefresh n s else s) := rfl

/-- The spacing ends with the supply still low. -/
theorem refreshSpacingExpiry_places {n : Fin 12} {u t0 : Nat} {s : State} (hu : u = leader s n) (hb : (s.ch n).bstLow = true)
    (ha : (s.ch u).refreshAt = some t0) (ht : s.since t0 100 = true) : Gives (.refreshSpacingExpiry n) s (placeRefresh n s) := by
  subst hu
  exact gives_of_eq (refreshSpacingExpiry_eq n s) (if_pos (by rw [hb, spaced_since ha, ht]; rfl))

/-! ### A refresh pulse (03 R81, R84) -/

/-- The channel whose COUNT counts the pulse: the switching leg in a bridge, else the leader. -/
def countedLeg (s : State) (u : Nat) : Nat := if isBridge s u then (legs s u).getD 0 u else u

/-- The leader of a unit whose pulse starts at `now`. -/
def refreshLead (now : Nat) (c : Chan) : Chan := { c with refreshing := true, refreshDue := false, refreshAt := some now }

theorem startRefresh_eq (u : Nat) (s : State) : startRefresh u s =
    ((gatesOff u s).onCh (countedLeg s u) fun c => { c with refreshes := sat 0xFFFF (c.refreshes + 1) }).onCh u (refreshLead (gatesOff u s).now) := rfl

theorem startRefresh_hs {u m : Nat} {s : State} (hm : m ∈ legs s u) : ((startRefresh u s).ch m).hs = 0 := by
  rw [startRefresh_eq]
  refine (ch_onCh_keep Chan.hs _ u m (refreshLead _) fun _ => rfl).trans ?_
  exact (ch_onCh_keep Chan.hs _ _ m (fun c => { c with refreshes := sat 0xFFFF (c.refreshes + 1) }) fun _ => rfl).trans (gatesOff_hs hm)

theorem startRefresh_lead {u : Nat} {s : State} (hu : u < s.chans.length) :
    ((startRefresh u s).ch u).refreshing = true ∧ ((startRefresh u s).ch u).refreshAt = some s.now := by
  rw [startRefresh_eq, ch_onCh _ _ _ (by rwa [onCh_length, gatesOff_length]), gatesOff_state State.now fun _ _ _ => rfl]
  exact ⟨rfl, rfl⟩

theorem startRefresh_counts {u : Nat} {s : State} (h : countedLeg s u < s.chans.length) :
    ((startRefresh u s).ch (countedLeg s u)).refreshes = sat 0xFFFF ((s.ch (countedLeg s u)).refreshes + 1) := by
  rw [startRefresh_eq]
  refine (ch_onCh_keep Chan.refreshes _ u _ (refreshLead _) fun _ => rfl).trans ?_
  rw [ch_onCh _ _ _ (by rwa [gatesOff_length]), gatesOff_keep Chan.refreshes fun _ _ _ => rfl]

/-! ### The end of an off-interval -/

theorem resume_blocked {b : Bool} {u : Nat} {s : State} (h : blocked (s.ch u) = true) : resume b u s = s := by
  simp [resume, h]

theorem resume_unasked {b : Bool} {u : Nat} {s : State} (h : driveAsks (s.ch u) = false) : resume b u s = s := by
  simp [resume, h]

/-- The legs turn on again where the drive asks for them. -/
theorem resume_hs {b : Bool} {u m : Nat} {s : State} (hb : blocked (s.ch u) = false) (ha : driveAsks (s.ch u) = true) (hm : m ∈ legs s u)
    (hl : m < s.chans.length) : ((resume b u s).ch m).hs = onSet s u (s.ch m) := by
  have hon : resume b u s = (gatesOn b u s).onCh u fun c => { c with dt := .none } := by simp [resume, hb, ha]
  rw [hon]
  exact (ch_onCh_keep Chan.hs _ u m (fun c => { c with dt := .none }) fun _ => rfl).trans (gatesOn_hs hm hl)

theorem driveAsks_iff {c : Chan} : driveAsks c = true ↔ c.drive = .steady ∨ c.drive = .ladder ∨ ∃ t, c.drive = .timed t ∧ c.pulse ≠ .off := by
  unfold driveAsks
  split <;> simp_all

/-! ### Falling requests (04 R93) -/

theorem requestFall_blocked {u : Nat} {s : State} (h : blocked (s.ch u) = true) :
    requestFall u s = s.onCh u fun c => { c with pulse := .off, refreshing := false } := if_pos h

theorem requestFall_open {u : Nat} {s : State} (h : blocked (s.ch u) = false) :
    requestFall u s = (gatesOff u s).onCh u fun c => { c with pulse := .off } := if_neg (by simp [h])

theorem requestFall_pulse {u : Nat} {s : State} (hu : u < s.chans.length) : ((requestFall u s).ch u).pulse = .off := by
  cases hb : blocked (s.ch u) with
  | true => rw [requestFall_blocked hb, ch_onCh _ _ _ hu]
  | false => rw [requestFall_open hb, ch_onCh _ _ _ (by rwa [gatesOff_length])]

theorem requestFall_hs {u m : Nat} {s : State} (hb : blocked (s.ch u) = false) (hm : m ∈ legs s u) : ((requestFall u s).ch m).hs = 0 := by
  rw [requestFall_open hb]
  exact cut_hs (f := fun c => { c with pulse := .off }) (fun _ => rfl) hm

/-- A refresh that is due still replaces the next period's start (03 R81). -/
theorem requestFall_refreshDue (u : Nat) (s : State) : ((requestFall u s).ch u).refreshDue = (s.ch u).refreshDue := by
  cases hb : blocked (s.ch u) with
  | true =>
    rw [requestFall_blocked hb]
    exact ch_onCh_keep Chan.refreshDue s u u _ (by exact fun _ => rfl)
  | false =>
    rw [requestFall_open hb]
    exact (ch_onCh_keep Chan.refreshDue _ u u (fun c => { c with pulse := .off }) fun _ => rfl).trans (gatesOff_keep Chan.refreshDue (fun _ _ _ => rfl) u u s)

theorem mem_fallingUnits {t u : Nat} {chs : Mask12} {s : State} : u ∈ fallingUnits s t chs ↔ u ∈ leaders s ∧ (s.ch u).drive = .timed t ∧ (s.ch u).pulse = .pulse ∧
    ((s.tm t).func = 4 → chs.getLsbD u = true) ∧ onTicks s t (unitRatio s t (s.ch u)) < (s.tm t).pos + 400 := by
  simp only [fallingUnits, List.mem_filter, Bool.and_eq_true, Bool.or_eq_true, beq_iff_eq, decide_eq_true_eq, ne_eq, ← imp_iff_not_or, and_assoc]

/-! ### Period starts and triggers (04 R98, R105, R110) -/

theorem boundaryDue_iff {t : Nat} {s : State} : boundaryDue s t = true ↔ s.timeRuns = true ∧ (s.tm t).run = true ∧ (s.tm t).frozen = false ∧
    (isMember s t = true → (s.tm t).begun = false ∧ (s.tm (masterOf s t)).run = true ∧ (s.tm (masterOf s t)).fresh = false ∧
      phaseTicks s t < (s.tm (masterOf s t)).pos + 400) ∧
    (isMember s t = false → (s.tm t).fresh = true ∨ periodOf s t < (s.tm t).pos + 400) := by
  cases hm : isMember s t <;> simp [boundaryDue, hm, and_assoc]

theorem triggerB_rests {t : Nat} {s : State} (h : (s.tm t).func ≠ 3 ∨ onSixteenths s t none = 0 ∨ (s.tm t).trigB = true) : triggerB t s = s := by
  refine if_neg ?_
  rcases h with h | h | h <;> simp [h]

theorem triggerB_acts {t : Nat} {s : State} (hf : (s.tm t).func = 3) (hw : onSixteenths s t none ≠ 0) (hb : (s.tm t).trigB = false)
    (ht : onTicks s t none < (s.tm t).pos + 400) : triggerB t s = trigger t true (s.onTm t fun m => { m with trigB := true }) :=
  if_pos (by simp [hf, hw, hb, ht])

/-- The trigger of a slot waits, with its time. -/
def pendingAt (m now : Nat) (x : State) : Prop := x.now = now ∧ m ∈ x.meas.trigs ∧ x.meas.trigAt.getD m 0 = now

/-- Slot m as a trigger of timer t finds it: named by an entry that names the edge, or not (05 R125). -/
def triggerSlot (t : Nat) (edgeB : Bool) (m : Nat) (x : State) : State :=
  if bitAt (x.meas.trig.getD m 0) 27 && fld (x.meas.trig.getD m 0) 26 22 == t && bitAt (x.meas.trig.getD m 0) 21 == edgeB then
    { x with meas := { x.meas with trigs := (x.meas.trigs.filter (· ≠ m)) ++ [m], trigAt := x.meas.trigAt.set m x.now } }
  else x

theorem trigger_eq (t : Nat) (edgeB : Bool) (s : State) : trigger t edgeB s = forEach (List.range 8) (triggerSlot t edgeB) s := rfl

theorem triggerSlot_keeps (t : Nat) (edgeB : Bool) (m : Nat) (x : State) : (triggerSlot t edgeB m x).meas.trig = x.meas.trig ∧
    (triggerSlot t edgeB m x).meas.trigAt.length = x.meas.trigAt.length ∧ (triggerSlot t edgeB m x).now = x.now := by
  unfold triggerSlot
  split <;> simp

theorem triggerSlot_pending {t : Nat} {edgeB : Bool} {m now : Nat} (k : Nat) {x : State} (h : pendingAt m now x) : pendingAt m now (triggerSlot t edgeB k x) := by
  obtain ⟨hn, hm, ha⟩ := h
  refine ⟨(triggerSlot_keeps t edgeB k x).2.2.trans hn, ?_⟩
  unfold triggerSlot
  split
  · refine ⟨?_, ?_⟩
    · by_cases hk : m = k
      · exact List.mem_append_right _ (List.mem_singleton.mpr hk)
      · exact List.mem_append_left _ (List.mem_filter.mpr ⟨hm, by simpa using hk⟩)
    · by_cases hk : k = m ∧ m < x.meas.trigAt.length
      · obtain ⟨rfl, hl⟩ := hk
        simpa [List.getD, hl] using hn
      · have hset : (x.meas.trigAt.set k x.now)[m]? = x.meas.trigAt[m]? := by grind
        exact (congrArg (Option.getD · 0) hset).trans ha
  · exact ⟨hm, ha⟩

/-- A slot whose entry names the timer and the edge. -/
theorem triggerSlot_named {t m : Nat} {edgeB : Bool} {x : State} (he : bitAt (x.meas.trig.getD m 0) 27 = true)
    (ht : fld (x.meas.trig.getD m 0) 26 22 = t) (hb : bitAt (x.meas.trig.getD m 0) 21 = edgeB) (hl : m < x.meas.trigAt.length) :
    pendingAt m x.now (triggerSlot t edgeB m x) := by
  rw [triggerSlot, if_pos (by rw [he, ht, hb]; simp)]
  exact ⟨rfl, List.mem_append_right _ (List.mem_singleton_self m), by simp [List.getD, hl]⟩

/-- The trigger of each entry that names the edge waits, with the time of the edge (05 R125). -/
theorem trigger_pending {t m : Nat} {edgeB : Bool} {s : State} (hm : m < 8) (he : bitAt (s.meas.trig.getD m 0) 27 = true)
    (ht : fld (s.meas.trig.getD m 0) 26 22 = t) (hb : bitAt (s.meas.trig.getD m 0) 21 = edgeB) (hl : m < s.meas.trigAt.length) :
    pendingAt m s.now (trigger t edgeB s) := by
  rw [trigger_eq]
  refine forEach_reaches (I := fun x => x.meas.trig = s.meas.trig ∧ x.meas.trigAt.length = s.meas.trigAt.length ∧ x.now = s.now) (Q := pendingAt m s.now)
    ?_ (fun k x h => triggerSlot_pending k h) (List.mem_range.mpr hm) ?_ ⟨rfl, rfl, rfl⟩
  · rintro k x ⟨htrig, hlen, hnow⟩
    obtain ⟨h1, h2, h3⟩ := triggerSlot_keeps t edgeB k x
    exact ⟨h1.trans htrig, h2.trans hlen, h3.trans hnow⟩
  · rintro x ⟨htrig, hlen, hnow⟩
    rw [← htrig] at he ht hb
    exact hnow ▸ triggerSlot_named he ht hb (hlen.symm ▸ hl)

/-! ### Dead times (04 R93, 03 R65) -/

theorem deadTimeExpiry_eq (n : Fin 12) (s : State) : exec (.deadTimeExpiry n) s = execDeadTimeExpiry n s := rfl

/-- Within an off-interval the high sides do not rise. -/
theorem deadTimeExpiry_high {n : Fin 12} {u : Nat} {s : State} (hu : u = leader s n) (hd : (s.ch u).dt = .toHigh) (hl : u < s.chans.length) :
    Gives (.deadTimeExpiry n) s (if blocked (s.ch u) = true then s.onCh u fun c => { c with dt := .none }
      else gatesOn true u (s.onCh u fun c => { c with dt := .none })) := by
  subst hu
  have hb := ch_onCh_keep blocked s (leader s n) (leader s n) (fun c => { c with dt := .none }) fun _ => rfl
  rw [Gives, deadTimeExpiry_eq]
  simp only [execDeadTimeExpiry, hd, hb]
  rfl

theorem deadTimeExpiry_freewheel {n : Fin 12} {u : Nat} {s : State} (hu : u = leader s n) (hd : (s.ch u).dt = .toFreewheel) :
    Gives (.deadTimeExpiry n) s (freewheelOn u s) := by
  subst hu
  rw [Gives, deadTimeExpiry_eq]
  simp only [execDeadTimeExpiry, hd]
  rfl

/-- The freewheel stages off one dead time before a chop's turn-on (03 R65). -/
theorem deadTimeExpiry_low {n : Fin 12} {u : Nat} {s : State} (hu : u = leader s n) (hd : (s.ch u).dt = .toLow) :
    Gives (.deadTimeExpiry n) s (if lowDue s u then
      forEach (legs s u) (fun m s' => s'.onCh m fun c => { c with fw := .off }) (s.onCh u fun c => { c with dt := .none }) else s) := by
  subst hu
  rw [Gives, deadTimeExpiry_eq]
  simp only [execDeadTimeExpiry, hd]
  rfl

theorem deadTimeExpiry_rests {n : Fin 12} {s : State} (hd : (s.ch (leader s n)).dt = .none) : Gives (.deadTimeExpiry n) s s := by
  rw [Gives, deadTimeExpiry_eq]
  simp only [execDeadTimeExpiry, hd]
  rfl

/-- The end of the dead time as the leader notes it. -/
def freewheelLead (c : Chan) : Chan := { c with dt := if c.lad.inOff then .toLow else .none }

theorem freewheelOn_eq (u : Nat) (s : State) : freewheelOn u s =
    forEach (fwLegs (s.onCh u freewheelLead) u) (fun m s => s.onCh m fun c => { c with fw := driveFw c }) (s.onCh u freewheelLead) := rfl

theorem freewheelOn_fw {u m : Nat} {s : State} (hm : m ∈ fwLegs s u) (hl : m < s.chans.length) : ((freewheelOn u s).ch m).fw = driveFw (s.ch m) := by
  have hm' : m ∈ fwLegs (s.onCh u freewheelLead) u := by rwa [fwLegs_onCh (f := freewheelLead) fun _ => rfl]
  rw [freewheelOn_eq, ch_forEach_const (g := fun _ c => { c with fw := driveFw c }) (fwLegs_nodup _ u), if_pos ⟨hm', by rwa [onCh_length]⟩]
  exact ch_onCh_keep driveFw s u m freewheelLead fun _ => rfl

/-- Settles O9: each command by the operation it comes to, each operation by what it leaves of the legs and the leader. -/
theorem periodRefreshAndDeadTime : Obligations.PeriodRefreshAndDeadTime := by
  unfold Obligations.PeriodRefreshAndDeadTime
  refine ⟨fun n u s hu he hr hh ha hd => refreshPulse_static hu he hr hh ha hd, fun n u t s hu he hr hh ha hd => refreshPulse_timed hu he hr hh ha hd,
    fun n s h => gives_of_eq rfl (if_pos h), fun n t0 s ha ht => ⟨refreshRecheck_due ha ht, refreshRecheck_due ha ht⟩, ?spacing, ?early,
    fun t below near s h => gives_of_eq rfl (if_pos h), ?falls, fun u s hu => ⟨requestFall_pulse hu, fun hb m hm => requestFall_hs hb hm⟩,
    ?high, ?highBlocked, fun n u s hu hd => deadTimeExpiry_freewheel hu hd, fun u m s hm hl => freewheelOn_fw hm hl, ?low, ?rests, ?pulse, ?bridgeCount,
    fun b u s h => resume_blocked h, ?resumes, ?unasked, fun t s h => triggerB_rests h, fun t s hf hw hb ht => triggerB_acts hf hw hb ht,
    fun t m e s hm he ht hb hl => (trigger_pending hm he ht hb hl).2, requestFall_refreshDue, ?spacingTimed, fun t s => boundaryDue_iff, fun t s => rfl,
    fun t below near s h => gives_of_eq rfl (if_neg (by simp [h])), fun t u chs s => mem_fallingUnits, ?ratio⟩
  case spacing =>
    intro n u t0 s hu hb he hr hh ha ht hd
    exact placeRefresh_static hu.symm he hr (.inl hh) (.inl hd) ▸ refreshSpacingExpiry_places hu hb ha ht
  case early =>
    intro n t0 s hb ha ht
    exact gives_of_eq (refreshSpacingExpiry_eq n s) (if_neg (by simp [spaced_since ha, ht]))
  case falls =>
    intro t chs s x hr hrun hf hfresh hx
    subst hx
    exact gives_of_eq rfl (if_pos (by simp [hr, hrun, hf, hfresh]))
  case high =>
    intro n u s hu hd hb hl
    simpa only [hb, Bool.false_eq_true, if_false] using deadTimeExpiry_high hu hd hl
  case highBlocked =>
    intro n u s hu hd hb hl
    simpa only [hb, if_true] using deadTimeExpiry_high hu hd hl
  case low =>
    intro n u s x hu hd hw hl hx
    subst hx
    refine ⟨by simpa only [hw, if_true] using deadTimeExpiry_low hu hd, fun m hm => ?_⟩
    exact forEachCh_sets Chan.fw (F := fun c => { c with fw := .off }) (fun _ => rfl) rfl (legs_nodup s u) hm _
  case rests =>
    rintro n s (hd | ⟨hd, hw⟩)
    · exact deadTimeExpiry_rests hd
    · simpa only [hw, Bool.false_eq_true, if_false] using deadTimeExpiry_low rfl hd
  case pulse =>
    intro u s hu
    obtain ⟨hr, ha⟩ := startRefresh_lead hu
    refine ⟨hr, ha, fun hb => ?_, fun m hm => startRefresh_hs hm⟩
    have hleg : countedLeg s u = u := by simp [countedLeg, hb]
    have hcount := startRefresh_counts (hleg.symm ▸ hu : countedLeg s u < s.chans.length)
    rwa [hleg] at hcount
  case bridgeCount =>
    intro u m s hb hlegs hl
    have hleg : countedLeg s u = m := by simp [countedLeg, hb, hlegs]
    exact hleg ▸ startRefresh_counts (hleg.symm ▸ hl)
  case resumes =>
    intro b u t m s hb hd hm hl
    exact resume_hs hb (driveAsks_iff.mpr (hd.imp_right (Or.imp_right fun h => ⟨t, h⟩))) hm hl
  case unasked =>
    intro u t b s hd hp
    exact resume_unasked (by simp [driveAsks, hd, hp])
  case spacingTimed =>
    intro n u t0 t s hu hb he hr hm ha ht
    have hgives := refreshSpacingExpiry_places hu hb ha ht
    refine ⟨fun hd => placeRefresh_static hu.symm he hr (.inr hm) hd ▸ hgives, fun hd hh h => ?_⟩
    have hno : ¬((s.ch u).baseMode = 3 ∧ ((s.ch n).hs ≠ 0 ∨ (s.ch u).pulse ≠ .off)) := fun ⟨h3, hon⟩ =>
      h.elim (fun hb => hb h3) fun hp => hon.elim (fun h => h hh) fun h => h hp
    have hplace := placeRefresh_timed hu.symm he hr (.inr hm) hd
    rw [if_neg hno] at hplace
    exact hplace ▸ hgives
  case ratio =>
    intro t c s
    simp [unitRatio]

end Sys2Proof.Machine

/-! What is left untouched by the operations behind the rows: the queue of commands, device time (04 R88), first permit (15 R384) and the OTP (09 R255 to R257). Each operation has one frame lemma, over which a row's frame is a matter of simplification. -/

namespace Sys2Proof.Machine

/-- The queue, device time, first permit and the OTP stand in `t` as in `s`. -/
@[simp] abbrev Untouched (s t : State) : Prop := t.pending = s.pending ∧ t.now = s.now ∧ t.dev.fpermit = s.dev.fpermit ∧ t.otp = s.otp

theorem Untouched.trans {s t u : State} (h : Untouched t u) (k : Untouched s t) : Untouched s u := by
  obtain ⟨hq, hn, hp, ho⟩ := h
  obtain ⟨kq, kn, kp, ko⟩ := k
  exact ⟨hq.trans kq, hn.trans kn, hp.trans kp, ho.trans ko⟩

/-- All four stand outside what the block brings into line after a command. -/
theorem untouched_of_still {s t : State} (h : t.still = s.still) : Untouched s t :=
  ⟨still_keeps State.pending (fun _ => rfl) h, still_keeps State.now (fun _ => rfl) h, still_keeps (·.dev.fpermit) (fun _ => rfl) h,
    still_keeps State.otp (fun _ => rfl) h⟩

@[simp] theorem ite_untouched {b : Prop} [Decidable b] (x y : State) : (if b then x else y).pending = (if b then x.pending else y.pending) ∧
    (if b then x else y).now = (if b then x.now else y.now) ∧
    (if b then x else y).dev.fpermit = (if b then x.dev.fpermit else y.dev.fpermit) ∧
    (if b then x else y).otp = (if b then x.otp else y.otp) := by
  split <;> simp

@[simp] theorem ite_snd_untouched {α : Type} {b : Prop} [Decidable b] (x y : α × State) :
    (if b then x else y).2.pending = (if b then x.2.pending else y.2.pending) ∧
    (if b then x else y).2.now = (if b then x.2.now else y.2.now) ∧
    (if b then x else y).2.dev.fpermit = (if b then x.2.dev.fpermit else y.2.dev.fpermit) ∧
    (if b then x else y).2.otp = (if b then x.2.otp else y.2.otp) := by
  split <;> simp

@[simp] theorem forEach_untouched {α : Type} {f : α → State → State} (h : ∀ a t, Untouched t (f a t)) (l : List α) (s : State) :
    Untouched s (forEach l f s) := by
  induction l generalizing s with
  | nil => simp [forEach_nil]
  | cons a l ih => rw [forEach_cons]; exact (ih _).trans (h a s)

/-! ### Named bits, event tags, the fault log and the programs that wait -/

@[simp] theorem namedBits_untouched (k pos : Nat) (w : W36) (s : State) : Untouched s (namedBits k pos w s).2 := by
  unfold namedBits
  split <;> simp [State.draw]

@[simp] theorem namedAddr_untouched (pos : Nat) (w : W36) (s : State) : Untouched s (namedAddr pos w s).2 := by simp [namedAddr]

@[simp] theorem eventAt_untouched (p : Port) (tag : Nat) (s : State) : Untouched s (eventAt p tag s) := untouched_of_still (still_eventAt _ _ _)

@[simp] theorem event_untouched (tag : Nat) (s : State) : Untouched s (event tag s) := untouched_of_still (still_event _ _)

@[simp] theorem logPut_untouched (r0 : Nat) (s : State) : Untouched s (logPut r0 s) := untouched_of_still (still_logPut _ _)

@[simp] theorem choosePage_untouched (p : Program) (page : Option Nat) (s : State) : Untouched s (choosePage p page s) := by simp [choosePage]

@[simp] theorem deferProgram_untouched (s : State) : Untouched s (deferProgram s) := by simp [deferProgram]

@[simp] theorem tryProgram_untouched (s : State) : Untouched s (tryProgram s) := by
  unfold tryProgram
  (repeat' split) <;> simp

@[simp] theorem bistIncomplete_untouched (l : Lane) (detail : BitVec 2) (s : State) : Untouched s (bistIncomplete l detail s) :=
  untouched_of_still (still_bistIncomplete _ _ _)

@[simp] theorem bistPreempt_untouched (hit : Running → Bool) (s : State) : Untouched s (bistPreempt hit s) :=
  untouched_of_still (still_bistPreempt _ _)

/-! ### Gates, ladders and periods -/

@[simp] theorem gatesOn_untouched (blank : Bool) (u : Nat) (s : State) : Untouched s (gatesOn blank u s) := untouched_of_still (still_gatesOn _ _ _)

@[simp] theorem gatesOff_untouched (u : Nat) (s : State) : Untouched s (gatesOff u s) := untouched_of_still (still_gatesOff _ _)

@[simp] theorem resume_untouched (blank : Bool) (u : Nat) (s : State) : Untouched s (resume blank u s) := untouched_of_still (still_resume _ _ _)

@[simp] theorem ladderChop_untouched (u : Nat) (s : State) : Untouched s (ladderChop u s) := untouched_of_still (still_ladderChop _ _)

@[simp] theorem unitOff_untouched (u : Nat) (s : State) : Untouched s (unitOff u s) := untouched_of_still (still_unitOff _ _)

@[simp] theorem proceed_untouched (u : Nat) (s : State) : Untouched s (proceed u s) := untouched_of_still (still_proceed _ _)

@[simp] theorem attempt_untouched (u : Nat) (s : State) : Untouched s (attempt u s) := untouched_of_still (still_attempt _ _)

@[simp] theorem startRefresh_untouched (u : Nat) (s : State) : Untouched s (startRefresh u s) := untouched_of_still (still_startRefresh _ _)

@[simp] theorem applyLatch_untouched (t : Nat) (s : State) : Untouched s (applyLatch t s) := untouched_of_still (still_applyLatch _ _)

@[simp] theorem trigger_untouched (t : Nat) (edgeB : Bool) (s : State) : Untouched s (trigger t edgeB s) := untouched_of_still (still_trigger _ _ _)

@[simp] theorem beginPeriod_untouched (t : Nat) (below : Mask12) (near : BitVec 20) (s : State) : Untouched s (beginPeriod t below near s) :=
  untouched_of_still (still_beginPeriod _ _ _ _)

/-! ### The safe state, limp-home and the recording of an event -/

@[simp] theorem endFreeze_untouched (s : State) : Untouched s (endFreeze s) := untouched_of_still (still_endFreeze _)

@[simp] theorem safeUnit_untouched (u : Nat) (s : State) : Untouched s (safeUnit u s) := untouched_of_still (still_safeUnit _ _)

@[simp] theorem enterSafe_untouched (s : State) : Untouched s (enterSafe s) := untouched_of_still (still_enterSafe _)

@[simp] theorem enterLimp_untouched (s : State) : Untouched s (enterLimp s) := untouched_of_still (still_enterLimp _)

@[simp] theorem releaseRetry_untouched (n : Nat) (s : State) : Untouched s (releaseRetry n s) := by simp [releaseRetry]

@[simp] theorem liftHolds_untouched (src : Nat) (s : State) : Untouched s (liftHolds src s) := by simp [liftHolds]

@[simp] theorem recordEvent_untouched (e : Ev) (s : State) : Untouched s (recordEvent e s) := untouched_of_still (still_recordEvent _ _)

@[simp] theorem raise_untouched (evs : List Ev) (s : State) : Untouched s (raise evs s) := untouched_of_still (still_raise _ _)

@[simp] theorem retryRest_untouched (n : Nat) (s : State) : Untouched s (retryRest n s) := by
  unfold retryRest
  split <;> simp

/-! ### Segments and the gate supply -/

@[simp] theorem retire_untouched (n i : Nat) (s : State) : Untouched s (retire n i s) := by simp [retire, requestMap, barIfDead]

@[simp] theorem criterion_untouched (n i : Nat) (why : BitVec 2) (s : State) : Untouched s (criterion n i why s) := by simp [criterion]

@[simp] theorem onSeg_untouched (n i : Nat) (f : SegMon → SegMon) (s : State) : Untouched s (onSeg n i f s) := by simp [onSeg]

@[simp] theorem setProt_untouched (n i : Nat) (s : State) : Untouched s (setProt n i s) := by simp [setProt]

@[simp] theorem desatClose_untouched (n : Nat) (s : State) : Untouched s (desatClose n s) := by
  unfold desatClose
  split <;> simp [soloClose]

@[simp] theorem desatTrip_untouched (n i ns : Nat) (s : State) : Untouched s (desatTrip n i ns s) := by
  unfold desatTrip
  split <;> simp

@[simp] theorem raiseBstUv_untouched (chs : List Nat) (s : State) : Untouched s (raiseBstUv chs s) := by simp [raiseBstUv]

@[simp] theorem setBank_untouched (s : State) (x : Bank) (ok : Bool) : Untouched s (setBank s x ok) := by
  unfold setBank
  split <;> simp

@[simp] theorem dipUnit_untouched (u : Nat) (s : State) : Untouched s (dipUnit u s) := by
  unfold dipUnit
  split <;> simp

/-! ### Steps, cuts and refresh -/

@[simp] theorem countCut_untouched (n : Nat) (s : State) : Untouched s (countCut n s) := by simp [countCut]

@[simp] theorem reengage_untouched (u : Nat) (s : State) : Untouched s (reengage u s) := by simp [reengage]

@[simp] theorem stepEnd_untouched (u : Nat) (s : State) : Untouched s (stepEnd u s) := by simp [stepEnd, ladderEnd, enterBase]

@[simp] theorem placeRefresh_untouched (n : Nat) (s : State) : Untouched s (placeRefresh n s) := by
  simp only [placeRefresh]
  (repeat' split) <;> simp

@[simp] theorem refresh_untouched (n : Nat) (s : State) : Untouched s (refresh n s) := by simp [refresh]

/-! ### Conversions and samples -/

@[simp] theorem nearest_untouched (q : Rat) (s : State) : Untouched s (nearest q s).2 := by simp [nearest]

@[simp] theorem clampTo_untouched (lo hi : Int) (q : Rat) (s : State) : Untouched s (clampTo lo hi q s).2.2 := by
  simp only [clampTo]
  (repeat' split) <;> simp

@[simp] theorem putRushes_untouched (i : Nat) (w : SampleOpt) (s : State) : Untouched s (putRushes i w s) := by simp [putRushes]

@[simp] theorem imean_untouched (n : Nat) (s : State) : Untouched s (imean n s) := by simp [imean]

@[simp] theorem lostIpri_untouched (n : Nat) (s : State) : Untouched s (lostIpri n s) := by
  unfold lostIpri
  split <;> simp

@[simp] theorem isecValue_untouched (s : State) (n : Nat) (raw : Int) : Untouched s (isecValue s n raw).2.2 := by
  unfold isecValue
  split <;> simp [State.draw]

@[simp] theorem crossCheck_untouched (n : Nat) (isec : Int) (q : BitVec 2) (quiet : Bool) (s : State) :
    Untouched s (crossCheck n isec q quiet s) := by
  simp only [crossCheck]
  split <;> simp

@[simp] theorem recordIsec_untouched (n : Nat) (raw : Int) (quiet : Quiet) (diff : BitVec 8) (s : State) :
    Untouched s (recordIsec n raw quiet diff s) := by
  simp [recordIsec]

@[simp] theorem recordVolt_untouched (gain offs i : Nat) (lsb : Rat) (top : Int) (place : Nat) (raw : Int) (diff : BitVec 8) (s : State) :
    Untouched s (recordVolt gain offs i lsb top place raw diff s) := by
  simp [recordVolt]

@[simp] theorem recordVout_untouched (n : Nat) (raw : Int) (diff : BitVec 8) (s : State) : Untouched s (recordVout n raw diff s) := by
  simp [recordVout]

@[simp] theorem recordVbst_untouched (n : Nat) (raw : Int) (diff : BitVec 8) (s : State) : Untouched s (recordVbst n raw diff s) := by
  simp [recordVbst]

@[simp] theorem recordVbat_untouched (x : Nat) (raw : Int) (diff : BitVec 8) (s : State) : Untouched s (recordVbat x raw diff s) := by
  simp [recordVbat]

@[simp] theorem sweepEnd_untouched (n : Nat) (s : State) : Untouched s (sweepEnd n s) := by simp [sweepEnd]

@[simp] theorem warmCheck_untouched (n : Nat) (s : State) : Untouched s (warmCheck n s) := by simp [warmCheck]

@[simp] theorem noteSweep_untouched (k : Nat) (s : State) : Untouched s (noteSweep k s) := by simp [noteSweep]

@[simp] theorem diodeFw_untouched (n : Nat) (v : Int) (o : Bool) (diff : BitVec 8) (s : State) : Untouched s (diodeFw n v o diff s) := by
  simp [diodeFw]

@[simp] theorem setSnap_untouched (p : Port) (x : Option Snap) (s : State) : Untouched s (setSnap p x s) := by simp [setSnap]

/-! ### Trips -/

@[simp] theorem scTrip_untouched (n ns : Nat) (s : State) : Untouched s (scTrip n ns s) := by simp [scTrip]

@[simp] theorem setTrip_untouched (j : Nat) (b : Bool) (s : State) : Untouched s (setTrip j b s) := by simp [setTrip]

/-! ### The injection's force -/

@[simp] theorem defer_untouched (e : Ev) (s : State) : Untouched s (defer e s) := by simp [defer]

@[simp] theorem setRecState_untouched (src : Nat) (x : RecState) (s : State) : Untouched s (setRecState src x s) := by simp [setRecState]

@[simp] theorem injEnd_untouched (s : State) : Untouched s (injEnd s) := by simp [injEnd]

@[simp] theorem injLeave_untouched (h : Port) (s : State) : Untouched s (injLeave h s) := by
  unfold injLeave
  split <;> simp

@[simp] theorem forceLatch_untouched (src : Nat) (acc : List Ev × State) : Untouched acc.2 (forceLatch src acc).2 := by
  simp [forceLatch]

@[simp] theorem forceLatches_untouched (l : List Nat) (acc : List Ev × State) : Untouched acc.2 (l.foldl (fun acc i => forceLatch i acc) acc).2 := by
  induction l generalizing acc with
  | nil => simp
  | cons i l ih => simp [ih]

@[simp] theorem writeForce_untouched (w : Nat) (d : D28) (s : State) : Untouched s (writeForce w d s).2 := by
  simp [writeForce]

/-! ### The store, the flacon's energy and last rites -/

@[simp] theorem holdEnergy_untouched (s : State) : Untouched s (holdEnergy s) := by simp [holdEnergy, judgeLow]

@[simp] theorem startCounters_untouched (s : State) : Untouched s (startCounters s) := by simp [startCounters]

@[simp] theorem capOf_untouched (sum1 sum2 : Nat) (s : State) : Untouched s (capOf sum1 sum2 s).2 := by
  unfold capOf
  split <;> simp [State.draw]

@[simp] theorem nextImage_untouched (s : State) : Untouched s (nextImage s) := by simp [nextImage]

@[simp] theorem stored_untouched (p : Program) (s : State) : Untouched s (stored p s) := by
  unfold stored
  (repeat' split) <;> simp [mapStored]

@[simp] theorem programWaits_untouched (p : Program) (out : Bool) (s : State) : Untouched s (programWaits p out s) := by
  unfold programWaits
  split <;> simp [mapMissed]

@[simp] theorem programDone_untouched (reads : Bool) (s : State) : Untouched s (programDone reads s) := by
  unfold programDone
  split <;> simp [programFailed]

@[simp] theorem scanStore_untouched (s : State) : Untouched s (scanStore s) := by simp [scanStore]

@[simp] theorem toReset_phase (s : State) : (toReset s).dev.phase = .reset := rfl

@[simp] theorem ritesEnd_phase (cause : BitVec 3) (env : RitesEnv) (s : State) : (ritesEnd cause env s).dev.phase = .reset := rfl

@[simp] theorem ritesStop_untouched (s : State) : Untouched s (ritesStop s) := by simp [ritesStop]

@[simp] theorem ritesAbandon_untouched (s : State) : Untouched s (ritesAbandon s) := by simp [ritesAbandon]

@[simp] theorem ritesPlace_untouched (cause : BitVec 3) (s : State) : Untouched s (ritesPlace cause s) := by simp [ritesPlace]

@[simp] theorem setSup_untouched (x : Supply) (b : Bool) (s : State) : Untouched s (setSup x b s) := by
  unfold setSup
  split <;> simp

/-! ### Self-tests -/

@[simp] theorem takeUnits_untouched (crypto march later : Bool) (s : State) : Untouched s (takeUnits crypto march later s) := by simp [takeUnits]

@[simp] theorem unitsServed_untouched (march : Bool) (s : State) : Untouched s (unitsServed march s) := by simp [unitsServed]

@[simp] theorem testResult_untouched (r : Running) (fail : Option (Nat × BitVec 2)) (s : State) : Untouched s (testResult r fail s) := by
  simp [testResult, setEnd]

@[simp] theorem sliceDone_untouched (l : Lane) (r : Running) (bad : Bool) (s : State) : Untouched s (sliceDone l r bad s) := by
  unfold sliceDone
  split <;> simp

@[simp] theorem testEnds_untouched (l : Lane) (r : Running) (found : TestEnd) (s : State) : Untouched s (testEnds l r found s) := by
  unfold testEnds
  split <;> simp [keepCommand]

@[simp] theorem startSet_untouched (s : State) : Untouched s (startSet s) := by simp [startSet]

@[simp] theorem abortQueued_untouched (test : Nat) (s : State) : Untouched s (abortQueued test s) := by simp [abortQueued]

@[simp] theorem abortTests_untouched (s : State) : Untouched s (abortTests s) := by
  have hlane (l : Lane) (t : State) : Untouched t (match t.bist.lane l with
      | some r => if r.origin == 0 then t else bistIncomplete l 2 t
      | none => t) := by split <;> simp
  have hq := forEach_untouched abortQueued_untouched s.bist.queue s
  exact (forEach_untouched hlane _ _).trans hq

/-! ### Start and load -/

@[simp] theorem generateKey_untouched (rbgOk : Bool) (s : State) : Untouched s (generateKey rbgOk s) := by
  unfold generateKey
  split <;> simp [State.draw]

@[simp] theorem clkFlag_untouched (i : Nat) (s : State) : Untouched s (clkFlag i s) := by simp [clkFlag]

@[simp] theorem applyPlan_untouched (p : Plan) (ws : List D28) (s : State) : Untouched s (applyPlan p ws s) := by simp [applyPlan]

@[simp] theorem applyStructure_untouched (p : Plan) (ws : List D28) (s : State) : Untouched s (applyStructure p ws s) := by simp [applyStructure]

@[simp] theorem recordLoad_untouched (reel : BitVec 2) (v : Verdict) (s : State) : Untouched s (recordLoad reel v s) := by
  simp only [recordLoad, onDev]
  split <;> simp

@[simp] theorem noteDqs_untouched (missed : Bool) (s : State) : Untouched s (noteDqs missed s) := by simp [noteDqs]

@[simp] theorem reelDone_untouched (r : ReelRead) (s : State) : Untouched s (reelDone r s) := by
  simp only [reelDone]
  split <;> simp

/-! ### Register reads -/

@[simp] theorem putLatch_untouched (p : Path) (q : Quantity) (x : Option (BitVec 20)) (s : State) : Untouched s (putLatch p q x s) := by
  unfold putLatch
  split <;> simp

@[simp] theorem readLow_untouched (p : Path) (q : Quantity) (s : State) : Untouched s (readLow p q s).2 := by simp [readLow]

@[simp] theorem readHigh_untouched (p : Path) (q : Quantity) (s : State) : Untouched s (readHigh p q s).2 := by
  unfold readHigh
  split <;> simp

@[simp] theorem readReg_untouched (p : Path) (a : Nat) (s : State) : Untouched s (readReg p a s).2 := by
  unfold readReg
  split <;> simp

@[simp] theorem readRun_untouched (p : Path) (a k : Nat) (s : State) : Untouched s (readRun p a k s).2 := by
  induction k generalizing s with
  | zero => simp [readRun]
  | succ k ih => simp [readRun, ih]

/-! ### The TAP and provisioning -/

@[simp] theorem writeProv_untouched (key : D28) (r : ReelRead) (s : State) : Untouched s (writeProv key r s).2 := by
  simp only [writeProv]
  (repeat' split) <;> simp

@[simp] theorem loadOpcode_untouched (opcode : BitVec 8) (s : State) : Untouched s (loadOpcode opcode s) := by simp [loadOpcode]

@[simp] theorem scanBypass_untouched (bits : List Bool) (s : State) : Untouched s (scanBypass bits s) := by simp [scanBypass]

@[simp] theorem scanCells_untouched (pins bits : List Bool) (s : State) : Untouched s (scanCells pins bits s) := by simp [scanCells]

/-! ### Register writes -/

@[simp] theorem tmrWrite_untouched (t k : Nat) (d : D28) (s : State) : Untouched s (tmrWrite t k d s).2 := by
  unfold tmrWrite
  split <;> simp [writePer, writeDuty, writePhase, writeEdge]

@[simp] theorem chWrite_untouched (n o : Nat) (d : D28) (s : State) : Untouched s (chWrite n o d s).2 := by
  unfold chWrite
  split <;> simp [writeCtl, requestOn, requestOff, writeRetire, writeIlim, writeScth, writeI2t]

@[simp] theorem fltWrite_untouched (a : Access) (o : Nat) (d : D28) (s : State) : Untouched s (fltWrite a o d s).2 := by
  unfold fltWrite
  (repeat' split) <;> simp [writeAck, ackSource, writeInjen]

@[simp] theorem measWrite_untouched (a : Access) (o : Nat) (d : D28) (s : State) : Untouched s (measWrite a o d s).2 := by
  unfold measWrite
  (repeat' split) <;> simp [writeZero, writeCalsel, writeFresh, writeMeasCtl]

@[simp] theorem clkWrite_untouched (o : Nat) (d : D28) (s : State) : Untouched s (clkWrite o d s).2 := by
  unfold clkWrite
  split <;> simp

@[simp] theorem ownEffect_untouched (a : Access) (addr : Nat) (d : D28) (s : State) : Untouched s (ownEffect a addr d s).2 := by
  simp [ownEffect, writeLimpExit, leaveLimp, writeBistCmd, queueTest, writeArb, tbaseWrite, writeClap, clapTimer, clapUnrouted,
    nvsWrite, writeLogsel, portWrite, writeFpage, writeLen]

@[simp] theorem holdWord_untouched (addr : Nat) (d : D28) (s : State) : Untouched s (holdWord addr d s) := by simp [holdWord]

@[simp] theorem effect_untouched (a : Access) (addr : Nat) (d : D28) (s : State) : Untouched s (effect a addr d s).2 := by
  simp [effect, heldEffect]

@[simp] theorem commitPair_untouched (h : Port) (addr : Nat) (d : D28) (s : State) : Untouched s (commitPair h addr d s).2 := by
  unfold commitPair
  (repeat' split) <;> simp

@[simp] theorem writeWord_untouched (h : Port) (addr : Nat) (d : D28) (s : State) : Untouched s (writeWord h addr d s).2 := by
  unfold writeWord
  split <;> simp

@[simp] theorem dbgWord_untouched (addr : Nat) (d : D28) (s : State) : Untouched s (dbgWord addr d s).2 := by
  unfold dbgWord
  split <;> simp

@[simp] theorem noteLast_untouched (h : Port) (src addr : Nat) (st : BitVec 8) (s : State) : Untouched s (noteLast h src addr st s) := by
  simp [noteLast]

@[simp] theorem hostWrite_untouched (h : Port) (addr : Nat) (d : D28) (s : State) : Untouched s (hostWrite h addr d s).2 := by simp [hostWrite]

@[simp] theorem hostCommit_untouched (h : Port) (addr : Nat) (d : D28) (s : State) : Untouched s (hostCommit h addr d s).2 := by simp [hostCommit]

@[simp] theorem armCommit_untouched (h : Port) (addr : Nat) (d : D28) (s : State) : Untouched s (armCommit h addr d s).2 := by
  unfold armCommit
  split <;> simp

@[simp] theorem accessWord_untouched (a : Access) (addr : Nat) (d : D28) (s : State) : Untouched s (accessWord a addr d s).2 := by
  unfold accessWord
  split <;> simp

@[simp] theorem writeRow_untouched (a : Access) (addr : Nat) (d : D28) (s : State) : Untouched s (writeRow a addr d s) := by simp [writeRow]

/-! ### Frames -/

@[simp] theorem queueFrame_untouched (h : Port) (ws : List W36) (s : State) : Untouched s (queueFrame h ws s) := by simp [queueFrame]

@[simp] theorem sendMac_untouched (h : Port) (header : D28) (payload : List W36) (refused overrun : Bool) (s : State) :
    Untouched s (sendMac h header payload refused overrun s) := by
  simp only [sendMac]
  split <;> simp

@[simp] theorem sendCrc_untouched (h : Port) (header : D28) (payload : List W36) (seq : Nat) (refused : Bool) (s : State) :
    Untouched s (sendCrc h header payload seq refused s) := by
  simp [sendCrc]

@[simp] theorem answer_untouched (h : Port) (d : D28) (payload : List D28) (overrun : Bool) (s : State) :
    Untouched s (answer h d payload overrun s) := by
  simp [answer]

@[simp] theorem refuse_untouched (h : Port) (d : D28) (reason : BitVec 8) (s : State) : Untouched s (refuse h d reason s) := by simp [refuse]

@[simp] theorem teardown_untouched (h : Port) (s : State) : Untouched s (teardown h s) := by simp [teardown]

@[simp] theorem sessionError_untouched (h : Port) (s : State) : Untouched s (sessionError h s) := by simp [sessionError]

@[simp] theorem seqEnd_untouched (h : Port) (s : State) : Untouched s (seqEnd h s) := by simp [seqEnd]

@[simp] theorem refuseFormat_untouched (h : Port) (k : FrameKind) (d : D28) (s : State) : Untouched s (refuseFormat h k d s) := by
  simp [refuseFormat, refuseCrc]

theorem judgeFrame_untouched (h : Port) (k : FrameKind) (ws : List W36) {serve : D28 → State → State} (hs : ∀ d t, Untouched t (serve d t))
    (s : State) : Untouched s (judgeFrame h k ws serve s) := by
  simp only [judgeFrame, serveFormat]
  (repeat' split) <;> simp [hs]

@[simp] theorem receive_untouched (h : Port) (k : FrameKind) (ws : List W36) {serve : D28 → State → State} (hs : ∀ d t, Untouched t (serve d t))
    (s : State) : Untouched s (receive h k ws serve s) := by
  simp [receive, hear, judgeFrame_untouched h k ws hs]

@[simp] theorem setCtx_untouched (h : Port) (t : Nat) (c : Ctx) (s : State) : Untouched s (setCtx h t c s) := by simp [setCtx]

@[simp] theorem newOp_untouched (h : Port) (d : D28) {serve : State → State} (hs : ∀ t, Untouched t (serve t)) (s : State) :
    Untouched s (newOp h d serve s) := by
  simp [newOp, hs]

@[simp] theorem discardArms_untouched (h : Port) (s : State) : Untouched s (discardArms h s) := by simp [discardArms]

/-! ### Ports and the recovery service -/

@[simp] theorem windowOver_untouched (h : Port) (w : WindowEnd) (s : State) : Untouched s (windowOver h w s) := by simp [windowOver]

@[simp] theorem recoveryRun_untouched (a count : Nat) (s : State) : Untouched s (recoveryRun a count s).2 := by
  simp [recoveryRun]

@[simp] theorem recoveryWrite_untouched (w : RecoveryWrite) (r : ReelRead) (s : State) : Untouched s (recoveryWrite w r s).2 := by
  unfold recoveryWrite
  split <;> simp

/-! ### Sessions -/

@[simp] theorem setFail_untouched (h : Port) (code : BitVec 4) (s : State) : Untouched s (setFail h code s) := by simp [setFail]

@[simp] theorem serveHello_untouched (h : Port) (ws : List W36) (d : D28) (s : State) : Untouched s (serveHello h ws d s) := by
  simp only [serveHello]
  split
  · simp
  · simp
  · split <;> simp [State.draw]

@[simp] theorem keyComplete_untouched (h : Port) (s : State) : Untouched s (keyComplete h s) := by
  unfold keyComplete
  (repeat' split) <;> simp [establish, takeKeys, m4Authority, freshSession, startingEvents]

@[simp] theorem serveRead_untouched (h : Port) (d : D28) (s : State) : Untouched s (serveRead h d s) := by simp [serveRead]

@[simp] theorem mapState_untouched {α β : Type} {f : Nat → α → State → β × State} (hf : ∀ i a t, Untouched t (f i a t).2) (i : Nat)
    (l : List α) (s : State) : Untouched s (mapState f i l s).2 := by
  induction l generalizing i s with
  | nil => simp [mapState]
  | cons a l ih => simp [mapState, ih, hf]

@[simp] theorem serveWrite_untouched (h : Port) (ws : List W36) (d : D28) (s : State) : Untouched s (serveWrite h ws d s) := by
  simp [serveWrite, writePayload]

@[simp] theorem serveArm_untouched (h : Port) (ws : List W36) (d : D28) (s : State) : Untouched s (serveArm h ws d s) := by simp [serveArm, armPair]

@[simp] theorem expireArm_untouched (h : Port) (t : Nat) (s : State) : Untouched s (expireArm h t s) := by simp [expireArm]

@[simp] theorem serveCommit_untouched (h : Port) (ws : List W36) (d : D28) (s : State) : Untouched s (serveCommit h ws d s) := by
  simp only [serveCommit]
  (repeat' split) <;> simp [commitPayload]

@[simp] theorem moveAuthority_untouched (h : Port) (s : State) : Untouched s (moveAuthority h s) := by
  unfold moveAuthority
  split <;> simp

@[simp] theorem actionEffect_untouched (h : Port) (a : Nat) (s : State) : Untouched s (actionEffect h a s) := by
  unfold actionEffect
  split <;> simp

@[simp] theorem handover_untouched (a : Nat) (h : Port) (ws : List W36) (s : State) : Untouched s (handover a h ws s) := by
  simp [handover, serveHandover]

@[simp] theorem sendEvent_untouched (h : Port) (i : Nat) (s : State) : Untouched s (sendEvent h i s) := by simp [sendEvent]

/-! ### The rows -/

/-- The rows that reach the four: the two that set device time, first permit, the two that program the OTP, and those a reset may follow. -/
def reachesCore : Instr → Bool
  | .microsecondTick | .pllLock _ | .firstPermit | .provisionDone | .arbFusesDone | .powerOnReset | .rstNFall _ | .supFail _ _ |
    .pageProgramDone _ _ => true
  | _ => false

/-- Whatever next state the command answers, all four stand in it. -/
def Leaves (s : State) (o : Host.Outcome State Fault Refusal) : Prop := ∀ t, o = .next t → Untouched s t

/-- The aftermath leaves all four (13 R348). -/
@[simp] theorem leaves_done {s x : State} : Leaves s (done x) ↔ Untouched s x := by
  have h : Untouched x (settle x) := untouched_of_still (still_settle x)
  simp [Leaves, done, h]

/-- Every other row leaves all four: its operations do, by their frame lemmas. The rows stand in the order of the model's modules; a row whose outcome
turns on a lookup is split on it first. -/
theorem exec_leaves {i : Instr} (hi : reachesCore i = false) (s : State) : Leaves s (exec i s) := by
  cases i
  case microsecondTick | pllLock | firstPermit | provisionDone | arbFusesDone | powerOnReset | rstNFall | supFail | pageProgramDone =>
    exact absurd hi (by simp [reachesCore])
  case dbgChal =>
    simp only [exec, execDbgChal]
    split <;> simp [State.draw]
  case desatTrip | desatEventClose | gateLeakEval | stuckDetect | vbatDip | fwZeroCurrent | bstUvRecovery =>
    simp [exec, execDesatTrip, execDesatEventClose, execGateLeakEval, execStuckDetect, execVbatDip, execFwZeroCurrent, execBstUvRecovery, leakEval]
  case chRetire | ctlOn | ctlOff | brcmdWrite | clapper | clapUnr | tmrPerWrite | tmrEdgeWrite | lowWordRead | highWordRead | measZero | measCalsel |
      snapshot | snapshotRelease | freshCommit | limpExit | ilimWrite | scthCommit | i2tCommit | fltAck | injUnlock | fltForce | logFetch | arbAdvance
      | fpageSelect | portLenCommit | bistStartup | bistAbort | bistRun | registerWrite =>
    simp [exec, execChRetire, execCtlOn, execCtlOff, execBrcmdWrite, execClapper, execClapUnr, execTmrPerWrite, execTmrEdgeWrite, execLowWordRead,
      execHighWordRead, execMeasZero, execMeasCalsel, execSnapshot, execSnapshotRelease, execFreshCommit, execLimpExit, execIlimWrite, execScthCommit,
      execI2tCommit, execFltAck, execInjUnlock, execFltForce, execLogFetch, execArbAdvance, execFpageSelect, execPortLenCommit, execBistStartup,
      execBistAbort, execBistRun, execRegisterWrite]
  case bstReady | bstwaitTimeout =>
    simp only [exec, execBstReady, execBstwaitTimeout]
    split <;> simp
  case vbatReturn =>
    simp only [exec, execVbatReturn]
    (repeat' split) <;> simp [batteryBack]
  case ladderChop | offtExpiry | rotationTick | stepDwellEnd | stepEarlyEnd | refreshPulse | refreshRecheck | refreshPulseEnd | refreshSpacingExpiry
      =>
    simp [exec, execLadderChop, execOfftExpiry, execRotationTick, execStepDwellEnd, execStepEarlyEnd, execRefreshPulse, execRefreshRecheck,
      execRefreshPulseEnd, execRefreshSpacingExpiry]
  case bstUvTurnoff =>
    simp only [exec, execBstUvTurnoff]
    split <;> simp
  case periodBoundary | requestFall | syncHoldover | debugHalt | debugHaltRelease =>
    simp [exec, execPeriodBoundary, execRequestFall, execSyncHoldover, execDebugHalt, execDebugHaltRelease, requestFall, triggerB, releaseHalt]
  case deadTimeExpiry =>
    simp only [exec, execDeadTimeExpiry]
    split <;> simp [freewheelOn]
  case syncEdge =>
    simp only [exec, execSyncEdge]
    (repeat' split) <;> simp
  case ipriConversion | sarConversion | diodeSlot | zeroWaitMet =>
    simp [exec, execIpriConversion, execSarConversion, execDiodeSlot, execZeroWaitMet, sarSlot, diodeSeg, judgeSeg, hotSeg]
  case trigConversion =>
    simp only [exec, execTrigConversion]
    (repeat' split) <;> simp
  case zeroDone | zeroTimeout | snapshotExpiry =>
    simp only [exec, execZeroDone, execZeroTimeout, execSnapshotExpiry]
    split <;> simp
  case i2tUpdate | cycleLimitCut | chopRestart | cutMsBoundary | scTrip | blankWindowClose | blankCapExpiry | hsTrip | probeRecovery | trycntClear |
      cutExpiry | tripAssert | tripRelease | lhAssert | lhRelease | lhDisagree | lhLineEdge =>
    simp [exec, execI2tUpdate, execCycleLimitCut, execChopRestart, execCutMsBoundary, execScTrip, execBlankWindowClose, execBlankCapExpiry,
      execHsTrip, execProbeRecovery, execTrycntClear, execCutExpiry, execTripAssert, execTripRelease, execLhAssert, execLhRelease, execLhDisagree,
      execLhLineEdge, i2tUpdate, cycleCut, cutMsBoundary, hsTrip, retryRecover, lhEdge]
  case retryWaitExpiry =>
    simp only [exec, execRetryWaitExpiry]
    split <;> simp [retryTurnOn]
  case sillageClose | drydownExpiry | injTimeout =>
    simp only [exec, execSillageClose, execDrydownExpiry, execInjTimeout]
    split <;> simp [closeWindow, dried]
  case collectorSelfCheck =>
    simp only [exec, execCollectorSelfCheck]
    (repeat' split) <;> simp [defaultEntryOf]
  case resetRelease | rbgRetry | pllLockLoss | pllLockTimeout | senseMonitorArm | clockMonitorWindow | clockStopDetect | heartbeatLoss |
      heartbeatRestore | flashDetect | reelLoadDone =>
    simp [exec, execResetRelease, execRbgRetry, execPllLockLoss, execPllLockTimeout, execSenseMonitorArm, execClockMonitorWindow, execClockStopDetect,
      execHeartbeatLoss, execHeartbeatRestore, execFlashDetect, execReelLoadDone, holdPresent, heartUnit]
  case keepaliveLoss =>
    simp only [exec, execKeepaliveLoss]
    (repeat' split) <;> simp [stopTogether]
  case startChargeEnd | chargeTimeout | flaconTestComplete | vholdConversion | programRetry | logProgramDue | logFetchDone =>
    simp [exec, execStartChargeEnd, execChargeTimeout, execFlaconTestComplete, execVholdConversion, execProgramRetry, execLogProgramDue,
      execLogFetchDone]
  case provision | extest | samplePreload | bypass | dbgToken | trstAssert =>
    simp [exec, execProvision, execExtest, execSamplePreload, execBypass, execDbgToken, execTrstAssert]
  case apertureVerifyDone =>
    simp only [exec, execApertureVerifyDone]
    (repeat' split) <;> simp
  case dbgAcc | selectFall | selectRise | rxOverrun | txUnderrun | rdreg | wrreg | rdstat | recoveryOtherCommand =>
    simp [exec, execDbgAcc, execSelectFall, execSelectRise, execRxOverrun, execTxUnderrun, execRdreg, execWrreg, execRdstat, execRecoveryOtherCommand,
      dbgAccess, dbgCapture, bitsReached, selectRise]
  case hello | key | keyComplete | read | write | arm | commit | retire | lease | leaseExpiry | give | take | request | refuse | handoverLapse |
      eventSend | eventResend | hostEventFrame =>
    simp [exec, execHello, execKey, execKeyComplete, execRead, execWrite, execArm, execCommit, execRetire, execLease, execLeaseExpiry, execGive,
      execTake, execRequest, execRefuse, execHandoverLapse, execEventSend, execEventResend, execHostEventFrame, serveKey, serveRetire, retireEntry,
      serveLease, renewLease]
  case exchangeTimeout | oldKeyWindowEnd | armExpiry =>
    simp only [exec, execExchangeTimeout, execOldKeyWindowEnd, execArmExpiry]
    split <;> simp
  case bistTestStart =>
    simp [exec, execBistTestStart, startTest]
  case bistTestDone | bistTestTimeout =>
    simp only [exec, execBistTestDone, execBistTestTimeout]
    split <;> simp

end Sys2Proof.Machine

/-! Device time (04 R88): MICROSECOND_TICK counts it, the PLL's lock starts it from zero, a reset may follow four rows, and every other row leaves it. -/

namespace Sys2Proof.Machine

/-- Whatever next state the command answers, device time stands in it, or it is in reset. -/
def KeepsTime (s : State) (o : Host.Outcome State Fault Refusal) : Prop := ∀ t, o = .next t → t.now = s.now ∨ t.dev.phase = .reset

@[simp] theorem settle_now (s : State) : (settle s).now = s.now := still_keeps State.now (fun _ => rfl) (still_settle s)

/-- The aftermath takes no time and ends no reset. -/
@[simp] theorem keepsTime_done {s x : State} : KeepsTime s (done x) ↔ x.now = s.now ∨ x.dev.phase = .reset := by
  have hd : (settle x).dev = x.dev := still_keeps State.dev (fun _ => rfl) (still_settle x)
  simp [KeepsTime, done, hd]

/-- Last rites take no time until they end in reset (15 R398). -/
theorem lastRites_time_or_reset (cause : BitVec 3) (env : RitesEnv) (s : State) :
    (lastRites cause env s).now = s.now ∨ (lastRites cause env s).dev.phase = .reset := by
  simp only [lastRites]
  (repeat' split) <;> simp

theorem powerOnReset_keepsTime (s : State) : KeepsTime s (exec .powerOnReset s) := keepsTime_done.mpr (.inr rfl)

theorem rstNFall_keepsTime (env : RitesEnv) (s : State) : KeepsTime s (exec (.rstNFall env) s) := by
  simp only [exec, execRstNFall, keepsTime_done]
  split
  · exact .inl rfl
  · exact lastRites_time_or_reset 1 env { s with pins := { s.pins with rstN := false } }

theorem supFail_keepsTime (x : Supply) (env : RitesEnv) (s : State) : KeepsTime s (exec (.supFail x env) s) := by
  simp only [exec, execSupFail, keepsTime_done]
  (repeat' split)
  · simp
  · simp
  · simp
  · simpa using lastRites_time_or_reset (supCause x) env (raise [ev 116] (ritesAbandon (setSup x false s)))

/-- A program that rites wait for ends them in reset; any other takes no time. -/
theorem pageProgramDone_keepsTime (reads : Bool) (env : RitesEnv) (s : State) : KeepsTime s (exec (.pageProgramDone reads env) s) := by
  simp only [exec, execPageProgramDone, keepsTime_done]
  (repeat' split) <;> simp

theorem firstPermit_keepsTime (s : State) : KeepsTime s (exec .firstPermit s) := by
  simp [exec, execFirstPermit]

theorem provisionDone_keepsTime (s : State) : KeepsTime s (exec .provisionDone s) := by
  simp only [exec, execProvisionDone]
  split <;> simp

theorem arbFusesDone_keepsTime (s : State) : KeepsTime s (exec .arbFusesDone s) := by
  simp only [exec, execArbFusesDone]
  split <;> simp

/-- A microsecond counts in device time while TIME runs; else GUARD counts its own alone (13 R344). -/
theorem microsecondTick_time {s t : State} (h : exec .microsecondTick s = .next t) : t.now = s.now ∨ t.now = s.now + 1 := by
  simp only [exec, execMicrosecondTick, done, Host.Outcome.next.injEq] at h
  subst h
  simp only [settle_now]
  (repeat' split) <;> simp [tick, guardTick]

@[simp] theorem completeAdvance_now (s : State) : (completeAdvance s).now = s.now := by
  unfold completeAdvance
  (repeat' split) <;> rfl

/-- The lock that ends the clocks' phase starts device time; one found in another phase only shows in PLLLOCK. -/
theorem pllLock_time {b : Bool} {s t : State} (h : exec (.pllLock b) s = .next t) : t.now = s.now ∨ t.now = 0 := by
  simp only [exec, execPllLock, done, Host.Outcome.next.injEq] at h
  subst h
  simp only [settle_now]
  (repeat' split) <;> simp [readOtp]

/-- Settles O59: the rows that set device time by their own lemmas, those a reset may follow by theirs, every other row by its frame. -/
theorem deviceTimeOnlyTicks : Obligations.DeviceTimeOnlyTicks := by
  unfold Obligations.DeviceTimeOnlyTicks
  intro i s t h
  have keeps (hk : KeepsTime s (exec i s)) :
      t.now = s.now ∨ (i = .microsecondTick ∧ t.now = s.now + 1) ∨ (∃ b, i = .pllLock b ∧ t.now = 0) ∨ t.dev.phase = .reset :=
    (hk t h).imp_right fun hr => .inr (.inr hr)
  by_cases hi : reachesCore i = false
  · obtain ⟨-, hn, -, -⟩ := exec_leaves hi s t h
    exact .inl hn
  · cases i with
    | microsecondTick => exact (microsecondTick_time h).imp_right fun hn => .inl ⟨rfl, hn⟩
    | pllLock b => exact (pllLock_time h).imp_right fun hn => .inr (.inl ⟨b, rfl, hn⟩)
    | firstPermit => exact keeps (firstPermit_keepsTime s)
    | provisionDone => exact keeps (provisionDone_keepsTime s)
    | arbFusesDone => exact keeps (arbFusesDone_keepsTime s)
    | powerOnReset => exact keeps (powerOnReset_keepsTime s)
    | rstNFall env => exact keeps (rstNFall_keepsTime env s)
    | supFail x env => exact keeps (supFail_keepsTime x env s)
    | pageProgramDone reads env => exact keeps (pageProgramDone_keepsTime reads env s)
    | _ => exact absurd rfl hi

end Sys2Proof.Machine

/-! The timebase's own rows: the microsecond clock (04 R88), SYNC_IN (04 R106) and the debug halt (04 R112, R113). -/

namespace Sys2Proof.Machine

/-! ### The microsecond clock -/

theorem microsecondTick_gives {s : State} (hp : s.dev.phase ≠ .reset) :
    Gives .microsecondTick s (if s.clocked && !s.clk.timeStop then tick s else guardTick s) := by
  simp [Gives, exec, execMicrosecondTick, hp, done]

/-- A clocked state is out of reset. -/
theorem phase_ne_reset_of_clocked {s : State} (h : s.clocked = true) : s.dev.phase ≠ .reset := by
  simp only [State.clocked, Bool.and_eq_true, bne_iff_ne] at h
  exact h.1

/-- GUARD's time goes on by one with its own microsecond, whether device time runs or not. -/
theorem guardNow_guardTick {s : State} (h : s.clk.guardStop = false) : guardNow (guardTick s) = guardNow s + 1 := by
  simp [guardNow, guardTick, h, Nat.add_assoc]

/-! ### SYNC_IN -/

/-- An edge counts for nothing with TIME stopped, in a freeze, without a SYNC timer and in last rites. -/
def syncHeard (s : State) : Bool := s.timeRuns && !s.tbase.frozen && (syncTimer s).isSome && s.sup.ritesWait.isNone

theorem syncHeard_of {s : State} (ht : s.timeRuns = true) (hw : s.sup.ritesWait = none) (hf : s.tbase.frozen = false)
    (hs : (syncTimer s).isSome = true) : syncHeard s = true := by
  simp [syncHeard, ht, hw, hf, hs]

/-- The row's own test of it. -/
theorem not_syncHeard (s : State) :
    (!s.timeRuns || s.tbase.frozen || (syncTimer s).isNone || s.sup.ritesWait.isSome) = !syncHeard s := by
  simp [syncHeard, Bool.not_and]

theorem syncEdge_unheard {interval : Nat} {offset : Int} {s : State} (h : syncHeard s = false) : Gives (.syncEdge interval offset) s s := by
  simp [Gives, exec, execSyncEdge, not_syncHeard, h, done]

/-- An edge at an interval in range after an earlier one begins the tracking with its interval as the period (log 127). -/
theorem syncEdge_acquires {interval t0 : Nat} {offset : Int} {s : State} (hh : syncHeard s = true) (hs : s.tbase.sync ≠ .track)
    (ha : s.tbase.edgeAt = some t0) (hlo : 1600 ≤ interval) (hhi : interval ≤ 4000000) :
    Gives (.syncEdge interval offset) s
      { s with tbase := { s.tbase with
          sync := .track, syncNext := some interval, syncP := some interval, good := 0, edgeAt := some s.now, edgeUs := 0 } } := by
  simp only [Gives, exec, execSyncEdge, not_syncHeard, hh]
  cases hb : s.tbase.sync
  case track => exact absurd hb hs
  all_goals simp [done, onTBase, ha, hlo, hhi]

/-- In TRACK an edge between half and twice the period counts, with its offset bounded by P/64 (log 150). -/
theorem syncEdge_tracks {interval t0 : Nat} {offset lim : Int} {s : State} (hh : syncHeard s = true) (ht : syncTimer s = some t0)
    (hs : s.tbase.sync = .track) (hlo : trackedP s t0 ≤ 2 * interval) (hhi : interval ≤ 2 * trackedP s t0)
    (hlim : lim = (trackedP s t0 : Int) / 64) :
    Gives (.syncEdge interval offset) s
      { s with tbase := { s.tbase with
          syncNext := some ((interval : Int) + max (-lim) (min lim offset)).toNat,
          good := if offset.natAbs ≤ 4 then s.tbase.good + 1 else 0, edgeAt := some s.now, edgeUs := 0,
          lock := (s.tbase.lock || decide (4 ≤ if offset.natAbs ≤ 4 then s.tbase.good + 1 else 0)) && decide (offset.natAbs ≤ 16) } } := by
  simp only [Gives, exec, execSyncEdge, not_syncHeard, hh]
  simp [ht, hs, hlo, hhi, hlim, done, onTBase]

/-- Any other edge in TRACK is ignored and counted as rejected (log 108). -/
theorem syncEdge_rejects {interval t0 : Nat} {offset : Int} {s : State} (hh : syncHeard s = true) (ht : syncTimer s = some t0)
    (hs : s.tbase.sync = .track) (hout : 2 * interval + 1 ≤ trackedP s t0 ∨ 2 * trackedP s t0 < interval) :
    Gives (.syncEdge interval offset) s { s with tbase := { s.tbase with rej := sat 63 (s.tbase.rej + 1) } } := by
  have hno : ¬ (trackedP s t0 ≤ 2 * interval ∧ interval ≤ 2 * trackedP s t0) := by omega
  simp only [Gives, exec, execSyncEdge, not_syncHeard, hh]
  simp [ht, hs, hno, done, onTBase]

/-- 2P without a counted edge ends the tracking and raises TB_SYNC; LOCK stays (log 109). -/
theorem syncHoldover_raises {t1 : Nat} {s : State} (ht : s.timeRuns = true) (hf : s.tbase.frozen = false) (hs : s.tbase.sync = .track)
    (hm : syncTimer s = some t1) (hdue : 2 * trackedP s t1 / 400 ≤ s.tbase.edgeUs) (hl : lightsOut s = false) :
    Raises .syncHoldover s { s with tbase := { s.tbase with sync := .holdover, lost := true, good := 0 } } [109] := by
  have hi : exec .syncHoldover s = done (raise [ev 109] (onTBase (fun b => { b with sync := .holdover, lost := true, good := 0 }) s)) := by
    simp [exec, execSyncHoldover, ht, hf, hs, hm, hdue]
  refine raises_of_still hi (still_raise _ _) fun k hk => ?_
  rw [List.mem_singleton.mp hk]
  exact raise_seen (e := ev 109) (List.mem_singleton_self _) (by decide) (unrecorded_lit (by decide) hl)

/-! ### The debug halt -/

/-- A halt freezes with its right in the token and in the options, while TIME runs and no safe state holds (log 160). -/
theorem debugHalt_freezes {rights : BitVec 3} {s : State} (htok : s.trust.token = some rights) (hr : rights.getLsbD 0 = true)
    (ho : s.dev.opts.getLsbD 2 = true) (ht : s.timeRuns = true) (hs : s.flt.safe = false) :
    Gives .debugHalt s { s with tap := { s.tap with halt := true }, tbase := { s.tbase with frozen := true },
                                timers := s.timers.map fun m => { m with frozen := true } } := by
  simp [Gives, exec, execDebugHalt, htok, hr, ho, ht, hs, done]

theorem debugHalt_safe {s : State} (hs : s.flt.safe = true) : Gives .debugHalt s s := by
  simp [Gives, exec, execDebugHalt, hs, done]

theorem debugHaltRelease_thaws {s : State} (h : s.tap.halt = true) :
    Gives .debugHaltRelease s { s with tap := { s.tap with halt := false }, tbase := { s.tbase with frozen := false },
                                       timers := s.timers.map fun m => { m with frozen := false } } := by
  simp [Gives, exec, execDebugHaltRelease, releaseHalt, endFreeze, h, done]

/-- Settles O12: the microsecond clock and GUARD's by the phase and TIME, SYNC_IN and the halt by a lemma for each outcome. -/
theorem timebaseCommands : Obligations.TimebaseCommands := by
  unfold Obligations.TimebaseCommands
  refine ⟨?clock, ?acquire, ?track, ?reject, ?holdover, ?halt, ?release, ?edgeUs, ?rites, ?period, ?guard, ?reset, ?safe⟩
  case clock =>
    intro s hc ht
    refine ⟨?_, rfl⟩
    simpa [hc, ht] using microsecondTick_gives (phase_ne_reset_of_clocked hc)
  case acquire =>
    intro interval t0 offset s ht hw hf hm hs ha hlo hhi
    exact syncEdge_acquires (syncHeard_of ht hw hf hm) hs ha hlo hhi
  case track =>
    intro interval t0 offset lim s ht hw hf hm hs hlo hhi hlim
    exact syncEdge_tracks (syncHeard_of ht hw hf (by simp [hm])) hm hs hlo hhi hlim
  case reject =>
    intro interval t0 offset s ht hw hf hm hs hout
    exact syncEdge_rejects (syncHeard_of ht hw hf (by simp [hm])) hm hs hout
  case holdover => exact fun t1 s ht hf hs hm hdue hl => syncHoldover_raises ht hf hs hm hdue hl
  case halt => exact fun rights s htok hr ho ht hs => debugHalt_freezes htok hr ho ht hs
  case release => exact fun s h => debugHaltRelease_thaws h
  case edgeUs => exact fun s => rfl
  case rites =>
    intro interval offset s hw
    exact syncEdge_unheard (by simp [syncHeard, Option.isSome_iff_ne_none.mpr hw])
  case period =>
    intro t p s
    exact ⟨fun h => by simp [trackedP, h], fun h => by simp [trackedP, h]⟩
  case guard =>
    intro s hp h
    have hstop : (s.clocked && !s.clk.timeStop) = false := by rcases h with h | h <;> simp [h]
    refine ⟨?_, rfl, guardNow_guardTick⟩
    simpa [hstop] using microsecondTick_gives hp
  case reset =>
    intro s hp
    simp [Gives, exec, execMicrosecondTick, hp, done]
  case safe => exact fun s hs => debugHalt_safe hs

end Sys2Proof.Machine

/-! What the operations on units leave (03, 04): the timers, the timebase, the triggers and everything else that is not a unit's. -/

namespace Sys2Proof.Machine

@[simp] theorem forEachCh_tm {F : State → Nat → Chan → Chan} (l : List Nat) (s : State) (k : Nat) :
    (forEach l (fun n t => t.onCh n (F t n)) s).tm k = s.tm k :=
  forEach_keeps (g := fun x => x.tm k) (fun _ _ => by exact rfl) l s

/-- The state outside the units: without its channels and self-tests. -/
def State.offUnits (s : State) : State := { s with chans := [], bist := Bist.reset }

/-- What is read outside the units stands where the rest of the state does. -/
theorem offUnits_keeps {α : Type} (g : State → α) (hg : ∀ x : State, g x.offUnits = g x) {s t : State} (h : t.offUnits = s.offUnits) :
    g t = g s := by
  rw [← hg t, h, hg]

@[simp] theorem onCh_offUnits (s : State) (n : Nat) (f : Chan → Chan) : (s.onCh n f).offUnits = s.offUnits := rfl

@[simp] theorem forEachCh_offUnits (F : State → Nat → Chan → Chan) (l : List Nat) (s : State) :
    (forEach l (fun n t => t.onCh n (F t n)) s).offUnits = s.offUnits :=
  forEach_keeps (g := State.offUnits) (fun _ _ => by exact rfl) l s

@[simp] theorem coastUnit_offUnits (u : Nat) (s : State) : (coastUnit u s).offUnits = s.offUnits := by
  simp [coastUnit]

@[simp] theorem brakeUnit_offUnits (rev : Option Bridge) (u : Nat) (s : State) : (brakeUnit rev u s).offUnits = s.offUnits := by
  simp only [brakeUnit, onCh_offUnits]
  exact forEachCh_offUnits ..

@[simp] theorem bridgeCommand_offUnits (u : Nat) (s : State) : (bridgeCommand u s).offUnits = s.offUnits := by
  simp only [bridgeCommand]
  (repeat' split) <;> simp

@[simp] theorem returnUnit_offUnits (u : Nat) (s : State) : (returnUnit u s).offUnits = s.offUnits :=
  returnUnit_keeps State.offUnits (fun _ _ => rfl) u s

@[simp] theorem gatesOn_offUnits (blank : Bool) (u : Nat) (s : State) : (gatesOn blank u s).offUnits = s.offUnits :=
  (forEachCh_offUnits (fun t _ => chanOn t blank u) _ _).trans (returnUnit_offUnits u s)

@[simp] theorem gatesOff_offUnits (u : Nat) (s : State) : (gatesOff u s).offUnits = s.offUnits :=
  gatesOff_state State.offUnits (fun _ _ _ => rfl) u s

@[simp] theorem resume_offUnits (blank : Bool) (u : Nat) (s : State) : (resume blank u s).offUnits = s.offUnits := by
  simp only [resume]
  split <;> simp

@[simp] theorem startLadder_offUnits (u : Nat) (s : State) : (startLadder u s).offUnits = s.offUnits := by
  simp [startLadder]

@[simp] theorem startRefresh_offUnits (u : Nat) (s : State) : (startRefresh u s).offUnits = s.offUnits := by
  simp [startRefresh]

@[simp] theorem offInterval_offUnits (u : Nat) (s : State) : (offInterval u s).offUnits = s.offUnits := by
  simp only [offInterval]
  split <;> simp

@[simp] theorem timedPeriod_offUnits (t u : Nat) (s : State) : (timedPeriod t u s).offUnits = s.offUnits := by
  simp only [timedPeriod]
  (repeat' split) <;> simp

@[simp] theorem bridgeEnter_offUnits (t : Nat) (d : Bridge) (u : Nat) (s : State) : (bridgeEnter t d u s).offUnits = s.offUnits := by
  simp only [bridgeEnter]
  (repeat' split) <;> simp

@[simp] theorem bridgePeriod_offUnits (t : Nat) (ready : Bool) (u : Nat) (s : State) : (bridgePeriod t ready u s).offUnits = s.offUnits := by
  simp only [bridgePeriod]
  (repeat' split) <;> simp

@[simp] theorem unitPeriod_offUnits (t : Nat) (ready : List Nat) (u : Nat) (s : State) : (unitPeriod t ready u s).offUnits = s.offUnits := by
  simp only [unitPeriod, endLinger]
  (repeat' split) <;> simp

/-- A boundary's latch changes what `applyTimerLatch` changes, and the units. -/
@[simp] theorem applyLatch_offUnits (t : Nat) (s : State) : (applyLatch t s).offUnits = (applyTimerLatch t s).offUnits := by
  refine (forEach_keeps (g := State.offUnits) (fun u x => ?_) _ _).trans (forEachCh_offUnits (fun _ _ => applyStaged) _ _)
  split <;> simp

theorem applyLatch_tm (t k : Nat) (s : State) : (applyLatch t s).tm k = (applyTimerLatch t s).tm k :=
  offUnits_keeps (fun x => x.tm k) (fun _ => rfl) (applyLatch_offUnits t s)

end Sys2Proof.Machine

/-! The clapper and the timers' words: what reaches the latches (04 R99 to R102), PER (04 R89) and EDGE (04 R96, 14 R368). -/

namespace Sys2Proof.Machine

/-! ### The clapper's word (04 R99) -/

theorem bitAt_d28 (mask : BitVec 20) (i : Nat) : bitAt (d28 mask.toNat) i = mask.getLsbD i := by
  have hlt : mask.toNat < 2 ^ 28 := mask.isLt.trans (by decide)
  rw [bitAt, d28, BitVec.toNat_ofNat, Nat.mod_eq_of_lt hlt, BitVec.testBit_toNat]

theorem bitAt_d28_high (mask : BitVec 20) {i : Nat} (hi : 20 ≤ i) : bitAt (d28 mask.toNat) i = false := by
  rw [bitAt_d28 mask, BitVec.getLsbD_of_ge mask i hi]

/-- The word names the mask's timers and not the unrouted channels. -/
theorem writeClap_mask (mask : BitVec 20) (s : State) :
    writeClap (d28 mask.toNat) s = forEach ((List.range 20).filter mask.getLsbD) clapTimer s := by
  have hbits : bitAt (d28 mask.toNat) = mask.getLsbD := funext (bitAt_d28 mask)
  simp [writeClap, hbits]

theorem writeClap_unr (s : State) : writeClap 0x0100000 s = clapUnrouted s := by
  have hl : (List.range 20).filter (bitAt 0x0100000) = [] := by decide
  rw [writeClap, hl, if_pos (by decide)]
  rfl

theorem clap_gives {i : Instr} {a : Access} {d : D28} {s x : State} (hm : MayStore s a 0x1A0) (hr : resv 0xFE00000 d = false)
    (he : effect a 0x1A0 d s = (sOk, x)) (hx : exec i s = done (writeRow a 0x1A0 d s)) : GivesStatus i s sOk x := by
  have hi : baseInfo s 0x1A0 = some ([.x], 0xFE00000) := rfl
  rw [GivesStatus, Gives, hx, writeRow_stores hm (by rw [hi]; rfl) (by rw [reservedAt, hi]; exact hr) rfl he]
  rfl

theorem ownEffect_clap (a : Access) (d : D28) (s : State) : ownEffect a 0x1A0 d s = (sOk, writeClap d s) := rfl

theorem effect_clap {a : Access} {d : D28} {s : State} (h : s.clk.timeStop = false) : effect a 0x1A0 d s = (sOk, writeClap d s) := by
  rw [effect_own ((domainStopped_time (by decide)).trans h), ownEffect_clap]

/-- With TIME stopped the clapper's word waits (13 R348). -/
theorem effect_clap_held {a : Access} {d : D28} {s : State} (h : s.clk.timeStop = true) : effect a 0x1A0 d s = (sOk, holdWord 0x1A0 d s) := by
  rw [effect_held ((domainStopped_time (by decide)).trans h) (by decide) (by decide) rfl, show mirrored 0x1A0 = false by decide]
  rfl

theorem resv_clap_mask (mask : BitVec 20) : resv 0xFE00000 (d28 mask.toNat) = false :=
  resv_eq_false fun i hi hb => bitAt_d28_high mask (by revert i; decide)

/-! ### The words of a timer -/

/-- A word of a timer's register that is taken. -/
theorem tmr_gives_ok {i : Instr} {a : Access} {t o k : Nat} {d : D28} {s x : State} (ht : t < 20) (ho : o < 8) (hk : k = 0x100 + 8 * t + o)
    (hm : MayStore s a k) (hr : resv (tmrInfo (s.tm t).tick o).2 d = false) (hd : hasDirect (tmrInfo (s.tm t).tick o).1 = true)
    (he : effect a k d s = (sOk, x)) (hx : exec i s = done (writeRow a k d s)) : GivesStatus i s sOk x := by
  have hi := baseInfo_tmr (s := s) ht ho hk
  rw [GivesStatus, Gives, hx, writeRow_stores hm (by rw [hi]; rfl) (by rw [reservedAt, hi]; exact hr) hd he]
  rfl

/-- A word of a port for a timer's register, with its record. -/
theorem tmr_gives {i : Instr} {h : Port} {t o k : Nat} {d : D28} {s x : State} {st : BitVec 8} (ht : t < 20) (ho : o < 8)
    (hk : k = 0x100 + 8 * t + o) (hm : MayStore s (.write h) k) (hr : resv (tmrInfo (s.tm t).tick o).2 d = false)
    (hd : hasDirect (tmrInfo (s.tm t).tick o).1 = true) (he : effect (.write h) k d s = (st, x))
    (hx : exec i s = done (writeRow (.write h) k d s)) : GivesStatus i s st (noteLast h 1 k st x) := by
  have hi := baseInfo_tmr (s := s) ht ho hk
  rw [GivesStatus, Gives, hx, writeRow_turned hm (by rw [hi]; rfl) (by rw [reservedAt, hi]; exact hr) hd he]
  rfl

theorem perWord_address (t : Nat) : 0x101 + 8 * t = 0x100 + 8 * t + 1 := by omega

theorem edgeWord_address (t : Nat) : 0x104 + 8 * t = 0x100 + 8 * t + 4 := by omega

theorem effect_per {a : Access} {t : Nat} {d : D28} {s : State} (ht : t < 20) : effect a (0x101 + 8 * t) d s = writePer t d s := by
  rw [effect_own (domainStopped_core (by omega)), ownEffect_tmr ht (by decide) (perWord_address t)]
  rfl

theorem isEdge_at {t : Nat} (ht : t < 20) : isEdge (0x104 + 8 * t) = true := by
  simp [isEdge]
  omega

theorem domainStopped_edge {t : Nat} {s : State} (ht : t < 20) : domainStopped s (0x104 + 8 * t) = s.clk.timeStop := by
  have hg : ((0x80 ≤ 0x104 + 8 * t && 0x104 + 8 * t < 0x100) || 0x104 + 8 * t = 0x3A1 : Bool) = false := by simp; omega
  simp only [domainStopped, isEdge_at ht, hg, Bool.or_true, Bool.true_or, Bool.and_true, Bool.and_false, Bool.false_or]

theorem effect_edge_runs {a : Access} {t : Nat} {d : D28} {s : State} (ht : t < 20) (h : s.clk.timeStop = false) :
    effect a (0x104 + 8 * t) d s = if (s.tm t).run then (sBusy, s) else writeEdge t d s := by
  rw [effect_own ((domainStopped_edge ht).trans h), ownEffect_tmr ht (by decide) (edgeWord_address t)]
  rfl

theorem resv_per {d : D28} (h : fld d 27 23 = 0) : resv 0xF800000 d = false := resv_of_fld h (by decide)

theorem resv_edge {d : D28} (h : fld d 27 20 = 0) : resv 0xFF00000 d = false := resv_of_fld h (by decide)

/-! ### What a clapper leaves -/

/-- A timer and its channels with their shadows in the latches. -/
def clapped (t : Nat) (s : State) : State :=
  forEach (routedTo s t) (fun n x => x.onCh n stageChan)
    (s.onTm t fun tm => { tm with latch := some (tm.perSh, tm.dutySh, tm.phaseSh), claprepl := tm.claprepl || tm.latch.isSome, latchAt := s.now })

theorem clapTimer_eq {t : Nat} {s : State} (h : (s.tm t).func ≠ 0) :
    clapTimer t s = if (s.tm t).func == 2 then applyLatch t (clapped t s) else clapped t s := by
  simp only [clapTimer, h, if_false]
  rfl

theorem clapped_tm {t : Nat} {s : State} (ht : t < s.timers.length) : (clapped t s).tm t =
    { s.tm t with latch := some ((s.tm t).perSh, (s.tm t).dutySh, (s.tm t).phaseSh), claprepl := (s.tm t).claprepl || (s.tm t).latch.isSome,
                  latchAt := s.now } := by
  rw [clapped, forEachCh_tm (F := fun _ _ => stageChan), tm_onTm _ _ _ ht]

theorem clapped_ch {t n : Nat} {s : State} (hn : n ∈ routedTo s t) (hl : n < s.chans.length) : (clapped t s).ch n = stageChan (s.ch n) := by
  have hnd : (routedTo s t).Nodup := List.nodup_range.filter _
  rw [clapped, ch_forEach_const (g := fun _ => stageChan) hnd, if_pos ⟨hn, hl⟩]
  rfl

/-- No set of a BLANK timer is refused (log 145). -/
theorem latchBad_blank {t : Nat} {per duty phase : D28} {s : State} (h : (s.tm t).func = 2) : latchBad s t per duty phase = false := by
  simp [latchBad, h]

/-- A set that R102 does not refuse comes into force whole. -/
theorem applyTimerLatch_takes {t : Nat} {per duty phase : D28} {s : State} (hl : (s.tm t).latch = some (per, duty, phase))
    (hb : latchBad s t per duty phase = false) (ht : t < s.timers.length) : (applyTimerLatch t s).tm t =
      { s.tm t with latch := none, per := if isMember s t then (s.tm t).per else per, duty := duty, phase := phase } := by
  simp only [applyTimerLatch, hl, hb]
  rw [tm_onTm _ _ _ ht]
  rfl

/-- One that it refuses leaves the set in force, with the note (04 R102, log 72). -/
theorem applyTimerLatch_refuses {t : Nat} {per duty phase : D28} {s : State} (hl : (s.tm t).latch = some (per, duty, phase))
    (hb : latchBad s t per duty phase = true) (ht : t < s.timers.length) :
    (applyTimerLatch t s).tm t = { s.tm t with latch := none, loadReject := true } := by
  simp only [applyTimerLatch, hl, hb]
  rw [tm_onTm _ _ _ ht]
  rfl

/-- A BLANK timer's set is in force with the clapper (04 R108). -/
theorem clapTimer_blank {t : Nat} {s : State} (h : (s.tm t).func = 2) (ht : t < s.timers.length) :
    ((clapTimer t s).tm t).duty = (s.tm t).dutySh ∧ ((clapTimer t s).tm t).latch = none := by
  have htm := clapped_tm ht
  have hf : ((clapped t s).tm t).func = 2 := by
    rw [htm]
    exact h
  have hlen : t < (clapped t s).timers.length := by
    rw [clapped, forEach_keeps (g := fun x => x.timers.length) fun _ _ => by exact rfl, onTm_length]
    exact ht
  rw [clapTimer_eq (by omega), if_pos (by simp [h]), applyLatch_tm, applyTimerLatch_takes (by rw [htm]) (latchBad_blank hf) hlen]
  exact ⟨rfl, rfl⟩

theorem clapUnrouted_ch (n : Nat) (s : State) : (clapUnrouted s).ch n =
    if (n < 12 ∧ routeOf s n = none) ∧ n < s.chans.length then applyStaged (stageChan (s.ch n)) else s.ch n := by
  rw [clapUnrouted, ch_forEach_const (g := fun _ c => applyStaged (stageChan c)) (List.nodup_range.filter _)]
  simp

/-- Settles O11: the words by the register's class, owner and judgement, the clapper by what it stages in the timer and in the channels. -/
theorem clapperAndTimerRows : Obligations.ClapperAndTimerRows := by
  unfold Obligations.ClapperAndTimerRows
  refine ⟨?clapper, ?unrouted, ?per, ?perDenied, ?perFormat, ?edge, ?edgeFormat, ?edgeBusy, ?off, ?latches, ?blank, ?unroutedCh, ?staged, ?edgeHeld,
    ?clapHeld⟩
  case clapper =>
    intro a mask s hm ht
    exact clap_gives hm (resv_clap_mask mask) ((effect_clap ht).trans (by rw [writeClap_mask])) rfl
  case unrouted =>
    intro a s hm ht
    exact clap_gives hm (by decide) ((effect_clap ht).trans (by rw [writeClap_unr])) rfl
  case per =>
    intro a t d s hm hr hf hmem hok
    refine tmr_gives_ok t.isLt (by decide) (perWord_address t) hm (resv_per hr) rfl ((effect_per t.isLt).trans ?_) rfl
    simp [writePer, hf, hmem, hok]
  case perDenied =>
    intro h t d s hm hr hdeny
    refine tmr_gives t.isLt (by decide) (perWord_address t) hm (resv_per hr) rfl ((effect_per t.isLt).trans ?_) rfl
    simp [writePer, hdeny]
  case perFormat =>
    intro h t d s hm hr hf hmem hbad
    refine tmr_gives t.isLt (by decide) (perWord_address t) hm (resv_per hr) rfl ((effect_per t.isLt).trans ?_) rfl
    simp [writePer, hf, hmem, hbad]
  case edge =>
    intro a t d s hm hr ht hrun hok
    refine tmr_gives_ok t.isLt (by decide) (edgeWord_address t) hm (resv_edge hr) rfl ((effect_edge_runs t.isLt ht).trans ?_) rfl
    simp [writeEdge, hrun, hok]
  case edgeFormat =>
    intro h t d s hm hr ht hrun hbad
    refine tmr_gives t.isLt (by decide) (edgeWord_address t) hm (resv_edge hr) rfl ((effect_edge_runs t.isLt ht).trans ?_) rfl
    simp [writeEdge, hrun, hbad]
  case edgeBusy =>
    intro h t d s hm hr ht hrun
    refine tmr_gives t.isLt (by decide) (edgeWord_address t) hm (resv_edge hr) rfl ((effect_edge_runs t.isLt ht).trans ?_) rfl
    simp [hrun]
  case off =>
    intro t s hf
    simp [clapTimer, hf]
  case latches =>
    intro t s h0 h2 ht
    rw [clapTimer_eq h0, if_neg (by simpa using h2), clapped_tm ht]
    refine ⟨rfl, rfl, fun n hn hl => ?_⟩
    rw [clapped_ch hn hl]
    exact ⟨rfl, rfl⟩
  case blank => exact fun t s h ht => clapTimer_blank h ht
  case unroutedCh =>
    intro n s hn hl
    constructor
    · intro hr
      rw [clapUnrouted_ch, if_pos ⟨⟨hn, hr⟩, hl⟩]
      exact ⟨rfl, rfl⟩
    · intro hr
      rw [clapUnrouted_ch, if_neg fun h => hr h.1.2]
  case staged =>
    intro c b i hb hi
    simp [applyStaged, hb, hi]
  case edgeHeld =>
    intro a t d s hm hr ht
    exact tmr_gives_ok t.isLt (by decide) (edgeWord_address t) hm (resv_edge hr) rfl
      (effect_edge ((domainStopped_edge t.isLt).trans ht) (isEdge_at t.isLt)) rfl
  case clapHeld => exact fun a mask s hm ht => clap_gives hm (resv_clap_mask mask) (effect_clap_held ht) rfl

end Sys2Proof.Machine

/-! A timer's period start: the latches (04 R101, R102), what it counts and emits (R92, R98, R105, R106, R110, R115) and what a unit does in it (R93 to R95). -/

namespace Sys2Proof.Machine

/-! ### Which timers run (04 R98) -/

theorem timerNeeded_pwm_iff {t : Nat} {s : State} (hf : (s.tm t).func = 1) : timerNeeded s t = true ↔
    (∃ n, n < 12 ∧ routeOf s n = some t ∧ (s.ch n).onReq = true) ∨ ∃ u ∈ leaders s, (s.ch u).drive = .timed t ∨
      (routeOf s u = some t ∧ ((s.ch u).lingers = true ∨ ((s.ch u).cutPeriod = true ∧ (s.ch u).drive = .steady))) := by
  simp [timerNeeded, hf, routedTo, awaits]

theorem timerRuns_iff (t : Nat) (s : State) : timerRuns s t = true ↔ timerNeeded s t = true ∨
    ((s.tm t).master = true ∧ (s.tm t).group ≠ 0 ∧ ∃ m, m < 20 ∧ masterOf s m = t ∧ timerNeeded s m = true) := by
  simp [timerRuns, and_assoc]

/-- A PWM timer that no request, drive or member names does not run. -/
theorem timerRuns_idle {t : Nat} {s : State} (hf : (s.tm t).func = 1) (hreq : ∀ n, n < 12 → routeOf s n = some t → (s.ch n).onReq = false)
    (hdrive : ∀ u ∈ leaders s, (s.ch u).drive ≠ .timed t ∧ awaits s t u = false)
    (hmem : (s.tm t).master = false ∨ (s.tm t).group = 0 ∨ ∀ m, m < 20 → masterOf s m = t → timerNeeded s m = false) :
    timerRuns s t = false := by
  have hneed : timerNeeded s t = false := by
    simp only [timerNeeded, hf, Bool.or_eq_false_iff, List.any_eq_false, routedTo, List.mem_filter, List.mem_range, beq_iff_eq, Bool.not_eq_true]
    refine ⟨fun n hn => hreq n hn.1 hn.2, fun u hu => ?_⟩
    obtain ⟨hd, ha⟩ := hdrive u hu
    simp [hd, ha]
  rw [← Bool.not_eq_true, timerRuns_iff]
  rintro (hn | ⟨hm, hg, m, hm20, hmt, hn⟩)
  · simp [hneed] at hn
  · rcases hmem with h | h | h
    · simp [h] at hm
    · exact hg h
    · simp [h m hm20 hmt] at hn

/-! ### On-times and the rows of 04 R94 -/

/-- Without a period of SYNC_IN, the counts of a period are the PER word's. -/
theorem periodOf_of_per {t : Nat} {s : State} (h : (s.tm (masterOf s t)).func ≠ 5 ∨ s.tbase.syncPer = 0) :
    periodOf s t = fld (s.tm (masterOf s t)).per 19 0 * 2 ^ fld (s.tm (masterOf s t)).per 22 20 := by
  rw [periodOf, if_neg (by rcases h with h | h <;> simp [h])]
  rfl

theorem perCounts_of_per {t : Nat} {s : State} (h : (s.tm (masterOf s t)).func ≠ 5 ∨ s.tbase.syncPer = 0) :
    perCounts s t = fld (s.tm (masterOf s t)).per 19 0 := by
  rw [perCounts, periodOf_of_per h]
  exact Nat.mul_div_cancel _ (Nat.two_pow_pos _)

theorem decide94_zero {s : State} {t : Nat} {ratio : Option Nat} (h : onTicks s t ratio = 0) : decide94 s t ratio = (.off, 0) := by
  simp [decide94, h]

theorem decide94_full {s : State} {t : Nat} {ratio : Option Nat} (h : onTicks s t ratio ≠ 0) (hf : fullRatio s t ratio = true) :
    decide94 s t ratio = (.hold, 0) := by
  simp [decide94, h, hf]

theorem decide94_short {s : State} {t : Nat} {ratio : Option Nat} (h : onTicks s t ratio ≠ 0) (hf : fullRatio s t ratio = false)
    (hs : onTicks s t ratio < 2 * fld (s.tm t).edge 7 0 + 16 + 4 * fld (s.tm t).edge 13 8) : decide94 s t ratio = (.off, 1) := by
  simp [decide94, h, hf, ← Nat.add_assoc, hs]

theorem decide94_long {s : State} {t : Nat} {ratio : Option Nat} (h : onTicks s t ratio ≠ 0) (hf : fullRatio s t ratio = false)
    (hs : 2 * fld (s.tm t).edge 7 0 + 16 + 4 * fld (s.tm t).edge 13 8 ≤ onTicks s t ratio) : decide94 s t ratio =
      if periodOf s t < onTicks s t ratio + 2 * fld (s.tm t).edge 7 0 + 16 + 4 * fld (s.tm t).edge 19 14 then (.hold, 2) else (.pulse, 0) := by
  simp [decide94, h, hf, ← Nat.add_assoc, Nat.not_lt.mpr hs]

/-! ### What a reading of the state, or of a timer, tells of -/

/-- A reading of the state that no timer gives. -/
def OffTimers {α : Type} (g : State → α) : Prop :=
  ∀ (s : State) (ts : List Timer), ts.length = s.timers.length → g { s with timers := ts } = g s

/-- A reading of a timer that its latch and the set in force do not give. -/
def OffLatch {α : Type} (g : Timer → α) : Prop :=
  ∀ (x : Timer) l r p d h, g { x with latch := l, loadReject := r, per := p, duty := d, phase := h } = g x

/-- A reading of a timer that its counters of skipped and held pulses do not give. -/
def OffSkips {α : Type} (g : Timer → α) : Prop := ∀ (x : Timer) h k, g { x with holds := h, skips := k } = g x

theorem onTm_keeps {α : Type} {g : State → α} (hg : OffTimers g) (s : State) (n : Nat) (f : Timer → Timer) : g (s.onTm n f) = g s :=
  hg s _ (onTm_length s n f)

theorem tm_onTm_keep {α : Type} {g : Timer → α} {f : Timer → Timer} (h : ∀ x, g (f x) = g x) (s : State) (n k : Nat) :
    g ((s.onTm n f).tm k) = g (s.tm k) := by
  simp only [State.onTm, State.tm, List.getD, List.getElem?_modify]
  split <;> cases s.timers[k]? <;> simp [h]

/-! ### Latches at a boundary (04 R101, R102) -/

theorem applyTimerLatch_none {t : Nat} {s : State} (h : (s.tm t).latch = none) : applyTimerLatch t s = s := by
  simp [applyTimerLatch, h]

theorem applyTimerLatch_keeps {α : Type} {g : State → α} (hg : OffTimers g) (t : Nat) (s : State) : g (applyTimerLatch t s) = g s := by
  unfold applyTimerLatch
  split
  · rfl
  · exact onTm_keeps hg ..

theorem applyTimerLatch_tm_keep {α : Type} {g : Timer → α} (hg : OffLatch g) (t k : Nat) (s : State) :
    g ((applyTimerLatch t s).tm k) = g (s.tm k) := by
  unfold applyTimerLatch
  split
  · rfl
  · refine tm_onTm_keep (fun x => ?_) s t k
    split
    · exact hg x none true x.per x.duty x.phase
    · exact hg x none x.loadReject _ _ _

theorem latchBad_ungrouped {t : Nat} {per duty phase : D28} {s : State} (hm : isMember s t = false) (hf : (s.tm t).func ≠ 2) :
    latchBad s t per duty phase = ((s.tm t).tick && decide (fld per 19 0 ≤ fld duty 23 4)) := by
  simp [latchBad, hm, hf]

theorem latchBad_member_iff {t : Nat} {per duty phase : D28} {s : State} (hm : isMember s t = true) (hf : (s.tm t).func ≠ 2) :
    latchBad s t per duty phase = true ↔ ((s.tm t).tick = true ∧ perCounts s t ≤ fld duty 23 4) ∨ perCounts s t ≤ fld phase 19 0 := by
  simp [latchBad, hm, hf]

/-- The timers that begin their period with t's, or t itself past its phase point: whose latches are applied (04 R101, R105). -/
def applyLatches (t : Nat) (near : BitVec 20) (fresh : Bool) (s : State) : State :=
  if isMember s t then (if fresh then applyLatch t s else s) else forEach (latchTimers s t near) applyLatch s

theorem applyLatch_keeps {α : Type} {g : State → α} (hg : OffTimers g) (hu : ∀ x : State, g x.offUnits = g x) (t : Nat) (s : State) :
    g (applyLatch t s) = g s :=
  (offUnits_keeps g hu (applyLatch_offUnits t s)).trans (applyTimerLatch_keeps hg t s)

theorem applyLatches_keeps {α : Type} {g : State → α} (hg : OffTimers g) (hu : ∀ x : State, g x.offUnits = g x) (t : Nat) (near : BitVec 20)
    (fresh : Bool) (s : State) : g (applyLatches t near fresh s) = g s := by
  unfold applyLatches
  split
  · split
    · exact applyLatch_keeps hg hu t s
    · rfl
  · exact forEach_keeps (applyLatch_keeps hg hu) _ s

theorem applyLatches_tm_keep {α : Type} {g : Timer → α} (hg : OffLatch g) (t k : Nat) (near : BitVec 20) (fresh : Bool) (s : State) :
    g ((applyLatches t near fresh s).tm k) = g (s.tm k) := by
  have hone (m : Nat) (x : State) : g ((applyLatch m x).tm k) = g (x.tm k) := by rw [applyLatch_tm, applyTimerLatch_tm_keep hg]
  unfold applyLatches
  split
  · split
    · exact hone t s
    · rfl
  · exact forEach_keeps (g := fun x => g (x.tm k)) hone _ s

/-! ### Counters of a period (04 R94, R115) -/

theorem countSkip_tm (t k : Nat) {s : State} (ht : t < s.timers.length) :
    ((countSkip t k s).tm t).skips = (if k = 1 then sat 0xFFFF ((s.tm t).skips + 1) else (s.tm t).skips) ∧
    ((countSkip t k s).tm t).holds = (if k = 2 then sat 0xFFF ((s.tm t).holds + 1) else (s.tm t).holds) := by
  unfold countSkip
  split
  · rw [tm_onTm _ _ _ ht]
    exact ⟨rfl, rfl⟩
  · rw [tm_onTm _ _ _ ht]
    exact ⟨rfl, rfl⟩
  · next h1 h2 => rw [if_neg h1, if_neg h2]; exact ⟨rfl, rfl⟩

theorem countSkips_pwm {t : Nat} {s : State} (h : (s.tm t).func = 1) : countSkips t s = countSkip t (decide94 s t none).2 s := by
  simp [countSkips, h]

theorem countSkip_keeps {α : Type} {g : State → α} (hg : OffTimers g) (t k : Nat) (s : State) : g (countSkip t k s) = g s := by
  unfold countSkip
  split
  · exact onTm_keeps hg ..
  · exact onTm_keeps hg ..
  · rfl

theorem countSkip_tm_keep {α : Type} {g : Timer → α} (hg : OffSkips g) (t k m : Nat) (s : State) : g ((countSkip t k s).tm m) = g (s.tm m) := by
  unfold countSkip
  split
  · exact tm_onTm_keep (fun x => hg x x.holds _) s t m
  · exact tm_onTm_keep (fun x => hg x _ x.skips) s t m
  · rfl

theorem countSkips_keeps {α : Type} {g : State → α} (hg : ∀ t k s, g (countSkip t k s) = g s) (t : Nat) (s : State) :
    g (countSkips t s) = g s := by
  unfold countSkips
  split
  · exact hg ..
  · exact forEach_keeps (fun u x => hg ..) _ s
  · rfl

/-! ### The parts of a period start -/

theorem startCount_tm {t : Nat} {s : State} (hm : isMember s t = false) (ht : t < s.timers.length) : (startCount t s).tm t =
    { s.tm t with dith := if (s.tm t).fresh then 0 else ((s.tm t).dith + 1) % 16, pos := 0, trigB := false } := by
  simp only [startCount, hm]
  rw [if_neg Bool.false_ne_true, tm_onTm _ _ _ (by simpa using ht)]
  simp [State.tm, List.getD, ht]

/-- A member takes its master's dither index and has its period begun (04 R105). -/
theorem startCount_tm_member {t : Nat} {s : State} (hm : isMember s t = true) (ht : t < s.timers.length) : (startCount t s).tm t =
    { s.tm t with dith := (s.tm (masterOf s t)).dith, pos := 0, begun := true, trigB := false } := by
  simp only [startCount, hm, if_true]
  rw [tm_onTm _ _ _ ht]

theorem startCount_tm_keep {α : Type} {g : Timer → α}
    (hg : ∀ (x : Timer) d p b e, g { x with dith := d, pos := p, begun := b, trigB := e } = g x) {t : Nat} {s : State}
    (ht : t < s.timers.length) : g ((startCount t s).tm t) = g (s.tm t) := by
  cases hm : isMember s t with
  | false => rw [startCount_tm hm ht]; exact hg (s.tm t) _ 0 (s.tm t).begun false
  | true => rw [startCount_tm_member hm ht]; exact hg (s.tm t) _ 0 true false

theorem startCount_keeps {α : Type} {g : State → α} (hg : OffTimers g) (t : Nat) (s : State) : g (startCount t s) = g s := by
  simp only [startCount]
  split
  · exact onTm_keeps hg ..
  · exact (onTm_keeps hg ..).trans (hg s _ (List.length_mapIdx ..))

theorem applySync_takes {t p : Nat} {s : State} (hp : s.tbase.syncNext = some p) (ht : syncTimer s = some t) :
    applySync t s = { s with tbase := { s.tbase with syncPer := p, syncNext := none, syncP := none } } := by
  simp [applySync, hp, ht]

/-- A period of SYNC_IN changes the timebase's account of it alone. -/
theorem applySync_keeps {α : Type} {g : State → α}
    (hg : ∀ (s : State) p n q, g { s with tbase := { s.tbase with syncPer := p, syncNext := n, syncP := q } } = g s) (t : Nat) (s : State) :
    g (applySync t s) = g s := by
  unfold applySync
  split
  · exact hg ..
  · rfl

/-- SYNC_OUT gives its pulse at the period starts of the timer that it names (04 R106, log 83). -/
def syncOutPulse (t : Nat) (s : State) : State :=
  if fld s.tbase.syncOut 4 0 == t then { s with tbase := { s.tbase with pulses := s.tbase.pulses + 1 } } else s

/-- The state at a period start before anything follows from it: the counts, the latches and SYNC_OUT. -/
def periodOpened (t : Nat) (near : BitVec 20) (s : State) : State :=
  syncOutPulse t ((applyLatches t near (s.tm t).fresh (applySync t (startCount t s))).onTm t fun x => { x with fresh := false })

/-- A TRIG timer's start emits trigger A (04 R110). -/
def triggerA (t : Nat) (s : State) : State := if (s.tm t).func == 3 then trigger t false s else s

/-- The units follow the period that has begun, and its skipped and held pulses are counted. -/
def unitsFollow (t : Nat) (ready : List Nat) (s : State) : State := countSkips t (forEach (leaders s) (unitPeriod t ready) s)

theorem beginPeriod_eq (t : Nat) (below : Mask12) (near : BitVec 20) (s : State) :
    ∃ ready, beginPeriod t below near s = unitsFollow t ready (triggerA t (periodOpened t near s)) := ⟨_, rfl⟩

/-! ### What each part leaves -/

theorem unitsFollow_keeps {α : Type} {g : State → α} (hg : OffTimers g) (hu : ∀ x : State, g x.offUnits = g x) (t : Nat) (ready : List Nat)
    (s : State) : g (unitsFollow t ready s) = g s :=
  (countSkips_keeps (countSkip_keeps hg) t _).trans (forEach_keeps (fun u x => offUnits_keeps g hu (unitPeriod_offUnits t ready u x)) _ s)

theorem unitsFollow_tm_keep {α : Type} {g : Timer → α} (hg : OffSkips g) (t k : Nat) (ready : List Nat) (s : State) :
    g ((unitsFollow t ready s).tm k) = g (s.tm k) :=
  (countSkips_keeps (g := fun x => g (x.tm k)) (fun m j x => countSkip_tm_keep hg m j k x) t _).trans
    (forEach_keeps (g := fun x => g (x.tm k)) (fun u x => offUnits_keeps (fun y => g (y.tm k)) (fun _ => rfl) (unitPeriod_offUnits t ready u x)) _ s)

theorem triggerA_keeps {α : Type} {g : State → α} (hg : ∀ (s : State) m, g { s with meas := m } = g s) (t : Nat) (s : State) :
    g (triggerA t s) = g s := by
  unfold triggerA
  split
  · rw [trigger_eq]
    refine forEach_keeps (fun m x => ?_) _ s
    unfold triggerSlot
    split
    · exact hg ..
    · rfl
  · rfl

theorem syncOutPulse_keeps {α : Type} {g : State → α} (hg : ∀ (s : State) b, g { s with tbase := b } = g s) (t : Nat) (s : State) :
    g (syncOutPulse t s) = g s := by
  unfold syncOutPulse
  split
  · exact hg ..
  · rfl

theorem periodOpened_keeps {α : Type} {g : State → α} (hg : OffTimers g) (hu : ∀ x : State, g x.offUnits = g x)
    (hb : ∀ (s : State) b, g { s with tbase := b } = g s) (t : Nat) (near : BitVec 20) (s : State) : g (periodOpened t near s) = g s :=
  calc g (periodOpened t near s)
      = g (applyLatches t near (s.tm t).fresh (applySync t (startCount t s))) := (syncOutPulse_keeps hb t _).trans (onTm_keeps hg ..)
    _ = g (applySync t (startCount t s)) := applyLatches_keeps hg hu ..
    _ = g (startCount t s) := applySync_keeps (fun x _ _ _ => hb x _) t _
    _ = g s := startCount_keeps hg t s

/-- Of timer t a period start leaves what `startCount` makes of it, no longer fresh, but for the set in force. -/
theorem periodOpened_tm_keep {α : Type} {g : Timer → α} (hg : OffLatch g) {t : Nat} (near : BitVec 20) {s : State} (ht : t < s.timers.length) :
    g ((periodOpened t near s).tm t) = g { (startCount t s).tm t with fresh := false } := by
  have hlen : t < (applyLatches t near (s.tm t).fresh (applySync t (startCount t s))).timers.length := by
    have hside : OffTimers fun x : State => x.timers.length := fun _ _ h => h
    rw [applyLatches_keeps hside (fun _ => rfl), applySync_keeps (g := fun x => x.timers.length) (fun _ _ _ _ => rfl), startCount_keeps hside]
    exact ht
  have hlatch : OffLatch fun x : Timer => g { x with fresh := false } := fun x l r p d h => hg { x with fresh := false } l r p d h
  rw [periodOpened, syncOutPulse_keeps (g := fun x => g (x.tm t)) (fun _ _ => rfl), tm_onTm _ _ _ hlen, applyLatches_tm_keep hlatch,
    applySync_keeps (g := fun x => x.tm t) (fun _ _ _ _ => rfl)]

theorem periodOpened_pulses (t : Nat) (near : BitVec 20) (s : State) :
    (periodOpened t near s).tbase.pulses = s.tbase.pulses + if fld s.tbase.syncOut 4 0 = t then 1 else 0 := by
  have hb : ((applyLatches t near (s.tm t).fresh (applySync t (startCount t s))).tbase.pulses,
      (applyLatches t near (s.tm t).fresh (applySync t (startCount t s))).tbase.syncOut) = (s.tbase.pulses, s.tbase.syncOut) := by
    have hside : OffTimers fun x : State => (x.tbase.pulses, x.tbase.syncOut) := fun _ _ _ => rfl
    exact (applyLatches_keeps hside (fun _ => rfl) ..).trans
      ((applySync_keeps (g := fun x => (x.tbase.pulses, x.tbase.syncOut)) (fun _ _ _ _ => rfl) t _).trans (startCount_keeps hside t s))
  obtain ⟨hp, ho⟩ := Prod.mk.inj hb
  simp only [periodOpened, syncOutPulse, onTm_keeps (g := State.tbase) fun _ _ _ => rfl, ho, beq_iff_eq]
  split
  · exact congrArg (· + 1) hp
  · exact hp

/-! ### The period start as a whole -/

theorem beginPeriod_tm_keep {α : Type} {g : Timer → α} (hl : OffLatch g) (hk : OffSkips g) {t : Nat} {s : State} (ht : t < s.timers.length)
    (below : Mask12) (near : BitVec 20) : g ((beginPeriod t below near s).tm t) = g { (startCount t s).tm t with fresh := false } := by
  obtain ⟨ready, h⟩ := beginPeriod_eq t below near s
  rw [h, unitsFollow_tm_keep hk, triggerA_keeps (g := fun x => g (x.tm t)) (fun _ _ => rfl), periodOpened_tm_keep hl near ht]

theorem beginPeriod_pulses (t : Nat) (below : Mask12) (near : BitVec 20) (s : State) :
    (beginPeriod t below near s).tbase.pulses = s.tbase.pulses + if fld s.tbase.syncOut 4 0 = t then 1 else 0 := by
  obtain ⟨ready, h⟩ := beginPeriod_eq t below near s
  rw [h, unitsFollow_keeps (g := State.tbase) (fun _ _ _ => rfl) fun _ => rfl, triggerA_keeps (g := State.tbase) fun _ _ => rfl, periodOpened_pulses]

/-- A TRIG timer's period start leaves trigger A pending in each slot that names it (04 R110, 05 R125). -/
theorem beginPeriod_triggers {t m : Nat} {below : Mask12} {near : BitVec 20} {s : State} (hf : (s.tm t).func = 3) (ht : t < s.timers.length)
    (hm : m < 8) (he : bitAt (s.meas.trig.getD m 0) 27 = true) (hn : fld (s.meas.trig.getD m 0) 26 22 = t)
    (hb : bitAt (s.meas.trig.getD m 0) 21 = false) (hl : m < s.meas.trigAt.length) :
    m ∈ (beginPeriod t below near s).meas.trigs ∧ (beginPeriod t below near s).meas.trigAt.getD m 0 = s.now := by
  obtain ⟨ready, h⟩ := beginPeriod_eq t below near s
  have hmeas : (periodOpened t near s).meas = s.meas := periodOpened_keeps (fun _ _ _ => rfl) (fun _ => rfl) (fun _ _ => rfl) t near s
  have hnow : (periodOpened t near s).now = s.now := periodOpened_keeps (fun _ _ _ => rfl) (fun _ => rfl) (fun _ _ => rfl) t near s
  have hfunc : ((periodOpened t near s).tm t).func = 3 := by
    rw [periodOpened_tm_keep (g := Timer.func) (fun _ _ _ _ _ _ => rfl) near ht, ← hf]
    exact startCount_tm_keep (g := Timer.func) (fun _ _ _ _ _ => rfl) ht
  have hA : triggerA t (periodOpened t near s) = trigger t false (periodOpened t near s) := if_pos (by simp [hfunc])
  rw [h, unitsFollow_keeps (g := State.meas) (fun _ _ _ => rfl) fun _ => rfl, hA]
  obtain ⟨-, hmem, hat⟩ := trigger_pending hm (hmeas.symm ▸ he) (hmeas.symm ▸ hn) (hmeas.symm ▸ hb) (hmeas.symm ▸ hl)
  exact ⟨hmem, hat.trans hnow⟩

/-! ### Starting and stopping (04 R98) -/

theorem settleTimer_stops {t : Nat} {s : State} (h : timerRuns s t = false) (ht : t < s.timers.length) :
    ((settleTimer t s).tm t).run = false ∧ ((s.tm t).run = true → ((settleTimer t s).tm t).pos = 0) := by
  cases hr : (s.tm t).run with
  | false => simp [settleTimer, h, hr]
  | true =>
    have heq : settleTimer t s = s.onTm t fun x => { x with run := false, fresh := false, pos := 0 } := by simp [settleTimer, h, hr]
    rw [heq, tm_onTm _ _ _ ht]
    exact ⟨rfl, fun _ => rfl⟩

theorem settleTimer_frozen {t : Nat} {s : State} (h : timerRuns s t = true) (hz : s.tbase.frozen = true) : settleTimer t s = s := by
  simp [settleTimer, h, hz]

/-- A timer that becomes needed runs, in its first period at once unless it is a member. -/
theorem settleTimer_runs {t : Nat} {s : State} (h : timerRuns s t = true) (hz : s.tbase.frozen = false) (ht : t < s.timers.length) :
    ((settleTimer t s).tm t).run = true := by
  cases hr : (s.tm t).run with
  | true => simp [settleTimer, h, hr]
  | false =>
    simp only [settleTimer, h, hr, hz, if_true, Bool.or_self, Bool.false_eq_true, if_false]
    split
    · rw [tm_onTm _ _ _ ht]
    · refine (beginPeriod_tm_keep (g := Timer.run) (fun _ _ _ _ _ _ => rfl) (fun _ _ _ => rfl) (by rwa [onTm_length]) _ _).trans ?_
      refine (startCount_tm_keep (g := Timer.run) (fun _ _ _ _ _ => rfl) (by rwa [onTm_length])).trans ?_
      rw [tm_onTm _ _ _ ht]

/-! ### A unit's period (04 R93 to R95) -/

/-- The lead channel in a period of timer t whose output is p. -/
def inPeriod (t : Nat) (p : Pulse) (c : Chan) : Chan := { c with drive := .timed t, cutPeriod := false, pulse := p }

/-- A turn-on that waited for its dead time does not come. -/
def dropHigh (c : Chan) : Chan := { c with dt := if c.dt == .toHigh then .none else c.dt }

/-- The high sides turn on one dead time from here. -/
def awaitHigh (c : Chan) : Chan := { c with dt := .toHigh }

/-- The freewheel stages of the legs go off before the high sides' dead time. -/
def fwOff (l : List Nat) (s : State) : State := forEach l (fun n x => x.onCh n fun c => { c with fw := .off }) s

/-- The unit as the output puts it, high sides that it ends off. -/
def driven (t : Nat) (p : Pulse) (u : Nat) (s : State) : State := (if p == .off && lit s u then gatesOff u s else s).onCh u (inPeriod t p)

theorem hs_of_not_lit {u m : Nat} {s : State} (h : lit s u = false) (hm : m ∈ legs s u) : (s.ch m).hs = 0 := by
  simp only [lit, Bool.or_eq_false_iff, List.any_eq_false, decide_eq_true_eq, ne_eq, Decidable.not_not] at h
  exact h.1 m hm

theorem lit_of_hs {u m : Nat} {s : State} (hm : m ∈ legs s u) (h : (s.ch m).hs ≠ 0) : lit s u = true := by
  by_contra hn
  exact h (hs_of_not_lit (Bool.not_eq_true _ ▸ hn) hm)

section
variable {t u : Nat} {p : Pulse} {s : State}

theorem timedPeriod_eq (hp : (decide94 s t (unitRatio s t (s.ch u))).1 = p) : timedPeriod t u s =
    if p == .off then (if lit s u then driven t p u s else offInterval u ((driven t p u s).onCh u dropHigh))
    else if ((driven t p u s).ch u).refreshDue then startRefresh u (driven t p u s)
    else if lit s u then driven t p u s
    else (fwOff (legs (driven t p u s) u) (returnUnit u (driven t p u s))).onCh u awaitHigh := by
  subst hp
  rfl

theorem driven_of_on (hne : p ≠ .off) : driven t p u s = s.onCh u (inPeriod t p) := by
  simp [driven, hne]

theorem refreshDue_inPeriod : ((s.onCh u (inPeriod t p)).ch u).refreshDue = (s.ch u).refreshDue :=
  ch_onCh_keep Chan.refreshDue s u u (inPeriod t p) fun _ => rfl

theorem timedPeriod_off_lit (hp : (decide94 s t (unitRatio s t (s.ch u))).1 = .off) (hl : lit s u = true) :
    timedPeriod t u s = (gatesOff u s).onCh u (inPeriod t .off) := by
  simp [timedPeriod_eq hp, driven, hl]

theorem timedPeriod_off_dark (hp : (decide94 s t (unitRatio s t (s.ch u))).1 = .off) (hl : lit s u = false) :
    timedPeriod t u s = offInterval u ((s.onCh u (inPeriod t .off)).onCh u dropHigh) := by
  simp [timedPeriod_eq hp, driven, hl]

/-- A refresh that is due takes the pulse's place (03 R81). -/
theorem timedPeriod_refresh (hp : (decide94 s t (unitRatio s t (s.ch u))).1 = p) (hne : p ≠ .off) (hd : (s.ch u).refreshDue = true) :
    timedPeriod t u s = startRefresh u (s.onCh u (inPeriod t p)) := by
  simp [timedPeriod_eq hp, driven_of_on hne, hne, refreshDue_inPeriod, hd]

/-- A unit whose high sides are on stays on (log 94). -/
theorem timedPeriod_lit (hp : (decide94 s t (unitRatio s t (s.ch u))).1 = p) (hne : p ≠ .off) (hd : (s.ch u).refreshDue = false)
    (hl : lit s u = true) : timedPeriod t u s = s.onCh u (inPeriod t p) := by
  simp [timedPeriod_eq hp, driven_of_on hne, hne, refreshDue_inPeriod, hd, hl]

theorem timedPeriod_dark (hp : (decide94 s t (unitRatio s t (s.ch u))).1 = p) (hne : p ≠ .off) (hd : (s.ch u).refreshDue = false)
    (hl : lit s u = false) :
    timedPeriod t u s = (fwOff (legs s u) (returnUnit u (s.onCh u (inPeriod t p)))).onCh u awaitHigh := by
  have hlegs : legs (s.onCh u (inPeriod t p)) u = legs s u := legs_onCh (f := inPeriod t p) (fun _ => rfl) s u u
  simp [timedPeriod_eq hp, driven_of_on hne, hne, refreshDue_inPeriod, hd, hl, hlegs]

end

theorem offInterval_keep {α : Type} (g : Chan → α) (hg : ∀ (c : Chan) f, g { c with fw := f } = g c) (u k : Nat) (s : State) :
    g ((offInterval u s).ch k) = g (s.ch k) := by
  unfold offInterval
  split
  · rfl
  · refine forEachCh_keep g (F := fun _ _ c => if c.fwOpt == 2 then { c with fw := driveFw c } else c) (fun _ _ c => ?_) _ s k
    split
    · exact hg ..
    · rfl

theorem timedPeriod_off {t u : Nat} {s : State} (hp : (decide94 s t (unitRatio s t (s.ch u))).1 = .off) (hu : u < s.chans.length) :
    ((timedPeriod t u s).ch u).pulse = .off ∧ ∀ m ∈ legs s u, ((timedPeriod t u s).ch m).hs = 0 := by
  cases hl : lit s u with
  | true =>
    rw [timedPeriod_off_lit hp hl]
    refine ⟨?_, fun m hm => (ch_onCh_keep Chan.hs _ u m (inPeriod t .off) fun _ => rfl).trans (gatesOff_hs hm)⟩
    rw [ch_onCh _ _ _ (by rwa [gatesOff_length])]
    rfl
  | false =>
    rw [timedPeriod_off_dark hp hl]
    constructor
    · refine (offInterval_keep Chan.pulse (fun _ _ => rfl) u u _).trans ((ch_onCh_keep Chan.pulse _ u u dropHigh fun _ => rfl).trans ?_)
      rw [ch_onCh _ _ _ hu]
      rfl
    · intro m hm
      refine (offInterval_keep Chan.hs (fun _ _ => rfl) u m _).trans ((ch_onCh_keep Chan.hs _ u m dropHigh fun _ => rfl).trans ?_)
      exact (ch_onCh_keep Chan.hs s u m (inPeriod t .off) fun _ => rfl).trans (hs_of_not_lit hl hm)

theorem timedPeriod_refreshes {t u : Nat} {s : State} (hp : (decide94 s t (unitRatio s t (s.ch u))).1 ≠ .off) (hd : (s.ch u).refreshDue = true)
    (hu : u < s.chans.length) : ((timedPeriod t u s).ch u).refreshing = true ∧ ∀ m ∈ legs s u, ((timedPeriod t u s).ch m).hs = 0 := by
  rw [timedPeriod_refresh rfl hp hd]
  obtain ⟨hr, -⟩ := startRefresh_lead (s := s.onCh u (inPeriod t (decide94 s t (unitRatio s t (s.ch u))).1)) (by rwa [onCh_length])
  exact ⟨hr, fun m hm => startRefresh_hs (by rwa [legs_onCh (f := inPeriod t _) fun _ => rfl])⟩

theorem timedPeriod_starts {t u : Nat} {s : State} (hp : (decide94 s t (unitRatio s t (s.ch u))).1 ≠ .off) (hd : (s.ch u).refreshDue = false)
    (hu : u < s.chans.length) (hl : lit s u = false) :
    ((timedPeriod t u s).ch u).dt = .toHigh ∧ ((timedPeriod t u s).ch u).pulse = (decide94 s t (unitRatio s t (s.ch u))).1 ∧
      ∀ m ∈ legs s u, ((timedPeriod t u s).ch m).fw = .off := by
  rw [timedPeriod_dark rfl hp hd hl]
  generalize (decide94 s t (unitRatio s t (s.ch u))).1 = p
  refine ⟨?_, ?_, fun m hm => ?_⟩
  · rw [ch_onCh]
    · rfl
    · rwa [fwOff, forEachCh_length (F := fun _ _ c => { c with fw := .off }), returnUnit_chans, onCh_length]
  · refine (ch_onCh_keep Chan.pulse _ u u awaitHigh fun _ => rfl).trans ?_
    refine (forEachCh_keep Chan.pulse (F := fun _ _ c => { c with fw := .off }) (fun _ _ _ => rfl) _ _ u).trans ?_
    rw [returnUnit_ch, ch_onCh _ _ _ hu]
    rfl
  · refine (ch_onCh_keep Chan.fw _ u m awaitHigh fun _ => rfl).trans ?_
    exact forEachCh_sets Chan.fw (F := fun c => { c with fw := .off }) (fun _ => rfl) rfl (legs_nodup s u) hm _

/-- Settles O10: the rules on needed timers, rows and sets by their equations, the period start by its parts and what each leaves, a unit's period by
its output, a refresh that is due, and whether its high sides are on. -/
theorem periodStartsApplyAndCount : Obligations.PeriodStartsApplyAndCount := by
  unfold Obligations.PeriodStartsApplyAndCount
  refine ⟨?noLatch, ?latch, ?ungrouped, ?near, ?start, ?member, ?sync, ?zero, ?full, ?short, ?long, ?skips, ?off, ?refresh, ?dark, ?held, ?drives,
    ?trig, ?pulses, ?master, ?settle, ?request, ?needed, ?runs, ?idle, ?memberBad, ?blank, ?sixteenths, ?ticks, ?dither, ?counts⟩
  case noLatch => exact fun t s h => applyTimerLatch_none h
  case latch =>
    intro t per duty phase s hl ht
    cases hb : latchBad s t per duty phase with
    | true =>
      rw [applyTimerLatch_refuses hl hb ht]
      exact ⟨rfl, fun _ => ⟨rfl, rfl, rfl, rfl⟩, fun h => absurd h (by decide)⟩
    | false =>
      rw [applyTimerLatch_takes hl hb ht]
      exact ⟨rfl, fun h => absurd h (by decide), fun _ => ⟨rfl, rfl, rfl⟩⟩
  case ungrouped => exact fun t per duty phase s hm hf => latchBad_ungrouped hm hf
  case near =>
    intro t near s
    simp [latchTimers, imp_iff_not_or]
  case start =>
    intro t below near s ht hm
    have h := beginPeriod_tm_keep (g := fun x => (x.pos, x.fresh, x.dith)) (fun _ _ _ _ _ _ => rfl) (fun _ _ _ => rfl) ht below near
    rw [startCount_tm hm ht] at h
    simpa using h
  case member =>
    intro t s hm ht
    rw [startCount_tm_member hm ht]
    exact ⟨rfl, rfl⟩
  case sync =>
    intro t p s hp ht
    rw [applySync_takes hp ht]
    exact ⟨rfl, rfl, rfl⟩
  case zero => exact fun s t ratio h => decide94_zero h
  case full => exact fun s t ratio h hf => decide94_full h hf
  case short => exact fun s t ratio h hf hs => decide94_short h hf hs
  case long => exact fun s t ratio hf hs h => decide94_long h hf hs
  case skips =>
    intro t s hf ht
    rw [countSkips_pwm hf]
    exact countSkip_tm t _ ht
  case off => exact fun t u s hp hu => timedPeriod_off hp hu
  case refresh => exact fun t u s hp hd hu => timedPeriod_refreshes hp hd hu
  case dark => exact fun t u s hp hd hu hl => timedPeriod_starts hp hd hu hl
  case held =>
    intro t u m s hp hd hm hh k
    rw [timedPeriod_lit rfl hp hd (lit_of_hs hm hh)]
    exact ch_onCh_keep Chan.hs s u k (inPeriod t _) fun _ => rfl
  case drives =>
    intro t u s hf hu hd
    have hn := (timerNeeded_pwm_iff hf).mpr (.inr ⟨u, hu, .inl hd⟩)
    exact ⟨hn, (timerRuns_iff t s).mpr (.inl hn)⟩
  case trig => exact fun t m below near s hf ht hm he hn hb hl => beginPeriod_triggers hf ht hm he hn hb hl
  case pulses => exact beginPeriod_pulses
  case master => exact fun t m s hm hg h20 hmt hn => (timerRuns_iff t s).mpr (.inr ⟨hm, hg, m, h20, hmt, hn⟩)
  case settle =>
    exact fun t s ht => ⟨fun h => settleTimer_stops h ht, fun h _ hz => settleTimer_frozen h hz, fun h hz => settleTimer_runs h hz ht⟩
  case request => exact fun t n s hf hn hr hq => (timerNeeded_pwm_iff hf).mpr (.inl ⟨n, hn, hr, hq⟩)
  case needed =>
    intro t s
    refine ⟨fun h => by simp [timerNeeded, h], fun h => ?_, timerNeeded_pwm_iff⟩
    unfold timerNeeded
    split
    · omega
    · omega
    · rfl
  case runs => exact timerRuns_iff
  case idle => exact fun t s hf ht hreq hdrive hmem => settleTimer_stops (timerRuns_idle hf hreq hdrive hmem) ht
  case memberBad => exact fun t per duty phase s hm hf => latchBad_member_iff hm hf
  case blank => exact fun t per duty phase s hf => latchBad_blank hf
  case sixteenths =>
    intro t r s
    exact ⟨rfl, fun h => by simp [onSixteenths, h], fun h => by simp [onSixteenths, h]⟩
  case ticks => exact fun t x s => rfl
  case dither => decide
  case counts => exact fun t s => ⟨rfl, fun h => ⟨periodOf_of_per h, perCounts_of_per h⟩⟩

end Sys2Proof.Machine

/-! Sample words as a path reads them: their age against their limit, their check, and the snapshot of their port (05 R133, R135, R136, 09 R271). -/

namespace Sys2Proof.Machine

/-! ### Freshness (05 R133, 09 R271) -/

theorem readSample_stale {h : Port} {limit : Nat} {w : Sample} {s : State} (ha : w.tc + limit < s.now) :
    readSample s (.host h) limit (some w) = .void sStale := by
  simp [readSample, ha]

/-- A word that no path judges stale is delivered with the check with which it arrived. -/
theorem readSample_delivers {p : Path} {limit : Nat} {w : Sample} {s : State} (ha : p = .dbg ∨ s.now ≤ w.tc + limit) :
    readSample s p limit (some w) = if w.diff = 0 then .data (sampleData w) else .corrupt (sampleData w) w.diff := by
  have hfresh : ¬((decide (p ≠ .dbg) && decide (w.tc + limit < s.now)) = true) := by
    rcases ha with rfl | hle
    · simp
    · simp [Nat.not_lt.mpr hle]
  exact if_neg hfresh

theorem readSample_intact {p : Path} {limit : Nat} {w : Sample} {s : State} (ha : p = .dbg ∨ s.now ≤ w.tc + limit) (hd : w.diff = 0) :
    readSample s p limit (some w) = .data (sampleData w) := (readSample_delivers ha).trans (if_pos hd)

theorem readSample_corrupt {p : Path} {limit : Nat} {w : Sample} {s : State} (ha : p = .dbg ∨ s.now ≤ w.tc + limit) (hd : w.diff ≠ 0) :
    readSample s p limit (some w) = .corrupt (sampleData w) w.diff := (readSample_delivers ha).trans (if_neg hd)

/-! ### A word with a wrong check (05 R135) -/

/-- CHK and DATA of a word put together from them. -/
theorem wChk_ofNat {c : Nat} (d : D28) (hc : c < 2 ^ 8) : wChk (BitVec.ofNat 36 (c * 2 ^ 28 + d.toNat)) = c := by
  have hd := d.isLt
  simp only [wChk, BitVec.toNat_ofNat]
  omega

theorem wData_ofNat (c : Nat) (d : D28) : wData (BitVec.ofNat 36 (c * 2 ^ 28 + d.toNat)) = d := by
  have hd := d.isLt
  apply BitVec.eq_of_toNat_eq
  simp only [wData, d28, BitVec.toNat_ofNat]
  omega

theorem isData_corrupt {a : Nat} {d : D28} {x : BitVec 8} (hx : x ≠ 0) : isData a (asWord a (.corrupt d x)) = false := by
  have hlt : chk a d ^^^ x.toNat < 2 ^ 8 := Nat.xor_lt_two_pow (chk_lt _ _) x.isLt
  have hne : chk a d ^^^ x.toNat ≠ chk a d := fun h => hx (BitVec.eq_of_toNat_eq (by simpa using h))
  simp only [isData, asWord, wChk_ofNat d hlt, wData_ofNat]
  simpa using hne

/-! ### The sample words of the map, and the words that a path reads there (14 R374, 05 R136) -/

theorem wordAt_rushes {i : Nat} (p : Path) (s : State) (hi : i < 100) :
    wordAt s p (0x600 + i) = some (readSample s p (freshLimit s (rushKind i)) ((sampleWords s p false).getD i none)) := by
  have hat : 0x600 + i - 0x600 = i := by omega
  unfold wordAt
  repeat rw [if_neg (by omega)]
  rw [if_pos (by omega), hat]

theorem wordAt_seg {i : Nat} (p : Path) (s : State) (hi : i < 504) :
    wordAt s p (0x400 + i) = some (readSample s p (freshLimit s 5) ((sampleWords s p true).getD i none)) := by
  have hat : 0x400 + i - 0x400 = i := by omega
  unfold wordAt
  repeat rw [if_neg (by omega)]
  rw [if_pos (by omega), hat]

/-- Settles O51: a word is judged by its age alone, then by its check; its place names its limit and its buffer. -/
theorem freshnessOfSampleWords : Obligations.FreshnessOfSampleWords := by
  unfold Obligations.FreshnessOfSampleWords
  refine ⟨fun h limit w s => ⟨readSample_stale, fun ha => readSample_intact (.inr ha)⟩, fun limit w s => readSample_intact (.inl rfl),
    fun p limit s => rfl, ?snapped, ?live, ?segment, fun s => ⟨rfl, rfl⟩, fun p limit w s hd ha => readSample_corrupt ha hd,
    fun a w => isData_corrupt⟩
  case snapped =>
    intro h i x s hx hseg hi
    simp only [wordAt_rushes _ s hi, sampleWords, hx, hseg, beq_self_eq_true, if_true]
  case live =>
    intro h i s hx hi
    simp only [wordAt_rushes _ s hi, sampleWords, hx, Bool.false_eq_true, if_false]
  case segment =>
    intro h i s hx hi
    simp only [wordAt_seg _ s hi, sampleWords, hx, if_true]

end Sys2Proof.Machine

/-! What a conversion's value and word come to: rounding, the converter's range, and the place of a word in RUSHES (05 R116, R117). -/

namespace Sys2Proof.Machine

/-! ### Rounding (05 R116) -/

theorem nearest_eq (q : Rat) (s : State) : ∃ (v : Int) (k : Nat), nearest q s = (v, { s with free := k }) ∧ |(v : Rat) - q| ≤ 1 / 2 := by
  have hle : (q.floor : Rat) ≤ q := Int.floor_le q
  have hlt : q < q.floor + 1 := Int.lt_floor_add_one q
  unfold nearest
  dsimp only
  split_ifs with hdown hup htie
  all_goals
    refine ⟨_, _, rfl, ?_⟩
    rw [abs_le]
    push_cast
    constructor <;> linarith

/-- A whole number is its own nearest. -/
@[simp] theorem nearest_int (v : Int) (s : State) : nearest (v : Rat) s = (v, s) := by
  simp [nearest]

/-- Within its range a conversion gives the nearest code; beyond either end it gives the end, saturated. -/
theorem clampTo_eq {lo hi : Int} (hr : lo ≤ hi) (q : Rat) (s : State) : ∃ v o k, clampTo lo hi q s = (v, o, { s with free := k }) ∧
    (lo ≤ q → q ≤ hi → |(v : Rat) - q| ≤ 1 / 2 ∧ o = false) ∧ (q < lo → v = lo ∧ o = true) ∧ (hi < q → v = hi ∧ o = true) := by
  have hr' : (lo : Rat) ≤ hi := by exact_mod_cast hr
  unfold clampTo
  split_ifs with hlo hhi
  · exact ⟨lo, true, s.free, rfl, fun h => absurd hlo (not_lt.mpr h), fun _ => ⟨rfl, rfl⟩, fun h => absurd (hlo.trans_le hr') (not_lt.mpr h.le)⟩
  · exact ⟨hi, true, s.free, rfl, fun _ h => absurd hhi (not_lt.mpr h), fun h => absurd h hlo, fun _ => ⟨rfl, rfl⟩⟩
  · obtain ⟨v, k, hv, hnear⟩ := nearest_eq q s
    exact ⟨v, false, k, by rw [hv], fun _ _ => ⟨hnear, rfl⟩, fun h => absurd h hlo, fun h => absurd h hhi⟩

/-- A whole number within the range is its own code. -/
theorem clampTo_int {lo hi v : Int} (s : State) (hlo : lo ≤ v) (hhi : v ≤ hi) : clampTo lo hi (v : Rat) s = (v, false, s) := by
  have hlo' : ¬((v : Rat) < lo) := by exact_mod_cast not_lt.mpr hlo
  have hhi' : ¬((hi : Rat) < v) := by exact_mod_cast not_lt.mpr hhi
  simp [clampTo, hlo', hhi']

theorem qualOf_ne_saturated (bad : Bool) : qualOf false bad ≠ 1 := by cases bad <;> decide

/-! ### Words of RUSHES -/

@[simp] theorem putRushes_rushes (i : Nat) (w : SampleOpt) (s : State) : (putRushes i w s).meas.rushes = s.meas.rushes.set i w := rfl

@[simp] theorem putRushes_chans (i : Nat) (w : SampleOpt) (s : State) : (putRushes i w s).chans = s.chans := rfl

@[simp] theorem putRushes_ch (i k : Nat) (w : SampleOpt) (s : State) : (putRushes i w s).ch k = s.ch k := rfl

theorem getD_set_same {α : Type} {l : List α} {i : Nat} {a d : α} (h : i < l.length) : (l.set i a).getD i d = a := by
  simp [List.getD, h]

theorem getD_set_other {α : Type} {l : List α} {i j : Nat} {a d : α} (h : i ≠ j) : (l.set i a).getD j d = l.getD j d := by
  simp [List.getD, h]

theorem settle_rushes (s : State) : (settle s).meas.rushes = s.meas.rushes := still_keeps (·.meas.rushes) (fun _ => rfl) (still_settle s)

end Sys2Proof.Machine

/-! The primary path: an IPRI word, the 16 latest and their mean, and the mean square's sample in place of a word that fails its check (05 R118, R119, R134, 06 R144). -/

namespace Sys2Proof.Machine

/-! ### IMEAN (05 R119) -/

/-- The sum of a channel's latest values. -/
def ipriSum (ps : List (Int × BitVec 2)) : Int := (ps.map Prod.fst).foldl (· + ·) 0

/-- With 16 values IMEAN takes the code nearest to their mean; with fewer it stays as it is. -/
theorem imean_cases (n : Nat) (s : State) : (s.ch n).ipris.length < 16 ∧ imean n s = s ∨ 16 ≤ (s.ch n).ipris.length ∧
    ∃ (m : Int) (q : BitVec 2) (k : Nat), |(m : Rat) - (ipriSum (s.ch n).ipris : Rat) / 16| ≤ 1 / 2 ∧
      imean n s = putRushes (8 * n + 4) (some ⟨BitVec.ofInt 16 m, q, s.now, 0⟩) { s with free := k } := by
  by_cases h : (s.ch n).ipris.length < 16
  · exact .inl ⟨h, if_pos h⟩
  · obtain ⟨m, k, hm, hnear⟩ := nearest_eq ((ipriSum (s.ch n).ipris : Rat) / 16) s
    refine .inr ⟨not_lt.mp h, m, qualOf ((s.ch n).ipris.any fun p => p.2 == 1) ((s.ch n).suspect || (s.ch n).ipris.any fun p => p.2 == 2), k, hnear, ?_⟩
    rw [imean, if_neg h, ← ipriSum, hm]
    rfl

theorem imean_chans (n : Nat) (s : State) : (imean n s).chans = s.chans := by
  obtain ⟨-, h⟩ | ⟨-, m, q, k, -, h⟩ := imean_cases n s
  · rw [h]
  · rw [h]; rfl

theorem imean_rushes_other {n i : Nat} (s : State) (hi : i ≠ 8 * n + 4) : (imean n s).meas.rushes.getD i none = s.meas.rushes.getD i none := by
  obtain ⟨-, h⟩ | ⟨-, m, q, k, -, h⟩ := imean_cases n s
  · rw [h]
  · rw [h]; exact getD_set_other hi.symm

/-! ### An IPRI word (05 R118, R134) -/

/-- An intact word is the newest of the channel's 16, of its mean square, and of a re-zero's samples. -/
def takeIpri (v : Int) (q : BitVec 2) (c : Chan) : Chan := rezeroSample v (noteSquare v { c with ipris := ((v, q) :: c.ipris).take 16 })

@[simp] theorem takeIpri_ipris (v : Int) (q : BitVec 2) (c : Chan) : (takeIpri v q c).ipris = ((v, q) :: c.ipris).take 16 := by
  unfold takeIpri rezeroSample
  split
  · split <;> rfl
  · rfl

/-- The state with a channel's word of IPRI, as it arrived. -/
def ipriArrived (n : Nat) (v : Int) (q : BitVec 2) (diff : BitVec 8) (s : State) : State := putRushes (8 * n) (arrived s v q diff) s

theorem ipriConversion_arrives {n : Fin 12} {raw : Int} {s : State} (diff : BitVec 8) (hs : sensing s = true) (hu : underTest s n = false) :
    ∃ v o q k, clampTo (-30000) 30000 ((calibrated s 0 1 n raw + (s.ch n).trim) / 10) s = (v, o, { s with free := k }) ∧ (o = true → q = 1) ∧ (o = false → q ≠ 1) ∧
      exec (.ipriConversion n raw diff) s = done (if diff ≠ 0 then lostIpri n (ipriArrived n v q diff { s with free := k })
        else imean n ((ipriArrived n v q diff { s with free := k }).onCh n (takeIpri v q))) := by
  obtain ⟨v, o, k, hc, -⟩ := clampTo_eq (lo := -30000) (hi := 30000) (by decide) ((calibrated s 0 1 n raw + (s.ch n).trim) / 10) s
  refine ⟨v, o, qualOf o ((s.ch n).suspect || (!(calWord s 0 n).valid || !(calWord s 1 n).valid)), k, hc, ?_, ?_, ?_⟩
  · rintro rfl; rfl
  · rintro rfl; exact qualOf_ne_saturated _
  · have hin : ¬((!sensing s || underTest s n) = true) := by simp [hs, hu]
    exact (congrArg done (if_neg hin)).trans (by rw [hc]; rfl)

theorem lostIpri_ch {n : Nat} {s : State} (h : n < s.chans.length) : (lostIpri n s).ch n = match latestIsec s n with
    | some v => noteSquare v (s.ch n)
    | none => s.ch n := by
  unfold lostIpri
  cases latestIsec s n with
  | none => rfl
  | some v => exact ch_onCh s n _ h

theorem lostIpri_meas (n : Nat) (s : State) : (lostIpri n s).meas = s.meas := by
  unfold lostIpri
  split <;> rfl

/-- Settles O14: the code by the converter's range, the 16 latest by the word that joins them, IMEAN by their number. -/
theorem currentConversion : Obligations.CurrentConversion := by
  unfold Obligations.CurrentConversion
  refine ⟨?intact, ?corrupted⟩
  case intact =>
    intro n raw s x hs hu hn hl hx
    obtain ⟨v, o, q, k, hc, hsat, hok, hexec⟩ := ipriConversion_arrives (raw := raw) 0 hs hu
    obtain ⟨v', o', k', hc', hin, hlow, hhigh⟩ := clampTo_eq (lo := -30000) (hi := 30000) (by decide) x s
    obtain ⟨rfl, rfl⟩ : v = v' ∧ o = o' := by
      rw [← hx, hc'] at hc
      exact ⟨(Prod.mk.inj hc).1.symm, (Prod.mk.inj (Prod.mk.inj hc).2).1.symm⟩
    rw [if_neg (not_not.mpr rfl)] at hexec
    generalize hy : (ipriArrived n v q 0 { s with free := k }).onCh n (takeIpri v q) = y at hexec
    have hch : y.ch n = takeIpri v q (s.ch n) := hy ▸ ch_onCh _ _ _ hn
    have hru : y.meas.rushes = s.meas.rushes.set (8 * n) (some ⟨BitVec.ofInt 16 v, q, s.now, 0⟩) := hy ▸ rfl
    have hnow : y.now = s.now := hy ▸ rfl
    have hipris : (y.ch n).ipris = ((v, q) :: (s.ch n).ipris).take 16 := by rw [hch, takeIpri_ipris]
    refine ⟨v, q, _, hexec, fun h1 h2 => ?_, fun h => ?_, fun h => ?_, ?_, ?_, fun i hi hi' => ?_, fun h15 => ?_⟩
    · obtain ⟨hv, ho⟩ := hin (by exact_mod_cast h1) (by exact_mod_cast h2)
      exact ⟨hv, hok ho⟩
    · obtain ⟨hv, ho⟩ := hlow (by exact_mod_cast h)
      exact ⟨hv, hsat ho⟩
    · obtain ⟨hv, ho⟩ := hhigh (by exact_mod_cast h)
      exact ⟨hv, hsat ho⟩
    · rw [settle_rushes, imean_rushes_other y (by omega), hru, getD_set_same (by omega)]
    · rw [ch_keeps Chan.ipris (fun _ => rfl) (still_settle _), State.ch, imean_chans]
      exact hipris
    · rw [settle_rushes, imean_rushes_other y hi', hru, getD_set_other (Ne.symm hi)]
    · obtain ⟨h16, -⟩ | ⟨-, m, q', k', hm, himean⟩ := imean_cases n y
      · rw [hipris, List.length_take, List.length_cons] at h16
        omega
      · refine ⟨m, q', ?_, by rwa [hipris] at hm⟩
        rw [settle_rushes, himean, putRushes_rushes, getD_set_same (by rw [hru, List.length_set]; omega), hnow]
  case corrupted =>
    intro n raw diff s hs hu hn hd
    obtain ⟨v, o, q, k, -, -, -, hexec⟩ := ipriConversion_arrives (raw := raw) diff hs hu
    rw [if_pos hd] at hexec
    have hisec : latestIsec (ipriArrived n v q diff { s with free := k }) n = latestIsec s n := by
      rw [latestIsec, ipriArrived, putRushes_rushes, getD_set_other (by omega)]
      rfl
    have hch := lostIpri_ch (s := ipriArrived n v q diff { s with free := k }) hn
    rw [hisec] at hch
    refine ⟨⟨BitVec.ofInt 16 v, q, s.now, diff⟩, _, hexec, rfl, rfl, ?_, ?_, ?_⟩
    · rw [settle_rushes, lostIpri_meas]
      rfl
    · rw [ch_keeps Chan.ipris (fun _ => rfl) (still_settle _), hch]
      cases latestIsec s n <;> rfl
    · rw [ch_keeps Chan.squares (fun _ => rfl) (still_settle _), hch]
      cases latestIsec s n <;> rfl

end Sys2Proof.Machine

/-! The measurement registers, the re-zero of the primary path, snapshots and the sweep's counters (05 R124, R128, R129, R136 to R138, 13 R344). -/

namespace Sys2Proof.Machine

/-! ### Rows of MEAS (14 R365) -/

theorem baseInfo_meas {s : State} {o k : Nat} (ho : o < 0x40) (hk : k = 0x3C0 + o) : baseInfo s k = measInfo o := by
  unfold baseInfo
  repeat rw [if_neg (by omega)]
  rw [if_pos (by omega), show k - 0x3C0 = o by omega]

/-- CORE owns the measurement registers (13 R344). -/
theorem effect_meas {a : Access} {o k : Nat} {d : D28} {s : State} (ho : o < 0x40) (hk : k = 0x3C0 + o) :
    effect a k d s = measWrite a o d s := by
  rw [effect_own (domainStopped_core (by omega))]
  unfold ownEffect
  repeat rw [if_neg (by omega)]
  rw [if_pos (by omega), show k - 0x3C0 = o by omega]

/-- A word stored in MEAS that its register takes. -/
theorem measStore_done {i : Instr} {a : Access} {o k : Nat} {d : D28} {s x : State} {r : RegInfo} (hm : MayStore s a k) (ho : o < 0x40)
    (hk : k = 0x3C0 + o) (hi : measInfo o = some r) (hr : resv r.2 d = false) (hd : hasDirect r.1 = true)
    (he : measWrite a o d s = (sOk, x)) (hx : exec i s = done (writeRow a k d s)) : exec i s = done { x with status := sOk } := by
  have hb : baseInfo s k = some r := (baseInfo_meas ho hk).trans hi
  have hres : resv (reservedAt s k) d = false := by rw [reservedAt, hb]; exact hr
  rw [hx, writeRow_stores hm (by rw [hb]; rfl) hres hd ((effect_meas ho hk).trans he)]

/-- A pair committed to MEAS: its register's answer, and its record. -/
theorem measCommit_done {i : Instr} {h : Port} {o k : Nat} {d : D28} {s x : State} {st : BitVec 8} {r : RegInfo} (hm : MayCommit s h k)
    (ho : o < 0x40) (hk : k = 0x3C0 + o) (hi : measInfo o = some r) (hr : resv r.2 d = false) (ha : hasA r.1 = true)
    (he : measWrite (.commit h) o d s = (st, x)) (hx : exec i s = done (writeRow (.commit h) k d s)) :
    exec i s = done { noteLast h 3 k st x with status := st } :=
  commit_gives hm ((baseInfo_meas ho hk).trans hi) hr ha ((effect_meas ho hk).trans he) hx

/-! ### MEAS_ZERO and its phases (05 R128) -/

/-- The named channels wait. -/
def startWaits (d : D28) (now : Nat) (s : State) : State :=
  forEach ((List.range 12).filter (bitAt d)) (fun n s => s.onCh n fun c => { c with rezero := .wait now }) s

theorem still_startWaits {s t : State} (d : D28) (now : Nat) (h : t.still = s.still) : (startWaits d now t).still = (startWaits d now s).still := by
  unfold startWaits
  induction (List.range 12).filter (bitAt d) generalizing s t with
  | nil => exact h
  | cons n l ih => exact ih (still_onCh_comm (g := fun c => { c with rezero := .wait now }) (fun _ => rfl) n h)

/-- No time passes while the channels are named. -/
theorem startWaits_eq (d : D28) (s : State) :
    forEach ((List.range 12).filter (bitAt d)) (fun n s => s.onCh n fun c => { c with rezero := .wait s.now }) s = startWaits d s.now s := by
  have hrun : ∀ (l : List Nat) (t : State), t.now = s.now → forEach l (fun n s => s.onCh n fun c => { c with rezero := .wait s.now }) t =
      forEach l (fun n t => t.onCh n fun c => { c with rezero := .wait s.now }) t := fun l => by
    induction l with
    | nil => exact fun _ _ => rfl
    | cons n l ih =>
      intro t ht
      rw [forEach_cons, forEach_cons, ht]
      exact ih _ ht
  exact hrun _ s rfl

theorem writeZero_still (d : D28) (s : State) : (writeZero d s).still = (startWaits d s.now s).still := by
  rw [writeZero, startWaits_eq, still_keeps State.now (fun _ => rfl) (still_bistPreempt _ s)]
  exact still_startWaits d s.now (still_bistPreempt _ s)

/-- The end of the wait, on a channel. -/
def zeroWaitEnd (s : State) (c : Chan) : Chan :=
  match c.rezero, c.offAt with
  | .wait _, some o => if c.hs == 0 && c.fw == .off && s.since o 1000 && !s.clk.coreStop then { c with rezero := .average 0 0 false } else c
  | _, _ => c

theorem zeroWaitMet_eq (n : Fin 12) (s : State) : exec (.zeroWaitMet n) s = done (s.onCh n (zeroWaitEnd s)) := rfl

theorem zeroWaitMet_starts {n : Fin 12} {t0 o : Nat} {s : State} (hr : (s.ch n).rezero = .wait t0) (ho : (s.ch n).offAt = some o) (hh : (s.ch n).hs = 0)
    (hf : (s.ch n).fw = .off) (ht : s.since o 1000 = true) (hc : s.clk.coreStop = false) :
    Gives (.zeroWaitMet n) s (s.onCh n fun c => { c with rezero := .average 0 0 false }) := by
  refine gives_of_eq (zeroWaitMet_eq n s) (onCh_congr ?_)
  unfold zeroWaitEnd
  simp [hr, ho, hh, hf, ht, hc]

/-- The wait goes on while a gate is on, or with CORE stopped. -/
theorem zeroWaitMet_rests {n : Fin 12} {s : State} (h : ((s.ch n).hs ≠ 0 ∨ (s.ch n).fw ≠ .off) ∨ s.clk.coreStop = true) :
    Gives (.zeroWaitMet n) s s := by
  have hoff : ∀ o, ((s.ch n).hs == 0 && (s.ch n).fw == .off && s.since o 1000 && !s.clk.coreStop) = false := fun o => by
    simp only [Bool.and_eq_false_iff, beq_eq_false_iff_ne, Bool.not_eq_false']
    tauto
  refine gives_of_eq (zeroWaitMet_eq n s) (onCh_id ?_)
  unfold zeroWaitEnd
  simp only [hoff, Bool.false_eq_true, if_false]
  split <;> rfl

theorem zeroTimeout_fails {n : Fin 12} {t0 : Nat} {s : State} (hr : (s.ch n).rezero = .wait t0) (ht : s.since t0 100000 = true)
    (hc : s.clk.coreStop = false) : Gives (.zeroTimeout n) s (s.onCh n fun c => { c with rezero := .idle, zfail := true }) := by
  refine gives_of_eq rfl ?_
  simp [hr, ht, hc]

theorem zeroTimeout_rests {n : Fin 12} {s : State} (h : s.clk.coreStop = true) : Gives (.zeroTimeout n) s s := by
  refine gives_of_eq rfl ?_
  split <;> simp [h]

theorem zeroDone_fails {n : Fin 12} {sum : Int} {cond : Bool} {s : State} (hr : (s.ch n).rezero = .average 64 sum cond)
    (hf : cond = true ∨ 500 * 64 < (10 * sum).natAbs) (hc : s.clk.coreStop = false) :
    Gives (.zeroDone n) s (s.onCh n fun c => { c with rezero := .idle, zfail := true }) := by
  refine gives_of_eq rfl ?_
  simp only [hr, hc]
  rw [if_neg (by simp), if_pos (by simpa using hf)]

theorem zeroDone_trims {n : Fin 12} {sum : Int} {s : State} (hr : (s.ch n).rezero = .average 64 sum false)
    (hf : (10 * sum).natAbs ≤ 500 * 64) (hc : s.clk.coreStop = false) :
    ∃ (m : Int) (k : Nat), |(m : Rat) - (-10 * sum : Int) / 64| ≤ 1 / 2 ∧
      Gives (.zeroDone n) s (({ s with free := k } : State).onCh n fun c => { c with rezero := .idle, trim := m }) := by
  obtain ⟨m, k, hm, hnear⟩ := nearest_eq ((-10 * sum : Int) / 64 : Rat) s
  refine ⟨m, k, hnear, gives_of_eq rfl ?_⟩
  simp only [hr, hc]
  rw [if_neg (by simp), if_neg (by simpa using hf), hm]

theorem zeroDone_rests {n : Fin 12} {s : State} (h : s.clk.coreStop = true) : Gives (.zeroDone n) s s := by
  refine gives_of_eq rfl ?_
  split <;> simp [h]

theorem Rezero.eq_idle_of_still {r : Rezero} (h : r.still = .idle) : r = .idle := by
  cases r with
  | idle => rfl
  | wait t => cases h
  | average k sum cond => cases h

/-! ### Notes on gates (05 R128) -/

theorem ch_onChans {n : Nat} {s : State} (f : Chan → Chan) (h : n < s.chans.length) : (s.onChans f).ch n = f (s.ch n) := by
  simp [State.onChans, State.ch, List.getD, h]

theorem noteGates_offAt {n : Nat} {s : State} (h : n < s.chans.length) : ((noteGates s).ch n).offAt =
    if (s.ch n).hs = 0 ∧ (s.ch n).fw = .off then some ((s.ch n).offAt.getD s.now) else none := by
  rw [noteGates, ch_onChans _ h]
  simp [offSince]

/-! ### MEAS_CALSEL (05 R129) -/

theorem resv_calsel {d : D28} (h1 : fld d 27 16 = 0) (h2 : fld d 11 10 = 0) : resv 0xFFF0C00 d = false := by
  refine resv_eq_false fun i hi hb => ?_
  have hbits : 16 ≤ i ∨ 10 ≤ i ∧ i ≤ 11 := by
    have hall : ∀ i < 28, Nat.testBit 0xFFF0C00 i = true → 16 ≤ i ∨ 10 ≤ i ∧ i ≤ 11 := by decide
    exact hall i hi hb
  rcases hbits with h16 | ⟨hlo, hhi⟩
  · exact bitAt_of_fld h1 h16 (by omega)
  · exact bitAt_of_fld h2 hlo hhi

theorem writeCalsel_format {d : D28} {s : State} (h : calCount (fld d 15 12) ≤ fld d 9 0) : writeCalsel d s = (sFormat, s) := by
  simp [writeCalsel, h]

theorem writeCalsel_word {d : D28} {s : State} (hk : fld d 15 12 < 12) (h : fld d 9 0 < calCount (fld d 15 12)) :
    writeCalsel d s = (sOk, { s with meas := { s.meas with
      calKind := fld d 15 12, calIndex := fld d 9 0, calVal := (calWord s (fld d 15 12) (fld d 9 0)).value,
      calValid := (calWord s (fld d 15 12) (fld d 9 0)).valid } }) := by
  have h12 : fld d 15 12 ≠ 12 := by omega
  simp [writeCalsel, not_le.mpr h, h12]

theorem writeCalsel_trim {d : D28} {s : State} (hk : fld d 15 12 = 12) (h : fld d 9 0 < 12) :
    writeCalsel d s = (sOk, { s with meas := { s.meas with
      calKind := 12, calIndex := fld d 9 0, calVal := (s.ch (fld d 9 0)).trim, calValid := false } }) := by
  simp [writeCalsel, hk, not_le.mpr h, calCount]

/-! ### Freshness limits and snapshots (05 R136 to R138) -/

theorem measWrite_fresh {a : Access} (k : Fin 8) (d : D28) (s : State) : measWrite a (4 + k) d s = writeFresh k d s := by
  have hk := k.isLt
  unfold measWrite
  rw [if_neg (by omega), if_pos (by simp; omega), Nat.add_sub_cancel_left]

theorem measInfo_fresh (k : Fin 8) : measInfo (4 + k) = some ([.a], 0xFFFFE00) := by
  revert k
  decide

/-- A snapshot takes the buffers from MARCH, and the words of its group. -/
theorem writeMeasCtl_still (h : Port) (seg : Bool) (s : State) : (writeMeasCtl h (if seg then 0x0000005 else 0x0000001) s).still =
    (setSnap h (some ⟨seg, s.now, if seg then s.meas.seg else s.meas.rushes⟩) s).still := by
  have hb := still_bistPreempt (fun r => r.test == 31) s
  have hnow := still_keeps State.now (fun _ => rfl) hb
  have hru := still_keeps (·.meas.rushes) (fun _ => rfl) hb
  have hseg := still_keeps (·.meas.seg) (fun _ => rfl) hb
  have hset : ∀ x t, t.still = s.still → (setSnap h x t).still = (setSnap h x s).still := fun x t ht => by
    have hsplit : ∀ t : State, (setSnap h x t).still = { t.still with meas := { t.still.meas with snaps := t.still.meas.snaps.set h x } } := fun _ => rfl
    rw [hsplit, hsplit, ht]
  cases seg with
  | false =>
    have hw : writeMeasCtl h 0x0000001 s = setSnap h (some ⟨false, (bistPreempt (fun r => r.test == 31) s).now,
      (bistPreempt (fun r => r.test == 31) s).meas.rushes⟩) (bistPreempt (fun r => r.test == 31) s) := rfl
    rw [if_neg Bool.false_ne_true, if_neg Bool.false_ne_true, hw, hnow, hru]
    exact hset _ _ hb
  | true =>
    have hw : writeMeasCtl h 0x0000005 s = setSnap h (some ⟨true, (bistPreempt (fun r => r.test == 31) s).now,
      (bistPreempt (fun r => r.test == 31) s).meas.seg⟩) (bistPreempt (fun r => r.test == 31) s) := rfl
    rw [if_pos rfl, if_pos rfl, hw, hnow, hseg]
    exact hset _ _ hb

theorem snapshotExpiry_expires {h : Port} {x : Snap} {s : State} (hx : s.meas.snaps.get h = some x) (ht : s.since x.taken 2000 = true)
    (hc : s.clk.coreStop = false) : Gives (.snapshotExpiry h) s (setSnap h none s) := by
  refine gives_of_eq rfl ?_
  simp [hx, ht, hc]

theorem snapshotExpiry_rests {h : Port} {s : State} (hc : s.clk.coreStop = true) : Gives (.snapshotExpiry h) s s := by
  refine gives_of_eq rfl ?_
  split <;> simp [hc]

theorem resv_snapshot (seg : Bool) : resv 0xFFFFFF8 (if seg then 0x0000005 else 0x0000001) = false := by
  cases seg <;> decide

/-- Settles O16: the rows by the register's word, the re-zero by its phase, a snapshot by its group and its port. -/
theorem measurementRows : Obligations.MeasurementRows := by
  unfold Obligations.MeasurementRows
  refine ⟨?zero, fun n t0 o s hr ho hh hf ht hc => zeroWaitMet_starts hr ho hh hf ht hc, ?trim, fun n sum cond s hr hf hc => zeroDone_fails hr hf hc,
    fun n t0 s hr ht hc => zeroTimeout_fails hr ht hc, ?calsel, ?calselFormat, ?snapshot, ?release, ?debug,
    fun h x s hx ht hc => snapshotExpiry_expires hx ht hc, ?fresh, ?freshFormat, ?calselTrim, fun n s h => zeroWaitMet_rests (.inl h),
    fun n s h => noteGates_offAt h, fun h n s hc => ⟨zeroWaitMet_rests (.inr hc), zeroDone_rests hc, zeroTimeout_rests hc, snapshotExpiry_rests hc⟩, ?sweep⟩
  case zero =>
    intro h d s hm h0
    have hdone := measCommit_done (i := .measZero h d) (o := 12) (x := writeZero d s) (st := sOk) hm (by omega) rfl rfl (resv_of_fld h0 (by decide)) rfl rfl rfl
    rw [noteLast_ok] at hdone
    refine completes_of_still hdone ?_
    have hst : ∀ t : State, ({ t with status := sOk } : State).still = { t.still with status := sOk } := fun _ => rfl
    rw [hst, writeZero_still]
    rfl
  case trim =>
    intro n sum s hr hf hc
    obtain ⟨m, k, hnear, hgives⟩ := zeroDone_trims hr hf hc
    have hl : n < s.chans.length := lt_length_of_ch_ne fun e => by rw [e] at hr; cases hr
    have hch := ch_onCh ({ s with free := k } : State) n (fun c => { c with rezero := .idle, trim := m }) hl
    refine ⟨m, _, hgives, hnear, ?_, Rezero.eq_idle_of_still ?_, ?_⟩
    · rw [ch_keeps Chan.trim (fun _ => rfl) (still_settle _), hch]
    · have hstill := congrArg Chan.rezero (ch_still_of_still (still_settle (({ s with free := k } : State).onCh n fun c => { c with rezero := .idle, trim := m })) n)
      rw [hch] at hstill
      exact hstill
    · rw [ch_keeps Chan.zfail (fun _ => rfl) (still_settle _), hch]
      rfl
  case calsel =>
    intro a d s hm h1 h2 hk hi
    exact measStore_done (o := 14) hm (by omega) rfl rfl (resv_calsel h1 h2) rfl (writeCalsel_word hk hi) rfl
  case calselTrim =>
    intro a d s hm h1 h2 hk hi
    exact measStore_done (o := 14) hm (by omega) rfl rfl (resv_calsel h1 h2) rfl (writeCalsel_trim hk hi) rfl
  case calselFormat =>
    intro h d s hm h1 h2 hi
    have hb : baseInfo s 0x3CE = some ([.x], 0xFFF0C00) := baseInfo_meas (o := 14) (by omega) rfl
    have hres : resv (reservedAt s 0x3CE) d = false := by rw [reservedAt, hb]; exact resv_calsel h1 h2
    exact gives_of_eq rfl (writeRow_turned hm (by rw [hb]; rfl) hres rfl ((effect_meas (o := 14) (by omega) rfl).trans (writeCalsel_format hi)))
  case snapshot =>
    intro h seg s hm
    have hdone := measStore_done (i := .snapshot (.write h) seg) (o := 0) hm (by omega) rfl rfl (resv_snapshot seg) rfl rfl rfl
    refine completes_of_still hdone ?_
    have hst : ∀ t : State, ({ t with status := sOk } : State).still = { t.still with status := sOk } := fun _ => rfl
    rw [hst, writeMeasCtl_still]
    rfl
  case release =>
    intro h s hm
    exact measStore_done (o := 0) hm (by omega) rfl rfl (by decide) rfl rfl rfl
  case debug =>
    intro seg s hm
    exact ⟨measStore_done (o := 0) hm (by omega) rfl rfl (resv_snapshot seg) rfl rfl rfl, measStore_done (o := 0) hm (by omega) rfl rfl (by decide) rfl rfl rfl⟩
  case fresh =>
    intro h k d s hm h0 h16 h500
    have hw : measWrite (.commit h) (4 + k) d s = (sOk, { s with meas := { s.meas with fresh := s.meas.fresh.set k d } }) := by
      rw [measWrite_fresh, writeFresh, if_pos (by simp [h16, h500])]
    have hdone := measCommit_done (i := .freshCommit h k d) hm (by omega) (by omega) (measInfo_fresh k) (resv_of_fld h0 (by decide)) rfl hw rfl
    rwa [noteLast_ok] at hdone
  case freshFormat =>
    intro h k d s hm h0 hout
    have hw : measWrite (.commit h) (4 + k) d s = (sFormat, s) := by
      rw [measWrite_fresh, writeFresh, if_neg (by simp; omega)]
    exact measCommit_done (i := .freshCommit h k d) hm (by omega) (by omega) (measInfo_fresh k) (resv_of_fld h0 (by decide)) rfl hw rfl
  case sweep =>
    intro s hstruct hstop
    simp only [measSweep, sweepNow, hstruct, hstop, if_true]

end Sys2Proof.Machine

/-! The slots of the conversion cycle: voltages, ISEC and its comparison with IPRI, and triggered conversions (05 R117, R120, R121, R123, R125, R130, R131). -/

namespace Sys2Proof.Machine

/-! ### Voltages (05 R117) -/

/-- Within its range a voltage's word holds the nearest code of its LSB. -/
theorem recordVolt_records {gain offs i : Nat} {lsb : Rat} {top : Int} (place : Nat) {raw : Int} {x : Rat} {s : State}
    (hx : x = calibrated s gain offs i raw / lsb) (h0 : 0 ≤ x) (h1 : x ≤ top) :
    ∃ (v : Int) (q : BitVec 2) (k : Nat), |(v : Rat) - x| ≤ 1 / 2 ∧
      recordVolt gain offs i lsb top place raw 0 s = putRushes place (some ⟨BitVec.ofInt 16 v, q, s.now, 0⟩) { s with free := k } := by
  have htop : (0 : Int) ≤ top := by exact_mod_cast h0.trans h1
  obtain ⟨v, o, k, hc, hin, -⟩ := clampTo_eq htop x s
  refine ⟨v, qualOf o (!(calWord s gain i).valid || !(calWord s offs i).valid), k, (hin (by exact_mod_cast h0) h1).1, ?_⟩
  rw [recordVolt, ← hx, hc]
  rfl

/-- A command whose effect is a voltage's word. -/
theorem volt_measured {i : Instr} {gain offs j : Nat} {lsb : Rat} {top : Int} {place : Nat} {raw : Int} {x : Rat} {s y : State}
    (hi : exec i s = done (recordVolt gain offs j lsb top place raw 0 y)) (hx : x = calibrated y gain offs j raw / lsb) (h0 : 0 ≤ x) (h1 : x ≤ top) :
    ∃ (v : Int) (q : BitVec 2) (t : State), exec i s = .next t ∧ |(v : Rat) - x| ≤ 1 / 2 ∧
      t.meas.rushes = y.meas.rushes.set place (some ⟨BitVec.ofInt 16 v, q, y.now, 0⟩) := by
  obtain ⟨v, q, k, hv, hr⟩ := recordVolt_records place hx h0 h1
  refine ⟨v, q, _, hi, hv, ?_⟩
  rw [settle_rushes, hr]
  rfl

/-! ### The slots of the cycle (05 R123) -/

/-- The number of a bank. -/
def bankNumber (b : Bool) : Nat := if b then 1 else 0

/-- The channel that slot k of a block of six serves. -/
theorem bankNumber_channel (b : Bool) (k : Nat) : 6 * bankNumber b + k = (if b then 6 else 0) + k := by cases b <;> rfl

theorem sarConversion_slot {b : Bool} {slot : Fin 50} {raw : Int} {quiet : Quiet} {s : State} (diff : BitVec 8) (hs : sensing s = true)
    (ht : s.dtime % 10 = (slot.val + 1) / 5) : exec (.sarConversion b slot raw quiet diff) s = done (sarSlot (bankNumber b) slot raw quiet diff s) := by
  have hmod : (slot.val + 1) / 5 % 10 = (slot.val + 1) / 5 := Nat.mod_eq_of_lt (by omega)
  have hnow : (sensing s && sarSlotNow s slot) = true := by simp [hs, sarSlotNow, ht, hmod]
  exact congrArg done (if_pos hnow)

theorem sarSlot_vbat {b slot : Nat} (raw : Int) (quiet : Quiet) (diff : BitVec 8) (s : State) (h : slot = 6 ∨ slot = 31) :
    sarSlot b slot raw quiet diff s = recordVbat b raw diff s := by
  rcases h with rfl | rfl <;> rfl

theorem sarSlot_vout {b slot k : Nat} (raw : Int) (quiet : Quiet) (diff : BitVec 8) (s : State) (hk : k < 6) (h : slot = 7 + k) :
    sarSlot b slot raw quiet diff s = recordVout (6 * b + k) raw diff s := by
  have hn : 6 * b + slot - 7 = 6 * b + k := by omega
  unfold sarSlot
  rw [if_neg (by simp; omega), if_neg (by simp; omega), if_pos (by simp; omega), hn]

theorem sarSlot_vbst {b slot k : Nat} (raw : Int) (quiet : Quiet) (diff : BitVec 8) (s : State) (hk : k < 6) (h : slot = 32 + k) :
    sarSlot b slot raw quiet diff s = recordVbst (6 * b + k) raw diff s := by
  have hn : 6 * b + slot - 32 = 6 * b + k := by omega
  unfold sarSlot
  rw [if_neg (by simp; omega), if_neg (by simp; omega), if_neg (by simp; omega), if_pos (by simp; omega), hn]

theorem sarSlot_isec {b slot k : Nat} (raw : Int) (quiet : Quiet) (diff : BitVec 8) (s : State) (hk : k < 6) (h : slot = k ∨ slot = 25 + k) :
    sarSlot b slot raw quiet diff s = if isecTriggered s (6 * b + k) then s else recordIsec (6 * b + k) raw quiet diff s := by
  have hn : (if slot < 6 then slot else slot - 25) = k := by split <;> omega
  unfold sarSlot
  rw [if_pos (by simp; omega), hn]

/-- In a slot of ISEC the channel's reading is recorded, unless a trigger entry names it. -/
theorem isecSlot_gives {b : Bool} {k : Fin 6} {slot : Fin 50} {n : Nat} {raw : Int} {quiet : Quiet} {s : State} (hs : sensing s = true)
    (ht : s.dtime % 10 = (slot.val + 1) / 5) (hk : slot.val = k.val ∨ slot.val = 25 + k.val) (hn : n = (if b then 6 else 0) + k.val) :
    Gives (.sarConversion b slot raw quiet 0) s (if isecTriggered s n then s else recordIsec n raw quiet 0 s) := by
  rw [hn, ← bankNumber_channel, ← sarSlot_isec raw quiet 0 s k.isLt hk]
  exact sarConversion_slot 0 hs ht

theorem isecSlot_records {b : Bool} {k : Fin 6} {slot : Fin 50} {n : Nat} {raw : Int} {quiet : Quiet} {s : State} (hs : sensing s = true)
    (ht : s.dtime % 10 = (slot.val + 1) / 5) (hk : slot.val = k.val ∨ slot.val = 25 + k.val) (hn : n = (if b then 6 else 0) + k.val)
    (hi : isecTriggered s n = false) : Gives (.sarConversion b slot raw quiet 0) s (recordIsec n raw quiet 0 s) := by
  have hgives := isecSlot_gives (raw := raw) (quiet := quiet) hs ht hk hn
  rwa [hi, if_neg Bool.false_ne_true] at hgives

/-! ### The comparison with IPRI (05 R130, R131) -/

/-- A saturated reading is compared with nothing. -/
theorem crossCheck_saturated (n : Nat) (isec : Int) (quiet : Bool) (s : State) : crossCheck n isec 1 quiet s = s := by
  unfold crossCheck
  dsimp only
  split
  · rfl
  · exact if_pos (by simp)

/-- The comparison leaves every word as it is. -/
theorem crossCheck_rushes (n : Nat) (isec : Int) (q : BitVec 2) (quiet : Bool) (s : State) :
    (crossCheck n isec q quiet s).meas.rushes = s.meas.rushes := by
  unfold crossCheck
  dsimp only
  split
  · rfl
  · split_ifs
    · rfl
    · exact (still_keeps (·.meas.rushes) (fun _ => rfl) (still_raise _ _)).trans rfl
    · rfl
    · rfl

/-- A comparison notes its outcome and its time. -/
def compared (bad : Bool) (run now : Nat) (c : Chan) : Chan := { c with suspect := bad, xRun := run, comparedAt := some now }

/-- Two intact readings outside ladders and tests are compared. -/
theorem crossCheck_compares {n : Nat} {isec i : Int} {q qi : BitVec 2} {rest : List (Int × BitVec 2)} {s : State}
    (hp : (s.ch n).ipris = (i, qi) :: rest) (hl : (s.ch (leader s n)).lad.step = 0) (hq : q ≠ 1) (hqi : qi ≠ 1) (hu : underTest s n = false) :
    crossCheck n isec q true s = if 8 * max i.natAbs isec.natAbs + 10000 < 100 * (i - isec).natAbs then
        (if (s.ch n).xRun = 7 then raise [evCh n 4 0] (s.onCh n (compared true 8 s.now)) else s.onCh n (compared true ((s.ch n).xRun + 1) s.now))
      else s.onCh n (compared false 0 s.now) := by
  have hq' : (q == 1) = false := beq_eq_false_iff_ne.mpr hq
  have hqi' : (qi == 1) = false := beq_eq_false_iff_ne.mpr hqi
  have hno : ¬((decide ((s.ch (leader s n)).lad.step ≠ 0) || !true || q == 1 || qi == 1 || underTest s n) = true) := by
    simp only [hl, hq', hqi', hu]
    decide
  unfold crossCheck
  simp only [hp]
  rw [if_neg hno]
  by_cases h7 : (s.ch n).xRun = 7
  · rw [if_pos (by omega : (s.ch n).xRun + 1 = 8), if_pos h7, h7]
    rfl
  · rw [if_neg (by omega : ¬(s.ch n).xRun + 1 = 8), if_neg h7]
    rfl

/-- A comparison that fails marks the channel suspect, and the eighth in a row raises CHn_XCHK. -/
theorem crossCheck_fails {n : Fin 12} {isec i : Int} {q qi : BitVec 2} {rest : List (Int × BitVec 2)} {s : State}
    (hp : (s.ch n).ipris = (i, qi) :: rest) (hl : (s.ch (leader s n)).lad.step = 0) (hq : q ≠ 1) (hqi : qi ≠ 1) (hu : underTest s n = false)
    (hn : n < s.chans.length) (hlit : lightsOut s = false) (h : 8 * max i.natAbs isec.natAbs + 10000 < 100 * (i - isec).natAbs) :
    ((crossCheck n isec q true s).ch n).suspect = true ∧ ((crossCheck n isec q true s).ch n).xRun = (s.ch n).xRun + 1 ∧
      ((s.ch n).xRun = 7 → seen (crossCheck n isec q true s) (8 * n + 4)) := by
  rw [crossCheck_compares hp hl hq hqi hu, if_pos h]
  by_cases h7 : (s.ch n).xRun = 7
  · rw [if_pos h7]
    have hstill := still_raise [evCh n 4 0] (s.onCh n (compared true 8 s.now))
    refine ⟨?_, ?_, fun _ => ?_⟩
    · rw [ch_keeps Chan.suspect (fun _ => rfl) hstill, ch_onCh _ _ _ hn, compared]
    · rw [ch_keeps Chan.xRun (fun _ => rfl) hstill, ch_onCh _ _ _ hn, compared, h7]
    · exact raise_seen (e := evCh n 4 0) (List.mem_singleton_self _) (by simp only [evCh]; omega)
        (unrecorded_lit (guardSource_channel n.isLt (by decide)) hlit)
  · rw [if_neg h7, ch_onCh _ _ _ hn]
    exact ⟨rfl, rfl, fun h => absurd h h7⟩

theorem crossCheck_passes {n : Fin 12} {isec i : Int} {q qi : BitVec 2} {rest : List (Int × BitVec 2)} {s : State}
    (hp : (s.ch n).ipris = (i, qi) :: rest) (hl : (s.ch (leader s n)).lad.step = 0) (hq : q ≠ 1) (hqi : qi ≠ 1) (hu : underTest s n = false)
    (hn : n < s.chans.length) (h : 100 * (i - isec).natAbs ≤ 8 * max i.natAbs isec.natAbs + 10000) :
    ((crossCheck n isec q true s).ch n).suspect = false ∧ ((crossCheck n isec q true s).ch n).xRun = 0 := by
  rw [crossCheck_compares hp hl hq hqi hu, if_neg (not_lt.mpr h), ch_onCh _ _ _ hn]
  exact ⟨rfl, rfl⟩

/-! ### ISEC (05 R120, R121) -/

theorem recordIsec_off {n : Nat} {quiet : Quiet} {s : State} (raw : Int) (hh : (s.ch n).hs = 0) (hq : quiet.ns500 = true) :
    ∃ q : BitVec 2, q ≠ 1 ∧ recordIsec n raw quiet 0 s = crossCheck n 0 q quiet.ns4500 (putRushes (8 * n + 1) (some ⟨0, q, s.now, 0⟩) s) := by
  refine ⟨_, qualOf_ne_saturated ((s.ch n).suspect || [2, 3, 4].any fun k => !(calWord s k n).valid), ?_⟩
  unfold recordIsec
  simp only [hh, hq, beq_self_eq_true, if_true]
  rfl

theorem recordIsec_over {n : Nat} {raw : Int} {s : State} (quiet : Quiet) (hh : (s.ch n).hs ≠ 0) (hr : 16384 < raw) :
    recordIsec n raw quiet 0 s = putRushes (8 * n + 1) (some ⟨30000, 1, s.now, 0⟩) s := by
  unfold recordIsec
  simp only [beq_eq_false_iff_ne.mpr hh, Bool.false_eq_true, if_false, hr, if_true]
  exact crossCheck_saturated _ _ _ _

theorem recordIsec_under {n : Nat} {raw : Int} {s : State} (quiet : Quiet) (hh : (s.ch n).hs ≠ 0) (hr : raw < 0) :
    recordIsec n raw quiet 0 s = putRushes (8 * n + 1) (some ⟨0, 1, s.now, 0⟩) s := by
  have h16384 : ¬16384 < raw := by omega
  unfold recordIsec
  simp only [beq_eq_false_iff_ne.mpr hh, Bool.false_eq_true, if_false, h16384, hr, if_true]
  exact crossCheck_saturated _ _ _ _

/-- A reading within the converter's range that falls in a disturbed interval is discarded. -/
theorem recordIsec_disturbed {n : Nat} {raw : Int} {quiet : Quiet} (s : State) (h0 : 0 ≤ raw) (h1 : raw ≤ 16384) (hq : quiet.ns500 = false) :
    recordIsec n raw quiet 0 s = s := by
  unfold recordIsec
  simp only [hq, not_lt.mpr h0, not_lt.mpr h1, Bool.false_eq_true, if_false, ite_self]

theorem recordIsec_modelled {n : Nat} {raw : Int} {quiet : Quiet} {r x : Rat} {s : State} (hh : (s.ch n).hs ≠ 0) (h0 : 0 ≤ raw) (h1 : raw ≤ 16384)
    (hq : quiet.ns500 = true) (hr : modelRon s n = some r) (hx : x = (raw : Rat) * 125000 * popcount (s.ch (shownBy s n)).hs / (42 * r))
    (hlo : -30000 ≤ x) (hhi : x ≤ 30000) :
    ∃ (v : Int) (q : BitVec 2) (k : Nat), |(v : Rat) - x| ≤ 1 / 2 ∧ recordIsec n raw quiet 0 s =
      crossCheck n v q quiet.ns4500 (putRushes (8 * n + 1) (some ⟨BitVec.ofInt 16 v, q, s.now, 0⟩) { s with free := k }) := by
  obtain ⟨v, o, k, hc, hin, -⟩ := clampTo_eq (lo := -30000) (hi := 30000) (by decide) x s
  have hval : isecValue s n raw = (v, o, { s with free := k }) := by
    rw [← hc, hx]
    simp only [isecValue, hr]
  have hrec : ∃ q, recordIsec n raw quiet 0 s =
      crossCheck n v q quiet.ns4500 (putRushes (8 * n + 1) (some ⟨BitVec.ofInt 16 v, q, s.now, 0⟩) { s with free := k }) := by
    unfold recordIsec
    simp only [beq_eq_false_iff_ne.mpr hh, Bool.false_eq_true, if_false, not_lt.mpr h0, not_lt.mpr h1, hq, if_true, hval]
    exact ⟨_, rfl⟩
  obtain ⟨q, hrec⟩ := hrec
  exact ⟨v, q, k, (hin (by exact_mod_cast hlo) (by exact_mod_cast hhi)).1, hrec⟩

/-! ### The model of R120 -/

theorem foldl_add_eq_sum {α : Type} (f : α → Int) (l : List α) (a : Int) : l.foldl (fun a w => a + f w) a = a + (l.map f).sum := by
  induction l generalizing a with
  | nil => simp
  | cons w l ih => simp [ih, add_assoc]

/-- Where every engaged segment has an intact reading, the resistance is that at their mean temperature. -/
theorem modelRon_eq {n : Nat} {ws : List Sample} {x r : Rat} {s : State} (ht : engagedTemps s n = ws.map some) (hne : ws ≠ [])
    (hx : x = ((ws.map fun w => w.value.toInt).sum : Int) / (64 * ws.length : Nat) - 25)
    (hr : r = (calWord s 2 n).value * (1 + (calWord s 3 n).value * x / 1000000 + (calWord s 4 n).value * x * x / 100000000)) (h0 : r ≠ 0) :
    modelRon s n = some r := by
  have hall : ((ws.map some).isEmpty || (ws.map some).any fun t => t.isNone) = false := by simp [hne]
  have hsum : ((ws.map some).filterMap id).foldl (fun a w => a + w.value.toInt) 0 = (ws.map fun w => w.value.toInt).sum := by
    rw [List.filterMap_map, show (id ∘ some : Sample → Option Sample) = some from rfl, List.filterMap_some, foldl_add_eq_sum, zero_add]
  have hxx : (((ws.map fun w => w.value.toInt).sum : Int) : Rat) / (64 * (ws.map some).length) - 25 = x := by
    rw [hx, List.length_map, Nat.cast_mul, Nat.cast_ofNat]
  unfold modelRon
  simp only [ht, hall, Bool.false_eq_true, if_false, hsum, hxx]
  rw [← hr, if_neg h0]

/-! ### Triggered conversions (05 R125) -/

theorem trigNext_iff (m : Nat) (s : State) : trigNext s m = true ↔ m ∈ s.meas.trigs ∧ ∀ k ∈ s.meas.trigs, trigNs s m < trigNs s k + 1000 ∧
    (s.meas.trigs.idxOf k < s.meas.trigs.idxOf m → trigDelay s m < trigDelay s k) := by
  simp [trigNext, trigBefore, imp_iff_not_or]

/-- The entry's trigger is no longer pending. -/
def trigTaken (m : Nat) (s : State) : State := { s with meas := { s.meas with trigs := s.meas.trigs.filter (· ≠ m) } }

theorem calibrated_trigTaken (m gain offs i : Nat) (raw : Int) (s : State) : calibrated (trigTaken m s) gain offs i raw = calibrated s gain offs i raw := by
  unfold calibrated calWord trigTaken
  rfl

theorem trigConversion_due {m : Fin 8} {s : State} (hs : sensing s = true) (hn : trigNext s m = true) (ht : trigNs s m < (s.now + 1) * 1000) :
    (sensing s && trigNext s m && (decide (trigNs s m < (s.now + 1) * 1000) || s.clk.timeStop)) = true := by simp [hs, hn, ht]

/-! What an entry asks for is recorded on the state in which its trigger is no longer pending. -/

theorem trigConversion_isec {m : Fin 8} {raw : Int} {quiet : Quiet} {s : State} (hs : sensing s = true) (hn : trigNext s m = true)
    (ht : trigNs s m < (s.now + 1) * 1000) (hw : fld (s.meas.trig.getD m 0) 20 19 = 0) :
    exec (.trigConversion m raw quiet 0) s = done (recordIsec (fld (s.meas.trig.getD m 0) 18 15) raw quiet 0 (trigTaken m s)) :=
  (congrArg done (if_pos (trigConversion_due hs hn ht))).trans (by simp only [hw]; rfl)

theorem trigConversion_vout {m : Fin 8} {raw : Int} {quiet : Quiet} {s : State} (hs : sensing s = true) (hn : trigNext s m = true)
    (ht : trigNs s m < (s.now + 1) * 1000) (hw : fld (s.meas.trig.getD m 0) 20 19 = 1) :
    exec (.trigConversion m raw quiet 0) s = done (recordVout (fld (s.meas.trig.getD m 0) 18 15) raw 0 (trigTaken m s)) :=
  (congrArg done (if_pos (trigConversion_due hs hn ht))).trans (by simp only [hw]; rfl)

theorem trigConversion_vbst {m : Fin 8} {raw : Int} {quiet : Quiet} {s : State} (hs : sensing s = true) (hn : trigNext s m = true)
    (ht : trigNs s m < (s.now + 1) * 1000) (hw : fld (s.meas.trig.getD m 0) 20 19 = 2) :
    exec (.trigConversion m raw quiet 0) s = done (recordVbst (fld (s.meas.trig.getD m 0) 18 15) raw 0 (trigTaken m s)) :=
  (congrArg done (if_pos (trigConversion_due hs hn ht))).trans (by simp only [hw]; rfl)

theorem trigConversion_rests {m : Fin 8} {raw : Int} {quiet : Quiet} {s : State} (hn : trigNext s m = false) :
    Gives (.trigConversion m raw quiet 0) s s := gives_of_eq rfl (if_neg (by simp [hn]))

end Sys2Proof.Machine

/-! The diode sweep: a segment's word and its run of hot readings, the freewheel diode's, TSMAX and TSMED (05 R124, R127, 02 R40, 06 R155, R156). -/

namespace Sys2Proof.Machine

/-! ### A slot of the sweep (05 R124) -/

/-- Within the range of a diode's reading the slot records the trimmed reading itself. -/
theorem diodeSlot_reads {j : Fin 518} {raw v : Int} {s : State} (diff : BitVec 8) (hs : sensing s = true) (ht : s.dtime % 2000 = 5 * (j.val + 1) / 2 % 2000)
    (hv : v = raw + (calWord s 11 j).value) (hlo : -3520 ≤ v) (hhi : v ≤ 12800) :
    exec (.diodeSlot j raw diff) s = done (if j.val < 504 then diodeSeg j v false diff s
      else if j.val < 516 then diodeFw (j.val - 504) v false diff s
      else putRushes (98 + (j.val - 516)) (arrived s v (qualOf false (!(calWord s 11 j).valid)) diff) s) := by
  have hnow : ¬((!sensing s || !diodeSlotNow s j) = true) := by simp [hs, diodeSlotNow, ht]
  have hcast : (raw : Rat) + ((calWord s 11 j).value : Rat) = (v : Rat) := by rw [hv]; push_cast; rfl
  refine congrArg done ((if_neg hnow).trans ?_)
  rw [hcast, clampTo_int s hlo hhi]

/-! ### A segment's slot -/

/-- The state with a segment's word, as it arrived. -/
def segArrived (k : Nat) (v : Int) (q : BitVec 2) (diff : BitVec 8) (s : State) : State :=
  { s with meas := { s.meas with seg := s.meas.seg.set k (some ⟨BitVec.ofInt 16 v, q, s.now, diff⟩) } }

/-- The state with a segment's run of hot readings. -/
def hotRun (k run : Nat) (s : State) : State := { s with meas := { s.meas with hot := s.meas.hot.set k run } }

theorem segSlot_reads {j : Fin 518} {raw v : Int} {s : State} (hs : sensing s = true) (ht : s.dtime % 2000 = 5 * (j.val + 1) / 2 % 2000) (hj : j.val < 504)
    (hv : v = raw + (calWord s 11 j).value) (hlo : -3520 ≤ v) (hhi : v ≤ 12800) :
    ∃ q, exec (.diodeSlot j raw 0) s = done (if j.val % 42 = 41 then
        warmCheck (j.val / 42) (sweepEnd (j.val / 42) (judgeSeg j v (segArrived j v q 0 s))) else judgeSeg j v (segArrived j v q 0 s)) := by
  refine ⟨qualOf false (!(calWord s 11 j).valid), ?_⟩
  rw [diodeSlot_reads 0 hs ht hv hlo hhi, if_pos hj]
  rfl

/-- A word whose check fails leaves the run of hot readings, and counts for the sweep all the same. -/
theorem segSlot_corrupted {j : Fin 518} {raw v : Int} {diff : BitVec 8} {s : State} (hs : sensing s = true)
    (ht : s.dtime % 2000 = 5 * (j.val + 1) / 2 % 2000) (hj : j.val < 504) (hlast : j.val % 42 ≠ 41)
    (hv : v = raw + (calWord s 11 j).value) (hlo : -3520 ≤ v) (hhi : v ≤ 12800) (hd : diff ≠ 0) :
    ∃ q, exec (.diodeSlot j raw diff) s = done (noteSweep j (segArrived j v q diff s)) := by
  refine ⟨qualOf false (!(calWord s 11 j).valid), ?_⟩
  rw [diodeSlot_reads diff hs ht hv hlo hhi, if_pos hj, diodeSeg]
  simp only [if_pos hd, if_neg hlast]
  rfl

theorem judgeSeg_cold {k : Nat} {v : Int} (s : State) (hv : v < 11200) : judgeSeg k v s = hotRun k 0 (noteSweep k s) := by
  rw [judgeSeg, hotSeg, if_neg (not_le.mpr hv)]
  rfl

/-- The second hot reading in a row of a segment that is not retired raises CHn_OVL (06 R155). -/
theorem judgeSeg_hot {k : Nat} {v : Int} {s : State} (hv : 11200 ≤ v) (hh : s.meas.hot.getD k 0 = 1)
    (hr : ((noteSweep k s).ch (k / 42)).retired.getLsbD (k % 42) = false) :
    judgeSeg k v s = raise [evCh (k / 42) 2 causeOts] (setProt (k / 42) 2 (hotRun k 2 (noteSweep k s))) := by
  have hrun : (if 11200 ≤ v then (noteSweep k s).meas.hot.getD k 0 + 1 else 0) = 2 := by
    rw [if_pos hv, show (noteSweep k s).meas = s.meas from rfl, hh]
  have hret : ((hotRun k 2 (noteSweep k s)).ch (k / 42)).retired.getLsbD (k % 42) = false := hr
  rw [judgeSeg, hotSeg]
  simp only [hrun]
  exact if_pos (by rw [← hotRun, hret]; decide)

/-- A cause bit of CHn_PROT leaves the rest of the channel. -/
theorem setProt_keep {α : Type} (g : Chan → α) (hg : ∀ (c : Chan) (p : Prot), g { c with prot := p } = g c) (n i k : Nat) (s : State) :
    g ((setProt n i s).ch k) = g (s.ch k) :=
  ch_onCh_keep g s n k (fun c => { c with prot := { c.prot with bits := setBit c.prot.bits i } }) fun c => hg c _

/-- An over-temperature leaves its cause and its mark. -/
theorem overTemp_marks {i : Instr} {n b : Nat} {cause : BitVec 3} {s y : State} (hi : exec i s = done (raise [evCh n 2 cause] (setProt n b y)))
    (hn : n < 12) (hl : n < y.chans.length) (hb : b < 9) (hlit : lightsOut y = false) :
    ∃ t, exec i s = .next t ∧ t.still = (setProt n b y).still ∧ (t.ch n).prot.bits.getLsbD b = true ∧ seen t (8 * n + 2) := by
  have hstill : (settle (raise [evCh n 2 cause] (setProt n b y))).still = (setProt n b y).still := (still_settle _).trans (still_raise _ _)
  refine ⟨_, hi, hstill, ?_, settle_seen (raise_seen (e := evCh n 2 cause) (List.mem_singleton_self _) ?_ ?_)⟩
  · rw [ch_keeps (fun c => c.prot.bits) (fun _ => rfl) hstill, setProt, ch_onCh _ _ _ hl]
    exact setBit_self _ hb
  · simp only [evCh]
    omega
  · exact unrecorded_lit (guardSource_channel hn (by decide)) hlit

theorem lightsOut_of_sensing {s : State} (hs : sensing s = true) : lightsOut s = false := by
  simp only [sensing, Bool.and_eq_true, Bool.not_eq_true'] at hs
  simp [lightsOut, hs.2]

/-! ### The freewheel diode's slot -/

/-- The state with a freewheel diode's word. -/
def fwArrived (n : Nat) (v : Int) (q : BitVec 2) (s : State) : State := putRushes (8 * n + 7) (some ⟨BitVec.ofInt 16 v, q, s.now, 0⟩) s

theorem fwSlot_reads {j : Fin 518} {n : Nat} {raw v : Int} {s : State} (hs : sensing s = true) (ht : s.dtime % 2000 = 5 * (j.val + 1) / 2 % 2000)
    (hj : 504 ≤ j.val) (hj' : j.val < 516) (hn : n = j.val - 504) (hv : v = raw + (calWord s 11 j).value) (hlo : -3520 ≤ v) (hhi : v ≤ 12800) :
    exec (.diodeSlot j raw 0) s = done (diodeFw n v false 0 s) := by
  rw [diodeSlot_reads 0 hs ht hv hlo hhi, if_neg (not_lt.mpr hj), if_pos hj', hn]

theorem diodeFw_cold {n : Nat} {v : Int} (s : State) (hv : v < 11200) :
    ∃ q, diodeFw n v false 0 s = (fwArrived n v q s).onCh n fun c => { c with fwHot := 0 } := by
  refine ⟨qualOf false (!(calWord s 11 (504 + n)).valid), ?_⟩
  rw [diodeFw, if_neg (not_not.mpr rfl), if_neg (not_le.mpr hv)]
  rfl

theorem diodeFw_hot {n : Nat} {v : Int} {s : State} (hv : 11200 ≤ v) (hh : (s.ch n).fwHot = 1) :
    ∃ q, diodeFw n v false 0 s = raise [evCh n 2 causeOtf] (setProt n 3 ((fwArrived n v q s).onCh n fun c => { c with fwHot := 2 })) := by
  refine ⟨qualOf false (!(calWord s 11 (504 + n)).valid), ?_⟩
  rw [diodeFw, if_neg (not_not.mpr rfl), if_pos hv]
  simp only [putRushes_ch, hh]
  rfl

/-! ### TSMAX, TSMED and OTW (05 R124, 06 R156) -/

/-- The highest of a list of readings. -/
theorem foldl_max_spec (l : List Int) (a : Int) : (∀ t ∈ a :: l, t ≤ l.foldl max a) ∧ l.foldl max a ∈ a :: l := by
  induction l generalizing a with
  | nil => simp
  | cons b l ih =>
    obtain ⟨hle, hmem⟩ := ih (max a b)
    have hab := hle (max a b) List.mem_cons_self
    refine ⟨fun t ht => ?_, ?_⟩
    · rcases List.mem_cons.mp ht with rfl | ht
      · exact (le_max_left _ _).trans hab
      · rcases List.mem_cons.mp ht with rfl | ht
        · exact (le_max_right _ _).trans hab
        · exact hle t (List.mem_cons_of_mem _ ht)
    · rcases List.mem_cons.mp hmem with h | h
      · rw [List.foldl_cons, h]
        rcases max_choice a b with h | h <;> simp [h]
      · exact List.mem_cons_of_mem _ (List.mem_cons_of_mem _ h)

/-- The highest and the others of a channel's readings. -/
def readings (s : State) (n : Nat) : List Int := (temps s n).map fun t => t.2.value.toInt

def topReading (s : State) (n : Nat) : Int := (readings s n).foldl max ((readings s n).getD 0 0)

theorem topReading_spec {s : State} {n : Nat} (h : temps s n ≠ []) :
    (∀ t ∈ temps s n, t.2.value.toInt ≤ topReading s n) ∧ ∃ t ∈ temps s n, t.2.value.toInt = topReading s n := by
  obtain ⟨a, l, hr⟩ : ∃ a l, readings s n = a :: l := by
    cases hr : readings s n with
    | nil => exact absurd (List.map_eq_nil_iff.mp hr) h
    | cons a l => exact ⟨a, l, rfl⟩
  have htop : topReading s n = l.foldl max a := by
    rw [topReading, hr, List.getD_cons_zero, List.foldl_cons, max_self]
  obtain ⟨hle, hmem⟩ := foldl_max_spec l a
  rw [← htop, ← hr] at hle hmem
  exact ⟨fun t ht => hle _ (List.mem_map_of_mem ht), List.mem_map.mp hmem⟩

/-- OTW follows TSMAX, and its cause bit notes that it has come. -/
def noteWarning (hot : Bool) (c : Chan) : Chan :=
  { c with prot := { c.prot with otwNow := hot, bits := if hot && !c.prot.otwNow then setBit c.prot.bits 8 else c.prot.bits } }

/-- TSMAX and TSMED are saturated where a reading equal to them is, and derived from nominal trims where a segment's trim is no data (05 R127). -/
def sweepQual (s : State) (n : Nat) (at_ : Int → Bool) : BitVec 2 :=
  qualOf ((temps s n).any fun t => at_ t.2.value.toInt && t.2.qual == 1)
    ((List.range 42).any fun i => !(s.ch n).retired.getLsbD i && !(calWord s 11 (42 * n + i)).valid)

/-- The state with a channel's TSMAX. -/
def topArrived (n : Nat) (s : State) : State :=
  putRushes (8 * n + 5) (some (mkSample s (topReading s n) (sweepQual s n (· == topReading s n)))) s

/-- The state with a channel's TSMAX and TSMED. -/
def sweepWords (n : Nat) (v : Int) (q : BitVec 2) (k : Nat) (s : State) : State :=
  putRushes (8 * n + 6) (some ⟨BitVec.ofInt 16 v, q, s.now, 0⟩) { topArrived n s with free := k }

theorem sweepWords_rushes (n : Nat) (v : Int) (q : BitVec 2) (k : Nat) (s : State) : (sweepWords n v q k s).meas.rushes =
    (s.meas.rushes.set (8 * n + 5) (some (mkSample s (topReading s n) (sweepQual s n (· == topReading s n))))).set (8 * n + 6)
      (some ⟨BitVec.ofInt 16 v, q, s.now, 0⟩) := rfl

theorem sweepEnd_measures {n : Nat} {s : State} (h : temps s n ≠ []) : ∃ (v : Int) (k : Nat) (q : BitVec 2),
    |(v : Rat) - median (readings s n)| ≤ 1 / 2 ∧
      sweepEnd n s = (sweepWords n v q k s).onCh n (noteWarning (decide (9600 ≤ topReading s n))) := by
  have hne : ¬((temps s n).isEmpty = true) := by simpa using h
  obtain ⟨v, k, hv, hnear⟩ := nearest_eq (median (readings s n)) (topArrived n s)
  refine ⟨v, k, sweepQual s n fun t => (t : Rat) == median (readings s n), hnear, ?_⟩
  unfold topArrived sweepQual topReading readings at hv
  rw [sweepEnd, if_neg hne]
  dsimp only
  rw [hv]
  rfl

theorem sweepEnd_empty {n : Nat} {s : State} (h : temps s n = []) : sweepEnd n s =
    (putRushes (8 * n + 5) none (putRushes (8 * n + 6) none s)).onCh n fun c => { c with prot := { c.prot with otwNow := false } } := by
  rw [sweepEnd, if_pos (by rw [h]; rfl)]

/-! ### The claim of a sweep (02 R40) -/

theorem sweepCounts_iff (n : Nat) (s : State) : sweepCounts s n = true ↔
    (s.ch n).hs = ~~~(s.ch n).retired ∧ (s.ch n).hs ≠ 0 ∧ ∃ i q r, (s.ch n).ipris = (i, q) :: r ∧ 1000 ≤ i.natAbs := by
  unfold sweepCounts
  dsimp only
  cases hp : (s.ch n).ipris with
  | nil => simp
  | cons p ps =>
    obtain ⟨i, q⟩ := p
    simp [and_assoc]

end Sys2Proof.Machine

/-! The conversions of the slots, the triggers and the sweep, put together (05 R116 to R131, 06 R155, R156). -/

namespace Sys2Proof.Machine

/-- The second hot reading of a segment in a row, in its slot (06 R155). -/
theorem segSlot_trips {j : Fin 518} {n : Nat} {raw v : Int} {s : State} (hs : sensing s = true) (ht : s.dtime % 2000 = 5 * (j.val + 1) / 2 % 2000)
    (hj : j.val < 504) (hn : n = j.val / 42) (hlast : j.val % 42 ≠ 41) (hv : v = raw + (calWord s 11 j).value) (hhot : 11200 ≤ v) (hhi : v ≤ 12800)
    (hrun : s.meas.hot.getD j 0 = 1) (hl : n < s.chans.length) (hret : (s.ch n).retired.getLsbD (j.val % 42) = false) :
    ∃ t, exec (.diodeSlot j raw 0) s = .next t ∧ t.meas.hot = s.meas.hot.set j 2 ∧ (t.ch n).prot.bits.getLsbD 2 = true ∧ seen t (8 * n + 2) := by
  obtain ⟨q, hexec⟩ := segSlot_reads hs ht hj hv (by omega) hhi
  subst hn
  have hret' : ((noteSweep j (segArrived j v q 0 s)).ch (j.val / 42)).retired.getLsbD (j.val % 42) = false := by
    rw [← hret]
    exact congrArg (fun m : Mask42 => m.getLsbD (j.val % 42)) (ch_onCh_keep Chan.retired (segArrived j v q 0 s) (j.val / 42) (j.val / 42) _ fun _ => rfl)
  rw [if_neg hlast, judgeSeg_hot (s := segArrived j v q 0 s) hhot hrun hret'] at hexec
  obtain ⟨t, hnext, hstill, hbit, hseen⟩ := overTemp_marks hexec (by omega)
    (by rw [show (hotRun j 2 (noteSweep j (segArrived j v q 0 s))).chans = (noteSweep j (segArrived j v q 0 s)).chans from rfl, noteSweep, onCh_length]; exact hl)
    (by omega) (lightsOut_of_sensing hs)
  exact ⟨t, hnext, still_keeps (·.meas.hot) (fun _ => rfl) hstill, hbit, hseen⟩

/-- The second hot reading of a freewheel diode in a row, in its slot (06 R155). -/
theorem fwSlot_trips {j : Fin 518} {n : Nat} {raw v : Int} {s : State} (hs : sensing s = true) (ht : s.dtime % 2000 = 5 * (j.val + 1) / 2 % 2000)
    (hj : 504 ≤ j.val) (hj' : j.val < 516) (hn : n = j.val - 504) (hv : v = raw + (calWord s 11 j).value) (hhot : 11200 ≤ v) (hhi : v ≤ 12800)
    (hrun : (s.ch n).fwHot = 1) (hl : n < s.chans.length) :
    ∃ t, exec (.diodeSlot j raw 0) s = .next t ∧ (t.ch n).fwHot = 2 ∧ (t.ch n).prot.bits.getLsbD 3 = true ∧ seen t (8 * n + 2) := by
  have hexec := fwSlot_reads hs ht hj hj' hn hv (by omega) hhi
  obtain ⟨q, hfw⟩ := diodeFw_hot hhot hrun
  rw [hfw] at hexec
  obtain ⟨t, hnext, hstill, hbit, hseen⟩ := overTemp_marks hexec (by omega) (by rw [onCh_length]; exact hl) (by omega) (lightsOut_of_sensing hs)
  refine ⟨t, hnext, ?_, hbit, hseen⟩
  rw [ch_keeps Chan.fwHot (fun _ => rfl) hstill, setProt_keep Chan.fwHot fun _ _ => rfl, ch_onCh (fwArrived n v q s) _ _ hl]

/-- A modelled reading of ISEC, in its slot (05 R120). -/
theorem isecSlot_modelled {b : Bool} {k : Fin 6} {slot : Fin 50} {n : Nat} {raw : Int} {quiet : Quiet} {r x : Rat} {s : State} (hs : sensing s = true)
    (ht : s.dtime % 10 = (slot.val + 1) / 5) (hk : slot.val = k.val ∨ slot.val = 25 + k.val) (hn : n = (if b then 6 else 0) + k.val)
    (hi : isecTriggered s n = false) (hh : (s.ch n).hs ≠ 0) (h0 : 0 ≤ raw) (h1 : raw ≤ 16384) (hq : quiet.ns500 = true) (hr : modelRon s n = some r)
    (hx : x = (raw : Rat) * 125000 * popcount (s.ch (shownBy s n)).hs / (42 * r)) (hlo : -30000 ≤ x) (hhi : x ≤ 30000) :
    ∃ (v : Int) (q : BitVec 2) (t : State), exec (.sarConversion b slot raw quiet 0) s = .next t ∧ |(v : Rat) - x| ≤ 1 / 2 ∧
      t.meas.rushes = s.meas.rushes.set (8 * n + 1) (some ⟨BitVec.ofInt 16 v, q, s.now, 0⟩) := by
  obtain ⟨v, q, _, hv, hrec⟩ := recordIsec_modelled hh h0 h1 hq hr hx hlo hhi
  refine ⟨v, q, _, isecSlot_records hs ht hk hn hi, hv, ?_⟩
  rw [settle_rushes, hrec, crossCheck_rushes]
  rfl

/-- Settles O15: each slot by the reading that it records, each reading by its range, the comparison and the runs of hot readings by their counts. -/
theorem slotConversions : Obligations.SlotConversions := by
  unfold Obligations.SlotConversions
  refine ⟨?vbat, ?vout, ?off, ?above, ?trigVout, ?ambient, ?cold, ?hot, ?modelled, ?disturbed, fun n ws x r s ht hne hx hr h0 => modelRon_eq ht hne hx hr h0,
    fun n isec i q qi rest s hp hl hq hqi hu hn hlit => ⟨crossCheck_fails hp hl hq hqi hu hn hlit, crossCheck_passes hp hl hq hqi hu hn⟩, trigNext_iff,
    ?fwCold, ?fwHot, ?last, ?top, ?none_, ?below, ?isec, ?trigIsec, ?model, ?vbst, ?trigVbst, fun m raw quiet s h => trigConversion_rests h, ?corrupted,
    sweepCounts_iff⟩
  case vbat =>
    intro b slot raw quiet s x hs ht hl hslot hx h0 h1
    have hexec := sarConversion_slot (raw := raw) (quiet := quiet) (b := b) 0 hs ht
    rw [sarSlot_vbat raw quiet 0 s hslot] at hexec
    exact volt_measured hexec hx h0 (by exact_mod_cast h1)
  case vout =>
    intro b k slot n raw quiet s x hs ht hl hslot hn hx h0 h1
    have hexec := sarConversion_slot (raw := raw) (quiet := quiet) (b := b) 0 hs ht
    rw [sarSlot_vout raw quiet 0 s k.isLt hslot, bankNumber_channel, ← hn] at hexec
    exact volt_measured hexec hx h0 (by exact_mod_cast h1)
  case vbst =>
    intro b k slot n raw quiet s x hs ht hl hslot hn hx h0 h1
    have hexec := sarConversion_slot (raw := raw) (quiet := quiet) (b := b) 0 hs ht
    rw [sarSlot_vbst raw quiet 0 s k.isLt hslot, bankNumber_channel, ← hn] at hexec
    exact volt_measured hexec hx h0 (by exact_mod_cast h1)
  case off =>
    intro b k slot n raw quiet s hs ht hk hn hi hh hq
    obtain ⟨q, hq1, hrec⟩ := recordIsec_off raw hh hq
    exact ⟨q, hq1, hrec ▸ isecSlot_records hs ht hk hn hi⟩
  case above =>
    intro b k slot n raw quiet s hs ht hk hn hi hh hr
    exact recordIsec_over quiet hh hr ▸ isecSlot_records hs ht hk hn hi
  case below =>
    intro b k slot n raw quiet s hs ht hk hn hi hh hr
    exact recordIsec_under quiet hh hr ▸ isecSlot_records hs ht hk hn hi
  case disturbed =>
    intro b k slot n raw quiet s hs ht hk hn hi hq h1 h0
    have hgives := isecSlot_records (raw := raw) (quiet := quiet) hs ht hk hn hi
    rwa [recordIsec_disturbed s h0 h1 hq] at hgives
  case modelled =>
    intro b k slot n raw quiet r x s hs ht hk hn hi hh h0 h1 hq hr hx hlo hhi
    exact isecSlot_modelled hs ht hk hn hi hh h0 h1 hq hr hx hlo hhi
  case model =>
    intro n raw quiet r x s hh h0 h1 hq hr hx hlo hhi
    exact recordIsec_modelled hh h0 h1 hq hr hx hlo hhi
  case isec =>
    intro b k slot n raw quiet s hs ht hk hn
    have hgives := isecSlot_gives (raw := raw) (quiet := quiet) hs ht hk hn
    exact ⟨fun hi => isecSlot_records hs ht hk hn hi, fun hi => by rwa [if_pos hi] at hgives⟩
  case trigIsec =>
    intro m raw quiet s hs hn ht hw
    exact trigConversion_isec hs hn ht hw
  case trigVout =>
    intro m raw quiet s x hs hn ht hl hw hx h0 h1
    rw [← calibrated_trigTaken m] at hx
    exact volt_measured (y := trigTaken m s) (trigConversion_vout hs hn ht hw) hx h0 (by exact_mod_cast h1)
  case trigVbst =>
    intro m raw quiet s x hs hn ht hl hw hx h0 h1
    rw [← calibrated_trigTaken m] at hx
    exact volt_measured (y := trigTaken m s) (trigConversion_vbst hs hn ht hw) hx h0 (by exact_mod_cast h1)
  case ambient =>
    intro j raw v s hs ht hj hv hlo hhi
    refine ⟨qualOf false (!(calWord s 11 j).valid), gives_of_eq (diodeSlot_reads 0 hs ht hv hlo hhi) ?_⟩
    rw [if_neg (by omega), if_neg (by omega)]
    rfl
  case cold =>
    intro j n raw v s hs ht hj hn hlast hv hlo hcold
    obtain ⟨q, hexec⟩ := segSlot_reads hs ht hj hv hlo (by omega)
    rw [if_neg hlast, judgeSeg_cold _ hcold] at hexec
    subst hn
    exact ⟨q, gives_of_eq hexec rfl⟩
  case hot =>
    intro j n raw v s hs ht hj hn hlast hv hhot hhi hrun hl hret
    exact segSlot_trips hs ht hj hn hlast hv hhot hhi hrun hl hret
  case last =>
    intro j n raw v s hs ht hj hn hlast hv hlo hhi
    obtain ⟨q, hexec⟩ := segSlot_reads hs ht hj hv hlo hhi
    rw [if_pos hlast, ← hn] at hexec
    exact ⟨q, hexec⟩
  case corrupted =>
    intro j n raw v diff s hs ht hj hn hlast hv hlo hhi hd
    obtain ⟨q, hexec⟩ := segSlot_corrupted hs ht hj hlast hv hlo hhi hd
    subst hn
    exact ⟨q, gives_of_eq hexec rfl⟩
  case fwCold =>
    intro j n raw v s hs ht hj hj' hn hv hlo hcold
    obtain ⟨q, hfw⟩ := diodeFw_cold (n := n) s hcold
    exact ⟨q, gives_of_eq (fwSlot_reads hs ht hj hj' hn hv hlo (by omega)) hfw⟩
  case fwHot =>
    intro j n raw v s hs ht hj hj' hn hv hhot hhi hrun hl
    exact fwSlot_trips hs ht hj hj' hn hv hhot hhi hrun hl
  case top =>
    intro n s hne hl h100
    obtain ⟨v, k, q', hnear, hend⟩ := sweepEnd_measures hne
    obtain ⟨hle, hmem⟩ := topReading_spec hne
    refine ⟨topReading s n, v, sweepQual s n (· == topReading s n), q', hle, hmem, hnear, ?_, ?_, ?_⟩
    · rw [hend, onCh_meas, sweepWords_rushes, getD_set_other (by omega)]
      exact getD_set_same (by omega)
    · rw [hend, onCh_meas, sweepWords_rushes]
      exact getD_set_same (by rw [List.length_set]; omega)
    · rw [hend, ch_onCh (sweepWords n v q' k s) _ _ hl]
      rfl
  case none_ =>
    intro n s h hl h100
    rw [sweepEnd_empty h]
    refine ⟨?_, ?_, ?_⟩
    · exact getD_set_same (by rw [putRushes_rushes, List.length_set]; omega)
    · exact (getD_set_other (by omega)).trans (getD_set_same (by omega))
    · rw [ch_onCh (putRushes (8 * n + 5) none (putRushes (8 * n + 6) none s)) _ _ hl]

end Sys2Proof.Machine

/-! The checks of a reel in their order: the lowest failing position, the slate, the key, the signature and the sections (08 R246 to R248, R449). -/

namespace Sys2Proof.Machine

/-! ### The lowest failing position -/

theorem lowest_eq_min? (l : List Nat) : lowest l = l.min? := by cases l <;> rfl

theorem mem_failing {base cnt p : Nat} {bad : Nat → Bool} : p ∈ failing base cnt bad ↔ ∃ i, i < cnt ∧ bad i = true ∧ base + i = p := by
  simp [failing, and_assoc]

theorem lowest_failing_none {base cnt : Nat} {bad : Nat → Bool} (h : ∀ i, i < cnt → bad i = false) : lowest (failing base cnt bad) = none := by
  rw [lowest_eq_min?, List.min?_eq_none_iff, List.eq_nil_iff_forall_not_mem]
  intro p hp
  obtain ⟨i, hi, hb, -⟩ := mem_failing.mp hp
  exact absurd hb (by simp [h i hi])

theorem lowest_failing_eq {base cnt i : Nat} {bad : Nat → Bool} (hi : i < cnt) (hb : bad i = true) (hmin : ∀ j, j < i → bad j = false) :
    lowest (failing base cnt bad) = some (base + i) := by
  rw [lowest_eq_min?, List.min?_eq_some_iff]
  refine ⟨mem_failing.mpr ⟨i, hi, hb, rfl⟩, fun q hq => ?_⟩
  obtain ⟨j, -, hj, rfl⟩ := mem_failing.mp hq
  have hle : i ≤ j := not_lt.mp fun hlt => absurd hj (by simp [hmin j hlt])
  omega

/-- Where a word fails, the lowest that does is a failing one no later. -/
theorem lowest_failing_of_bad {base cnt i : Nat} {bad : Nat → Bool} (hi : i < cnt) (hb : bad i = true) :
    ∃ j, lowest (failing base cnt bad) = some (base + j) ∧ j ≤ i ∧ bad j = true := by
  have hex : ∃ j, bad j = true := ⟨i, hb⟩
  have hle : Nat.find hex ≤ i := Nat.find_min' hex hb
  exact ⟨Nat.find hex, lowest_failing_eq (lt_of_le_of_lt hle hi) (Nat.find_spec hex) fun j hj => Bool.eq_false_iff.mpr (Nat.find_min hex hj),
    hle, Nat.find_spec hex⟩

/-- Of words of which two alone may fail, the lowest. -/
theorem lowest_failing_two {base cnt a b : Nat} {bad : Nat → Bool} (hab : a < b) (hb : b < cnt)
    (h : ∀ i, i < cnt → bad i = true → i = a ∨ i = b) :
    lowest (failing base cnt bad) = if bad a = true then some (base + a) else if bad b = true then some (base + b) else none := by
  have hrest : ∀ i, i < cnt → i ≠ a → i ≠ b → bad i = false := fun i hi ha hb =>
    Bool.eq_false_iff.mpr fun hbad => (h i hi hbad).elim ha hb
  split
  · exact lowest_failing_eq (by omega) ‹_› fun j hj => hrest j (by omega) (by omega) (by omega)
  · have ha : bad a = false := Bool.eq_false_iff.mpr ‹_›
    split
    · refine lowest_failing_eq hb ‹_› fun j hj => ?_
      by_cases hja : j = a
      · exact hja ▸ ha
      · exact hrest j (by omega) hja (by omega)
    · have hb' : bad b = false := Bool.eq_false_iff.mpr ‹_›
      refine lowest_failing_none fun i hi => ?_
      by_cases hia : i = a
      · exact hia ▸ ha
      · by_cases hib : i = b
        · exact hib ▸ hb'
        · exact hrest i hi hia hib

/-! ### The key and the signature -/

/-- A word of the key fails by its check or, one of the two with padding, by that. -/
theorem keyWordBad_iff (ws : List W36) (i : Nat) :
    keyWordBad ws i = true ↔ imgWordOk ws i = false ∨ ((i = 17 ∨ i = 31) ∧ fld (wData (ws.getD i 0)) 7 0 ≠ 0) := by
  simp [keyWordBad]

theorem keyFails_hash {ws : List W36} (h : ∀ i, 4 ≤ i → i < 32 → imgWordOk ws i = true) : keyFails ws false = some 4 := by
  have hall : ((List.range 28).all fun i => imgWordOk ws (4 + i)) = true := by
    rw [List.all_eq_true]
    intro i hi
    exact h _ (by omega) (by have := List.mem_range.mp hi; omega)
  simp [keyFails, hall]

theorem keyFails_words (ws : List W36) : keyFails ws true = lowest (failing 4 28 fun i => keyWordBad ws (4 + i)) := by
  simp [keyFails]

/-- With every word read, the padding of words 17 and 31 is what is left to fail. -/
theorem keyFails_padding {ws : List W36} (h : ∀ i, 4 ≤ i → i < 32 → imgWordOk ws i = true) :
    keyFails ws true = if fld (wData (ws.getD 17 0)) 7 0 ≠ 0 then some 17 else if fld (wData (ws.getD 31 0)) 7 0 ≠ 0 then some 31 else none := by
  have hpad : ∀ i, 4 ≤ i → i < 32 → (keyWordBad ws i = true ↔ (i = 17 ∨ i = 31) ∧ fld (wData (ws.getD i 0)) 7 0 ≠ 0) := fun i h4 h32 => by
    simp [keyWordBad_iff, h i h4 h32]
  have h17 : keyWordBad ws (4 + 13) = true ↔ fld (wData (ws.getD 17 0)) 7 0 ≠ 0 := by simp [hpad 17]
  have h31 : keyWordBad ws (4 + 27) = true ↔ fld (wData (ws.getD 31 0)) 7 0 ≠ 0 := by simp [hpad 31]
  rw [keyFails_words, lowest_failing_two (a := 13) (b := 27) (by omega) (by omega) fun i hi hb => ?_]
  · simp only [h17, h31]
  · have := ((hpad (4 + i) (by omega) (by omega)).mp hb).1
    omega

/-- A word of the key that fails is found no later than it stands, whatever the hash. -/
theorem keyFails_of_word {ws : List W36} {i : Nat} (hashOk : Bool) (h4 : 4 ≤ i) (h32 : i < 32) (hb : keyWordBad ws i = true) :
    ∃ p, keyFails ws hashOk = some p ∧ p ≤ i := by
  obtain ⟨j, hlow, hj, -⟩ := lowest_failing_of_bad (base := 4) (cnt := 28) (i := i - 4) (bad := fun i => keyWordBad ws (4 + i)) (by omega)
    (by rwa [Nat.add_sub_cancel' h4])
  unfold keyFails
  dsimp only
  split
  · exact ⟨4, rfl, h4⟩
  · exact ⟨4 + j, hlow, by omega⟩

/-- A key that does not hash to the owner's fails the check, at its words or at word 4. -/
theorem keyFails_of_hash (ws : List W36) : ∃ p, keyFails ws false = some p := by
  by_cases h : ∀ i, 4 ≤ i → i < 32 → imgWordOk ws i = true
  · exact ⟨4, keyFails_hash h⟩
  · push Not at h
    obtain ⟨i, h4, h32, hb⟩ := h
    obtain ⟨p, hp, -⟩ := keyFails_of_word false h4 h32 ((keyWordBad_iff ws i).mpr (.inl (Bool.eq_false_iff.mpr hb)))
    exact ⟨p, hp⟩

theorem keyFails_none {ws : List W36} (h : ∀ j, 4 ≤ j → j < 32 → keyWordBad ws j = false) : keyFails ws true = none :=
  (keyFails_words ws).trans (lowest_failing_none fun i hi => h (4 + i) (by omega) (by omega))

theorem sigFails_padding (ds : List D28) :
    sigFails ds true = if fld (dw ds 45) 7 0 ≠ 0 then some 45 else if fld (dw ds 59) 7 0 ≠ 0 then some 59 else none := by
  unfold sigFails
  rw [if_neg (by decide), lowest_failing_two (a := 0) (b := 14) (by omega) (by omega) fun i hi hb => by simp at hb; exact hb.1]
  simp

/-! ### The slate and the sections -/

theorem slateBad_layout (ws : List W36) : slateBad ws 0 = true ↔ imgWordOk ws 0 = false ∨ fld (wData (ws.getD 0 0)) 27 12 ≠ 0x51A7 ∨
    fld (wData (ws.getD 0 0)) 11 8 ≠ 1 ∨ fld (wData (ws.getD 0 0)) 7 0 ≠ 0 := by
  simp [slateBad, or_assoc]

theorem slateBad_length (ws : List W36) : slateBad ws 1 = true ↔ imgWordOk ws 1 = false ∨ fld (wData (ws.getD 1 0)) 27 12 < 80 ∨
    58254 < fld (wData (ws.getD 1 0)) 27 12 ∨ fld (wData (ws.getD 1 0)) 11 6 < 3 ∨ 11 < fld (wData (ws.getD 1 0)) 11 6 ∨
    fld (wData (ws.getD 1 0)) 5 0 ≠ 0 := by
  simp [slateBad, or_assoc]

theorem slateBad_device (ws : List W36) : slateBad ws 2 = true ↔ imgWordOk ws 2 = false ∨ fld (wData (ws.getD 2 0)) 27 12 ≠ 0x1242 ∨
    0x10 < fld (wData (ws.getD 2 0)) 11 4 ∨ fld (wData (ws.getD 2 0)) 3 0 ≠ 0 := by
  simp [slateBad, or_assoc]

theorem slateBad_rollback (ws : List W36) : slateBad ws 3 = true ↔ imgWordOk ws 3 = false ∨ 64 < fld (wData (ws.getD 3 0)) 27 21 := by
  simp [slateBad]

/-- The first section that fails gives its code, behind sections that pass. -/
theorem sectionsFail_first {a b : List DirEntry} {e : DirEntry} {p : Nat} {ds : List D28} {pl : Plan} (ha : ∀ x ∈ a, sectionFails ds pl x = [])
    (he : lowest (sectionFails ds pl e) = some p) : sectionsFail ds pl (a ++ e :: b) = some (8 + e.typ, p) := by
  induction a with
  | nil => simp [sectionsFail, he]
  | cons x a ih =>
    obtain ⟨hx, ha⟩ := List.forall_mem_cons.mp ha
    have hstep : sectionsFail ds pl (x :: (a ++ e :: b)) = sectionsFail ds pl (a ++ e :: b) := by simp [sectionsFail, hx, lowest]
    rw [List.cons_append, hstep, ih ha]

/-! ### Steps 4 to 8 -/

section Rest
variable {otp : Otp} {key : Nat × Nat} {ws : List W36} {nib : BitVec 4} {n nsec : Nat}

/-- The signature of an image verifies over its signed message. -/
def sigVerified (key : Nat × Nat) (ws : List W36) (nib : BitVec 4) : Bool :=
  ecdsaVerify key (signedMessage ws nib) (join384 (group14 (ws.map wData) 32 0)) (join384 (group14 (ws.map wData) 32 1))

/-- The steps in their order; the checks of the signature stay folded, as nothing here looks into them. -/
theorem checkRest_eq : checkRest otp key ws nib n nsec =
    ((lowest (failing 32 (n - 32) fun i => !imgWordOk ws (32 + i))).map fun p => ⟨4, p, some key, none⟩).getD
      (((sigFails (ws.map wData) (sigVerified key ws nib)).map fun p => ⟨5, p, some key, none⟩).getD
        (if fld (dw (ws.map wData) 3) 27 21 < otp.arbfuse then ⟨6, 3, some key, none⟩ else
          ((lowest (layoutFails (ws.map wData) n nsec)).map fun p => ⟨8, p, some key, none⟩).getD
            (((sectionsFail (ws.map wData) (planOf (ws.map wData) (directory (ws.map wData) nsec)) (directory (ws.map wData) nsec)).map
              fun x => ⟨x.1, x.2, some key, none⟩).getD
              ⟨0, 0, some key, some (planOf (ws.map wData) (directory (ws.map wData) nsec))⟩))) := by
  delta checkRest sigVerified
  generalize ecdsaVerify = verify
  cases lowest (failing 32 (n - 32) fun i => !imgWordOk ws (32 + i)) with
  | some p => rfl
  | none =>
    dsimp only [Option.map_none, Option.getD_none]
    generalize sigFails (ws.map wData) _ = sig
    cases sig with
    | some p => rfl
    | none =>
      refine if_congr Iff.rfl rfl ?_
      cases lowest (layoutFails (ws.map wData) n nsec) with
      | some p => rfl
      | none => cases sectionsFail (ws.map wData) (planOf (ws.map wData) (directory (ws.map wData) nsec)) (directory (ws.map wData) nsec) <;> rfl

theorem checkRest_word {i : Nat} (h32 : 32 ≤ i) (hn : i < n) (hb : imgWordOk ws i = false) :
    ∃ p, checkRest otp key ws nib n nsec = ⟨4, p, some key, none⟩ ∧ p ≤ i ∧ imgWordOk ws p = false := by
  obtain ⟨j, hlow, hj, hbad⟩ := lowest_failing_of_bad (base := 32) (cnt := n - 32) (i := i - 32) (bad := fun i => !imgWordOk ws (32 + i))
    (by omega) (by simp [Nat.add_sub_cancel' h32, hb])
  exact ⟨32 + j, by rw [checkRest_eq, hlow]; rfl, by omega, by simpa using hbad⟩

/-- With every word read, the signature is checked next. -/
theorem words_pass (h : ∀ j, 32 ≤ j → j < n → imgWordOk ws j = true) : lowest (failing 32 (n - 32) fun i => !imgWordOk ws (32 + i)) = none :=
  lowest_failing_none fun i hi => by simp [h (32 + i) (by omega) (by omega)]

theorem checkRest_sig {p : Nat} (h : ∀ j, 32 ≤ j → j < n → imgWordOk ws j = true) (hs : sigFails (ws.map wData) (sigVerified key ws nib) = some p) :
    checkRest otp key ws nib n nsec = ⟨5, p, some key, none⟩ := by
  rw [checkRest_eq, words_pass h, hs]
  rfl

theorem checkRest_rollback (h : ∀ j, 32 ≤ j → j < n → imgWordOk ws j = true)
    (hs : sigFails (ws.map wData) (sigVerified key ws nib) = none) (ha : fld (dw (ws.map wData) 3) 27 21 < otp.arbfuse) :
    checkRest otp key ws nib n nsec = ⟨6, 3, some key, none⟩ := by
  rw [checkRest_eq, words_pass h, hs]
  exact if_pos ha

/-- With the rollback check passed too: the layout, then the sections. -/
theorem checkRest_current (h : ∀ j, 32 ≤ j → j < n → imgWordOk ws j = true)
    (hs : sigFails (ws.map wData) (sigVerified key ws nib) = none) (ha : otp.arbfuse ≤ fld (dw (ws.map wData) 3) 27 21) :
    checkRest otp key ws nib n nsec = ((lowest (layoutFails (ws.map wData) n nsec)).map fun p => ⟨8, p, some key, none⟩).getD
      (((sectionsFail (ws.map wData) (planOf (ws.map wData) (directory (ws.map wData) nsec)) (directory (ws.map wData) nsec)).map
        fun x => ⟨x.1, x.2, some key, none⟩).getD ⟨0, 0, some key, some (planOf (ws.map wData) (directory (ws.map wData) nsec))⟩) := by
  rw [checkRest_eq, words_pass h, hs]
  exact if_neg (not_lt.mpr ha)

theorem checkRest_key : (checkRest otp key ws nib n nsec).key = some key := by
  rw [checkRest_eq]
  cases lowest (failing 32 (n - 32) fun i => !imgWordOk ws (32 + i)) with
  | some p => rfl
  | none =>
    cases sigFails (ws.map wData) (sigVerified key ws nib) with
    | some p => rfl
    | none =>
      refine (apply_ite Verdict.key _ _ _).trans ((if_congr Iff.rfl rfl ?_).trans (ite_self (some key)))
      cases lowest (layoutFails (ws.map wData) n nsec) with
      | some p => rfl
      | none => cases sectionsFail (ws.map wData) (planOf (ws.map wData) (directory (ws.map wData) nsec)) (directory (ws.map wData) nsec) <;> rfl

end Rest

/-! ### Steps 1 to 3 -/

/-- N, the words of the image and its key, as a reel's slate gives them. -/
def imageLength (r : ReelRead) : Nat := fld (wData (r.words.getD 1 0)) 27 12

def imageWords (r : ReelRead) : List W36 := r.words.take (imageLength r)

def imageKey (r : ReelRead) : Nat × Nat := slateKey ((imageWords r).map wData)

/-- The key is the owner's: a point whose hash the OTP holds and has locked. -/
def ownersKey (otp : Otp) (key : Nat × Nat) : Bool := otp.okhlock && onCurve key && keyHash key == otp.okh

theorem ownersKey_iff (otp : Otp) (key : Nat × Nat) :
    ownersKey otp key = true ↔ otp.okhlock = true ∧ onCurve key = true ∧ keyHash key = otp.okh := by
  simp [ownersKey, and_assoc]

section Reel
variable {otp : Otp} {detected : Bool} {base dens : Nat} {r : ReelRead}

/-- The steps in their order; nothing here looks into the hash of the key or the steps behind it. -/
theorem checkReel_eq : checkReel otp detected base dens r =
    ((readFails detected base dens r).map fun p => ⟨1, p, none, none⟩).getD
      (((lowest (failing 0 4 (slateBad r.words))).map fun p => ⟨2, p, none, none⟩).getD
        (((keyFails (imageWords r) (ownersKey otp (imageKey r))).map fun p => ⟨3, p, none, none⟩).getD
          (checkRest otp (imageKey r) (imageWords r) r.nibble (imageLength r) (fld (wData (r.words.getD 1 0)) 11 6)))) := by
  delta checkReel ownersKey imageKey imageWords imageLength
  generalize checkRest = rest
  generalize keyHash = hash
  generalize onCurve = curve
  cases readFails detected base dens r with
  | some p => rfl
  | none =>
    cases lowest (failing 0 4 (slateBad r.words)) with
    | some p => rfl
    | none =>
      dsimp only [Option.map_none, Option.getD_none]
      generalize keyFails _ _ = fails
      cases fails <;> rfl

theorem checkReel_of_read {p : Nat} (h : readFails detected base dens r = some p) : checkReel otp detected base dens r = ⟨1, p, none, none⟩ := by
  rw [checkReel_eq, h]
  rfl

theorem readFails_broken (hr : reelRoom base dens = none) (hf : r.failed = true ∨ r.dqsTimeout = true) :
    readFails true base dens r = some r.words.length := by
  simp [readFails, hr, hf]

theorem readFails_short {k : Nat} (hr : reelRoom base dens = some k) :
    readFails true base dens r = some (if r.failed = true ∨ r.dqsTimeout = true then min k r.words.length else k) := by
  simp [readFails, hr]

theorem readFails_none (hr : reelRoom base dens = none) (hf : r.failed = false) (hd : r.dqsTimeout = false) : readFails true base dens r = none := by
  simp [readFails, hr, hf, hd]

theorem checkReel_slate {i : Nat} (hread : readFails detected base dens r = none) (hi : i < 4) (hb : slateBad r.words i = true) :
    ∃ p, checkReel otp detected base dens r = ⟨2, p, none, none⟩ ∧ p ≤ i ∧ slateBad r.words p = true := by
  obtain ⟨j, hlow, hj, hbad⟩ := lowest_failing_of_bad (base := 0) hi hb
  rw [Nat.zero_add] at hlow
  exact ⟨j, by rw [checkReel_eq, hread, hlow]; rfl, hj, hbad⟩

/-- With the slate passed, the key is checked over the image's words, and the rest behind it. -/
theorem checkReel_slated (hread : readFails detected base dens r = none) (hs : ∀ j, j < 4 → slateBad r.words j = false) :
    checkReel otp detected base dens r = ((keyFails (imageWords r) (ownersKey otp (imageKey r))).map fun p => ⟨3, p, none, none⟩).getD
      (checkRest otp (imageKey r) (imageWords r) r.nibble (imageLength r) (fld (wData (r.words.getD 1 0)) 11 6)) := by
  rw [checkReel_eq, hread, lowest_failing_none hs]
  rfl

theorem checkReel_key {p : Nat} (hread : readFails detected base dens r = none) (hs : ∀ j, j < 4 → slateBad r.words j = false)
    (hk : keyFails (imageWords r) (ownersKey otp (imageKey r)) = some p) : checkReel otp detected base dens r = ⟨3, p, none, none⟩ := by
  rw [checkReel_slated hread hs, hk]
  rfl

/-- With the key passed, the verdict is that of the steps behind it. -/
theorem checkReel_keyed (hread : readFails detected base dens r = none) (hs : ∀ j, j < 4 → slateBad r.words j = false)
    (hk : keyFails (imageWords r) (ownersKey otp (imageKey r)) = none) : checkReel otp detected base dens r =
      checkRest otp (imageKey r) (imageWords r) r.nibble (imageLength r) (fld (wData (r.words.getD 1 0)) 11 6) := by
  rw [checkReel_slated hread hs, hk]
  rfl

end Reel

/-! ### The calibration area -/

/-- Which KINDs hold unsigned words, and what a word of each gives. -/
theorem calWordInUse_data {kind addr : Nat} {w : W36} (c : Cal) (h : isData addr w = true) : calWordInUse kind addr w c =
    ⟨if kind = 0 ∨ kind = 2 ∨ kind = 5 ∨ kind = 7 ∨ kind = 9 then (fld (wData w) 15 0 : Int)
      else (BitVec.ofNat 16 (fld (wData w) 15 0)).toInt, true⟩ := by
  simp [calWordInUse, h, calUnsigned]

theorem calWordInUse_void {kind addr : Nat} {w : W36} (c : Cal) (h : isData addr w = false) : calWordInUse kind addr w c = { c with valid := false } := by
  simp [calWordInUse, h]

/-- Word i of the k-th KIND from `kind` on stands behind the words of the KINDs before it. -/
theorem loadCal_word {k i : Nat} {kind base : Nat} {stored : List (List W36)} {nominal : List (List Cal)} {cs : List Cal} {cw : List W36} {c : Cal}
    (hn : nominal[k]? = some cs) (hc : cs[i]? = some c) (hs : stored[k]? = some cw) :
    ((loadCal kind base stored nominal).getD k [])[i]? =
      some (calWordInUse (kind + k) (base + ((nominal.take k).map List.length).sum + i) (cw.getD i 0) c) := by
  induction k generalizing kind base stored nominal with
  | zero =>
    match nominal, stored, hn, hs with
    | n :: nominal, w :: stored, hn, hs =>
      obtain rfl : n = cs := Option.some.inj hn
      obtain rfl : w = cw := Option.some.inj hs
      simp [loadCal, hc]
  | succ k ih =>
    match nominal, stored, hn, hs with
    | n :: nominal, w :: stored, hn, hs =>
      rw [loadCal, List.getD_cons_succ, ih hn hs]
      simp only [List.take_succ_cons, List.map_cons, List.sum_cons]
      congr 2 <;> omega

end Sys2Proof.Machine

/-! Flash detection and the load of the reels (08 R245 to R252, 10 R291 to R296, 07 R195). -/

namespace Sys2Proof.Machine

/-! ### Flash detection -/

theorem detect_octal {f : FlashProbe} (h : f.sfdp1S = false) (ho : octalFound f = true) : detect f = (3, f.dummyOctal.getD 20) := by
  simp [detect, h, ho]

theorem detect_silent {f : FlashProbe} (h : f.sfdp1S = false) (ho : octalFound f = false) : detect f = (0, 0) := by
  simp [detect, h, ho]

theorem detect_quad {f : FlashProbe} (h : f.sfdp1S = true) (hd : f.quadDeclared = true) (hm : f.quadMatch = true) : detect f = (2, f.dummyQuad) := by
  simp [detect, h, hd, hm]

theorem detect_single {f : FlashProbe} (h : f.sfdp1S = true) (hq : f.quadDeclared = false ∨ f.quadMatch = false) : detect f = (1, 0) := by
  have hno : ¬(f.quadDeclared = true ∧ f.quadMatch = true) := fun ⟨hd, hm⟩ => by simp [hd, hm] at hq
  simp [detect, h, hno]

theorem octalFound_true {f : FlashProbe} (h : f.sfdp8D = true) (hd : f.dqsTimeout = false) : octalFound f = true := by simp [octalFound, h, hd]

theorem octalFound_false {f : FlashProbe} (h : f.sfdp8D = false ∨ f.dqsTimeout = true) : octalFound f = false := by
  rcases h with h | h <;> simp [octalFound, h]

/-- No mode is found exactly when neither Read SFDP gives the signature. -/
theorem detect_zero_iff (f : FlashProbe) : (detect f).1 = 0 ↔ f.sfdp1S = false ∧ octalFound f = false := by
  cases h1 : f.sfdp1S with
  | true =>
    have hne : (detect f).1 ≠ 0 := by
      by_cases hq : f.quadDeclared = true ∧ f.quadMatch = true
      · simp [detect_quad h1 hq.1 hq.2]
      · simp [detect_single h1 (by simpa only [Bool.not_eq_true] using not_and_or.mp hq)]
    simpa using hne
  | false =>
    cases ho : octalFound f with
    | true => simp [detect_octal h1 ho]
    | false => simp [detect_silent h1 ho]

theorem sfdpFound_silent {f : FlashProbe} (h : f.sfdp1S = false) (ho : octalFound f = false) : sfdpFound f = none := by
  simp [sfdpFound, h, ho]

theorem sfdpFetched_found {f : FlashProbe} (h : (detect f).1 ≠ 0) : sfdpFetched f = min f.sfdpBytes 256 := by
  unfold sfdpFetched sfdpFound
  cases h1 : f.sfdp1S with
  | true => rfl
  | false =>
    cases ho : octalFound f with
    | true => rfl
    | false => exact absurd ((detect_zero_iff f).mpr ⟨h1, ho⟩) h

theorem sfdpFetched_le (f : FlashProbe) : sfdpFetched f ≤ 256 := by
  by_cases h : (detect f).1 = 0
  · obtain ⟨h1, ho⟩ := (detect_zero_iff f).mp h
    simp [sfdpFetched, sfdpFound_silent h1 ho]
  · rw [sfdpFetched_found h]
    exact min_le_right _ _

theorem detected_found {f : FlashProbe} (fl : Flash) (h : (detect f).1 ≠ 0) : detected f fl = { fl with
    sfdp := sfdpFound f, sfdpBytes := min f.sfdpBytes 256, read := arrayRead f, mode := (detect f).1, dummy := (detect f).2,
    densLog := f.densLog, lastPg := lastPage f.densLog, dqsto := fl.dqsto || (!f.sfdp1S && f.dqsTimeout) } := by
  rw [← sfdpFetched_found h]
  exact if_neg h

theorem detected_silent {f : FlashProbe} (fl : Flash) (h : (detect f).1 = 0) : detected f fl =
    { fl with sfdp := none, sfdpBytes := 0, read := none, mode := 0, dqsto := fl.dqsto || (!f.sfdp1S && f.dqsTimeout) } := by
  obtain ⟨h1, ho⟩ := (detect_zero_iff f).mp h
  have hd := detect_silent h1 ho
  have hs := sfdpFound_silent h1 ho
  simp [detected, arrayRead, sfdpFetched, sfdpTimeout, hd, hs]

theorem flashDetect_gives {f : FlashProbe} {s : State} (hp : s.dev.phase = .flash) (hc : s.coreRuns = true) :
    Gives (.flashDetect f) s { s with dev := { s.dev with phase := .load, reel := 1 }, flash := detected f s.flash } :=
  gives_of_eq rfl (if_neg (by simp [hp, hc]))

/-! ### The scan and the counters leave the device alone -/

theorem nextImage_eq (s : State) : ∃ v st, nextImage s = { s with nvs := v, store := st } := by
  unfold nextImage
  split
  · exact ⟨_, _, rfl⟩
  · exact ⟨s.nvs, s.store, rfl⟩

theorem scanStore_eq (s : State) : ∃ sup v st, scanStore s = { s with sup := sup, nvs := v, store := st } := by
  obtain ⟨v, st, h⟩ := nextImage_eq _
  unfold scanStore
  dsimp only
  rw [h]
  exact ⟨_, _, _, rfl⟩

/-- What neither the aftermath nor the store's control touches stands when the counters page is requested. -/
theorem startCounters_keeps {α : Type} (g : State → α) (hs : ∀ s : State, g s.still = g s)
    (hg : ∀ (s : State) (v : Nvs) (st : Store), g { s with nvs := v, store := st } = g s) (s : State) : g (startCounters s) = g s := by
  obtain ⟨v, st, h⟩ := tryProgram_eq (s.onNvs fun v => { v with cntPend := true })
  unfold startCounters
  split
  · rw [still_keeps g hs (still_logPut _ _), h]
    exact hg s v st
  · rfl

/-! ### The check of a reel -/

/-- The reel being tried begins at A's or at B's base. -/
def reelBase (s : State) : Nat := if s.dev.reel = 1 then 0 else 0x40000

/-- The outcome of the reel being tried. -/
def reelVerdict (r : ReelRead) (s : State) : Verdict := checkReel s.otpRead (s.flash.mode ≠ 0) (reelBase s) s.flash.densLog (readAs r s)

/-- The state before its check is recorded: with reel A the store is scanned. -/
def scanned (s : State) : State := if s.dev.reel = 1 then scanStore s else s

theorem scanned_eq (s : State) : ∃ sup v st, scanned s = { s with sup := sup, nvs := v, store := st } := by
  unfold scanned
  split
  · exact scanStore_eq s
  · exact ⟨s.sup, s.nvs, s.store, rfl⟩

/-- The owner's key after a reel's check: a reel that passes brings its own, one that passed its key check leaves that where none stands. -/
def ownerAfter (v : Verdict) (s : State) : Option (Nat × Nat) := if v.plan.isSome then v.key else s.trust.owner.orElse fun _ => v.key

/-- A reel's outcome as it is recorded, before its structure is applied or the next reel tried. -/
def concluded (reel : BitVec 2) (v : Verdict) (s : State) : State :=
  let t := recordLoad reel v s
  { t with trust := { t.trust with owner := ownerAfter v t } }

/-- The state that the check of the reel being tried leaves. -/
def judged (r : ReelRead) (s : State) : State := concluded s.dev.reel (reelVerdict r s) (noteDqs r.dqsTimeout (scanned s))

/-- A reel's check leaves the scanned store, its outcome, DQSTO and the key; the rest of the state stands. -/
theorem judged_eq (r : ReelRead) (s : State) : ∃ sup v st, judged r s = { s with
    sup := sup, nvs := v, store := st, flash := { s.flash with dqsto := s.flash.dqsto || dqsMissed r.dqsTimeout s },
    dev := (recordLoad s.dev.reel (reelVerdict r s) s).dev, trust := { s.trust with owner := ownerAfter (reelVerdict r s) s } } := by
  obtain ⟨sup, v, st, h⟩ := scanned_eq s
  refine ⟨sup, v, st, ?_⟩
  unfold judged
  rw [h]
  rfl

/-- The scan and DQSTO leave the verdict as it is. -/
theorem reelVerdict_noted (r : ReelRead) (s : State) : reelVerdict r (noteDqs r.dqsTimeout (scanned s)) = reelVerdict r s := by
  obtain ⟨sup, v, st, h⟩ := scanned_eq s
  rw [h]
  delta reelVerdict
  generalize checkReel = check
  rfl

/-- What the reel's outcome leads to: the structure of one that passes, else the next reel or none. -/
theorem reelDone_eq (r : ReelRead) (s : State) : reelDone r s = (reelVerdict r s).plan.elim
    (if s.dev.reel = 1 then onDev (fun d => { d with reel := 2 }) (judged r s) else onDev (fun d => { d with phase := .nostruct, reel := 0 }) (judged r s))
    fun p => applyStructure p (r.words.map wData) (judged r s) := by
  have hreel : (noteDqs r.dqsTimeout (scanned s)).dev.reel = s.dev.reel := by
    obtain ⟨sup, v, st, h⟩ := scanned_eq s
    rw [h]
    rfl
  unfold judged
  rw [← reelVerdict_noted]
  delta reelVerdict reelBase
  rw [hreel]
  delta reelDone scanned
  generalize checkReel = check
  dsimp only
  generalize check _ _ _ _ _ = v
  obtain ⟨code, pos, key, plan⟩ := v
  cases plan <;> rfl

/-! ### What the load leaves -/

/-- The words that the image gives a channel and nothing else of a step changes. -/
def Chan.image (c : Chan) : D28 × D28 × D28 × D28 := (c.topo, c.scth, c.i2t, c.limp)

theorem ch_of_map_eq {α : Type} {f : Chan → α} {s t : State} (h : t.chans.map f = s.chans.map f) (n : Nat) : f (t.ch n) = f (s.ch n) := by
  simpa only [State.ch, List.getD_map] using congrArg (fun l => l.getD n (f Chan.reset)) h

theorem image_still (s : State) : s.still.chans.map Chan.image = s.chans.map Chan.image :=
  List.map_map.trans (List.map_congr_left fun _ _ => rfl)

/-- The counters' request and the aftermath leave what `State.still` and the store's control leave. -/
theorem loadEnd_keeps {α : Type} (g : State → α) (hs : ∀ s : State, g s.still = g s)
    (hg : ∀ (s : State) (v : Nvs) (st : Store), g { s with nvs := v, store := st } = g s) (s : State) : g (settle (startCounters s)) = g s :=
  (still_keeps g hs (still_settle _)).trans (startCounters_keeps g hs hg s)

theorem reelLoadDone_exec (r : ReelRead) {s : State} (hp : s.dev.phase = .load) (hc : s.coreRuns = true) (hw : s.sup.ritesWait = none) :
    exec (.reelLoadDone r) s = .next (settle (startCounters (reelDone r s))) :=
  congrArg done (if_pos (by simp [hp, hc, hw]))

/-- A reel that fails leaves its outcome, and the start goes on with the next reel or without structure. -/
theorem reelDone_fails {r : ReelRead} {s : State} (hv : (reelVerdict r s).plan = none) : reelDone r s =
    if s.dev.reel = 1 then onDev (fun d => { d with reel := 2 }) (judged r s) else onDev (fun d => { d with phase := .nostruct, reel := 0 }) (judged r s) := by
  rw [reelDone_eq, hv]
  rfl

theorem reelDone_passes {r : ReelRead} {s : State} {p : Plan} (hv : (reelVerdict r s).plan = some p) :
    reelDone r s = applyStructure p (r.words.map wData) (judged r s) := by
  rw [reelDone_eq, hv]
  rfl

theorem judged_dev (r : ReelRead) (s : State) : (judged r s).dev = (recordLoad s.dev.reel (reelVerdict r s) s).dev := by
  obtain ⟨sup, v, st, h⟩ := judged_eq r s
  rw [h]

theorem judged_dqsto (r : ReelRead) (s : State) : (judged r s).flash.dqsto = (s.flash.dqsto || dqsMissed r.dqsTimeout s) := by
  obtain ⟨sup, v, st, h⟩ := judged_eq r s
  rw [h]

theorem judged_owner (r : ReelRead) (s : State) : (judged r s).trust.owner = ownerAfter (reelVerdict r s) s := by
  obtain ⟨sup, v, st, h⟩ := judged_eq r s
  rw [h]

theorem judged_chans (r : ReelRead) (s : State) : (judged r s).chans = s.chans := by
  obtain ⟨sup, v, st, h⟩ := judged_eq r s
  rw [h]

/-- DEV_LOADA or DEV_LOADB holds the code and the position. -/
theorem loadWord_eq (v : Verdict) : d28 (at_ 16 v.code + v.pos) = d28 (65536 * v.code + v.pos) := by
  rw [at_, Nat.mul_comm, show 2 ^ 16 = 65536 from rfl]

theorem recordLoad_a {v : Verdict} {s : State} : (recordLoad 1 v s).dev = { s.dev with loadA := d28 (65536 * v.code + v.pos) } := by
  rw [← loadWord_eq]
  rfl

theorem recordLoad_b {v : Verdict} {s : State} : (recordLoad 2 v s).dev = { s.dev with loadB := d28 (65536 * v.code + v.pos) } := by
  rw [← loadWord_eq]
  rfl

/-! ### The structure -/

theorem applyPlan_ch (p : Plan) (ws : List D28) {n : Nat} {s : State} (h : n < s.chans.length) :
    (applyPlan p ws s).ch n = applyChan p s.now ((newestMap s.store).map Copy.val) n (s.ch n) := by
  simp [applyPlan, State.ch, List.getD, h]

theorem applyPlan_tm (p : Plan) (ws : List D28) {t : Nat} {s : State} (h : t < s.timers.length) :
    (applyPlan p ws s).tm t = applyTimer p t (s.tm t) := by
  simp [applyPlan, State.tm, List.getD, h]

/-- The self-test's start, the stages' rest and the events behind it leave the structure as it was applied. -/
theorem applyStructure_still (p : Plan) (ws : List D28) (s : State) : (applyStructure p ws s).still = (startSet (applyPlan p ws s)).still := by
  unfold applyStructure
  rw [still_raise]
  exact still_ite ((still_enterLimp _).trans (still_ite (still_forEach _ _ still_safeUnit _) rfl))
    (still_ite (still_forEach _ _ still_safeUnit _) rfl)

/-! ### Events in the safe state -/

@[simp] theorem event_chans (tag : Nat) (s : State) : (event tag s).chans = s.chans := by
  obtain ⟨e, he⟩ := event_eq tag s
  rw [he]

@[simp] theorem logStore_chans (r : Rec) (s : State) : (logStore r s).chans = s.chans := by
  unfold logStore
  split
  · rfl
  · split <;> rfl

@[simp] theorem logPut_chans (r0 : Nat) (s : State) : (logPut r0 s).chans = s.chans := by
  unfold logPut
  split <;> simp

/-- In the safe state an event is recorded and nothing issued (07 R196). -/
theorem recordEvent_chans {e : Ev} {s : State} (h : s.flt.safe = true) : (recordEvent e s).chans = s.chans := by
  unfold recordEvent
  simp only [h, if_true]
  split
  · rfl
  · rw [event_chans, logPut_chans]
    rfl

theorem raiseOne_chans (ws : List Window) (e : Ev) {s : State} (h : s.flt.safe = true) :
    (let s := if lastingSource e.src then s.onFlt fun f => { f with lasting := setBit f.lasting e.src } else s
      if ws.any fun w => lists s.flt w e.src then conseqEvent e s else recordEvent e s).chans = s.chans := by
  have hone : ∀ t : State, t.flt.safe = true → t.chans = s.chans →
      (if ws.any fun w => lists t.flt w e.src then conseqEvent e t else recordEvent e t).chans = s.chans := fun t ht hc => by
    split
    · exact hc
    · exact (recordEvent_chans ht).trans hc
  exact hone _ (by split <;> exact h) (by split <;> rfl)

theorem raise_chans {evs : List Ev} {s : State} (h : s.flt.safe = true) : (raise evs s).chans = s.chans := by
  unfold raise
  generalize openWindows s = ws
  generalize ranked s (evs.filter fun e => !unrecorded s e.src) = es
  dsimp only
  induction es generalizing s with
  | nil => rfl
  | cons e es ih => exact (ih ((grows_raiseOne ws e s).safe h)).trans (raiseOne_chans ws e h)

/-! ### A unit's rest in the safe state (07 R195) -/

/-- A bridge whose two channels both choose ON is held in BRAKE. -/
def restBridge (safefw : D28) (u : Nat) : Bridge :=
  if fld safefw (2 * u + 1) (2 * u) = 2 ∧ fld safefw (2 * u + 3) (2 * u + 2) = 2 then .brake else .coast

theorem safeUnit_other {u v : Nat} (h : v ≠ u) (s : State) : ((safeUnit v s).ch u).bridge = (s.ch u).bridge := by
  rw [safeUnit, ch_onCh_ne _ _ _ _ h, unitOff_eq, ch_onCh_ne _ _ _ _ h]
  exact forEachCh_keep Chan.bridge (F := fun t n c => { c with hs := 0, fw := restFw t n }) (fun _ _ _ => rfl) _ s u

theorem safeUnit_bridge {u : Nat} {s : State} (hu : u < s.chans.length) (hb : isBridge s u = true) :
    ((safeUnit u s).ch u).bridge = restBridge s.flt.safefw u := by
  rw [safeUnit, ch_onCh _ _ _ (by rwa [unitOff_length])]
  simp [restBridge, hb]

/-- After every unit of a list has come to rest, a bridge among them stands as FLT_SAFEFW chooses. -/
theorem safeUnits_bridge {u : Nat} {l : List Nat} {s : State} (hu : u < s.chans.length) (hb : isBridge s u = true)
    (h : u ∈ l ∨ (s.ch u).bridge = restBridge s.flt.safefw u) : ((forEach l safeUnit s).ch u).bridge = restBridge s.flt.safefw u := by
  induction l generalizing s with
  | nil => exact h.resolve_left List.not_mem_nil
  | cons v l ih =>
    have hst := still_safeUnit v s
    have hfw : (safeUnit v s).flt.safefw = s.flt.safefw := still_keeps (fun t => t.flt.safefw) (fun _ => rfl) hst
    have hb' : isBridge (safeUnit v s) u = true := (isBridge_congr (ch_keeps Chan.topo (fun _ => rfl) hst u)).trans hb
    rw [forEach_cons, ← hfw]
    refine ih ((chans_length_of_still hst).symm ▸ hu) hb' ?_
    rw [hfw]
    by_cases hv : v = u
    · exact .inr (hv ▸ safeUnit_bridge (hv ▸ hu) (hv ▸ hb))
    · rw [safeUnit_other hv]
      exact h.imp_left fun hm => (List.mem_cons.mp hm).resolve_left (Ne.symm hv)

/-- The words that an image sets are not the safe state. -/
theorem Flt.safe_words (f : Flt) (rx cqgl cqch : List D28) (cfg safefw : D28) :
    ({ f with rx := rx, cqgl := cqgl, cqch := cqch, cfg := cfg, safefw := safefw } : Flt).safe = f.safe := rfl

theorem structured_safe (p : Plan) (ws : List D28) (s : State) : (startSet (applyPlan p ws s)).flt.safe = s.flt.safe :=
  Flt.safe_words s.flt _ _ _ _ _

/-- Units that have come to rest in the safe state stay so through the events behind them. -/
theorem raise_rested {z : State} (evs : List Ev) (h : z.flt.safe = true) :
    (raise evs (forEach (leaders z) safeUnit z)).chans = (forEach (leaders z) safeUnit z).chans := by
  have hflt : (forEach (leaders z) safeUnit z).flt = z.flt :=
    flt_forEach' (fun u t => (flt_onCh' (flt_unitOff _ _) : (safeUnit u t).flt = t.flt)) rfl
  exact raise_chans (hflt ▸ h)

theorem rested_asserted (z : State) : (forEach (leaders z) safeUnit z).limp.asserted = z.limp.asserted :=
  still_keeps (fun t => t.limp.asserted) (fun _ => rfl) (still_forEach (leaders z) _ still_safeUnit z)

/-- Structure applied in a safe state entered before it, without limp-home: every unit comes to rest on the new words. -/
theorem applyStructure_safe {p : Plan} {ws : List D28} {s : State} (hs : s.flt.safe = true) (hl : s.limp.asserted = false) :
    (applyStructure p ws s).chans = (forEach (leaders (startSet (applyPlan p ws s))) safeUnit (startSet (applyPlan p ws s))).chans := by
  have hsafe := (structured_safe p ws s).trans hs
  have hlimp : (forEach (leaders (startSet (applyPlan p ws s))) safeUnit (startSet (applyPlan p ws s))).limp.asserted = false :=
    (rested_asserted _).trans hl
  unfold applyStructure
  simp only [hsafe, if_true, hlimp, Bool.false_eq_true, if_false]
  exact raise_rested _ hsafe

/-- A bridge's stages in that safe state. -/
theorem applyStructure_bridge {p : Plan} {ws : List D28} {u : Nat} {s : State} (hs : s.flt.safe = true) (hl : s.limp.asserted = false)
    (hlen : s.chans.length = 12) (hb : isBridge (applyStructure p ws s) u = true) (hu : u ∈ leaders (applyStructure p ws s)) :
    ((applyStructure p ws s).ch u).bridge = restBridge (dw p.react 73) u := by
  have htopo : ∀ k, ((applyStructure p ws s).ch k).topo = ((startSet (applyPlan p ws s)).ch k).topo :=
    ch_keeps Chan.topo (fun _ => rfl) (applyStructure_still p ws s)
  have hlead : leaders (applyStructure p ws s) = leaders (startSet (applyPlan p ws s)) := by
    simp only [leaders, fun k => leader_congr (htopo k)]
  have hu12 : u < 12 := List.mem_range.mp (List.mem_filter.mp hu).1
  have hlen' : (startSet (applyPlan p ws s)).chans.length = 12 := List.length_mapIdx.trans hlen
  rw [isBridge_congr (htopo u)] at hb
  rw [hlead] at hu
  simp only [State.ch, applyStructure_safe hs hl]
  exact safeUnits_bridge (by omega) hb (.inl hu)

end Sys2Proof.Machine

/-! O29: each clause by the lemma about its part of the load. -/

namespace Sys2Proof.Machine

theorem reelVerdict_at {r : ReelRead} {s : State} {base : Nat} {v : Verdict} (hb : reelBase s = base)
    (hv : v = checkReel s.otpRead (s.flash.mode ≠ 0) base s.flash.densLog (readAs r s)) : reelVerdict r s = v := by
  rw [hv, ← hb]
  rfl

/-- Reel A fails: its outcome stands in DEV_LOADA, and the load tries B. -/
theorem load_failsA {r : ReelRead} {s : State} (hp : s.dev.phase = .load) (hc : s.coreRuns = true) (hw : s.sup.ritesWait = none)
    (hr : s.dev.reel = 1) (hv : (reelVerdict r s).plan = none) : ∃ t, exec (.reelLoadDone r) s = .next t ∧
      t.dev = { s.dev with loadA := d28 (65536 * (reelVerdict r s).code + (reelVerdict r s).pos), reel := 2 } ∧
      t.flash.dqsto = (s.flash.dqsto || dqsMissed r.dqsTimeout s) := by
  have hdone : reelDone r s = onDev (fun d => { d with reel := 2 }) (judged r s) := (reelDone_fails hv).trans (if_pos hr)
  refine ⟨_, reelLoadDone_exec r hp hc hw, ?_, ?_⟩
  · rw [loadEnd_keeps State.dev (fun _ => rfl) (fun _ _ _ => rfl), hdone, onDev, judged_dev, hr, recordLoad_a]
  · rw [loadEnd_keeps (fun t => t.flash.dqsto) (fun _ => rfl) (fun _ _ _ => rfl), hdone]
    exact judged_dqsto r s

/-- Reel B fails: its outcome stands in DEV_LOADB, and the start ends without structure. -/
theorem load_failsB {r : ReelRead} {s : State} (hp : s.dev.phase = .load) (hc : s.coreRuns = true) (hw : s.sup.ritesWait = none)
    (hr : s.dev.reel = 2) (hv : (reelVerdict r s).plan = none) : ∃ t, exec (.reelLoadDone r) s = .next t ∧
      t.dev = { s.dev with loadB := d28 (65536 * (reelVerdict r s).code + (reelVerdict r s).pos), phase := .nostruct, reel := 0 } := by
  have hdone : reelDone r s = onDev (fun d => { d with phase := .nostruct, reel := 0 }) (judged r s) :=
    (reelDone_fails hv).trans (if_neg (by rw [hr]; decide))
  refine ⟨_, reelLoadDone_exec r hp hc hw, ?_⟩
  rw [loadEnd_keeps State.dev (fun _ => rfl) (fun _ _ _ => rfl), hdone, onDev, judged_dev, hr, recordLoad_b]

/-- A reel passes: its structure stands, but for what the aftermath and the store's control touch. -/
theorem load_passes {r : ReelRead} {s : State} {p : Plan} (hp : s.dev.phase = .load) (hc : s.coreRuns = true) (hw : s.sup.ritesWait = none)
    (hv : (reelVerdict r s).plan = some p) : ∃ t, exec (.reelLoadDone r) s = .next t ∧
      ∀ {α : Type} (g : State → α), (∀ s : State, g s.still = g s) → (∀ (s : State) (v : Nvs) (st : Store), g { s with nvs := v, store := st } = g s) →
        g t = g (startSet (applyPlan p (r.words.map wData) (judged r s))) := by
  refine ⟨_, reelLoadDone_exec r hp hc hw, fun g hs hg => (loadEnd_keeps g hs hg _).trans ?_⟩
  rw [reelDone_passes hv]
  exact still_keeps g hs (applyStructure_still p _ _)

theorem recordLoad_reel (reel : BitVec 2) (v : Verdict) (s : State) : (recordLoad reel v s).dev.reel = s.dev.reel := by
  unfold recordLoad onDev
  dsimp only
  split <;> rfl

/-- Settles O29: flash detection and the load by what they leave, the checks of a reel in their order, the structure by its words. -/
theorem loadCommands : Obligations.LoadCommands := by
  unfold Obligations.LoadCommands
  refine ⟨?found, ?silent, ?detect, ?reelA, ?reelB, ?passes, ?read, ?chans, ?timers, ?plan, ?safe, ?key, ?sig, ?sfdp, fun _ _ => ⟨rfl, rfl, rfl, rfl⟩,
    fun ws => ⟨slateBad_layout ws, slateBad_length ws, slateBad_device ws, slateBad_rollback ws⟩, ?reel, ?checks, ?rest, ?sections, ?cal, ?store⟩
  case found =>
    intro f s hp hc hd
    rw [← detected_found s.flash hd]
    exact flashDetect_gives hp hc
  case silent =>
    intro f s hp hc hd
    rw [← detected_silent s.flash hd]
    exact flashDetect_gives hp hc
  case detect =>
    exact fun f => ⟨detect_quad, detect_single, fun h h8 hd => detect_octal h (octalFound_true h8 hd), fun h h8 => detect_silent h (octalFound_false h8)⟩
  case reelA =>
    intro r v s hp hc hr hw hv hplan
    obtain rfl := reelVerdict_at (if_pos hr) hv
    obtain ⟨t, hexec, hdev, hdqs⟩ := load_failsA hp hc hw hr hplan
    refine ⟨t, hexec, ?_, ?_, ?_, ?_, ?_, hdqs⟩ <;> rw [hdev]
    exact hp
  case reelB =>
    intro r v s hp hc hr hw hv hplan
    obtain rfl := reelVerdict_at (if_neg (by rw [hr]; decide)) hv
    obtain ⟨t, hexec, hdev⟩ := load_failsB hp hc hw hr hplan
    refine ⟨t, hexec, ?_, ?_, ?_, ?_⟩ <;> rw [hdev]
  case passes =>
    intro r v p s hp hc _ hw hv hplan
    obtain rfl := reelVerdict_at rfl hv
    obtain ⟨t, hexec, hkeep⟩ := load_passes hp hc hw hplan
    refine ⟨t, hexec, ?_, ?_, ?_, ?_, ?_, ?_, ?_, fun n hn => ?_⟩
    · exact hkeep (fun t => t.dev.struct) (fun _ => rfl) fun _ _ _ => rfl
    · exact hkeep (fun t => t.dev.phase) (fun _ => rfl) fun _ _ _ => rfl
    · refine (hkeep (fun t => t.dev.reel) (fun _ => rfl) fun _ _ _ => rfl).trans ?_
      exact (congrArg Dev.reel (judged_dev r s)).trans (recordLoad_reel _ _ _)
    · exact hkeep (fun t => t.dev.image) (fun _ => rfl) fun _ _ _ => rfl
    · exact hkeep (fun t => t.bist.setPhase) (fun _ => rfl) fun _ _ _ => rfl
    · exact hkeep (fun t => t.auth.cfg) (fun _ => rfl) fun _ _ _ => rfl
    · refine (hkeep (fun t => t.trust.owner) (fun _ => rfl) fun _ _ _ => rfl).trans ((judged_owner r s).trans ?_)
      exact if_pos (by rw [hplan]; rfl)
    · have hn' : n < (judged r s).chans.length := by rwa [judged_chans]
      have hch := ch_of_map_eq (hkeep (fun t => t.chans.map Chan.image) image_still fun _ _ _ => rfl) n
      have happ : (startSet (applyPlan p (r.words.map wData) (judged r s))).ch n = _ := applyPlan_ch p (r.words.map wData) hn'
      simp only [happ, Chan.image, applyChan, Prod.mk.injEq] at hch
      exact hch
  case read =>
    exact fun f => ⟨fun h hd hm => by simp [arrayRead, detect_quad h hd hm], fun h hq => by simp [arrayRead, detect_single h hq],
      fun h h8 hd => by simp [arrayRead, detect_octal h (octalFound_true h8 hd)]⟩
  case chans =>
    intro p ws n s hn
    rw [applyPlan_ch p ws hn]
    refine ⟨rfl, rfl, rfl, rfl, rfl, rfl, rfl, ?_⟩
    show (((newestMap s.store).map Copy.val).map fun m => m.getD n 0).getD 0 = _
    rw [Option.map_map]
    rfl
  case timers =>
    intro p ws t s ht
    rw [applyPlan_tm p ws ht]
    exact ⟨rfl, rfl, rfl, rfl, rfl⟩
  case plan => exact fun p ws s => ⟨rfl, rfl, rfl, rfl, rfl, rfl, rfl, rfl, rfl⟩
  case safe =>
    intro p ws u s x hs hl hlen hx
    subst hx
    exact ⟨still_keeps (fun t => t.flt.safefw) (fun _ => rfl) (applyStructure_still p ws s), applyStructure_bridge hs hl hlen⟩
  case key => exact fun ws h => ⟨keyFails_hash h, keyFails_padding h⟩
  case sig => exact fun ds => ⟨rfl, sigFails_padding ds⟩
  case sfdp =>
    exact fun f => ⟨fun h => if_pos h, fun h h8 hd => by simp [sfdpFound, sfdpRead, h, octalFound_true h8 hd],
      fun h h8 => sfdpFound_silent h (octalFound_false h8), sfdpFetched_le f⟩
  case reel =>
    refine fun otp base dens r => ⟨checkReel_of_read rfl, fun hr hf => checkReel_of_read (readFails_broken hr hf), fun k hr => ?_⟩
    rw [checkReel_of_read (readFails_short hr)]
    refine ⟨rfl, ?_, fun hf hd => if_neg (by simp [hf, hd])⟩
    dsimp only
    split
    · exact min_le_left _ _
    · exact le_rfl
  case checks =>
    intro otp base dens i n r v ws ds key hr hf hd hv hn hws hds hkey
    subst hv hkey hds hws hn
    have hread := readFails_none hr hf hd
    refine ⟨fun hi hb => ?_, fun hs => ⟨fun h4 h32 hb => ?_, fun hb => ?_, fun hw hlock hcurve hhash => ?_⟩⟩
    · obtain ⟨p, hp, hle, hbad⟩ := checkReel_slate (otp := otp) hread hi hb
      rw [hp]
      exact ⟨rfl, hle, hbad⟩
    · obtain ⟨p, hp, hle⟩ := keyFails_of_word (ownersKey otp (imageKey r)) h4 h32 ((keyWordBad_iff (imageWords r) i).mpr hb)
      rw [checkReel_key hread hs hp]
      exact ⟨rfl, hle⟩
    · have hno : ownersKey otp (imageKey r) = false := Bool.eq_false_iff.mpr fun hok => by
        obtain ⟨hlock, hcurve, hhash⟩ := (ownersKey_iff _ _).mp hok
        rcases hb with hb | hb | hb
        · exact absurd hlock (by simp [hb])
        · exact absurd hcurve (Bool.eq_false_iff.mp hb)
        · exact hb hhash
      obtain ⟨p, hp⟩ := keyFails_of_hash (imageWords r)
      rw [checkReel_key hread hs (hno ▸ hp)]
    · have hok : ownersKey otp (imageKey r) = true := (ownersKey_iff _ _).mpr ⟨hlock, hcurve, hhash⟩
      refine checkReel_keyed hread hs (hok ▸ keyFails_none fun j h4 h32 => Bool.eq_false_iff.mpr fun hbad => ?_)
      obtain ⟨hread', hpad⟩ := hw j h4 h32
      rcases (keyWordBad_iff _ _).mp hbad with hb | ⟨hj, hb⟩
      · exact absurd hread' (Bool.eq_false_iff.mp hb)
      · exact hb (hpad hj)
  case rest =>
    intro otp n nsec i nib ws ds key v hv hds
    subst hv hds
    refine ⟨checkRest_key, fun h32 hn hb => ?_, fun hw => ⟨fun hsig => ?_, fun hsig => ?_⟩⟩
    · obtain ⟨p, hp, hle, hbad⟩ := checkRest_word (otp := otp) (key := key) (nib := nib) (nsec := nsec) h32 hn hb
      rw [hp]
      exact ⟨rfl, hle, hbad⟩
    · rw [checkRest_sig (p := 32) hw (by rw [sigVerified, hsig]; rfl)]
      exact ⟨rfl, rfl⟩
    · have hok : sigVerified key ws nib = true := hsig
      have hpads := (congrArg (sigFails (ws.map wData)) hok).trans (sigFails_padding _)
      refine ⟨fun h45 => ?_, fun h45 h59 => ?_, fun h45 h59 => ?_⟩
      · rw [checkRest_sig (p := 45) hw (hpads.trans (if_pos h45))]
        exact ⟨rfl, rfl⟩
      · rw [checkRest_sig (p := 59) hw (hpads.trans ((if_neg (not_not_intro h45)).trans (if_pos h59)))]
        exact ⟨rfl, rfl⟩
      · have hs := hpads.trans ((if_neg (not_not_intro h45)).trans (if_neg (not_not_intro h59)))
        refine ⟨fun ha => ?_, fun ha => ⟨fun p hl => ?_, fun hl => ⟨fun c p hf => ?_, fun hf => ?_⟩⟩⟩
        · rw [checkRest_rollback hw hs ha]
          exact ⟨rfl, rfl⟩
        · rw [checkRest_current hw hs ha, hl]
          exact ⟨rfl, rfl⟩
        · rw [checkRest_current hw hs ha, hl, hf]
          exact ⟨rfl, rfl⟩
        · rw [checkRest_current hw hs ha, hl, hf]
          rfl
  case sections => exact fun a b e p ds pl => sectionsFail_first
  case cal => exact fun kind addr w c => ⟨calWordInUse_void c, calWordInUse_data c⟩
  case store =>
    intro p ws k i cs cw c s hcs hc hcw _ _
    have h := loadCal_word (kind := 0) (base := 0) hcs hc hcw
    rwa [Nat.zero_add, Nat.zero_add] at h

end Sys2Proof.Machine

/-! One event raised while somebody records it (07 R187, R198). -/

namespace Sys2Proof.Machine

/-- A command whose own effect is one event that somebody records. -/
theorem raises_event {i : Instr} {s x y : State} {e : Ev} {src : Nat} (hi : exec i s = done (raise [e] y)) (h : y.still = x.still)
    (he : e.src = src) (hs : src < 120) (hu : unrecorded y src = false) : Raises i s x [src] := by
  refine raises_of_still hi ((still_raise _ _).trans h) fun k hk => ?_
  obtain rfl := List.mem_singleton.mp hk
  rw [← he] at hs hu ⊢
  exact raise_seen (List.mem_singleton_self e) hs hu

end Sys2Proof.Machine

/-! Trip inputs and the limp-home lines (06 R166 to R169, R180, 15 R385). -/

namespace Sys2Proof.Machine

/-! ### Trip inputs (06 R166, R167, R180) -/

theorem guardStop_of_guardInputs {s : State} (h : guardInputs s = true) : s.clk.guardStop = false := by
  simp only [guardInputs, Bool.and_eq_true, Bool.not_eq_true'] at h
  exact h.1.2

/-- Last rites leave the inputs alone (15 R385). -/
theorem guardInputs_rites {s : State} (h : s.sup.ritesWait ≠ none) : guardInputs s = false := by
  simp [guardInputs, Option.isNone_eq_false_iff, Option.isSome_iff_ne_none, h]

theorem tripAssert_raises {j : Fin 8} {s : State} (hg : guardInputs s = true) (he : bitAt s.limp.tripCfg (4 + j) = true)
    (ht : s.limp.trips.getLsbD j = false) : Raises (.tripAssert j) s (setTrip j true s) [99 + j.val] := by
  have hi : exec (.tripAssert j) s = done (raise [ev (99 + j.val)] (setTrip j true s)) := congrArg done (if_pos (by rw [hg, he, ht]; rfl))
  exact raises_event hi rfl rfl (by omega) (unrecorded_guarded (s := setTrip j true s) (guardStop_of_guardInputs hg) _)

theorem tripAssert_idle {j : Fin 8} {s : State} (h : guardInputs s = false) : Gives (.tripAssert j) s s :=
  gives_of_eq rfl (if_neg (by simp [h]))

theorem tripRelease_ends {j : Fin 8} {s : State} (h : guardInputs s = true) : Gives (.tripRelease j) s (setTrip j false s) :=
  gives_of_eq rfl (if_pos h)

theorem tripRelease_idle {j : Fin 8} {s : State} (h : guardInputs s = false) : Gives (.tripRelease j) s s :=
  gives_of_eq rfl (if_neg (by simp [h]))

/-! ### The lines (06 R168, R169) -/

theorem lhAssert_enters {s : State} (h0 : s.limp.lh0 = true) (h1 : s.limp.lh1 = true) (ha : s.limp.asserted = false)
    (ht : s.limp.lhSince + 1000 ≤ guardNow s) (hg : s.clk.guardStop = false) (hr : s.sup.ritesWait = none) :
    Gives .lhAssert s (enterLimp { s with limp := { s.limp with asserted := true, released := false } }) :=
  gives_of_eq rfl (if_pos (by simp [h0, h1, ha, ht, hg, hr]))

theorem lhRelease_releases {s : State} (h0 : s.limp.lh0 = false) (h1 : s.limp.lh1 = false) (ht : s.limp.lhSince + 1000 ≤ guardNow s)
    (hg : s.clk.guardStop = false) (hr : s.sup.ritesWait = none) :
    Gives .lhRelease s { s with limp := { s.limp with asserted := false, released := true } } :=
  gives_of_eq rfl (if_pos (by simp [h0, h1, ht, hg, hr]))

theorem enterLimp_active {s : State} (h : s.dev.struct = true) : (enterLimp s).limp.active = true := by
  unfold enterLimp
  split
  · simpa [h] using ‹(s.limp.active || !s.dev.struct) = true›
  · rw [event_limp]
    rfl

theorem lhDisagree_raises {t0 : Nat} {s : State} (hg : guardInputs s = true) (ho : s.limp.oddSince = some t0) (ht : t0 + 100000 ≤ guardNow s)
    (hd : s.limp.disagree = false) : Raises .lhDisagree s { s with limp := { s.limp with disagree := true } } [108] := by
  have hi : exec .lhDisagree s = done (raise [ev 108] { s with limp := { s.limp with disagree := true } }) := by
    refine congrArg done (if_pos ?_)
    simp [hg, ho, ht, hd]
  exact raises_event hi rfl rfl (by decide) (unrecorded_guarded (guardStop_of_guardInputs hg) _)

theorem lhDisagree_idle {s : State} (h : guardInputs s = false) : Gives .lhDisagree s s :=
  gives_of_eq rfl (if_neg (by simp [h]))

theorem lhLineEdge_gives {a b : Bool} {s : State} (hg : s.clk.guardStop = false) (hr : s.sup.ritesWait = none) :
    Gives (.lhLineEdge a b) s (lhEdge a b s) :=
  gives_of_eq rfl (if_neg (by simp [hg, hr]))

/-- What a change of the sampled levels notes: the levels, its time, and equal levels as the end of a disagreement. -/
theorem lhEdge_notes {a b : Bool} {s : State} (h : a ≠ s.limp.lh0 ∨ b ≠ s.limp.lh1) :
    (lhEdge a b s).limp.lh0 = a ∧ (lhEdge a b s).limp.lh1 = b ∧ (lhEdge a b s).limp.lhSince = guardNow s ∧
      (a = b → (lhEdge a b s).limp.disagree = false ∧ (lhEdge a b s).limp.oddSince = none) := by
  have hne : ¬(a == s.limp.lh0 && b == s.limp.lh1) = true := by
    simp only [Bool.and_eq_true, beq_iff_eq]
    tauto
  unfold lhEdge
  rw [if_neg hne]
  exact ⟨rfl, rfl, rfl, fun hab => by simp [hab]⟩

/-- The aftermath brings limp-home's force into line, and of the lines it leaves everything (`State.still`). -/
theorem settle_limp_keep {α : Type} (g : Limp → α) (hg : ∀ (l : Limp) a, g { l with active := a } = g l) (s : State) :
    g (settle s).limp = g s.limp :=
  still_keeps (fun t => g t.limp) (fun t => hg t.limp false) (still_settle s)

/-- In last rites neither an input nor a line has an effect. -/
theorem inputs_rites {s : State} (a b : Bool) (j : Fin 8) (h : s.sup.ritesWait ≠ none) :
    Gives (.lhLineEdge a b) s s ∧ Gives .lhAssert s s ∧ Gives .lhRelease s s ∧ Gives .lhDisagree s s ∧
      Gives (.tripAssert j) s s ∧ Gives (.tripRelease j) s s := by
  have hg := guardInputs_rites h
  refine ⟨gives_of_eq rfl (if_pos ?_), gives_of_eq rfl (if_neg ?_), gives_of_eq rfl (if_neg ?_), lhDisagree_idle hg, tripAssert_idle hg,
    tripRelease_idle hg⟩ <;> simp [h, Option.isSome_iff_ne_none]

/-- Settles O20: each input by whether GUARD filters it, each line by the time that its levels have stood. -/
theorem inputCommands : Obligations.InputCommands := by
  unfold Obligations.InputCommands
  refine ⟨fun j s => tripAssert_raises, fun j s => tripRelease_ends, fun s => lhAssert_enters, fun s => enterLimp_active,
    fun s => lhRelease_releases, fun t0 s => lhDisagree_raises, fun a b s hg hr h => ⟨lhLineEdge_gives hg hr, ?edge⟩,
    fun a b j s => inputs_rites a b j, fun s => rfl, fun level old since s => rfl, fun n l o since s hg => ?stopped⟩
  case edge =>
    obtain ⟨h0, h1, hs, hd⟩ := lhEdge_notes h
    refine ⟨_, lhLineEdge_gives hg hr, ?_, ?_, ?_, fun hab => ⟨?_, ?_⟩⟩
    · rw [settle_limp_keep Limp.lh0 fun _ _ => rfl, h0]
    · rw [settle_limp_keep Limp.lh1 fun _ _ => rfl, h1]
    · rw [settle_limp_keep Limp.lhSince fun _ _ => rfl, hs]
    · rw [settle_limp_keep Limp.disagree fun _ _ => rfl, (hd hab).1]
    · rw [settle_limp_keep Limp.oddSince fun _ _ => rfl, (hd hab).2]
  case stopped =>
    have hnow : guardNow { s with now := n } = guardNow s := by simp [guardNow, hg]
    rw [filteredLh, hnow, filteredLh]

end Sys2Proof.Machine

/-! The overload model: its mean, its step, its trip level and its trip (06 R144, R145, R178). -/

namespace Sys2Proof.Machine

/-! ### The mean square (06 R144) -/

theorem foldl_add_squares (l : List Int) (a : Int) :
    ((l.foldl (fun a i => a + i * i) a : Int) : Rat) = a + 10000 * (l.map fun i : Int => ((i : Rat) / 100) ^ 2).sum := by
  induction l generalizing a with
  | nil => simp
  | cons i l ih =>
    rw [List.foldl_cons, ih, List.map_cons, List.sum_cons]
    push_cast
    ring

theorem meanSquare_of_squares {n : Nat} {s : State} (hl : (s.ch n).squares ≠ []) (hu : underTest s n = false) :
    meanSquare s n = ((s.ch n).squares.map fun i : Int => ((i : Rat) / 100) ^ 2).sum / (s.ch n).squares.length := by
  have hne : ¬((s.ch n).squares.isEmpty || underTest s n) = true := by simp [hl, hu]
  rw [meanSquare, if_neg hne, foldl_add_squares, Int.cast_zero, zero_add]
  exact mul_div_mul_left _ _ (by norm_num : (10000 : Rat) ≠ 0)

theorem meanSquare_zero {n : Nat} {s : State} (h : (s.ch n).squares = [] ∨ underTest s n = true) : meanSquare s n = 0 :=
  if_pos (by simpa using h)

/-! ### The trip level (06 R144) -/

theorem popcount_le {w : Nat} (m : BitVec w) : popcount m ≤ w :=
  (List.length_filter_le _ _).trans_eq List.length_range

/-- IREF scaled to the segments that remain, and the square of 1.1 times that. -/
theorem irefEff_eq (c : Chan) : c.irefEff = (fld c.i2tUse 8 0 : Rat) / 4 * ((42 : Rat) - popcount c.retired) / 42 := by
  rw [Chan.irefEff, Chan.alive, Nat.cast_sub (popcount_le _)]
  norm_num

theorem tripLevel_eq (c : Chan) : c.tripLevel = (11 / 10 * c.irefEff) ^ 2 := (sq _).symm

theorem i2tPresent_iff (c : Chan) : i2tPresent c = true ↔ c.irefEff ^ 2 < c.e ∧ c.alive ≠ 0 := by
  simp [i2tPresent, sq]

/-! ### An update (06 R144, R145, R178) -/

/-- The channel that an update starts from: a committed CHn_I2T is in use. -/
def i2tTaken (c : Chan) : Chan := { c with i2tUse := c.i2t }

/-- CHn after an update, `trip` when its level is reached. -/
def i2tStepped (s : State) (n : Nat) (trip : Bool) (c : Chan) : Chan :=
  { c with i2tUse := (s.ch n).i2t, e := i2tStep (i2tTaken (s.ch n)) (meanSquare s n), eAt := s.now, atTrip := trip }

/-- An update reaches the trip level of a channel that has a segment left. -/
def i2tTrips (s : State) (n : Nat) : Bool :=
  decide ((i2tTaken (s.ch n)).tripLevel ≤ i2tStep (i2tTaken (s.ch n)) (meanSquare s n)) && decide ((s.ch n).alive ≠ 0)

theorem i2tTrips_below {s : State} {n : Nat} (h : i2tStep (i2tTaken (s.ch n)) (meanSquare s n) < (i2tTaken (s.ch n)).tripLevel) :
    i2tTrips s n = false := by
  rw [i2tTrips, decide_eq_false (not_le.mpr h), Bool.false_and]

theorem i2tTrips_reached {s : State} {n : Nat} (h : (i2tTaken (s.ch n)).tripLevel ≤ i2tStep (i2tTaken (s.ch n)) (meanSquare s n))
    (ha : (s.ch n).alive ≠ 0) : i2tTrips s n = true := by
  rw [i2tTrips, decide_eq_true h, decide_eq_true ha, Bool.and_self]

theorem i2tTrips_retired {s : State} {n : Nat} (h : (s.ch n).alive = 0) : i2tTrips s n = false := by
  simp [i2tTrips, h]

/-- An update steps e; the event comes when the level is newly reached. -/
theorem i2tUpdate_eq (n : Nat) (s : State) : i2tUpdate n s =
    if i2tTrips s n && !(s.ch n).atTrip then
      raise [evCh n 2 causeI2t] (setProt n 0 (s.onCh n (i2tStepped s n (i2tTrips s n))))
    else s.onCh n (i2tStepped s n (i2tTrips s n)) := by
  have hc : s.onCh n (fun _ => i2tStepped s n (i2tTrips s n) (s.ch n)) =
      s.onCh n (i2tStepped s n (i2tTrips s n)) := onCh_congr rfl
  rw [← hc]
  rfl

theorem i2tUpdate_exec {n : Fin 12} {s : State} (hs : s.dev.struct = true) (hc : s.clk.coreStop = false) (ht : s.since (s.ch n).eAt 10 = true) :
    exec (.i2tUpdate n) s = done (i2tUpdate n s) :=
  congrArg done (if_pos (by simp [hs, hc, ht]))

/-- An update that reaches no level anew: the step alone. -/
theorem i2tUpdate_quiet {n : Fin 12} {trip : Bool} {s : State} (hs : s.dev.struct = true) (hc : s.clk.coreStop = false)
    (ht : s.since (s.ch n).eAt 10 = true) (hr : i2tTrips s n = trip) (h : (trip && !(s.ch n).atTrip) = false) :
    Gives (.i2tUpdate n) s (s.onCh n (i2tStepped s n trip)) := by
  subst hr
  exact gives_of_eq (i2tUpdate_exec hs hc ht) ((i2tUpdate_eq n s).trans (if_neg (by rw [h]; exact Bool.false_ne_true)))

/-- An update that reaches the level anew notes I2T and raises CHn_OVL. -/
theorem i2tUpdate_trips {n : Fin 12} {s : State} (hs : s.dev.struct = true) (hc : s.clk.coreStop = false) (ht : s.since (s.ch n).eAt 10 = true)
    (hr : i2tTrips s n = true) (ha : (s.ch n).atTrip = false) :
    Raises (.i2tUpdate n) s (setProt n 0 (s.onCh n (i2tStepped s n true))) [8 * n + 2] := by
  have hi : exec (.i2tUpdate n) s =
      done (raise [evCh n 2 causeI2t] (setProt n 0 (s.onCh n (i2tStepped s n true)))) := by
    rw [i2tUpdate_exec hs hc ht, i2tUpdate_eq, hr, ha]
    rfl
  have hlit : lightsOut s = false := by simp [lightsOut, hc]
  exact raises_event hi rfl rfl (by omega) (unrecorded_lit (guardSource_channel n.isLt (by decide)) hlit)

/-- Settles O17: an update by whether it reaches the trip level, and whether that stood reached before. -/
theorem overloadModel : Obligations.OverloadModel := by
  unfold Obligations.OverloadModel
  refine ⟨fun c m => rfl, ?below, ?reached, fun c d m => ⟨rfl, rfl⟩, fun c => ⟨irefEff_eq c, tripLevel_eq c⟩, fun n s hl hu => ?mean,
    fun n s => meanSquare_zero, ?again, i2tPresent_iff⟩
  case mean =>
    rw [meanSquare_of_squares hl hu, bind_pure_comp, List.map_eq_map, List.map_map]
    rfl
  case below =>
    intro n c s hs hc ht he hlt
    subst he
    exact i2tUpdate_quiet hs hc ht (i2tTrips_below hlt) rfl
  case reached =>
    intro n c s hs hc ht he ha hle hal
    subst he
    have h := i2tUpdate_trips hs hc ht (i2tTrips_reached hle hal) ha
    rw [setProt, onCh_onCh] at h
    exact h
  case again =>
    intro n c s hs hc ht he hle
    subst he
    exact ⟨fun hal ha => i2tUpdate_quiet hs hc ht (i2tTrips_reached hle hal) (by rw [ha]; rfl),
      fun hal => i2tUpdate_quiet hs hc ht (i2tTrips_retired hal) rfl⟩

end Sys2Proof.Machine

/-! FLT_ACK, the collector's self-check and the escalated reaction (06 R159, 07 R208, R211 to R213). -/

namespace Sys2Proof.Machine

/-! ### The self-check (07 R211, R212) -/

theorem selfCheck_ok (s : State) : Gives (.collectorSelfCheck .ok) s s :=
  gives_of_eq rfl (ite_self s)

theorem selfCheck_word {s : State} (hg : s.clk.guardStop = false) (hp : s.dev.phase ≠ .reset) : Raises (.collectorSelfCheck .word) s s [115] := by
  have hi : exec (.collectorSelfCheck .word) s = done (raise [ev 115] s) := congrArg done (if_neg (by simp [hg, hp]))
  exact raises_event hi rfl rfl (by decide) (unrecorded_guarded hg _)

theorem selfCheck_entry {src : Fin 120} {s : State} (hg : s.clk.guardStop = false) (hp : s.dev.phase ≠ .reset) :
    Raises (.collectorSelfCheck (.entry src)) s (if bitAt s.flt.cfg 27 then defaultEntryOf src s else s) [115] := by
  have hi : exec (.collectorSelfCheck (.entry src)) s = done (raise [ev 115] (if bitAt s.flt.cfg 27 then defaultEntryOf src s else s)) :=
    congrArg done (if_neg (by simp [hg, hp]))
  refine raises_event hi rfl rfl (by decide) (unrecorded_guarded ?_ _)
  split <;> exact hg

/-! ### The default entry (07 R182, R213) -/

/-- A source's half of its word of FLT_RX. -/
def entryHalf (src : Nat) (w : D28) : Nat := if src % 2 == 0 then fld w 13 0 else fld w 27 14

/-- The word with the source's half at its default. -/
def defaultHalf (src : Nat) (w : D28) : D28 :=
  if src % 2 = 0 then d28 (fld w 27 14 * 16384 + defaultEntry src) else d28 (defaultEntry src * 16384 + fld w 13 0)

theorem defaultReact_lt (src : Nat) : defaultReact src < 8 := by
  unfold defaultReact
  (repeat' split) <;> decide

/-- A word of two halves, each within 14 bits. -/
theorem fld_halves {hi lo : Nat} (hh : hi < 16384) (hl : lo < 16384) :
    fld (d28 (hi * 16384 + lo)) 27 14 = hi ∧ fld (d28 (hi * 16384 + lo)) 13 0 = lo := by
  simp only [fld, d28, BitVec.toNat_ofNat]
  omega

theorem entryHalf_defaultHalf {src : Nat} (w : D28) : entryHalf src (defaultHalf src w) = defaultEntry src ∧
    ∀ k, k % 2 ≠ src % 2 → entryHalf k (defaultHalf src w) = entryHalf k w := by
  have hd : defaultEntry src < 16384 := by
    have := defaultReact_lt src
    unfold defaultEntry
    omega
  have hhi : fld w 27 14 < 16384 := Nat.mod_lt _ (by decide)
  have hlo : fld w 13 0 < 16384 := Nat.mod_lt _ (by decide)
  unfold defaultHalf entryHalf
  rcases Nat.mod_two_eq_zero_or_one src with h | h
  · refine ⟨?_, fun k hk => ?_⟩
    · simp [h, fld_halves hhi hd]
    · have hk1 : k % 2 = 1 := by omega
      simp [h, hk1, fld_halves hhi hd]
  · refine ⟨?_, fun k hk => ?_⟩
    · simp [h, fld_halves hd hlo]
    · have hk0 : k % 2 = 0 := by omega
      simp [h, hk0, fld_halves hd hlo]

theorem entryOf_defaultEntryOf (src k : Nat) (s : State) : entryOf (defaultEntryOf src s) k =
    entryHalf k ((s.flt.rx.modify (src / 2) (defaultHalf src)).getD (k / 2) 0) := rfl

/-- The corrupted entry takes its default, and no other entry changes. -/
theorem defaultEntryOf_entries {src : Nat} {s : State} (hl : s.flt.rx.length = 60) (hs : src < 120) :
    entryOf (defaultEntryOf src s) src = defaultEntry src ∧
      ∀ k, k ≠ src → k < 120 → entryOf (defaultEntryOf src s) k = entryOf s k := by
  have hword : ∀ k, k / 2 = src / 2 → (s.flt.rx.modify (src / 2) (defaultHalf src)).getD (k / 2) 0 =
      defaultHalf src (s.flt.rx.getD (k / 2) 0) := fun k hk => by
    have hlt : src / 2 < s.flt.rx.length := by omega
    rw [hk]
    simp [List.getD, hlt]
  refine ⟨?_, fun k hk _ => ?_⟩
  · rw [entryOf_defaultEntryOf, hword src rfl]
    exact (entryHalf_defaultHalf _).1
  · rw [entryOf_defaultEntryOf]
    by_cases hq : k / 2 = src / 2
    · rw [hword k hq]
      exact (entryHalf_defaultHalf _).2 k (by omega)
    · have hne : src / 2 ≠ k / 2 := fun h => hq h.symm
      have hrest : (s.flt.rx.modify (src / 2) (defaultHalf src)).getD (k / 2) 0 = s.flt.rx.getD (k / 2) 0 := by simp [List.getD, hne]
      rw [hrest]
      rfl

/-! ### FLT_ACK (07 R208) -/

theorem effect_ack {a : Access} {d : D28} {s : State} (hg : s.clk.guardStop = false) : effect a 0x084 d s = writeAck d s :=
  (effect_own ((domainStopped_flt (by decide) (by decide)).trans hg)).trans rfl

/-- A refusal is answered whether the register's domain runs or not (13 R348). -/
theorem effect_refused {a : Access} {k : Nat} {d : D28} {s x : State} {st : BitVec 8} (he : isEdge k = false) (hc : isCtl k = false)
    (ho : ownEffect a k d s = (st, x)) (hst : st ≠ sOk) : effect a k d s = (st, x) := by
  simp [effect, heldEffect, ho, hst, he, hc]

/-- The first-fault latch released by an acknowledgement (07 R208). -/
def latchFreed (f : Flt) : Flt :=
  { f with first := { f.first with valid := false, ovf := false, forced := false, tsusp := false, src := 0x7F }, ovfcnt := 0 }

theorem writeAck_clears {d : D28} {s : State} (hb : bitAt d 0 = true) (hf : fld d 7 1 = s.flt.first.src) :
    writeAck d s = (sOk, forEach (List.range 120) ackSource (s.onFlt latchFreed)) := by
  rw [writeAck, if_neg (by simp [hb]), if_neg (by simp [hf])]
  rfl

theorem writeAck_denied {d : D28} {s : State} (hb : bitAt d 0 = true) (hf : fld d 7 1 ≠ s.flt.first.src) : writeAck d s = (sDenied, s) := by
  rw [writeAck, if_neg (by simp [hb]), if_pos hf]

theorem writeAck_idle {d : D28} {s : State} (hb : bitAt d 0 = false) : writeAck d s = (sOk, s) :=
  if_pos (by simp [hb])

/-- The row FLT_ACK that its register answers. -/
theorem fltAck_gives {h : Port} {d : D28} {s x : State} {st : BitVec 8} (hm : MayCommit s h 0x084) (h0 : fld d 27 8 = 0)
    (he : effect (.commit h) 0x084 d s = (st, x)) : GivesStatus (.fltAck h d) s st (noteLast h 3 0x084 st x) :=
  commit_gives (r := ([.a], 0xFFFFF00)) hm rfl (resv_of_fld h0 (by decide)) rfl he rfl

theorem fltAck_gives_ok {h : Port} {d : D28} {s x : State} (hm : MayCommit s h 0x084) (h0 : fld d 27 8 = 0)
    (he : effect (.commit h) 0x084 d s = (sOk, x)) : GivesStatus (.fltAck h d) s sOk x := by
  rw [← noteLast_ok h 3 0x084 x]
  exact fltAck_gives hm h0 he

/-- An acknowledgement of one source touches records and holds alone. -/
theorem ackSource_eq (k : Nat) (s : State) : ∃ rs hs, ackSource k s = s.onFlt fun f => { f with records := rs, holds := hs } := by
  unfold ackSource
  split
  · exact ⟨_, _, rfl⟩
  · exact ⟨s.flt.records, s.flt.holds, rfl⟩

/-- Whether a source is present is no matter of records and holds (07 R182, R183). -/
theorem present_ackSource (k src : Nat) (s : State) : present (ackSource k s) src = present s src := by
  obtain ⟨rs, hs, he⟩ := ackSource_eq k s
  rw [he]
  rfl

theorem setRecState_record (k src : Nat) (x : RecState) (s : State) : ((setRecState k x s).flt.records.getD src Record.reset).state =
    if k = src ∧ src < s.flt.records.length then x else (s.flt.records.getD src Record.reset).state := by
  simp only [setRecState, onFlt_flt, List.getD, List.getElem?_modify]
  by_cases hk : k = src
  · by_cases hl : src < s.flt.records.length
    · simp [hk, hl]
    · simp [hl]
  · simp [hk]

theorem ackSource_record (k src : Nat) (s : State) : ((ackSource k s).flt.records.getD src Record.reset).state =
    if k = src ∧ present s src = false then .clear else (s.flt.records.getD src Record.reset).state := by
  unfold ackSource
  by_cases hk : k = src
  · subst hk
    by_cases ho : outstanding s.flt k = true
    · cases hp : present s k with
      | true => simp
      | false =>
        have hl : k < s.flt.records.length := by
          by_contra hn
          simp [outstanding, List.getD, hn, Record.reset] at ho
        rw [if_pos (by simp [ho]), setRecState_record, if_pos ⟨rfl, hl⟩, if_pos ⟨rfl, rfl⟩]
    · have hclear : (s.flt.records.getD k Record.reset).state = .clear := by simpa [outstanding] using ho
      rw [if_neg (by simp [ho]), hclear, ite_self]
  · have hno : ¬(k = src ∧ present s src = false) := fun h => hk h.1
    rw [if_neg hno]
    split
    · exact (setRecState_record k src .clear (liftHolds k s)).trans (if_neg fun h => hk h.1)
    · rfl

/-- A run over sources clears the records of those that are not present. -/
theorem ackSources_record (l : List Nat) (src : Nat) (s : State) : ((forEach l ackSource s).flt.records.getD src Record.reset).state =
    if src ∈ l ∧ present s src = false then .clear else (s.flt.records.getD src Record.reset).state := by
  induction l generalizing s with
  | nil => simp
  | cons k l ih =>
    rw [forEach_cons, ih, present_ackSource, ackSource_record]
    by_cases hk : k = src
    · subst hk
      cases present s k <;> simp
    · have hk' : src ≠ k := fun h => hk h.symm
      simp [hk, hk']

/-! ### The reaction applied (07 R213) -/

/-- An event that its channel's retry machine takes in PROBE (06 R159, log 75). -/
def takenInProbe (s : State) (e : Ev) : Prop :=
  startsRetry e.src (entryReact (entryOf s e.src)) = true ∧ ∃ n ∈ owners s e (entryReact (entryOf s e.src)), (s.ch n).retry.state = .probe

/-- Outside the safe state an event of class U takes one level more than its record under COMPAT_ESCALATE, unless the record is CLEAR or a machine takes the event in PROBE. -/
theorem appliedReact_classU {e : Ev} {s : State} (hs : s.flt.safe = false) (hc : classOf s e.src = 1) :
    (bitAt s.flt.cfg 27 = true → (s.flt.records.getD e.src Record.reset).state ≠ .clear → ¬takenInProbe s e →
      appliedReact s e = min 6 ((s.flt.records.getD e.src Record.reset).react.toNat + 1)) ∧
    (bitAt s.flt.cfg 27 = false ∨ (s.flt.records.getD e.src Record.reset).state = .clear ∨ takenInProbe s e →
      appliedReact s e = entryReact (entryOf s e.src)) := by
  have hprobe : (startsRetry e.src (entryReact (entryOf s e.src)) &&
      (owners s e (entryReact (entryOf s e.src))).any fun n => (s.ch n).retry.state == .probe) = true ↔ takenInProbe s e := by
    simp [takenInProbe]
  have hreact : appliedReact s e = if (bitAt s.flt.cfg 27 && decide ((s.flt.records.getD e.src Record.reset).state ≠ .clear) &&
      !(startsRetry e.src (entryReact (entryOf s e.src)) &&
        (owners s e (entryReact (entryOf s e.src))).any fun n => (s.ch n).retry.state == .probe)) = true
      then min 6 ((s.flt.records.getD e.src Record.reset).react.toNat + 1) else entryReact (entryOf s e.src) := by
    unfold appliedReact
    rw [hc, hs]
    rfl
  rw [hreact]
  refine ⟨fun hb hr hp => if_pos ?_, fun h => if_neg ?_⟩
  · rw [hb, decide_eq_true hr, Bool.eq_false_iff.mpr (hprobe.not.mpr hp)]
    rfl
  · rcases h with hb | hr | hp
    · simp [hb]
    · rw [decide_eq_false (not_not_intro hr)]
      simp
    · rw [hprobe.mpr hp]
      simp

/-- Nothing is issued in the safe state and for class C; class F takes SAFE. -/
theorem appliedReact_classCF (e : Ev) (s : State) : (s.flt.safe = true ∨ classOf s e.src = 0 → appliedReact s e = 0) ∧
    (s.flt.safe = false → classOf s e.src = 2 → appliedReact s e = 6) := by
  refine ⟨fun h => ?_, fun hs hc => by simp [appliedReact, hs, hc]⟩
  rcases h with h | h <;> simp [appliedReact, h]

theorem not_startsRetry {src react : Nat} (h : react < 2 ∨ 4 < react) : startsRetry src react = false := by
  simp only [startsRetry, Bool.and_eq_false_iff, decide_eq_false_iff_not]
  omega

/-! ### What an event leaves in its record (07 R187) -/

@[simp] theorem ite_records {b : Prop} [Decidable b] (x y : State) :
    (if b then x else y).flt.records = if b then x.flt.records else y.flt.records := by
  split <;> rfl

@[simp] theorem openWindow_records (k : Nat) (m : Mask12) (s : State) : (openWindow k m s).flt.records = s.flt.records := rfl

@[simp] theorem enterLimp_flt (s : State) : (enterLimp s).flt = s.flt := by
  unfold enterLimp
  split
  · rfl
  · rw [flt_event]
    rfl

theorem enterSafe_flt (s : State) : (enterSafe s).flt = { s.flt with safe := true } := by
  unfold enterSafe
  split
  next h => rw [← h]
  next =>
    refine (flt_forEach' (fun u t => (flt_onCh' (flt_unitOff _ _) : (safeUnit u t).flt = t.flt)) rfl).trans ?_
    exact flt_bistAbortAll 3 (endFreeze (s.onFlt fun f => { f with safe := true }))

@[simp] theorem reactOn_records (src : Nat) (cause : BitVec 3) (react : Nat) (perm : Bool) (owner : Nat) (s : State) :
    (reactOn src cause react perm owner s).flt.records = s.flt.records := by
  unfold reactOn
  dsimp only
  split <;> simp

@[simp] theorem issue_records (e : Ev) (react : Nat) (perm : Bool) (s : State) : (issue e react perm s).flt.records = s.flt.records := by
  unfold issue
  dsimp only
  split
  · rw [enterSafe_flt]
  · refine (forEach_keeps (g := fun t => t.flt.records) (fun n t => reactOn_records ..) _ _).trans ?_
    have hcut := flt_forEach (cutUnits s (owners s e react)) cutUnit (fun u t => flt_cutUnit u t) s
    simp [hcut]

@[simp] theorem latchEvent_records (e : Ev) (cls : BitVec 2) (react : Nat) (s : State) : (latchEvent e cls react s).flt.records = s.flt.records := by
  simp only [latchEvent, onFlt_flt]
  (repeat' split) <;> rfl

/-- Out of the safe state an event of class U or F is HELD with the reaction applied. -/
theorem recordEvent_record {e : Ev} {s : State} (hs : s.flt.safe = false) (hc : classOf s e.src ≠ 0) (hl : e.src < s.flt.records.length) :
    (recordEvent e s).flt.records.getD e.src Record.reset =
      ⟨.held, BitVec.ofNat 3 (appliedReact s e), entryPerm (entryOf s e.src), startsRetry e.src (appliedReact s e)⟩ := by
  have h0 : (classOf s e.src == 0) = false := beq_eq_false_iff_ne.mpr hc
  have hperm : (decide (classOf s e.src ≠ 0) && !false && entryPerm (entryOf s e.src)) = entryPerm (entryOf s e.src) := by
    rw [decide_eq_true hc]
    rfl
  unfold recordEvent
  simp only [h0, hs, hperm, Bool.false_eq_true, if_false, issue_records, flt_event, flt_logPut, latchEvent_records, onFlt_flt]
  simp [List.getD, hl]

/-- An event whose reaction is SAFE ends in the safe state, whatever its class. -/
theorem recordEvent_safe_of_react {e : Ev} {s : State} (hc : classOf s e.src ≠ 0) (hr : appliedReact s e = 6) :
    (recordEvent e s).flt.safe = true := by
  cases hs : s.flt.safe with
  | true => exact (grows_recordEvent e s).safe hs
  | false =>
    unfold recordEvent
    simp only [hr, hs, issue, beq_iff_eq, hc, beq_self_eq_true, if_true, if_false, Bool.false_eq_true]
    exact enterSafe_safe _

/-! ### One event alone -/

/-- Among numbers each once, one alone meets a test for itself. -/
theorem filterMap_single {α : Type} {l : List Nat} {k : Nat} (a : α) (hl : l.Nodup) :
    l.filterMap (fun i => if k = i then some a else none) = if k ∈ l then [a] else [] := by
  induction l with
  | nil => rfl
  | cons i l ih =>
    obtain ⟨hi, hrest⟩ := List.nodup_cons.mp hl
    by_cases hk : k = i
    · subst hk
      simp [ih hrest, hi]
    · simp [ih hrest, hk]

theorem find_single (e : Ev) (p : Ev → Bool) (i : Nat) :
    ([e].find? fun x => x.src == i && p x) = if p e then if e.src = i then some e else none else none := by
  cases hp : p e <;> by_cases hi : e.src = i <;> simp [hp, hi]

theorem pick_single {e : Ev} (h : e.src < 120) (p : Ev → Bool) :
    (List.range 120).filterMap (fun i => [e].find? fun x => x.src == i && p x) = if p e then [e] else [] := by
  simp only [find_single]
  cases p e with
  | false => simp
  | true => exact (filterMap_single e List.nodup_range).trans (if_pos (List.mem_range.mpr h))

/-- One event of a source is taken once, with those of class F or after them. -/
theorem ranked_single {e : Ev} {s : State} (h : e.src < 120) : ranked s [e] = [e] := by
  have hpick := fun f : Bool => pick_single h fun x => (classOf s x.src == 2 || appliedReact s x == 6) == f
  refine (congrArg₂ (· ++ ·) (hpick true) (hpick false)).trans ?_
  cases classOf s e.src == 2 || appliedReact s e == 6 <;> rfl

/-- The state in which an event is recorded: a source that lasts until the next start is marked first (07 R183). -/
def lasted (e : Ev) (s : State) : State :=
  if lastingSource e.src then s.onFlt fun f => { f with lasting := setBit f.lasting e.src } else s

/-- An event alone that somebody records and no open window lists is recorded. -/
theorem raise_records {e : Ev} {s : State} (h : e.src < 120) (hu : unrecorded s e.src = false)
    (hw : ((openWindows s).any fun w => lists s.flt w e.src) = false) : raise [e] s = recordEvent e (lasted e s) := by
  have hlists : ((openWindows s).any fun w => lists (lasted e s).flt w e.src) = false := by
    rw [← hw]
    unfold lasted
    split <;> rfl
  have hf : ([e].filter fun e => !unrecorded s e.src) = [e] := by simp [hu]
  unfold raise
  dsimp only
  rw [hf, ranked_single h]
  exact if_neg (by rw [← lasted, hlists]; exact Bool.false_ne_true)

/-- The mark of a lasting source bears on nothing that the reaction is chosen by. -/
theorem lasted_keeps {α : Type} (g : State → α) (hg : ∀ (s : State) m, g (s.onFlt fun f => { f with lasting := m }) = g s) (e : Ev) (s : State) :
    g (lasted e s) = g s := by
  unfold lasted
  split
  · exact hg s _
  · rfl

/-- Under COMPAT_ESCALATE an event of class U for a record that is not CLEAR leaves the record one level up, and from LIMP on brings the safe state. -/
theorem raise_escalates {e : Ev} {s : State} (h : e.src < 120) (hu : unrecorded s e.src = false)
    (hw : ((openWindows s).any fun w => lists s.flt w e.src) = false) (hs : s.flt.safe = false) (hc : classOf s e.src = 1)
    (hb : bitAt s.flt.cfg 27 = true) (hr : (s.flt.records.getD e.src Record.reset).state ≠ .clear) (hp : ¬takenInProbe s e)
    (hl : e.src < s.flt.records.length) :
    ((raise [e] s).flt.records.getD e.src Record.reset).react = BitVec.ofNat 3 (min 6 ((s.flt.records.getD e.src Record.reset).react.toNat + 1)) ∧
      (5 ≤ (s.flt.records.getD e.src Record.reset).react.toNat → (raise [e] s).flt.safe = true) := by
  have hreact : appliedReact (lasted e s) e = min 6 ((s.flt.records.getD e.src Record.reset).react.toNat + 1) :=
    (lasted_keeps (fun t => appliedReact t e) (fun _ _ => rfl) e s).trans ((appliedReact_classU hs hc).1 hb hr hp)
  have hc' : classOf (lasted e s) e.src ≠ 0 := by
    rw [lasted_keeps (fun t => classOf t e.src) (fun _ _ => rfl), hc]
    decide
  rw [raise_records h hu hw]
  refine ⟨?_, fun h5 => recordEvent_safe_of_react hc' (hreact.trans (by omega))⟩
  rw [recordEvent_record ((lasted_keeps (fun t => t.flt.safe) (fun _ _ => rfl) e s).trans hs) hc'
    (by rwa [lasted_keeps (fun t => t.flt.records.length) fun _ _ => rfl]), hreact]

/-- Settles O24: an acknowledgement by its word and by each source's record, the self-check by what it found, the reaction by the event's class and record. -/
theorem acknowledgementAndSelfCheck : Obligations.AcknowledgementAndSelfCheck := by
  unfold Obligations.AcknowledgementAndSelfCheck
  refine ⟨selfCheck_ok, fun s => selfCheck_word, fun src s => selfCheck_entry, fun h d s hm h0 hb hf hg => ?ack, fun src s hs _ _ => ?record,
    fun h d s hm h0 hb hf => ?denied, fun h d s hm h0 hb hg => ?idle, fun src s => defaultEntryOf_entries,
    fun e s hs hc hb hr hp => (appliedReact_classU hs hc).1 hb hr hp, fun e s hs hc h => (appliedReact_classU hs hc).2 h,
    fun e s => appliedReact_classCF e s, fun e r s h hu hw hs hc hb hr he hcls hl => ?raised, fun e s hs hc hb hr hent => ?level⟩
  case ack => exact fltAck_gives_ok hm h0 ((effect_ack hg).trans (writeAck_clears hb hf))
  case record =>
    rw [ackSources_record]
    cases present s src <;> simp [List.mem_range.mpr hs]
  case denied =>
    have ho : ownEffect (.commit h) 0x084 d s = (sDenied, s) := writeAck_denied hb hf
    exact fltAck_gives hm h0 (effect_refused rfl rfl ho (by decide))
  case idle => exact fltAck_gives_ok hm h0 ((effect_ack hg).trans (writeAck_idle hb))
  case raised =>
    subst he
    exact raise_escalates h hu hw hs hc hb hr (fun hp => by simp [takenInProbe, startsRetry, hcls] at hp) hl
  case level => exact (appliedReact_classU hs hc).1 hb hr fun hp => by simp [takenInProbe, not_startsRetry hent] at hp

end Sys2Proof.Machine

/-! The retry machines under what the block does of itself: no operation on units, timers or the collector's records moves one (06 R161). -/

namespace Sys2Proof.Machine

/-- The retry machines of the channels. -/
def State.machines (s : State) : List Retry := s.chans.map Chan.retry

theorem ch_retry (s : State) (n : Nat) : (s.ch n).retry = s.machines.getD n Retry.reset := by
  simp only [State.ch, State.machines, List.getD, List.getElem?_map]
  cases s.chans[n]? <;> rfl

theorem machines_of_chans {s t : State} (h : t.chans = s.chans) : t.machines = s.machines := congrArg (List.map Chan.retry) h

@[simp] theorem onCh_machines {f : Chan → Chan} (h : ∀ c, (f c).retry = c.retry) (s : State) (n : Nat) : (s.onCh n f).machines = s.machines := by
  apply List.ext_getElem?
  intro i
  simp only [State.machines, State.onCh, List.getElem?_map, List.getElem?_modify]
  split <;> cases s.chans[i]? <;> simp [h]

@[simp] theorem onChans_machines {f : Chan → Chan} (h : ∀ c, (f c).retry = c.retry) (s : State) : (s.onChans f).machines = s.machines := by
  simp [State.machines, State.onChans, h]

@[simp] theorem onTm_machines (s : State) (t : Nat) (f : Timer → Timer) : (s.onTm t f).machines = s.machines := rfl

@[simp] theorem onFlt_machines (s : State) (f : Flt → Flt) : (s.onFlt f).machines = s.machines := rfl

@[simp] theorem forEach_machines {α : Type} {f : α → State → State} (h : ∀ a t, (f a t).machines = t.machines) (l : List α) (s : State) :
    (forEach l f s).machines = s.machines := forEach_keeps (g := State.machines) h l s

@[simp] theorem ite_machines {b : Prop} [Decidable b] (x y : State) : (if b then x else y).machines = if b then x.machines else y.machines := by
  split <;> rfl

@[simp] theorem ite_retry {b : Prop} [Decidable b] (x y : Chan) : (if b then x else y).retry = if b then x.retry else y.retry := by
  split <;> rfl

/-! ### Gates and ladders -/

@[simp] theorem returnUnit_machines (u : Nat) (s : State) : (returnUnit u s).machines = s.machines := machines_of_chans (returnUnit_chans u s)

@[simp] theorem chanOn_retry (s : State) (blank : Bool) (u : Nat) (c : Chan) : (chanOn s blank u c).retry = c.retry :=
  chanOn_keep Chan.retry (fun _ _ _ => rfl) s blank u c

@[simp] theorem gatesOn_machines (blank : Bool) (u : Nat) (s : State) : (gatesOn blank u s).machines = s.machines := by
  simp [gatesOn]

@[simp] theorem gatesOff_machines (u : Nat) (s : State) : (gatesOff u s).machines = s.machines := by
  simp [gatesOff]

@[simp] theorem resume_machines (blank : Bool) (u : Nat) (s : State) : (resume blank u s).machines = s.machines := by
  simp [resume]

@[simp] theorem startLadder_machines (u : Nat) (s : State) : (startLadder u s).machines = s.machines := by
  simp [startLadder]

@[simp] theorem advance_retry (c : Chan) (k : Nat) : (advance c k).retry = c.retry := advance_keep Chan.retry (fun _ _ => rfl) c k

@[simp] theorem ladderChop_machines (u : Nat) (s : State) : (ladderChop u s).machines = s.machines := by
  simp [ladderChop]

@[simp] theorem unitOff_machines (u : Nat) (s : State) : (unitOff u s).machines = s.machines := by
  simp [unitOff]

@[simp] theorem beginUnit_machines (u : Nat) (s : State) : (beginUnit u s).machines = s.machines := by
  simp only [beginUnit]
  (repeat' split) <;> simp

@[simp] theorem proceed_machines (u : Nat) (s : State) : (proceed u s).machines = s.machines := by
  simp [proceed]

@[simp] theorem attempt_machines (u : Nat) (s : State) : (attempt u s).machines = s.machines := by
  simp [attempt]

@[simp] theorem cutUnit_machines (u : Nat) (s : State) : (cutUnit u s).machines = s.machines := by
  simp only [cutUnit]
  (repeat' split) <;> simp

/-! ### Units brought into line -/

@[simp] theorem legHeld_machines (u : Nat) (s : State) : (legHeld u s).machines = s.machines := by
  simp [legHeld]

@[simp] theorem settleHalves_machines (u : Nat) (s : State) : (settleHalves u s).machines = s.machines := by
  simp [settleHalves]

@[simp] theorem settleUnit_machines (u : Nat) (s : State) : (settleUnit u s).machines = s.machines := by
  simp only [settleUnit]
  (repeat' split) <;> simp

@[simp] theorem settleUnits_machines (s : State) : (settleUnits s).machines = s.machines := by
  simp [settleUnits]

/-! ### Periods -/

@[simp] theorem startRefresh_machines (u : Nat) (s : State) : (startRefresh u s).machines = s.machines := by
  simp [startRefresh]

@[simp] theorem offInterval_machines (u : Nat) (s : State) : (offInterval u s).machines = s.machines := by
  simp [offInterval]

@[simp] theorem timedPeriod_machines (t u : Nat) (s : State) : (timedPeriod t u s).machines = s.machines := by
  simp only [timedPeriod]
  (repeat' split) <;> simp

@[simp] theorem coastUnit_machines (u : Nat) (s : State) : (coastUnit u s).machines = s.machines := by
  simp [coastUnit]

@[simp] theorem brakeUnit_machines (rev : Option Bridge) (u : Nat) (s : State) : (brakeUnit rev u s).machines = s.machines := by
  simp [brakeUnit]

@[simp] theorem bridgeCommand_machines (u : Nat) (s : State) : (bridgeCommand u s).machines = s.machines := by
  simp only [bridgeCommand]
  (repeat' split) <;> simp

@[simp] theorem bridgeEnter_machines (t : Nat) (d : Bridge) (u : Nat) (s : State) : (bridgeEnter t d u s).machines = s.machines := by
  simp [bridgeEnter]

@[simp] theorem bridgePeriod_machines (t : Nat) (ready : Bool) (u : Nat) (s : State) : (bridgePeriod t ready u s).machines = s.machines := by
  simp only [bridgePeriod]
  (repeat' split) <;> simp

@[simp] theorem unitPeriod_machines (t : Nat) (ready : List Nat) (u : Nat) (s : State) : (unitPeriod t ready u s).machines = s.machines := by
  simp only [unitPeriod, endLinger]
  (repeat' split) <;> simp

theorem offTimers_machines : OffTimers State.machines := fun _ _ _ => rfl

@[simp] theorem applyStaged_retry (c : Chan) : (applyStaged c).retry = c.retry := rfl

@[simp] theorem applyLatch_machines (t : Nat) (s : State) : (applyLatch t s).machines = s.machines := by
  refine (forEach_machines (fun u x => ?_) _ _).trans
    ((forEach_machines (fun n x => onCh_machines applyStaged_retry x n) _ _).trans (applyTimerLatch_keeps offTimers_machines t s))
  simp

@[simp] theorem applyLatches_machines (t : Nat) (near : BitVec 20) (fresh : Bool) (s : State) :
    (applyLatches t near fresh s).machines = s.machines := by
  simp [applyLatches]

@[simp] theorem beginPeriod_machines (t : Nat) (below : Mask12) (near : BitVec 20) (s : State) :
    (beginPeriod t below near s).machines = s.machines := by
  obtain ⟨ready, he⟩ := beginPeriod_eq t below near s
  calc (beginPeriod t below near s).machines
      = (triggerA t (periodOpened t near s)).machines := by
        rw [he, unitsFollow, countSkips_keeps (countSkip_keeps offTimers_machines)]
        exact forEach_machines (unitPeriod_machines t ready) _ _
    _ = (periodOpened t near s).machines := triggerA_keeps (fun _ _ => rfl) t _
    _ = (applyLatches t near (s.tm t).fresh (applySync t (startCount t s))).machines := syncOutPulse_keeps (fun _ _ => rfl) t _
    _ = (applySync t (startCount t s)).machines := applyLatches_machines ..
    _ = (startCount t s).machines := applySync_keeps (fun _ _ _ _ => rfl) t _
    _ = s.machines := startCount_keeps offTimers_machines t s

@[simp] theorem settleTimer_machines (t : Nat) (s : State) : (settleTimer t s).machines = s.machines := by
  simp [settleTimer]

@[simp] theorem settleTimers_machines (s : State) : (settleTimers s).machines = s.machines := by
  simp [settleTimers]

/-! ### What is noted -/

@[simp] theorem event_machines (tag : Nat) (s : State) : (event tag s).machines = s.machines := machines_of_chans (event_chans tag s)

@[simp] theorem openWindow_machines (k : Nat) (m : Mask12) (s : State) : (openWindow k m s).machines = s.machines := rfl

@[simp] theorem enterLimp_machines (s : State) : (enterLimp s).machines = s.machines := by
  unfold enterLimp
  split
  · rfl
  · refine (event_machines _ _).trans (onChans_machines (f := limpChan) (fun _ => rfl) s)

@[simp] theorem clampGates_machines (s : State) : (clampGates s).machines = s.machines := by
  apply List.ext_getElem?
  intro i
  simp only [clampGates, State.machines, List.getElem?_map, List.getElem?_mapIdx]
  cases s.chans[i]? <;> rfl

@[simp] theorem noteGates_machines (s : State) : (noteGates s).machines = s.machines := by
  simp [noteGates]

@[simp] theorem warnLease_machines (p : Port) (s : State) : (warnLease p s).machines = s.machines := by
  unfold warnLease eventAt
  dsimp only
  (repeat' split) <;> rfl

@[simp] theorem driveHealth_machines (s : State) : (driveHealth s).machines = s.machines := by
  simp [driveHealth]

/-! ### LOCKOUT (06 R161) -/

/-- The machine of CHn is in LOCKOUT, or the safe state has taken its place. -/
def LockedOut (n : Nat) (s : State) : Prop := (s.ch n).retry.state = .lockout ∨ s.flt.safe = true

theorem LockedOut.of_machines {n : Nat} {s t : State} (h : LockedOut n s) (hm : t.machines = s.machines) (hg : Grows s.flt t.flt) : LockedOut n t :=
  h.imp (fun h => by rw [ch_retry, hm, ← ch_retry, h]) hg.safe

theorem retryTake_locked {n src : Nat} {cls : RetryClass} {cause : BitVec 3} {s : State}
    (h : (s.ch n).retry.state = .lockout ∨ (s.ch n).retry.state = .safe) :
    ((retryTake n cls src cause s).ch n).retry.state = (s.ch n).retry.state := by
  rw [retryTake, ch_onCh_eq]
  split
  · rcases h with h | h <;> simp [h]
  · rfl

/-- A machine takes up the events of its own channel alone. -/
theorem retryTake_other {n k src : Nat} {cls : RetryClass} {cause : BitVec 3} {s : State} (h : k ≠ n) :
    (retryTake k cls src cause s).ch n = s.ch n := ch_onCh_ne _ _ _ _ h

/-- Whatever event comes, on this channel or another, LOCKOUT stays. -/
theorem retryTake_lockout {n k src : Nat} {cls : RetryClass} {cause : BitVec 3} {s : State} (h : (s.ch n).retry.state = .lockout) :
    ((retryTake k cls src cause s).ch n).retry.state = .lockout := by
  by_cases hk : k = n
  · subst hk
    rw [retryTake_locked (.inl h), h]
  · rw [retryTake_other hk, h]

theorem lockedOut_enterSafe (n : Nat) (s : State) : LockedOut n (enterSafe s) := .inr (enterSafe_safe s)

theorem lockedOut_forEach {α : Type} {n : Nat} {f : α → State → State} (h : ∀ a t, LockedOut n t → LockedOut n (f a t)) (l : List α) {s : State}
    (hs : LockedOut n s) : LockedOut n (forEach l f s) := by
  induction l generalizing s with
  | nil => exact hs
  | cons a l ih => exact ih (h a s hs)

theorem lockedOut_onFlt {n : Nat} {s : State} {f : Flt → Flt} (hf : (f s.flt).safe = s.flt.safe) (h : LockedOut n s) : LockedOut n (s.onFlt f) :=
  h.imp id hf.trans

theorem lockedOut_ite {n : Nat} {b : Prop} [Decidable b] {x y : State} (hx : LockedOut n x) (hy : LockedOut n y) :
    LockedOut n (if b then x else y) := by
  split <;> assumption

/-! ### LOCKOUT through an event and the aftermath of a command -/

theorem lockedOut_reactOn {n : Nat} (src : Nat) (cause : BitVec 3) (react : Nat) (perm : Bool) (owner : Nat) {s : State} (h : LockedOut n s) :
    LockedOut n (reactOn src cause react perm owner s) := by
  rcases h with h | h
  · refine .inl ?_
    unfold reactOn
    dsimp only
    split
    · refine retryTake_lockout ?_
      rw [ch_retry]
      simpa [ch_retry] using h
    · rw [ch_retry]
      simpa [ch_retry] using h
  · exact .inr ((grows_reactOn ..).safe h)

theorem lockedOut_issue {n : Nat} (e : Ev) (react : Nat) (perm : Bool) {s : State} (h : LockedOut n s) : LockedOut n (issue e react perm s) := by
  unfold issue
  refine lockedOut_ite (lockedOut_enterSafe n s) (lockedOut_forEach (fun owner t => lockedOut_reactOn _ _ _ _ owner) _ ?_)
  exact lockedOut_ite (lockedOut_forEach (fun u t ht => ht.of_machines (cutUnit_machines u t) (Grows.of_eq (flt_cutUnit u t))) _ h) h

theorem lockedOut_recordEvent {n : Nat} (e : Ev) {s : State} (h : LockedOut n s) : LockedOut n (recordEvent e s) := by
  rcases h with h | h
  · have hlogged : ∀ (t : State) (r0 : Nat), t.machines = s.machines → LockedOut n (event 24 (logPut r0 t)) := fun t r0 ht =>
      .inl (by rw [event_ch, ch_retry, machines_of_chans (logPut_chans r0 t), ht, ← ch_retry, h])
    unfold recordEvent
    exact lockedOut_ite (.inl h) (lockedOut_ite (hlogged _ _ rfl) (lockedOut_issue _ _ _ (hlogged _ _ rfl)))
  · exact .inr ((grows_recordEvent e s).safe h)

theorem lockedOut_raise {n : Nat} (evs : List Ev) {s : State} (h : LockedOut n s) : LockedOut n (raise evs s) := by
  refine lockedOut_forEach (fun e t ht => ?_) _ h
  have hmark : LockedOut n (lasted e t) := lockedOut_ite (lockedOut_onFlt rfl ht) ht
  exact lockedOut_ite (lockedOut_onFlt rfl hmark) (lockedOut_recordEvent e hmark)

/-- The aftermath of a command takes no machine out of LOCKOUT, unless it brings the safe state. -/
theorem lockedOut_settle {n : Nat} {s : State} (h : LockedOut n s) : LockedOut n (settle s) := by
  have hwarn : ∀ (p : Port) (t : State), LockedOut n t → LockedOut n (warnLease p t) := fun p t ht =>
    ht.of_machines (warnLease_machines p t) (grows_warnLease p t)
  have hlease : ∀ t : State, LockedOut n t → LockedOut n (settleLease t) := fun t ht =>
    lockedOut_onFlt rfl (lockedOut_ite (lockedOut_raise _ ht) ht)
  have hleased := hlease _ (hwarn .h1 _ (hwarn .h0 s h))
  have hrecords : LockedOut n (settleRecords (settleLease (warnLease .h1 (warnLease .h0 s)))) := hleased.of_machines rfl (grows_settleRecords _)
  have hunits := hrecords.of_machines (settleUnits_machines _) (Grows.of_eq (flt_settleUnits _))
  have htimers := hunits.of_machines (settleTimers_machines _) (Grows.of_eq (flt_settleTimers _))
  have hgates := htimers.of_machines (clampGates_machines _) (Grows.of_eq rfl)
  have hnoted := hgates.of_machines (t := noteQuiet (noteGates _)) (noteGates_machines _) (Grows.of_eq rfl)
  exact hnoted.of_machines (driveHealth_machines _) (grows_driveHealth _)

end Sys2Proof.Machine

/-! Retries: what takes a machine to WAIT or LOCKOUT, the turn-on after the wait, the recovery of a probe, and the clearing of TRYCNT (06 R142, R160 to R165, 13 R344). -/

namespace Sys2Proof.Machine

/-! ### The machine takes an event up (06 R161) -/

theorem count_noted (r : Retry) (cls : RetryClass) (l : List Nat) (us : Nat) : ({ r with taken := l, onUs := us } : Retry).count cls = r.count cls := by
  cases cls <;> rfl

/-- A machine that takes an event up: WAIT while the policy has tries left, LOCKOUT else. -/
theorem retryTake_takes {n src : Nat} {cls : RetryClass} {cause : BitVec 3} {s : State} (hn : n < s.chans.length)
    (h : (s.ch n).retry.state = .armed ∨ (s.ch n).retry.state = .wait ∨ (s.ch n).retry.state = .probe) :
    ((retryTake n cls src cause s).ch n).retry.state =
      (if (policy (s.ch n) cls).1 = false ∧ (policy (s.ch n) cls).2.1 ≤ (s.ch n).retry.count cls then .lockout else .wait) ∧
    ((retryTake n cls src cause s).ch n).retry.cls = some cls ∧ ((retryTake n cls src cause s).ch n).retry.since = guardNow s ∧
    ((retryTake n cls src cause s).ch n).retry.src = src := by
  have hzero : ∀ tries count : Nat, tries = 0 ∨ tries ≤ count ↔ tries ≤ count := fun _ _ => by omega
  rw [retryTake, ch_onCh _ _ _ hn]
  dsimp only
  split
  next hs => simp [hs] at h
  next hs => simp [hs] at h
  next =>
    refine ⟨?_, rfl, rfl, rfl⟩
    dsimp only
    rw [count_noted]
    simp [hzero]

/-- OFF takes a machine to rest, with every TRYCNT at zero (06 R161, R164). -/
theorem retryRest_armed {n : Nat} {s : State} (h : (s.ch n).retry.state ≠ .safe) (hn : n < s.chans.length) :
    ((retryRest n s).ch n).retry.state = .armed ∧ ∀ cls, ((retryRest n s).ch n).retry.count cls = 0 := by
  unfold retryRest
  split
  · exact absurd ‹_› h
  · rw [ch_onCh _ _ _ (show n < (releaseRetry n s).chans.length from hn)]
    exact ⟨rfl, fun cls => by cases cls <;> rfl⟩

/-- A probe that recovers leaves its machine ARMED, with nothing taken up (06 R165). -/
theorem retryRecover_ch {n : Nat} {s : State} (hn : n < s.chans.length) :
    (retryRecover n s).ch n = { s.ch n with retry := { (s.ch n).retry with state := .armed, taken := [] } } := by
  unfold retryRecover
  exact ch_onCh (s.onFlt _) n _ hn

/-! ### The turn-on (06 R142, R159, R163) -/

theorem count_bump (r : Retry) (cls : RetryClass) : (r.bump cls).count cls = r.count cls + 1 := by
  cases cls <;> rfl

/-- A channel that a retry turns on: its latches and the BST_UV hold end, and its machine probes. -/
def retried (cls : RetryClass) (c : Chan) : Chan :=
  { c with scLatch := false, hsLatch := false, dsLatch := false, uvHold := false, retry := { c.retry.bump cls with state := .probe, probeUs := 0 } }

theorem retried_count (cls : RetryClass) (c : Chan) : (retried cls c).retry.count cls = c.retry.count cls + 1 := by
  rw [← count_bump]
  cases cls <;> rfl

/-- What a retry's turn-on leaves of its channel; a cancelled turn-on may come anew. -/
theorem retryTurnOn_ch {n : Nat} {cls : RetryClass} {s : State} (hn : n < s.chans.length) :
    ∃ b, (retryTurnOn n cls s).ch n = retried cls { s.ch n with cancelled := b } := by
  unfold retryTurnOn
  dsimp only
  split
  · have hl : n < (releaseRetry n (s.onCh (leader s n) fun c => { c with cancelled := false })).chans.length := by
      simpa [releaseRetry] using hn
    rw [ch_onCh _ _ _ hl]
    have hch : (releaseRetry n (s.onCh (leader s n) fun c => { c with cancelled := false })).ch n =
        (s.onCh (leader s n) fun c => { c with cancelled := false }).ch n := rfl
    rw [hch, ch_onCh_eq]
    split
    · exact ⟨_, rfl⟩
    · exact ⟨(s.ch n).cancelled, rfl⟩
  · exact ⟨(s.ch n).cancelled, ch_onCh (releaseRetry n s) n _ hn⟩

/-- The holds that the machine ran are gone. -/
theorem retryTurnOn_holds (n : Nat) (cls : RetryClass) (s : State) : ∀ h ∈ (retryTurnOn n cls s).flt.holds, h.owner = n → h.retryHeld = false := by
  intro h hh ho
  have hf : !(h.owner == n && h.retryHeld) := (List.mem_filter.mp (show h ∈ List.filter _ _ from hh)).2
  simpa [ho] using hf

/-! ### The commands of the machine -/

theorem retryWaitExpiry_turnsOn {n : Fin 12} {cls : RetryClass} {s : State} (hs : (s.ch n).retry.state = .wait) (hc : (s.ch n).retry.cls = some cls)
    (ht : guardSince s (s.ch n).retry.since (waitUs (policy (s.ch n) cls).2.2 * 9 / 10) = true) (hr : retryCondition s n = true)
    (hq : (s.ch (leader s n)).onReq = true) (hg : s.clk.guardStop = false) : Gives (.retryWaitExpiry n) s (retryTurnOn n cls s) := by
  refine gives_of_eq rfl ?_
  rw [hs, hc]
  exact if_pos (by simp [ht, hr, hq, hg])

/-- Without a wait that has ended, or with GUARD stopped, RETRY_WAIT_EXPIRY does nothing. -/
theorem retryWaitExpiry_idle {n : Fin 12} {s : State} (h : (s.ch n).retry.state ≠ .wait ∨ s.clk.guardStop = true) : Gives (.retryWaitExpiry n) s s := by
  refine gives_of_eq rfl ?_
  split
  next hs _ =>
    have hg := h.resolve_left (not_not_intro hs)
    exact if_neg (by simp [hg])
  next => rfl

theorem probeRecovery_recovers {n : Fin 12} {s : State} (hs : (s.ch n).retry.state = .probe) (ht : 100000 ≤ (s.ch n).retry.probeUs)
    (hg : s.clk.guardStop = false) : Gives (.probeRecovery n) s (retryRecover n s) :=
  gives_of_eq rfl (if_pos (by simp [hs, ht, hg]))

theorem probeRecovery_idle {n : Fin 12} {s : State} (h : (s.ch n).retry.state ≠ .probe ∨ s.clk.guardStop = true) : Gives (.probeRecovery n) s s :=
  gives_of_eq rfl (if_neg (by rcases h with h | h <;> simp [h]))

theorem trycntClear_clears {n : Fin 12} {s : State} (ht : 10000000 ≤ (s.ch n).retry.onUs) (hg : s.clk.guardStop = false) :
    Gives (.trycntClear n) s (s.onCh n fun c => { c with retry := { c.retry with tryOvl := 0, tryBst := 0, tryInrush := 0, onUs := 0 } }) :=
  gives_of_eq rfl (onCh_congr (if_pos (by simp [ht, hg])))

theorem trycntClear_idle {n : Fin 12} {s : State} (hg : s.clk.guardStop = true) : Gives (.trycntClear n) s s :=
  gives_of_eq rfl (onCh_id (if_neg (by simp [hg])))

/-- A command that leaves the state to its aftermath keeps a machine in LOCKOUT. -/
theorem lockout_kept {i : Instr} {n : Nat} {s : State} (hi : Gives i s s) (h : (s.ch n).retry.state = .lockout) :
    ∃ t, exec i s = .next t ∧ ((t.ch n).retry.state = .lockout ∨ t.flt.safe = true) :=
  ⟨_, hi, lockedOut_settle (.inl h)⟩

/-! ### Conditions and waits (06 R160, R162) -/

/-- The class condition, by class and cause. -/
theorem retryCondition_cases (n : Nat) (s : State) : let r := (s.ch n).retry
    (r.cls ≠ some .ovl → retryCondition s n = true) ∧
    (r.cls = some .ovl → r.cause = causeI2t → (retryCondition s n = true ↔ (s.ch n).e ≤ (s.ch n).irefEff ^ 2)) ∧
    (r.cls = some .ovl → (r.cause = causeOts ∨ r.cause = causeOtf) →
      retryCondition s n = (cool (s.meas.rushes.getD (8 * n + 5) none) && cool (s.meas.rushes.getD (8 * n + 7) none))) ∧
    (r.cls = some .ovl → r.cause = causeClp → retryCondition s n = true) := by
  refine ⟨fun hc => by simp [retryCondition, hc], fun hc hu => by simp [retryCondition, hc, hu, sq], fun hc hu => ?_, fun hc hu => ?_⟩
  · rcases hu with hu | hu <;> simp [retryCondition, hc, hu, causeI2t, causeOts, causeOtf]
  · simp [retryCondition, hc, hu, causeI2t, causeOts, causeOtf, causeClp]

theorem cool_iff {w : SampleOpt} {x : Sample} (h : usable w = some x) : cool w = true ↔ (x.value.toInt : Rat) / 64 < 145 := by
  have hdiv : (x.value.toInt : Rat) / 64 < 145 ↔ x.value.toInt < 9280 := by
    rw [div_lt_iff₀ (by norm_num)]
    norm_num
    exact_mod_cast Iff.rfl
  rw [hdiv, cool, h]
  exact decide_eq_true_iff

theorem cool_unusable {w : SampleOpt} (h : usable w = none) : cool w = false := by
  simp [cool, h]

/-- The waits of R160's table: four a decade. -/
theorem waitUs_decade (k : Nat) : (k ≤ 5 → waitUs (4 * k) = 100 * 10 ^ k) ∧
    (k ≤ 4 → waitUs (4 * k + 1) = 178 * 10 ^ k ∧ waitUs (4 * k + 2) = 316 * 10 ^ k ∧ waitUs (4 * k + 3) = 562 * 10 ^ k) := by
  refine ⟨fun h => ?_, fun h => ?_⟩
  · interval_cases k <;> rfl
  · interval_cases k <;> exact ⟨rfl, rfl, rfl⟩

/-- Settles O19: each command by its machine's state, each move of a machine by what it leaves of the channel, LOCKOUT by what no aftermath takes back. -/
theorem retryCommands : Obligations.RetryCommands := by
  unfold Obligations.RetryCommands
  refine ⟨fun n cls s => retryWaitExpiry_turnsOn, fun n cls s hn => ?turnOn, fun n s hs ht hg => ⟨probeRecovery_recovers hs ht hg, ?recovers⟩,
    fun n s => trycntClear_clears, fun n src cls cause s => retryTake_takes, fun n src cls cause s => retryTake_locked, fun n s => retryRest_armed,
    fun n s hn _ => ?recovered, fun n s hg => ⟨trycntClear_idle hg, retryWaitExpiry_idle (.inr hg), probeRecovery_idle (.inr hg)⟩,
    fun n s h => retryWaitExpiry_idle (.inl h), fun n s h => probeRecovery_idle (.inl h), fun n s h => ?lockout, retryCondition_cases,
    fun w x => cool_iff, waitUs_decade, fun w => cool_unusable, fun s t us => decide_eq_true_iff⟩
  case turnOn =>
    obtain ⟨b, hch⟩ := retryTurnOn_ch (cls := cls) hn
    dsimp only
    rw [hch]
    exact ⟨rfl, rfl, rfl, rfl, rfl, retried_count cls _, retryTurnOn_holds n cls s⟩
  case recovers =>
    refine ⟨_, probeRecovery_recovers hs ht hg, ?_, ?_⟩
    · exact still_keeps (fun t => t.flt.recovSrc) (fun _ => rfl) (still_settle _)
    · exact still_keeps (fun t => t.flt.recov) (fun _ => rfl) (still_settle _)
  case recovered =>
    rw [retryRecover_ch hn]
    exact ⟨rfl, rfl⟩
  case lockout =>
    exact ⟨lockout_kept (retryWaitExpiry_idle (.inl (by simp [h]))) h, lockout_kept (probeRecovery_idle (.inl (by simp [h]))) h⟩

end Sys2Proof.Machine

/-! The safe state is left only by a reset (07 R195, 15 R381). What each operation behind the rows leaves of the collector: most leave it whole or leave
its safe state as it is; those that raise events may bring the safe state, and none takes it back. -/

namespace Sys2Proof.Machine

/-- Of what stood and what `f` leaves, whether `f` brings the safe state. -/
def bringsSafe (f : State → State) (s : State) : Bool := !s.flt.safe && (f s).flt.safe

/-- An operation that never leaves the safe state: it stands after it where it stood before, or where the operation brings it. -/
theorem safe_eq_or {f : State → State} (h : ∀ s, s.flt.safe = true → (f s).flt.safe = true) (s : State) :
    (f s).flt.safe = (s.flt.safe || bringsSafe f s) := by
  cases hs : s.flt.safe with
  | true => exact h s hs
  | false => simp [bringsSafe, hs]

/-- The same of an operation that answers beside its state. -/
theorem snd_safe_eq_or {α : Type} {f : State → α × State} (h : ∀ s, s.flt.safe = true → (f s).2.flt.safe = true) (s : State) :
    (f s).2.flt.safe = (s.flt.safe || bringsSafe (fun s => (f s).2) s) := safe_eq_or h s

/-! ### Choices and runs -/

@[simp] theorem ite_flt {b : Prop} [Decidable b] (x y : State) : (if b then x else y).flt = if b then x.flt else y.flt := by
  split <;> rfl

@[simp] theorem ite_fltSafe {b : Prop} [Decidable b] (x y : Flt) : (if b then x else y).safe = if b then x.safe else y.safe := by
  split <;> rfl

@[simp] theorem ite_snd_flt {α : Type} {b : Prop} [Decidable b] (x y : α × State) :
    (if b then x else y).2.flt = if b then x.2.flt else y.2.flt := by
  split <;> rfl

@[simp] theorem forEach_flt {α : Type} {f : α → State → State} (h : ∀ a t, (f a t).flt = t.flt) (l : List α) (s : State) :
    (forEach l f s).flt = s.flt := flt_forEach l f h s

@[simp] theorem forEachCh_flt (l : List Nat) (f : State → Nat → Chan → Chan) (s : State) :
    (forEach l (fun n s => s.onCh n (f s n)) s).flt = s.flt := flt_forEachCh rfl

@[simp] theorem forEach_safe {α : Type} {f : α → State → State} (h : ∀ a t, t.flt.safe = true → (f a t).flt.safe = true) (l : List α) (s : State) :
    (forEach l f s).flt.safe = (s.flt.safe || bringsSafe (forEach l f) s) := by
  refine safe_eq_or (fun s hs => ?_) s
  induction l generalizing s with
  | nil => exact hs
  | cons a l ih => rw [forEach_cons]; exact ih _ (h a s hs)

/-! ### Named bits, event tags, the fault log and the programs that wait -/

@[simp] theorem flt_namedBits (k pos : Nat) (w : W36) (s : State) : (namedBits k pos w s).2.flt = s.flt := by
  unfold namedBits
  split <;> simp [State.draw]

@[simp] theorem flt_namedAddr (pos : Nat) (w : W36) (s : State) : (namedAddr pos w s).2.flt = s.flt := by simp [namedAddr]

@[simp] theorem flt_choosePage (p : Program) (page : Option Nat) (s : State) : (choosePage p page s).flt = s.flt := by simp [choosePage]

@[simp] theorem flt_deferProgram (s : State) : (deferProgram s).flt = s.flt := by simp [deferProgram]

@[simp] theorem flt_tryProgram (s : State) : (tryProgram s).flt = s.flt := by
  unfold tryProgram
  (repeat' split) <;> simp

/-! ### The safe state, limp-home and the recording of an event -/

@[simp] theorem flt_safeUnit (u : Nat) (s : State) : (safeUnit u s).flt = s.flt := flt_onCh' (flt_unitOff _ _)

@[simp] theorem safe_enterSafe (s : State) : (enterSafe s).flt.safe = true := enterSafe_safe s

@[simp] theorem safe_releaseRetry (n : Nat) (s : State) : (releaseRetry n s).flt.safe = s.flt.safe := by simp [releaseRetry]

@[simp] theorem safe_liftHolds (src : Nat) (s : State) : (liftHolds src s).flt.safe = s.flt.safe := by simp [liftHolds]

@[simp] theorem safe_recordEvent (e : Ev) (s : State) : (recordEvent e s).flt.safe = (s.flt.safe || bringsSafe (recordEvent e) s) :=
  safe_eq_or (fun s => (grows_recordEvent e s).safe) s

@[simp] theorem safe_raise (evs : List Ev) (s : State) : (raise evs s).flt.safe = (s.flt.safe || bringsSafe (raise evs) s) :=
  safe_eq_or (fun s => (grows_raise evs s).safe) s

@[simp] theorem safe_retryRest (n : Nat) (s : State) : (retryRest n s).flt.safe = s.flt.safe := by
  unfold retryRest
  split <;> simp

/-! ### Segments and the gate supply -/

@[simp] theorem flt_retire (n i : Nat) (s : State) : (retire n i s).flt = s.flt := by simp [retire, requestMap, barIfDead]

@[simp] theorem safe_criterion (n i : Nat) (why : BitVec 2) (s : State) :
    (criterion n i why s).flt.safe = (s.flt.safe || bringsSafe (criterion n i why) s) := safe_eq_or (fun s hsafe => by simp [hsafe, criterion]) s

@[simp] theorem flt_onSeg (n i : Nat) (f : SegMon → SegMon) (s : State) : (onSeg n i f s).flt = s.flt := by simp [onSeg]

@[simp] theorem flt_setProt (n i : Nat) (s : State) : (setProt n i s).flt = s.flt := by simp [setProt]

@[simp] theorem safe_desatClose (n : Nat) (s : State) :
    (desatClose n s).flt.safe = (s.flt.safe || bringsSafe (desatClose n) s) := by
  refine safe_eq_or (fun s hsafe => ?_) s
  unfold desatClose
  split <;> simp +contextual [hsafe, soloClose]

@[simp] theorem safe_desatTrip (n i ns : Nat) (s : State) :
    (desatTrip n i ns s).flt.safe = (s.flt.safe || bringsSafe (desatTrip n i ns) s) := by
  refine safe_eq_or (fun s hsafe => ?_) s
  unfold desatTrip
  split <;> simp [hsafe]

@[simp] theorem safe_raiseBstUv (chs : List Nat) (s : State) :
    (raiseBstUv chs s).flt.safe = (s.flt.safe || bringsSafe (raiseBstUv chs) s) := safe_eq_or (fun s hsafe => by simp [hsafe, raiseBstUv]) s

@[simp] theorem flt_setBank (s : State) (x : Bank) (ok : Bool) : (setBank s x ok).flt = s.flt := by
  unfold setBank
  split <;> simp

@[simp] theorem flt_dipUnit (u : Nat) (s : State) : (dipUnit u s).flt = s.flt := by
  unfold dipUnit
  split <;> simp

/-! ### Steps, cuts and refresh -/

@[simp] theorem flt_countCut (n : Nat) (s : State) : (countCut n s).flt = s.flt := by simp [countCut]

@[simp] theorem safe_reengage (u : Nat) (s : State) :
    (reengage u s).flt.safe = (s.flt.safe || bringsSafe (reengage u) s) := safe_eq_or (fun s hsafe => by simp [hsafe, reengage]) s

@[simp] theorem safe_stepEnd (u : Nat) (s : State) :
    (stepEnd u s).flt.safe = (s.flt.safe || bringsSafe (stepEnd u) s) := safe_eq_or (fun s hsafe => by simp [hsafe, stepEnd, ladderEnd, enterBase]) s

@[simp] theorem flt_placeRefresh (n : Nat) (s : State) : (placeRefresh n s).flt = s.flt := by
  simp only [placeRefresh]
  (repeat' split) <;> simp

@[simp] theorem flt_refresh (n : Nat) (s : State) : (refresh n s).flt = s.flt := by simp [refresh]

/-! ### Conversions and samples -/

@[simp] theorem flt_nearest (q : Rat) (s : State) : (nearest q s).2.flt = s.flt := by simp [nearest]

@[simp] theorem flt_clampTo (lo hi : Int) (q : Rat) (s : State) : (clampTo lo hi q s).2.2.flt = s.flt := by
  simp only [clampTo]
  (repeat' split) <;> simp

@[simp] theorem flt_putRushes (i : Nat) (w : SampleOpt) (s : State) : (putRushes i w s).flt = s.flt := by simp [putRushes]

@[simp] theorem flt_imean (n : Nat) (s : State) : (imean n s).flt = s.flt := by simp [imean]

@[simp] theorem flt_lostIpri (n : Nat) (s : State) : (lostIpri n s).flt = s.flt := by
  unfold lostIpri
  split <;> simp

@[simp] theorem flt_isecValue (s : State) (n : Nat) (raw : Int) : (isecValue s n raw).2.2.flt = s.flt := by
  unfold isecValue
  split <;> simp [State.draw]

@[simp] theorem safe_crossCheck (n : Nat) (isec : Int) (q : BitVec 2) (quiet : Bool) (s : State) :
    (crossCheck n isec q quiet s).flt.safe = (s.flt.safe || bringsSafe (crossCheck n isec q quiet) s) := by
  refine safe_eq_or (fun s hsafe => ?_) s
  simp only [crossCheck]
  split <;> simp [hsafe]

@[simp] theorem safe_recordIsec (n : Nat) (raw : Int) (quiet : Quiet) (diff : BitVec 8) (s : State) :
    (recordIsec n raw quiet diff s).flt.safe = (s.flt.safe || bringsSafe (recordIsec n raw quiet diff) s) := by
  refine safe_eq_or (fun s hsafe => ?_) s
  simp [hsafe, recordIsec]

@[simp] theorem flt_recordVolt (gain offs i : Nat) (lsb : Rat) (top : Int) (place : Nat) (raw : Int) (diff : BitVec 8) (s : State) :
    (recordVolt gain offs i lsb top place raw diff s).flt = s.flt := by
  simp [recordVolt]

@[simp] theorem flt_recordVout (n : Nat) (raw : Int) (diff : BitVec 8) (s : State) : (recordVout n raw diff s).flt = s.flt := by
  simp [recordVout]

@[simp] theorem flt_recordVbst (n : Nat) (raw : Int) (diff : BitVec 8) (s : State) : (recordVbst n raw diff s).flt = s.flt := by
  simp [recordVbst]

@[simp] theorem flt_recordVbat (x : Nat) (raw : Int) (diff : BitVec 8) (s : State) : (recordVbat x raw diff s).flt = s.flt := by
  simp [recordVbat]

@[simp] theorem flt_sweepEnd (n : Nat) (s : State) : (sweepEnd n s).flt = s.flt := by simp [sweepEnd]

@[simp] theorem safe_warmCheck (n : Nat) (s : State) :
    (warmCheck n s).flt.safe = (s.flt.safe || bringsSafe (warmCheck n) s) := safe_eq_or (fun s hsafe => by simp +contextual [hsafe, warmCheck]) s

@[simp] theorem flt_noteSweep (k : Nat) (s : State) : (noteSweep k s).flt = s.flt := by simp [noteSweep]

@[simp] theorem safe_diodeFw (n : Nat) (v : Int) (o : Bool) (diff : BitVec 8) (s : State) :
    (diodeFw n v o diff s).flt.safe = (s.flt.safe || bringsSafe (diodeFw n v o diff) s) := by
  refine safe_eq_or (fun s hsafe => ?_) s
  simp +contextual [hsafe, diodeFw]

@[simp] theorem flt_setSnap (p : Port) (x : Option Snap) (s : State) : (setSnap p x s).flt = s.flt := by simp [setSnap]

/-! ### Trips -/

@[simp] theorem safe_scTrip (n ns : Nat) (s : State) :
    (scTrip n ns s).flt.safe = (s.flt.safe || bringsSafe (scTrip n ns) s) := safe_eq_or (fun s hsafe => by simp [hsafe, scTrip]) s

@[simp] theorem flt_setTrip (j : Nat) (b : Bool) (s : State) : (setTrip j b s).flt = s.flt := by simp [setTrip]

/-! ### The injection's force -/

@[simp] theorem safe_defer (e : Ev) (s : State) : (defer e s).flt.safe = s.flt.safe := by
  simp only [defer, onFlt_flt]
  split <;> rfl

@[simp] theorem safe_setRecState (src : Nat) (x : RecState) (s : State) : (setRecState src x s).flt.safe = s.flt.safe := by simp [setRecState]

@[simp] theorem safe_injEnd (s : State) : (injEnd s).flt.safe = s.flt.safe := by simp [injEnd]

@[simp] theorem safe_injLeave (h : Port) (s : State) : (injLeave h s).flt.safe = s.flt.safe := by
  unfold injLeave
  split <;> simp

@[simp] theorem flt_forceLatch (src : Nat) (acc : List Ev × State) : (forceLatch src acc).2.flt = acc.2.flt := by
  simp [forceLatch]

@[simp] theorem flt_forceLatches (l : List Nat) (acc : List Ev × State) : (l.foldl (fun acc i => forceLatch i acc) acc).2.flt = acc.2.flt := by
  induction l generalizing acc with
  | nil => simp
  | cons i l ih => simp [ih]

@[simp] theorem safe_writeForce (w : Nat) (d : D28) (s : State) :
    (writeForce w d s).2.flt.safe = (s.flt.safe || bringsSafe (fun s => (writeForce w d s).2) s) := by
  refine snd_safe_eq_or (fun s hsafe => ?_) s
  simp [hsafe, writeForce]

/-! ### The store, the flacon's energy and last rites -/

@[simp] theorem safe_holdEnergy (s : State) :
    (holdEnergy s).flt.safe = (s.flt.safe || bringsSafe holdEnergy s) := safe_eq_or (fun s hsafe => by simp [hsafe, holdEnergy, judgeLow]) s

@[simp] theorem flt_startCounters (s : State) : (startCounters s).flt = s.flt := by simp [startCounters]

@[simp] theorem flt_capOf (sum1 sum2 : Nat) (s : State) : (capOf sum1 sum2 s).2.flt = s.flt := by
  unfold capOf
  split <;> simp [State.draw]

@[simp] theorem flt_nextImage (s : State) : (nextImage s).flt = s.flt := by simp [nextImage]

@[simp] theorem flt_stored (p : Program) (s : State) : (stored p s).flt = s.flt := by
  unfold stored
  (repeat' split) <;> simp [mapStored]

@[simp] theorem flt_programWaits (p : Program) (out : Bool) (s : State) : (programWaits p out s).flt = s.flt := by
  unfold programWaits
  split <;> simp [mapMissed]

@[simp] theorem safe_programDone (reads : Bool) (s : State) :
    (programDone reads s).flt.safe = (s.flt.safe || bringsSafe (programDone reads) s) := by
  refine safe_eq_or (fun s hsafe => ?_) s
  unfold programDone
  split <;> simp [hsafe, programFailed]

@[simp] theorem flt_scanStore (s : State) : (scanStore s).flt = s.flt := by simp [scanStore]

@[simp] theorem flt_ritesStop (s : State) : (ritesStop s).flt = s.flt := by simp [ritesStop]

@[simp] theorem flt_ritesAbandon (s : State) : (ritesAbandon s).flt = s.flt := by simp [ritesAbandon]

@[simp] theorem flt_ritesPlace (cause : BitVec 3) (s : State) : (ritesPlace cause s).flt = s.flt := by simp [ritesPlace]

@[simp] theorem flt_setSup (x : Supply) (b : Bool) (s : State) : (setSup x b s).flt = s.flt := by
  unfold setSup
  split <;> simp

/-! ### Self-tests -/

@[simp] theorem flt_takeUnits (crypto march later : Bool) (s : State) : (takeUnits crypto march later s).flt = s.flt := by simp [takeUnits]

@[simp] theorem flt_unitsServed (march : Bool) (s : State) : (unitsServed march s).flt = s.flt := by simp [unitsServed]

@[simp] theorem safe_testResult (r : Running) (fail : Option (Nat × BitVec 2)) (s : State) :
    (testResult r fail s).flt.safe = (s.flt.safe || bringsSafe (testResult r fail) s) := by
  refine safe_eq_or (fun s hsafe => ?_) s
  simp [hsafe, testResult, setEnd]

@[simp] theorem safe_sliceDone (l : Lane) (r : Running) (bad : Bool) (s : State) :
    (sliceDone l r bad s).flt.safe = (s.flt.safe || bringsSafe (sliceDone l r bad) s) := by
  refine safe_eq_or (fun s hsafe => ?_) s
  unfold sliceDone
  split <;> simp [hsafe]

@[simp] theorem safe_testEnds (l : Lane) (r : Running) (found : TestEnd) (s : State) :
    (testEnds l r found s).flt.safe = (s.flt.safe || bringsSafe (testEnds l r found) s) := by
  refine safe_eq_or (fun s hsafe => ?_) s
  unfold testEnds
  split <;> simp [hsafe, keepCommand]

@[simp] theorem flt_startSet (s : State) : (startSet s).flt = s.flt := by simp [startSet]

@[simp] theorem flt_abortQueued (test : Nat) (s : State) : (abortQueued test s).flt = s.flt := by simp [abortQueued]

@[simp] theorem flt_abortTests (s : State) : (abortTests s).flt = s.flt := by
  refine (flt_forEach _ _ (fun l t => ?_) _).trans (flt_forEach _ _ flt_abortQueued s)
  split
  · exact flt_ite rfl (flt_bistIncomplete l 2 t)
  · rfl

/-! ### Start and load -/

@[simp] theorem flt_generateKey (rbgOk : Bool) (s : State) : (generateKey rbgOk s).flt = s.flt := by
  unfold generateKey
  split <;> simp [State.draw]

@[simp] theorem flt_clkFlag (i : Nat) (s : State) : (clkFlag i s).flt = s.flt := by simp [clkFlag]

@[simp] theorem safe_applyPlan (p : Plan) (ws : List D28) (s : State) : (applyPlan p ws s).flt.safe = s.flt.safe := by simp [applyPlan]

@[simp] theorem safe_applyStructure (p : Plan) (ws : List D28) (s : State) :
    (applyStructure p ws s).flt.safe = (s.flt.safe || bringsSafe (applyStructure p ws) s) :=
  safe_eq_or (fun s hsafe => by simp [hsafe, applyStructure]) s

@[simp] theorem flt_recordLoad (reel : BitVec 2) (v : Verdict) (s : State) : (recordLoad reel v s).flt = s.flt := rfl

@[simp] theorem flt_noteDqs (missed : Bool) (s : State) : (noteDqs missed s).flt = s.flt := by simp [noteDqs]

@[simp] theorem safe_reelDone (r : ReelRead) (s : State) :
    (reelDone r s).flt.safe = (s.flt.safe || bringsSafe (reelDone r) s) := by
  refine safe_eq_or (fun s hsafe => ?_) s
  simp only [reelDone]
  split <;> simp [hsafe]

/-! ### Register reads -/

@[simp] theorem flt_putLatch (p : Path) (q : Quantity) (x : Option (BitVec 20)) (s : State) : (putLatch p q x s).flt = s.flt := by
  unfold putLatch
  split <;> simp

@[simp] theorem flt_readLow (p : Path) (q : Quantity) (s : State) : (readLow p q s).2.flt = s.flt := by simp [readLow]

@[simp] theorem flt_readHigh (p : Path) (q : Quantity) (s : State) : (readHigh p q s).2.flt = s.flt := by
  unfold readHigh
  split <;> simp

@[simp] theorem flt_readReg (p : Path) (a : Nat) (s : State) : (readReg p a s).2.flt = s.flt := by
  unfold readReg
  split <;> simp

@[simp] theorem flt_readRun (p : Path) (a k : Nat) (s : State) : (readRun p a k s).2.flt = s.flt := by
  induction k generalizing s with
  | zero => simp [readRun]
  | succ k ih => simp [readRun, ih]

/-! ### The TAP and provisioning -/

@[simp] theorem flt_writeProv (key : D28) (r : ReelRead) (s : State) : (writeProv key r s).2.flt = s.flt := by
  simp only [writeProv]
  (repeat' split) <;> simp

@[simp] theorem flt_loadOpcode (opcode : BitVec 8) (s : State) : (loadOpcode opcode s).flt = s.flt := by simp [loadOpcode]

@[simp] theorem flt_scanBypass (bits : List Bool) (s : State) : (scanBypass bits s).flt = s.flt := by simp [scanBypass]

@[simp] theorem flt_scanCells (pins bits : List Bool) (s : State) : (scanCells pins bits s).flt = s.flt := by simp [scanCells]

/-! ### Register writes -/

@[simp] theorem flt_tmrWrite (t k : Nat) (d : D28) (s : State) : (tmrWrite t k d s).2.flt = s.flt := by
  unfold tmrWrite
  split <;> simp [writePer, writeDuty, writePhase, writeEdge]

@[simp] theorem flt_requestOn (n : Nat) (s : State) : (requestOn n s).flt = s.flt := by simp [requestOn]

@[simp] theorem safe_requestOff (n : Nat) (s : State) : (requestOff n s).flt.safe = (s.flt.safe || bringsSafe (requestOff n) s) :=
  safe_eq_or (fun s hsafe => by simp [requestOff, hsafe]) s

@[simp] theorem safe_writeCtl (n : Nat) (d : D28) (s : State) :
    (writeCtl n d s).2.flt.safe = (s.flt.safe || bringsSafe (fun s => (writeCtl n d s).2) s) :=
  snd_safe_eq_or (fun s hsafe => by simp [writeCtl, hsafe]) s

@[simp] theorem safe_writeRetire (n : Nat) (d : D28) (s : State) :
    (writeRetire n d s).2.flt.safe = (s.flt.safe || bringsSafe (fun s => (writeRetire n d s).2) s) :=
  snd_safe_eq_or (fun s hsafe => by simp [writeRetire, hsafe]) s

@[simp] theorem safe_chWrite (n o : Nat) (d : D28) (s : State) :
    (chWrite n o d s).2.flt.safe = (s.flt.safe || bringsSafe (fun s => (chWrite n o d s).2) s) := by
  refine snd_safe_eq_or (fun s hsafe => ?_) s
  unfold chWrite
  split <;> simp [hsafe, writeIlim, writeScth, writeI2t]

@[simp] theorem safe_fltWrite (a : Access) (o : Nat) (d : D28) (s : State) :
    (fltWrite a o d s).2.flt.safe = (s.flt.safe || bringsSafe (fun s => (fltWrite a o d s).2) s) := by
  refine snd_safe_eq_or (fun s hsafe => ?_) s
  unfold fltWrite
  (repeat' split) <;> simp [hsafe, writeAck, ackSource, writeInjen]

@[simp] theorem safe_measWrite (a : Access) (o : Nat) (d : D28) (s : State) :
    (measWrite a o d s).2.flt.safe = (s.flt.safe || bringsSafe (fun s => (measWrite a o d s).2) s) := by
  refine snd_safe_eq_or (fun s hsafe => ?_) s
  unfold measWrite
  (repeat' split) <;> simp [hsafe, writeZero, writeCalsel, writeFresh, writeMeasCtl]

@[simp] theorem flt_clkWrite (o : Nat) (d : D28) (s : State) : (clkWrite o d s).2.flt = s.flt := by
  unfold clkWrite
  split <;> simp

@[simp] theorem flt_writeLimpExit (d : D28) (s : State) : (writeLimpExit d s).2.flt = s.flt := by simp [writeLimpExit, leaveLimp]

@[simp] theorem flt_writeBistCmd (d : D28) (s : State) : (writeBistCmd d s).2.flt = s.flt := by simp [writeBistCmd, queueTest]

@[simp] theorem flt_writeArb (level : Nat) (s : State) : (writeArb level s).2.flt = s.flt := by simp [writeArb]

@[simp] theorem flt_writeClap (d : D28) (s : State) : (writeClap d s).flt = s.flt := by
  simp [writeClap, clapTimer, clapUnrouted]

@[simp] theorem flt_tbaseWrite (o : Nat) (d : D28) (s : State) : (tbaseWrite o d s).2.flt = s.flt := by simp [tbaseWrite, flt_writeClap]

@[simp] theorem flt_nvsWrite (o : Nat) (d : D28) (s : State) : (nvsWrite o d s).2.flt = s.flt := by simp [nvsWrite, writeLogsel]

@[simp] theorem flt_portWrite (o : Nat) (d : D28) (s : State) : (portWrite o d s).2.flt = s.flt := by simp [portWrite, writeFpage, writeLen]

@[simp] theorem safe_ownEffect (a : Access) (addr : Nat) (d : D28) (s : State) :
    (ownEffect a addr d s).2.flt.safe = (s.flt.safe || bringsSafe (fun s => (ownEffect a addr d s).2) s) :=
  snd_safe_eq_or (fun s hsafe => by simp [ownEffect, hsafe]) s

@[simp] theorem flt_holdWord (addr : Nat) (d : D28) (s : State) : (holdWord addr d s).flt = s.flt := by simp [holdWord]

@[simp] theorem safe_effect (a : Access) (addr : Nat) (d : D28) (s : State) :
    (effect a addr d s).2.flt.safe = (s.flt.safe || bringsSafe (fun s => (effect a addr d s).2) s) := by
  refine snd_safe_eq_or (fun s hsafe => ?_) s
  simp [hsafe, effect, heldEffect]

@[simp] theorem safe_commitPair (h : Port) (addr : Nat) (d : D28) (s : State) :
    (commitPair h addr d s).2.flt.safe = (s.flt.safe || bringsSafe (fun s => (commitPair h addr d s).2) s) := by
  refine snd_safe_eq_or (fun s hsafe => ?_) s
  unfold commitPair
  (repeat' split) <;> simp [hsafe]

@[simp] theorem safe_writeWord (h : Port) (addr : Nat) (d : D28) (s : State) :
    (writeWord h addr d s).2.flt.safe = (s.flt.safe || bringsSafe (fun s => (writeWord h addr d s).2) s) := by
  refine snd_safe_eq_or (fun s hsafe => ?_) s
  unfold writeWord
  split <;> simp [hsafe]

@[simp] theorem safe_dbgWord (addr : Nat) (d : D28) (s : State) :
    (dbgWord addr d s).2.flt.safe = (s.flt.safe || bringsSafe (fun s => (dbgWord addr d s).2) s) := by
  refine snd_safe_eq_or (fun s hsafe => ?_) s
  unfold dbgWord
  split <;> simp [hsafe]

@[simp] theorem flt_noteLast (h : Port) (src addr : Nat) (st : BitVec 8) (s : State) : (noteLast h src addr st s).flt = s.flt := by
  simp [noteLast]

@[simp] theorem safe_hostWrite (h : Port) (addr : Nat) (d : D28) (s : State) :
    (hostWrite h addr d s).2.flt.safe = (s.flt.safe || bringsSafe (fun s => (hostWrite h addr d s).2) s) :=
  snd_safe_eq_or (fun s hsafe => by simp [hsafe, hostWrite]) s

@[simp] theorem safe_hostCommit (h : Port) (addr : Nat) (d : D28) (s : State) :
    (hostCommit h addr d s).2.flt.safe = (s.flt.safe || bringsSafe (fun s => (hostCommit h addr d s).2) s) :=
  snd_safe_eq_or (fun s hsafe => by simp [hsafe, hostCommit]) s

@[simp] theorem safe_armCommit (h : Port) (addr : Nat) (d : D28) (s : State) :
    (armCommit h addr d s).2.flt.safe = (s.flt.safe || bringsSafe (fun s => (armCommit h addr d s).2) s) := by
  refine snd_safe_eq_or (fun s hsafe => ?_) s
  unfold armCommit
  split <;> simp [hsafe]

@[simp] theorem safe_accessWord (a : Access) (addr : Nat) (d : D28) (s : State) :
    (accessWord a addr d s).2.flt.safe = (s.flt.safe || bringsSafe (fun s => (accessWord a addr d s).2) s) := by
  refine snd_safe_eq_or (fun s hsafe => ?_) s
  unfold accessWord
  split <;> simp [hsafe]

@[simp] theorem safe_writeRow (a : Access) (addr : Nat) (d : D28) (s : State) :
    (writeRow a addr d s).flt.safe = (s.flt.safe || bringsSafe (writeRow a addr d) s) := safe_eq_or (fun s hsafe => by simp [hsafe, writeRow]) s

/-! ### Frames -/

@[simp] theorem flt_queueFrame (h : Port) (ws : List W36) (s : State) : (queueFrame h ws s).flt = s.flt := by simp [queueFrame]

@[simp] theorem flt_sendMac (h : Port) (header : D28) (payload : List W36) (refused overrun : Bool) (s : State) :
    (sendMac h header payload refused overrun s).flt = s.flt := by
  simp only [sendMac]
  split <;> simp

@[simp] theorem flt_sendCrc (h : Port) (header : D28) (payload : List W36) (seq : Nat) (refused : Bool) (s : State) :
    (sendCrc h header payload seq refused s).flt = s.flt := by
  simp [sendCrc]

@[simp] theorem flt_answer (h : Port) (d : D28) (payload : List D28) (overrun : Bool) (s : State) : (answer h d payload overrun s).flt = s.flt := by
  simp [answer]

@[simp] theorem flt_refuse (h : Port) (d : D28) (reason : BitVec 8) (s : State) : (refuse h d reason s).flt = s.flt := by simp [refuse]

@[simp] theorem safe_teardown (h : Port) (s : State) : (teardown h s).flt.safe = s.flt.safe := by simp [teardown]

@[simp] theorem safe_sessionError (h : Port) (s : State) : (sessionError h s).flt.safe = s.flt.safe := by simp [sessionError]

@[simp] theorem safe_seqEnd (h : Port) (s : State) : (seqEnd h s).flt.safe = s.flt.safe := by simp [seqEnd]

@[simp] theorem safe_refuseFormat (h : Port) (k : FrameKind) (d : D28) (s : State) : (refuseFormat h k d s).flt.safe = s.flt.safe := by
  simp [refuseFormat, refuseCrc]

theorem safe_judgeFrame (h : Port) (k : FrameKind) (ws : List W36) {serve : D28 → State → State}
    (hs : ∀ d t, t.flt.safe = true → (serve d t).flt.safe = true) (s : State) :
    (judgeFrame h k ws serve s).flt.safe = (s.flt.safe || bringsSafe (judgeFrame h k ws serve) s) := by
  refine safe_eq_or (fun s hsafe => ?_) s
  simp only [judgeFrame, serveFormat]
  (repeat' split) <;> simp [hsafe, hs]

@[simp] theorem safe_receive (h : Port) (k : FrameKind) (ws : List W36) {serve : D28 → State → State}
    (hs : ∀ d t, t.flt.safe = true → (serve d t).flt.safe = true) (s : State) :
    (receive h k ws serve s).flt.safe = (s.flt.safe || bringsSafe (receive h k ws serve) s) :=
  safe_eq_or (fun s hsafe => by simp [receive, safe_judgeFrame h k ws hs, hsafe]) s

@[simp] theorem flt_setCtx (h : Port) (t : Nat) (c : Ctx) (s : State) : (setCtx h t c s).flt = s.flt := by simp [setCtx]

@[simp] theorem safe_newOp (h : Port) (d : D28) {serve : State → State} (hs : ∀ t, t.flt.safe = true → (serve t).flt.safe = true) (s : State) :
    (newOp h d serve s).flt.safe = (s.flt.safe || bringsSafe (newOp h d serve) s) :=
  safe_eq_or (fun s hsafe => by simp [newOp, hs, hsafe]) s

@[simp] theorem flt_discardArms (h : Port) (s : State) : (discardArms h s).flt = s.flt := by simp [discardArms]

/-! ### Ports and the recovery service -/

@[simp] theorem safe_windowOver (h : Port) (w : WindowEnd) (s : State) : (windowOver h w s).flt.safe = s.flt.safe := by simp [windowOver]

@[simp] theorem flt_recoveryRun (a count : Nat) (s : State) : (recoveryRun a count s).2.flt = s.flt := by
  simp [recoveryRun]

@[simp] theorem flt_recoveryWrite (w : RecoveryWrite) (r : ReelRead) (s : State) : (recoveryWrite w r s).2.flt = s.flt := by
  unfold recoveryWrite
  split <;> simp

/-! ### Sessions -/

@[simp] theorem flt_setFail (h : Port) (code : BitVec 4) (s : State) : (setFail h code s).flt = s.flt := by simp [setFail]

@[simp] theorem flt_serveHello (h : Port) (ws : List W36) (d : D28) (s : State) : (serveHello h ws d s).flt = s.flt := by
  simp only [serveHello]
  split
  · simp
  · simp
  · split <;> simp [State.draw]

@[simp] theorem safe_keyComplete (h : Port) (s : State) : (keyComplete h s).flt.safe = s.flt.safe := by
  unfold keyComplete
  (repeat' split) <;> simp [establish, takeKeys, m4Authority, freshSession, startingEvents]

@[simp] theorem safe_serveRead (h : Port) (d : D28) (s : State) :
    (serveRead h d s).flt.safe = (s.flt.safe || bringsSafe (serveRead h d) s) := safe_eq_or (fun s hsafe => by simp [hsafe, serveRead]) s

@[simp] theorem safe_mapState {α β : Type} {f : Nat → α → State → β × State}
    (hf : ∀ i a t, t.flt.safe = true → (f i a t).2.flt.safe = true) (i : Nat) (l : List α) (s : State) :
    (mapState f i l s).2.flt.safe = (s.flt.safe || bringsSafe (fun s => (mapState f i l s).2) s) := by
  refine snd_safe_eq_or (fun s hsafe => ?_) s
  induction l generalizing i s with
  | nil => simp [mapState, hsafe]
  | cons a l ih => simp [mapState, ih, hf, hsafe]

@[simp] theorem safe_serveWrite (h : Port) (ws : List W36) (d : D28) (s : State) :
    (serveWrite h ws d s).flt.safe = (s.flt.safe || bringsSafe (serveWrite h ws d) s) := by
  refine safe_eq_or (fun s hsafe => ?_) s
  simp +contextual [hsafe, serveWrite, writePayload]

@[simp] theorem safe_serveArm (h : Port) (ws : List W36) (d : D28) (s : State) :
    (serveArm h ws d s).flt.safe = (s.flt.safe || bringsSafe (serveArm h ws d) s) :=
  safe_eq_or (fun s hsafe => by simp +contextual [hsafe, serveArm, armPair]) s

@[simp] theorem flt_expireArm (h : Port) (t : Nat) (s : State) : (expireArm h t s).flt = s.flt := by simp [expireArm]

@[simp] theorem safe_serveCommit (h : Port) (ws : List W36) (d : D28) (s : State) :
    (serveCommit h ws d s).flt.safe = (s.flt.safe || bringsSafe (serveCommit h ws d) s) := by
  refine safe_eq_or (fun s hsafe => ?_) s
  simp only [serveCommit]
  (repeat' split) <;> simp +contextual [hsafe, commitPayload]

@[simp] theorem safe_moveAuthority (h : Port) (s : State) : (moveAuthority h s).flt.safe = s.flt.safe := by
  unfold moveAuthority
  split <;> simp

@[simp] theorem safe_actionEffect (h : Port) (a : Nat) (s : State) : (actionEffect h a s).flt.safe = s.flt.safe := by
  unfold actionEffect
  split <;> simp

@[simp] theorem safe_handover (a : Nat) (h : Port) (ws : List W36) (s : State) :
    (handover a h ws s).flt.safe = (s.flt.safe || bringsSafe (handover a h ws) s) := by
  refine safe_eq_or (fun s hsafe => ?_) s
  simp [hsafe, handover, serveHandover]

@[simp] theorem safe_sendEvent (h : Port) (i : Nat) (s : State) : (sendEvent h i s).flt.safe = s.flt.safe := by simp [sendEvent]

@[simp] theorem flt_completeAdvance (s : State) : (completeAdvance s).flt = s.flt := by
  unfold completeAdvance
  (repeat' split) <;> rfl

@[simp] theorem safe_closeWindow (w : Window) (s : State) :
    (closeWindow w s).flt.safe = (s.flt.safe || bringsSafe (closeWindow w) s) :=
  safe_eq_or (fun s hsafe => by simp +contextual [closeWindow, hsafe]) s

/-! ### The rows -/

/-- Whatever next state the command answers, the safe state stands in it, or it is in reset. -/
def KeepsSafeState (s : State) (o : Host.Outcome State Fault Refusal) : Prop :=
  ∀ t, o = .next t → s.flt.safe = true → t.flt.safe = true ∨ t.dev.phase = .reset

/-- The aftermath takes back no safe state (07 R195). -/
theorem keepsSafe_done {s x : State} (h : s.flt.safe = true → x.flt.safe = true) : KeepsSafeState s (done x) := by
  rintro t ht hs
  obtain rfl := Host.Outcome.next.inj ht
  exact .inl ((grows_settle x).safe (h hs))

/-- A frame keeps the safe state where its service does. -/
theorem receive_keepsSafe {h : Port} {k : FrameKind} {ws : List W36} {serve : D28 → State → State} {s : State}
    (hs : ∀ d t, t.flt.safe = true → (serve d t).flt.safe = true) : KeepsSafeState s (done (receive h k ws serve s)) :=
  keepsSafe_done fun hsafe => by rw [safe_receive h k ws hs, hsafe, Bool.true_or]

/-- The rows that a reset may follow. -/
def mayReset : Instr → Bool
  | .powerOnReset | .rstNFall _ | .supFail _ _ | .pageProgramDone _ _ => true
  | _ => false

/-- Every other row keeps the safe state: its operations do. The rows stand in the order of the model's modules; a row whose
outcome turns on a lookup is split on it first. -/
theorem exec_keepsSafe {i : Instr} (hi : mayReset i = false) (s : State) : KeepsSafeState s (exec i s) := by
  cases i
  case powerOnReset | rstNFall | supFail | pageProgramDone => exact absurd hi (by simp [mayReset])
  case microsecondTick | pllLock | firstPermit =>
    simp only [exec, execMicrosecondTick, execPllLock, execFirstPermit]
    exact keepsSafe_done fun hsafe => by simp [hsafe, tick, guardTick, readOtp]
  case provisionDone | arbFusesDone =>
    simp only [exec, execProvisionDone, execArbFusesDone]
    refine keepsSafe_done fun hsafe => ?_
    split <;> simp [hsafe]
  case dbgChal =>
    simp only [exec, execDbgChal]
    refine keepsSafe_done fun hsafe => ?_
    split <;> simp [hsafe, State.draw]
  case desatTrip | desatEventClose | gateLeakEval | stuckDetect | vbatDip | fwZeroCurrent | bstUvRecovery =>
    simp only [exec, execDesatTrip, execDesatEventClose, execGateLeakEval, execStuckDetect, execVbatDip, execFwZeroCurrent, execBstUvRecovery]
    exact keepsSafe_done fun hsafe => by simp [hsafe, leakEval]
  case chRetire | ctlOn | ctlOff | brcmdWrite | clapper | clapUnr | tmrPerWrite | tmrEdgeWrite | lowWordRead | highWordRead | measZero | measCalsel |
      snapshot | snapshotRelease | freshCommit | limpExit | ilimWrite | scthCommit | i2tCommit | fltAck | injUnlock | fltForce | logFetch | arbAdvance
      | fpageSelect | portLenCommit | bistStartup | bistAbort | bistRun | registerWrite =>
    simp only [exec, execChRetire, execCtlOn, execCtlOff, execBrcmdWrite, execClapper,
      execClapUnr, execTmrPerWrite, execTmrEdgeWrite, execLowWordRead, execHighWordRead, execMeasZero, execMeasCalsel, execSnapshot,
      execSnapshotRelease, execFreshCommit, execLimpExit, execIlimWrite, execScthCommit, execI2tCommit, execFltAck, execInjUnlock, execFltForce,
      execLogFetch, execArbAdvance, execFpageSelect, execPortLenCommit, execBistStartup, execBistAbort, execBistRun, execRegisterWrite]
    exact keepsSafe_done fun hsafe => by simp [hsafe]
  case bstReady | bstwaitTimeout =>
    simp only [exec, execBstReady, execBstwaitTimeout]
    refine keepsSafe_done fun hsafe => ?_
    split <;> simp [hsafe]
  case vbatReturn =>
    simp only [exec, execVbatReturn]
    refine keepsSafe_done fun hsafe => ?_
    (repeat' split) <;> simp [hsafe, batteryBack]
  case ladderChop | offtExpiry | rotationTick | stepDwellEnd | stepEarlyEnd | refreshPulse | refreshRecheck | refreshPulseEnd | refreshSpacingExpiry
      =>
    simp only [exec, execLadderChop, execOfftExpiry, execRotationTick, execStepDwellEnd,
      execStepEarlyEnd, execRefreshPulse, execRefreshRecheck, execRefreshPulseEnd, execRefreshSpacingExpiry]
    exact keepsSafe_done fun hsafe => by simp [hsafe]
  case bstUvTurnoff =>
    simp only [exec, execBstUvTurnoff]
    refine keepsSafe_done fun hsafe => ?_
    split <;> simp [hsafe]
  case periodBoundary | requestFall | syncHoldover | debugHalt | debugHaltRelease =>
    simp only [exec, execPeriodBoundary, execRequestFall, execSyncHoldover, execDebugHalt, execDebugHaltRelease]
    exact keepsSafe_done fun hsafe => by simp [hsafe, requestFall, triggerB, releaseHalt]
  case deadTimeExpiry =>
    simp only [exec, execDeadTimeExpiry]
    refine keepsSafe_done fun hsafe => ?_
    split <;> simp [hsafe, freewheelOn]
  case syncEdge =>
    simp only [exec, execSyncEdge]
    refine keepsSafe_done fun hsafe => ?_
    (repeat' split) <;> simp [hsafe]
  case ipriConversion | sarConversion | diodeSlot | zeroWaitMet =>
    simp only [exec, execIpriConversion, execSarConversion, execDiodeSlot, execZeroWaitMet]
    exact keepsSafe_done fun hsafe => by simp [hsafe, sarSlot, diodeSeg, judgeSeg, hotSeg]
  case trigConversion =>
    simp only [exec, execTrigConversion]
    refine keepsSafe_done fun hsafe => ?_
    (repeat' split) <;> simp [hsafe]
  case zeroDone | zeroTimeout | snapshotExpiry =>
    simp only [exec, execZeroDone, execZeroTimeout, execSnapshotExpiry]
    refine keepsSafe_done fun hsafe => ?_
    split <;> simp [hsafe]
  case i2tUpdate | cycleLimitCut | chopRestart | cutMsBoundary | scTrip | blankWindowClose | blankCapExpiry | hsTrip | probeRecovery | trycntClear |
      cutExpiry | tripAssert | tripRelease | lhAssert | lhRelease | lhDisagree | lhLineEdge =>
    simp only [exec, execI2tUpdate, execCycleLimitCut, execChopRestart, execCutMsBoundary,
      execScTrip, execBlankWindowClose, execBlankCapExpiry, execHsTrip, execProbeRecovery, execTrycntClear, execCutExpiry, execTripAssert,
      execTripRelease, execLhAssert, execLhRelease, execLhDisagree, execLhLineEdge]
    exact keepsSafe_done fun hsafe => by simp [hsafe, i2tUpdate, cycleCut, cutMsBoundary, hsTrip, retryRecover, lhEdge]
  case retryWaitExpiry =>
    simp only [exec, execRetryWaitExpiry]
    refine keepsSafe_done fun hsafe => ?_
    split <;> simp [hsafe, retryTurnOn]
  case sillageClose | drydownExpiry | injTimeout =>
    simp only [exec, execSillageClose, execDrydownExpiry, execInjTimeout]
    refine keepsSafe_done fun hsafe => ?_
    split <;> simp [hsafe, dried]
  case collectorSelfCheck =>
    simp only [exec, execCollectorSelfCheck]
    refine keepsSafe_done fun hsafe => ?_
    (repeat' split) <;> simp [hsafe, defaultEntryOf]
  case resetRelease | rbgRetry | pllLockLoss | pllLockTimeout | senseMonitorArm | clockMonitorWindow | clockStopDetect | heartbeatLoss |
      heartbeatRestore | flashDetect | reelLoadDone =>
    simp only [exec, execResetRelease, execRbgRetry, execPllLockLoss, execPllLockTimeout,
      execSenseMonitorArm, execClockMonitorWindow, execClockStopDetect, execHeartbeatLoss, execHeartbeatRestore, execFlashDetect, execReelLoadDone]
    exact keepsSafe_done fun hsafe => by simp [hsafe, holdPresent, heartUnit]
  case keepaliveLoss =>
    simp only [exec, execKeepaliveLoss]
    refine keepsSafe_done fun hsafe => ?_
    (repeat' split) <;> simp [hsafe, stopTogether]
  case startChargeEnd | chargeTimeout | flaconTestComplete | vholdConversion | programRetry | logProgramDue | logFetchDone =>
    simp only [exec, execStartChargeEnd, execChargeTimeout, execFlaconTestComplete,
      execVholdConversion, execProgramRetry, execLogProgramDue, execLogFetchDone]
    exact keepsSafe_done fun hsafe => by simp [hsafe]
  case provision | extest | samplePreload | bypass | dbgToken | trstAssert =>
    simp only [exec, execProvision, execExtest, execSamplePreload, execBypass, execDbgToken, execTrstAssert]
    exact keepsSafe_done fun hsafe => by simp [hsafe]
  case apertureVerifyDone =>
    simp only [exec, execApertureVerifyDone]
    refine keepsSafe_done fun hsafe => ?_
    (repeat' split) <;> simp [hsafe]
  case dbgAcc | selectFall | selectRise | rxOverrun | txUnderrun | rdreg | wrreg | rdstat | recoveryOtherCommand =>
    simp only [exec, execDbgAcc, execSelectFall, execSelectRise, execRxOverrun, execTxUnderrun,
      execRdreg, execWrreg, execRdstat, execRecoveryOtherCommand]
    exact keepsSafe_done fun hsafe => by simp [hsafe, dbgAccess, dbgCapture, bitsReached, selectRise]
  case hello | key | read | write | arm | commit | retire | lease | hostEventFrame =>
    simp only [exec, execHello, execKey, execRead, execWrite, execArm, execCommit, execRetire, execLease, execHostEventFrame]
    exact receive_keepsSafe fun d t hsafe => by simp [hsafe, serveKey, serveRetire, retireEntry, serveLease, renewLease]
  case keyComplete | leaseExpiry | give | take | request | refuse | handoverLapse | eventSend | eventResend =>
    simp only [exec, execKeyComplete, execLeaseExpiry, execGive, execTake, execRequest, execRefuse, execHandoverLapse, execEventSend, execEventResend]
    exact keepsSafe_done fun hsafe => by simp [hsafe]
  case exchangeTimeout | oldKeyWindowEnd | armExpiry =>
    simp only [exec, execExchangeTimeout, execOldKeyWindowEnd, execArmExpiry]
    refine keepsSafe_done fun hsafe => ?_
    split <;> simp [hsafe]
  case bistTestStart =>
    simp only [exec, execBistTestStart]
    exact keepsSafe_done fun hsafe => by simp [hsafe, startTest]
  case bistTestDone | bistTestTimeout =>
    simp only [exec, execBistTestDone, execBistTestTimeout]
    refine keepsSafe_done fun hsafe => ?_
    split <;> simp [hsafe]

/-- Last rites keep the safe state until they end in reset (15 R398). -/
theorem lastRites_safe_or_reset (cause : BitVec 3) (env : RitesEnv) {s : State} (hs : s.flt.safe = true) :
    (lastRites cause env s).flt.safe = true ∨ (lastRites cause env s).dev.phase = .reset := by
  simp only [lastRites]
  (repeat' split) <;> simp [hs]

/-- A command that a reset may follow. -/
theorem keepsSafe_or_reset {s x : State} (h : s.flt.safe = true → x.flt.safe = true ∨ x.dev.phase = .reset) : KeepsSafeState s (done x) := by
  rintro t ht hs
  obtain rfl := Host.Outcome.next.inj ht
  have hd : (settle x).dev = x.dev := still_keeps State.dev (fun _ => rfl) (still_settle x)
  exact (h hs).imp (grows_settle x).safe fun hr => hd ▸ hr

theorem rstNFall_keepsSafe (env : RitesEnv) (s : State) : KeepsSafeState s (exec (.rstNFall env) s) := by
  simp only [exec, execRstNFall]
  refine keepsSafe_or_reset fun hs => ?_
  split
  · exact .inl hs
  · exact lastRites_safe_or_reset 1 env (s := { s with pins := { s.pins with rstN := false } }) hs

theorem supFail_keepsSafe (x : Supply) (env : RitesEnv) (s : State) : KeepsSafeState s (exec (.supFail x env) s) := by
  simp only [exec, execSupFail]
  refine keepsSafe_or_reset fun hs => ?_
  (repeat' split)
  · simp [hs]
  · simp [hs]
  · simp [hs]
  · exact lastRites_safe_or_reset (supCause x) env (by simp [hs])

theorem pageProgramDone_keepsSafe (reads : Bool) (env : RitesEnv) (s : State) : KeepsSafeState s (exec (.pageProgramDone reads env) s) := by
  simp only [exec, execPageProgramDone]
  refine keepsSafe_or_reset fun hs => ?_
  (repeat' split) <;> simp [hs]

/-- Settles O58: the four rows that a reset may follow by their own lemmas, every other row by what its operations keep. -/
theorem safeStateLeftOnlyByReset : Obligations.SafeStateLeftOnlyByReset := by
  unfold Obligations.SafeStateLeftOnlyByReset
  intro i s t
  by_cases hi : mayReset i = false
  · exact exec_keepsSafe hi s t
  · cases i with
    | powerOnReset => exact keepsSafe_or_reset (fun _ => .inr rfl) t
    | rstNFall env => exact rstNFall_keepsSafe env s t
    | supFail x env => exact supFail_keepsSafe x env s t
    | pageProgramDone reads env => exact pageProgramDone_keepsSafe reads env s t
    | _ => exact absurd rfl hi

end Sys2Proof.Machine

/-! Class F (07 R187, R195, R200, R201): the event is recorded with the safe state, which the aftermath keeps; there the gates and
the pins follow from the safety conditions. -/

namespace Sys2Proof.Machine

/-- An event of class F that somebody records and no open window lists brings the safe state, and the aftermath keeps it. -/
theorem raise_fatal_safe {e : Ev} {s : State} (h : e.src < 120) (hu : unrecorded s e.src = false) (hc : classOf s e.src = 2)
    (hw : ((openWindows s).any fun w => lists s.flt w e.src) = false) : (settle (raise [e] s)).flt.safe = true := by
  have hcls : classOf (lasted e s) e.src = 2 := (lasted_keeps (fun t => classOf t e.src) (fun _ _ => rfl) e s).trans hc
  apply (grows_settle _).safe
  rw [raise_records h hu hw]
  exact recordEvent_safe hcls

/-- Where the power die bars every high side, the aftermath leaves none on (07 R195, R204, 13 R345). -/
theorem hs_settle_of_barred {s : State} (h : gatesBarred (settle s) = true) {c : Chan} (hc : c ∈ (settle s).chans) : c.hs = 0 := by
  obtain ⟨n, hn⟩ := List.mem_iff_getElem?.mp hc
  obtain ⟨hoff, -⟩ := gatesSafe_settle s n c hn
  rw [gatesBarred] at h
  exact hoff (by simp [h])

theorem gatesBarred_of_safe {s : State} (h : s.flt.safe = true) : gatesBarred s = true := by simp [gatesBarred, h]

/-- In the safe state the aftermath leaves both permits and HEALTH low (07 R200, R201). -/
theorem pins_settle_of_safe {s : State} (h : (settle s).flt.safe = true) :
    (settle s).pins.permit0 = false ∧ (settle s).pins.permit1 = false ∧ (settle s).flt.health = false := by
  obtain ⟨-, ⟨h0, h1, hh, -⟩, -⟩ := safe_settle s
  simp [h0, h1, hh, permitsAllowed, healthAllowed, h]

/-- Settles O22: the recorded event brings the safe state, and there every gate is off and every pin low. -/
theorem fatalEventBringsSafeState : Obligations.FatalEventBringsSafeState := by
  unfold Obligations.FatalEventBringsSafeState
  refine ⟨fun e s h hu hc hw => ?_, fun e s h hu hc hw => ?_⟩
  · have hsafe := raise_fatal_safe h hu hc hw
    exact ⟨hsafe, fun c => hs_settle_of_barred (gatesBarred_of_safe hsafe)⟩
  · exact pins_settle_of_safe (raise_fatal_safe h hu hc hw)

end Sys2Proof.Machine

/-! Fault injection (07 R214 to R216): FLT_INJEN and FLT_FORCEw through their registers, the 60 s, and PRESENT with GUARD stopped. -/

namespace Sys2Proof.Machine

/-! ### FLT_INJEN -/

/-- A committed FLT_INJEN that finds GUARD running is answered OK. -/
theorem injUnlock_gives {h : Port} {d : D28} {s : State} (hm : MayCommit s h 0x086) (hg : s.clk.guardStop = false) :
    GivesStatus (.injUnlock h d) s sOk (writeInjen h d s) := by
  have he : effect (.commit h) 0x086 d s = (sOk, writeInjen h d s) :=
    (effect_own ((domainStopped_flt (by decide) (by decide)).trans hg)).trans (ownEffect_flt (by decide) (by decide))
  rw [← noteLast_ok h 3 0x086 (writeInjen h d s)]
  exact commit_gives (r := ([.a], 0)) hm rfl (resv_zero d) rfl he rfl

theorem writeInjen_other {h : Port} {d : D28} {s : State} (hd : d ≠ 0xA5C1242) : writeInjen h d s = injEnd s :=
  if_neg fun hk => hd (BitVec.eq_of_toNat_eq hk)

/-- With GUARD running INJ clears, and every force bit with it. -/
theorem injEnd_running {s : State} (hg : s.clk.guardStop = false) :
    injEnd s = { s with flt := { s.flt with inj := false, injBy := none, force := 0 } } := by
  rw [injEnd, if_neg (by simp [hg])]
  rfl

/-- With GUARD stopped INJ and the force bits stand. -/
theorem injEnd_stopped {s : State} (hg : s.clk.guardStop = true) : injEnd s = s := if_pos hg

/-- After 60 s injection ends. -/
theorem injTimeout_gives {h : Port} {t0 : Nat} {s : State} (hb : s.flt.injBy = some (h, t0)) (ht : guardSince s t0 60000000 = true) :
    Gives .injTimeout s (injEnd s) :=
  gives_of_eq rfl (by simp only [hb, ht, if_true])

theorem injTimeout_stopped {s : State} (hg : s.clk.guardStop = true) : Gives .injTimeout s s := by
  refine gives_of_eq rfl ?_
  split
  · simp [injEnd_stopped hg]
  · rfl

/-! ### FLT_FORCE -/

/-- The row FLT_FORCE that its register answers. -/
theorem fltForce_gives {h : Port} {w : Fin 5} {d : D28} {s x : State} {st : BitVec 8} (hm : MayCommit s h (0x0A4 + w)) (h0 : fld d 27 24 = 0)
    (he : effect (.commit h) (0x0A4 + w) d s = (st, x)) : GivesStatus (.fltForce h w d) s st (noteLast h 3 (0x0A4 + w) st x) := by
  have hw := w.isLt
  have hinfo : baseInfo s (0x0A4 + w) = some ([.a], 0xF000000) := by
    rw [baseInfo_flt (by omega) (by omega)]
    fin_cases w <;> rfl
  exact commit_gives hm hinfo (resv_of_fld h0 (by decide)) rfl he rfl

theorem ownEffect_force {a : Access} {w : Fin 5} {d : D28} {s : State} : ownEffect a (0x0A4 + w) d s = writeForce w d s := by
  have hw := w.isLt
  rw [ownEffect_flt (by omega) (by omega)]
  fin_cases w <;> rfl

/-- The force bits after a committed FLT_FORCEw. -/
def forceBits (w : Nat) (d : D28) (s : State) : BitVec 120 := maskOf 120 fun i => if i / 24 = w then bitAt d (i % 24) else s.flt.force.getLsbD i

/-- The sources whose force bits rise. -/
def forcedRise (w : Nat) (d : D28) (s : State) : List Nat := (List.range 120).filter fun i => (forceBits w d s).getLsbD i && !s.flt.force.getLsbD i

/-- The latches that rising force bits set, with the bus faults that come of them. -/
def forceAll (w : Nat) (d : D28) (s : State) : List Ev × State :=
  (forcedRise w d s).foldl (fun acc i => forceLatch i acc) ([], s.onFlt fun f => { f with force := forceBits w d s })

/-- The events of rising force bits. -/
def forcedEvents (w : Nat) (d : D28) (s : State) : List Ev :=
  (forcedRise w d s).map fun i => ⟨i, 0, true, if i = 98 then forcedChs (forceAll w d s).2 else 0⟩

/-- Unlocked, FLT_FORCEw takes its bits, sets the latches and raises the sources whose bits rise. -/
theorem writeForce_unlocked {w : Nat} {d : D28} {s : State} (hi : s.flt.inj = true) :
    writeForce w d s = (sOk, raise (forcedEvents w d s ++ (forceAll w d s).1) (forceAll w d s).2) := by
  rw [writeForce, if_neg (by simp [hi])]
  rfl

theorem forceAll_flt (w : Nat) (d : D28) (s : State) : (forceAll w d s).2.flt = { s.flt with force := forceBits w d s } := by
  rw [forceAll, flt_forceLatches]
  rfl

theorem forceAll_clk (w : Nat) (d : D28) (s : State) : (forceAll w d s).2.clk = s.clk := by
  have hl : ∀ (l : List Nat) (acc : List Ev × State), (l.foldl (fun acc i => forceLatch i acc) acc).2.clk = acc.2.clk := by
    intro l
    induction l with
    | nil => exact fun _ => rfl
    | cons i l ih =>
      intro acc
      rw [List.foldl_cons, ih, forceLatch]
      split <;> rfl
  exact hl _ _

/-- A source whose force bit rises is seen. -/
theorem writeForce_seen {w i : Nat} {d : D28} {s : State} (hi : s.flt.inj = true) (hg : s.clk.guardStop = false) (h : i < 120)
    (hrise : (forceBits w d s).getLsbD i = true) (hold : s.flt.force.getLsbD i = false) : seen (writeForce w d s).2 i := by
  have hmem : i ∈ forcedRise w d s := List.mem_filter.mpr ⟨List.mem_range.mpr h, by simp [hrise, hold]⟩
  rw [writeForce_unlocked hi]
  exact raise_seen (List.mem_append_left _ (List.mem_map_of_mem hmem)) h
    (unrecorded_guarded ((congrArg Clk.guardStop (forceAll_clk w d s)).trans hg) i)

theorem writeForce_force {w : Nat} {d : D28} {s : State} (hi : s.flt.inj = true) : (writeForce w d s).2.flt.force = forceBits w d s := by
  rw [writeForce_unlocked hi]
  exact (still_keeps (fun t => t.flt.force) (fun _ => rfl) (still_raise _ _)).trans (congrArg Flt.force (forceAll_flt w d s))

/-! ### Stopped clocks -/

/-- The state in which a stop's event is recorded: GUARD's last words left PRESENT, the stop noted where it comes first, and the flag set. -/
def stopNoted (d : Domain) (late : Bool) (s : State) : State :=
  clkFlag (stopFault d).1 (let s := if d == .guard then holdPresent s else s
    if stopFirst d late then onClk (setStopped s.now d) s else s)

theorem holdPresent_running {s : State} (hg : s.clk.guardStop = false) :
    holdPresent s = { s with flt := { s.flt with presHeld := maskOf 120 (present s) } } := if_neg (by simp [hg])

/-- The state that a found stop leaves before the aftermath. -/
def stopFound (d : Domain) (late : Bool) (s : State) : State :=
  onClk (setStopped s.now d) (raise [ev (stopFault d).2] (stopNoted d late s))

/-- A stop that a monitor finds. -/
theorem clockStop_gives {d : Domain} {late : Bool} {s : State} (hw : watching s d = true) (hs : stopped s.clk d = false) :
    Gives (.clockStopDetect d late) s (stopFound d late s) := by
  have hnow : (if d == .guard then holdPresent s else s).now = s.now := by
    unfold holdPresent
    (repeat' split) <;> rfl
  refine gives_of_eq rfl ?_
  rw [if_pos (by simp [hw, hs])]
  simp only [stopFound, stopNoted, hnow]
  split <;> simp only [onClk, hnow]

/-- What the aftermath leaves of the collector, GUARD's stop leaves as its last words had it. -/
theorem guardStop_keeps {α : Type} (g : Flt → α) (hg : ∀ f : Flt, g f.still = g f) {s : State} (hr : s.clk.guardStop = false) :
    g (settle (stopFound .guard false s)).flt = g { s.flt with presHeld := maskOf 120 (present s) } := by
  have hkeep {x y : State} (h : x.still = y.still) : g x.flt = g y.flt := still_keeps (fun t => g t.flt) (fun t => hg t.flt) h
  rw [hkeep (still_settle _)]
  refine (hkeep (still_raise [ev 111] (stopNoted .guard false s))).trans ?_
  simp [stopNoted, holdPresent_running hr, stopFirst, clkFlag, onClk]

/-- Settles O25: each row by its register or its clock, PRESENT by GUARD's last word. -/
theorem faultInjection : Obligations.FaultInjection := by
  unfold Obligations.FaultInjection
  refine ⟨?unlock, ?lock, ?timeout, ?denied, ?forces, ?stopped, ?shown, ?held⟩
  case unlock => exact fun h s hm hg => injUnlock_gives hm hg
  case lock =>
    intro h d s hm hd hg
    rw [← injEnd_running hg, ← writeInjen_other hd]
    exact injUnlock_gives hm hg
  case timeout =>
    intro h t0 s hb ht hg
    rw [← injEnd_running hg]
    exact injTimeout_gives hb ht
  case denied =>
    intro h w d s hm h0 hi
    have hw := w.isLt
    have ho : ownEffect (.commit h) (0x0A4 + w) d s = (sDenied, s) := ownEffect_force.trans (if_pos (by simp [hi]))
    exact fltForce_gives hm h0 (effect_refused (by simp [isEdge]; omega) (by simp [isCtl]; omega) ho (by decide))
  case forces =>
    intro h w d s hm h0 hi hg
    have hw := w.isLt
    have he : effect (.commit h) (0x0A4 + w) d s = (sOk, (writeForce w d s).2) := by
      rw [effect_own ((domainStopped_flt (by omega) (by omega)).trans hg), ownEffect_force, writeForce_unlocked hi]
    have hx := fltForce_gives hm h0 he
    rw [noteLast_ok] at hx
    have hf : (settle { (writeForce w d s).2 with status := sOk }).flt.force = forceBits w d s :=
      (still_keeps (fun t => t.flt.force) (fun _ => rfl) (still_settle _)).trans (writeForce_force hi)
    refine ⟨_, hx, settle_status _, fun i h120 => ?_, fun i h120 hrise hold => ?_⟩
    · rw [hf, forceBits, getLsbD_maskOf _ h120]
    · exact settle_seen (writeForce_seen hi hg h120 (hf ▸ hrise) hold)
  case stopped => exact fun s hg => ⟨injEnd_stopped hg, injTimeout_stopped hg⟩
  case shown =>
    intro w src s hw
    refine ⟨?_, rfl⟩
    interval_cases w <;> rfl
  case held =>
    intro s hwatch hg
    refine ⟨_, clockStop_gives hwatch hg, fun k hk => ?_, guardStop_keeps (fun f => f.force) (fun _ => rfl) hg,
      guardStop_keeps (fun f => f.inj) (fun _ => rfl) hg⟩
    exact (congrArg (·.getLsbD k) (guardStop_keeps (fun f => f.presHeld) (fun _ => rfl) hg)).trans (getLsbD_maskOf _ hk)

end Sys2Proof.Machine

/-! What the aftermath's units and timers leave alone: they move gates, counts and triggers, and take self-tests back, and nothing else of the state. -/

namespace Sys2Proof.Machine

/-- A part of the state that no gate, timer, trigger or self-test is. -/
structure Undriven {α : Type} (g : State → α) : Prop where
  ch : ∀ (s : State) n f, g (s.onCh n f) = g s
  timers : ∀ (s : State) l, g { s with timers := l } = g s
  tbase : ∀ (s : State) b, g { s with tbase := b } = g s
  meas : ∀ (s : State) m, g { s with meas := m } = g s
  bist : ∀ (s : State) b, g { s with bist := b } = g s

namespace Undriven

section
variable {α : Type} {g : State → α}

theorem run (_ : Undriven g) {β : Type} {f : β → State → State} (h : ∀ a t, g (f a t) = g t) (l : List β) (s : State) : g (forEach l f s) = g s :=
  forEach_keeps h l s

theorem tm (hg : Undriven g) (s : State) (n : Nat) (f : Timer → Timer) : g (s.onTm n f) = g s := hg.timers s _

/-! ### Gates, ladders and turn-on -/

theorem returnUnit (hg : Undriven g) (u : Nat) (s : State) : g (returnUnit u s) = g s := returnUnit_keeps g hg.bist u s

theorem gatesOn (hg : Undriven g) (b : Bool) (u : Nat) (s : State) : g (gatesOn b u s) = g s :=
  (hg.run (fun _ _ => hg.ch ..) _ _).trans (hg.returnUnit u s)

theorem gatesOff (hg : Undriven g) (u : Nat) (s : State) : g (gatesOff u s) = g s :=
  (hg.ch ..).trans (hg.run (fun _ _ => hg.ch ..) _ _)

theorem resume (hg : Undriven g) (b : Bool) (u : Nat) (s : State) : g (resume b u s) = g s := by
  unfold Machine.resume
  dsimp only
  split
  · exact (hg.ch ..).trans (hg.gatesOn ..)
  · rfl

theorem startLadder (hg : Undriven g) (u : Nat) (s : State) : g (startLadder u s) = g s :=
  (hg.gatesOn ..).trans ((hg.ch ..).trans (hg.run (fun _ _ => hg.ch ..) _ _))

theorem unitOff (hg : Undriven g) (u : Nat) (s : State) : g (unitOff u s) = g s :=
  (hg.ch ..).trans (hg.run (fun _ _ => hg.ch ..) _ _)

theorem beginUnit (hg : Undriven g) (u : Nat) (s : State) : g (beginUnit u s) = g s := by
  unfold Machine.beginUnit
  dsimp only
  (repeat' split) <;> simp only [hg.ch, hg.startLadder, hg.gatesOn]

theorem attempt (hg : Undriven g) (u : Nat) (s : State) : g (attempt u s) = g s := by
  unfold Machine.attempt proceed
  dsimp only
  (repeat' split) <;> simp only [hg.ch, hg.beginUnit, hg.returnUnit]

theorem ladderChop (hg : Undriven g) (u : Nat) (s : State) : g (ladderChop u s) = g s := by
  refine (hg.ch ..).trans ((apply_ite g _ _ _).trans ?_)
  rw [hg.run (fun _ _ => hg.ch ..), hg.gatesOff, ite_self]

theorem cutUnit (hg : Undriven g) (u : Nat) (s : State) : g (cutUnit u s) = g s := by
  unfold Machine.cutUnit
  dsimp only
  split <;> simp only [hg.ch, hg.gatesOff, hg.ladderChop]

theorem heartUnit (hg : Undriven g) (u : Nat) (s : State) : g (heartUnit u s) = g s := by
  unfold Machine.heartUnit
  split
  · exact hg.resume ..
  · rfl

theorem bistAbortAll (hg : Undriven g) (d : BitVec 2) (s : State) : g (bistAbortAll d s) = g s := by
  refine hg.run (fun l t => ?_) _ s
  unfold bistIncomplete
  split
  · rfl
  · exact hg.bist ..

/-! ### Units brought into line -/

theorem settleUnit (hg : Undriven g) (u : Nat) (s : State) : g (settleUnit u s) = g s := by
  unfold Machine.settleUnit
  dsimp only
  (repeat' split) <;> simp only [hg.ch, hg.unitOff, hg.attempt, hg.startLadder, hg.resume]

theorem settleHalves (hg : Undriven g) (u : Nat) (s : State) : g (settleHalves u s) = g s := by
  have hrun : ∀ l, g (forEach l (fun n t => t.onCh n fun c => { c with half := rank3 t n }) s) = g s := fun l => hg.run (fun _ _ => hg.ch ..) l s
  unfold Machine.settleHalves legHeld
  dsimp only
  (repeat' split) <;> simp only [hg.ch, hg.unitOff, hg.attempt, hrun]

theorem settleUnits (hg : Undriven g) (s : State) : g (settleUnits s) = g s :=
  hg.run (fun u t => (hg.settleUnit u _).trans (hg.settleHalves u t)) _ s

/-! ### Periods -/

theorem timedPeriod (hg : Undriven g) (t u : Nat) (s : State) : g (timedPeriod t u s) = g s := by
  have hrun : ∀ (l : List Nat) (f : State → Nat → Chan → Chan) x, g (forEach l (fun n t => t.onCh n (f t n)) x) = g x :=
    fun l f x => hg.run (fun _ _ => hg.ch ..) l x
  unfold Machine.timedPeriod startRefresh offInterval
  dsimp only
  (repeat' split) <;> simp only [hg.ch, hg.gatesOff, hg.returnUnit, hrun]

theorem coastUnit (hg : Undriven g) (u : Nat) (s : State) : g (coastUnit u s) = g s :=
  (hg.ch ..).trans (hg.run (fun _ _ => hg.ch ..) _ _)

theorem brakeUnit (hg : Undriven g) (r : Option Bridge) (u : Nat) (s : State) : g (brakeUnit r u s) = g s :=
  (hg.ch ..).trans (hg.run (fun _ _ => hg.ch ..) _ _)

theorem bridgeCommand (hg : Undriven g) (u : Nat) (s : State) : g (bridgeCommand u s) = g s := by
  unfold Machine.bridgeCommand
  dsimp only
  (repeat' split) <;> simp only [hg.ch, hg.coastUnit, hg.brakeUnit]

theorem bridgeEnter (hg : Undriven g) (t : Nat) (d : Bridge) (u : Nat) (s : State) : g (bridgeEnter t d u s) = g s := by
  unfold Machine.bridgeEnter
  refine (apply_ite g _ _ _).trans ?_
  rw [hg.startLadder, hg.timedPeriod, ite_self]
  exact (hg.ch ..).trans ((hg.run (fun _ _ => hg.ch ..) _ _).trans (hg.returnUnit ..))

theorem bridgePeriod (hg : Undriven g) (t : Nat) (r : Bool) (u : Nat) (s : State) : g (bridgePeriod t r u s) = g s := by
  unfold Machine.bridgePeriod
  dsimp only
  (repeat' split) <;> simp only [hg.brakeUnit, hg.timedPeriod, hg.bridgeEnter]

theorem unitPeriod (hg : Undriven g) (t : Nat) (r : List Nat) (u : Nat) (s : State) : g (unitPeriod t r u s) = g s := by
  unfold Machine.unitPeriod endLinger
  dsimp only
  (repeat' split) <;> simp only [hg.ch, hg.startLadder, hg.bridgePeriod, hg.timedPeriod, hg.resume]

theorem applyLatch (hg : Undriven g) (t : Nat) (s : State) : g (applyLatch t s) = g s := by
  have htimer : g (applyTimerLatch t s) = g s := by
    unfold applyTimerLatch
    split
    · rfl
    · exact hg.tm ..
  refine (hg.run (fun u x => ?_) _ _).trans ((hg.run (fun _ _ => hg.ch ..) _ _).trans htimer)
  split
  · exact hg.bridgeCommand u x
  · rfl

theorem trigger (hg : Undriven g) (t : Nat) (b : Bool) (s : State) : g (trigger t b s) = g s := by
  refine hg.run (fun m x => ?_) _ s
  dsimp only
  split
  · exact hg.meas ..
  · rfl

theorem countSkips (hg : Undriven g) (t : Nat) (s : State) : g (countSkips t s) = g s := by
  have hskip : ∀ k x, g (countSkip t k x) = g x := fun k x => by
    unfold countSkip
    split
    · exact hg.tm ..
    · exact hg.tm ..
    · rfl
  unfold Machine.countSkips
  split
  · exact hskip _ s
  · exact hg.run (fun _ x => hskip _ x) _ s
  · rfl

theorem startCount (hg : Undriven g) (t : Nat) (s : State) : g (startCount t s) = g s := by
  unfold Machine.startCount
  dsimp only
  split
  · exact hg.tm ..
  · exact (hg.tm ..).trans (hg.timers ..)

theorem applySync (hg : Undriven g) (t : Nat) (s : State) : g (applySync t s) = g s := by
  unfold Machine.applySync
  split
  · exact hg.tbase ..
  · rfl

theorem beginPeriod (hg : Undriven g) (t : Nat) (below : Mask12) (near : BitVec 20) (s : State) : g (beginPeriod t below near s) = g s := by
  have hcount : g (Machine.applySync t (Machine.startCount t s)) = g s := (hg.applySync ..).trans (hg.startCount ..)
  have hlatches : ∀ l x, g (forEach l Machine.applyLatch x) = g x := fun l x => hg.run hg.applyLatch l x
  unfold Machine.beginPeriod
  refine (hg.countSkips ..).trans ((hg.run (fun u x => hg.unitPeriod ..) _ _).trans ?_)
  (repeat' split) <;> simp only [hg.trigger, hg.tbase, hg.tm, hg.applyLatch, hlatches, hcount]

theorem settleTimers (hg : Undriven g) (s : State) : g (settleTimers s) = g s := by
  have htimer : ∀ t x, g (settleTimer t x) = g x := fun t x => by
    unfold settleTimer
    dsimp only
    (repeat' split) <;> simp only [hg.tm, hg.beginPeriod]
  unfold Machine.settleTimers
  split
  · exact hg.run htimer _ s
  · rfl

end

end Undriven

end Sys2Proof.Machine

/-! Recording an event and issuing its reaction, step by step (07 R187 to R193): what the record, the latch and the log take, and what the reaction
that follows leaves of them. -/

namespace Sys2Proof.Machine

/-! ### Reactions and the fault log -/

@[simp] theorem nvs_event (tag : Nat) (s : State) : (event tag s).nvs = s.nvs := by
  obtain ⟨e, he⟩ := event_eq tag s
  rw [he]

/-- The store's controller is none of what drives the gates. -/
theorem nvs_undriven : Undriven State.nvs := ⟨fun _ _ _ => rfl, fun _ _ => rfl, fun _ _ => rfl, fun _ _ => rfl, fun _ _ => rfl⟩

@[simp] theorem nvs_enterSafe (s : State) : (enterSafe s).nvs = s.nvs := by
  unfold enterSafe
  split
  · rfl
  · refine (nvs_undriven.run (fun u t => ?_) _ _).trans ?_
    · rw [safeUnit, onCh_nvs, nvs_undriven.unitOff]
    · rw [onChans_nvs, nvs_undriven.bistAbortAll]
      rfl

@[simp] theorem nvs_enterLimp (s : State) : (enterLimp s).nvs = s.nvs := by
  unfold enterLimp
  split
  · rfl
  · exact nvs_event 25 _

/-! ### What a reaction changes -/

/-- Whether a reaction holds channels off or drives them (07 R190). -/
def holdsOff (react : Nat) : Bool := 2 ≤ react && react ≤ 5

/-- The hold that a reaction takes for one channel (07 R193). -/
def holdFor (src react : Nat) (perm : Bool) (owner : Nat) (s : State) : Hold :=
  ⟨src, owner, if holdsOff react then reactScope s react owner else 0, react == 5, perm, startsRetry src react⟩

/-- The hold is taken, and the windows open with it (07 R202). -/
def takeHold (h : Hold) (react : Nat) (scope : Mask12) (s : State) : State :=
  let s := s.onFlt fun f => { f with holds := f.holds ++ [h] }
  let s := if holdsOff react then openWindow (react - 1) (if react == 5 then allChans else scope) s else s
  if h.perm then openWindow kindPerm allChans s else s

/-- A reaction's hold and windows, before limp-home and the retry: a hold that stands already is not taken again. -/
def holdStep (src react : Nat) (perm : Bool) (owner : Nat) (s : State) : State :=
  let x := if react == 1 then openWindow 0 (reactScope s react owner) s else s
  if (!(holdsOff react || perm) || x.flt.holds.contains (holdFor src react perm owner s)) = true then x
  else takeHold (holdFor src react perm owner s) react (reactScope s react owner) x

/-- Limp-home on a reaction of LIMP. -/
def limped (react : Nat) (s : State) : State := if react == 5 then enterLimp s else s

/-- A reaction for one channel: its hold and windows, limp-home, and the retry (07 R190). -/
theorem reactOn_eq (src : Nat) (cause : BitVec 3) (react : Nat) (perm : Bool) (owner : Nat) (s : State) :
    reactOn src cause react perm owner s = match if startsRetry src react then retryClass src else none with
      | some c => retryTake owner c src cause (limped react (holdStep src react perm owner s))
      | none => limped react (holdStep src react perm owner s) := by
  have hretry : (if startsRetry src react = true then retryClass src else none).isSome = startsRetry src react := by
    cases h : startsRetry src react with
    | false => rfl
    | true =>
      obtain ⟨hclass, -, -⟩ : (retryClass src).isSome = true ∧ 2 ≤ react ∧ react ≤ 4 := by simpa [startsRetry, and_assoc] using h
      exact hclass
  unfold reactOn
  dsimp only
  rw [hretry]
  rfl

theorem takeHold_eq (h : Hold) (react : Nat) (scope : Mask12) (s : State) : takeHold h react scope s = s.onFlt fun f =>
    { f with holds := f.holds ++ [h], windows := f.windows ++
      (if holdsOff react then [⟨react - 1, if react = 5 then allChans else scope, guardNow s + 10 * fld f.cfg 9 0, []⟩] else []) ++
      (if h.perm then [⟨kindPerm, allChans, guardNow s + 10 * fld f.cfg 9 0, []⟩] else []) } := by
  have hnow : ∀ (x : State) (f : Flt → Flt), guardNow (x.onFlt f) = guardNow x := fun _ _ => rfl
  have htwice : ∀ (x : State) (f g : Flt → Flt), (x.onFlt f).onFlt g = x.onFlt (fun y => g (f y)) := fun _ _ _ => rfl
  cases hh : holdsOff react <;> cases hp : h.perm <;> simp [takeHold, hh, hp, openWindow, hnow, htwice]

theorem holdStep_eq (src react : Nat) (perm : Bool) (owner : Nat) (s : State) :
    ∃ hs ws, holdStep src react perm owner s = { s with flt := { s.flt with holds := hs, windows := ws } } := by
  unfold holdStep
  dsimp only
  rw [takeHold_eq]
  (repeat' split) <;> exact ⟨_, _, rfl⟩

theorem reactOn_keeps {α : Type} (g : State → α) (hlimp : ∀ s, g (enterLimp s) = g s) (hretry : ∀ n c k u s, g (retryTake n c k u s) = g s)
    (hheld : ∀ s hs ws, g { s with flt := { s.flt with holds := hs, windows := ws } } = g s)
    (src : Nat) (cause : BitVec 3) (react : Nat) (perm : Bool) (owner : Nat) (s : State) :
    g (reactOn src cause react perm owner s) = g s := by
  have h : g (limped react (holdStep src react perm owner s)) = g s := by
    obtain ⟨hs, ws, he⟩ := holdStep_eq src react perm owner s
    rw [limped, apply_ite g, hlimp, ite_self, he, hheld]
  rw [reactOn_eq]
  split
  · rw [hretry, h]
  · exact h

@[simp] theorem reactOn_nvs (src : Nat) (cause : BitVec 3) (react : Nat) (perm : Bool) (owner : Nat) (s : State) :
    (reactOn src cause react perm owner s).nvs = s.nvs :=
  reactOn_keeps State.nvs nvs_enterLimp (fun _ _ _ _ _ => rfl) (fun _ _ _ => rfl) ..

/-- A reaction writes no fault-log record. -/
@[simp] theorem issue_nvs (e : Ev) (react : Nat) (perm : Bool) (s : State) : (issue e react perm s).nvs = s.nvs := by
  unfold issue
  dsimp only
  split
  · exact nvs_enterSafe s
  · refine (nvs_undriven.run (fun _ _ => reactOn_nvs ..) _ _).trans ?_
    split
    · exact nvs_undriven.run nvs_undriven.cutUnit _ s
    · rfl

/-- The collector without what a reaction changes: holds, windows and the safe state. -/
def Flt.unissued (f : Flt) : Flt := { f with holds := [], windows := [], safe := false }

theorem reactOn_unissued (src : Nat) (cause : BitVec 3) (react : Nat) (perm : Bool) (owner : Nat) (s : State) :
    (reactOn src cause react perm owner s).flt.unissued = s.flt.unissued :=
  reactOn_keeps (fun t => t.flt.unissued) (fun s => congrArg Flt.unissued (enterLimp_flt s)) (fun _ _ _ _ _ => rfl) (fun _ _ _ => rfl) ..

theorem issue_unissued (e : Ev) (react : Nat) (perm : Bool) (s : State) : (issue e react perm s).flt.unissued = s.flt.unissued := by
  unfold issue
  dsimp only
  split
  · rw [enterSafe_flt]
    rfl
  · refine (forEach_keeps (g := fun t => t.flt.unissued) (fun n t => reactOn_unissued ..) _ _).trans ?_
    split
    · exact forEach_keeps (g := fun t => t.flt.unissued) (fun u t => congrArg Flt.unissued (flt_cutUnit u t)) _ s
    · rfl

/-! ### The record, the latch and the log -/

/-- The record that an event leaves: in the safe state with the reaction that is still in force, or REPORT (07 R196, R206). -/
def recordFor (e : Ev) (s : State) (r : Record) : Record :=
  if s.flt.safe then (if inForce r then { r with state := .held } else ⟨.held, 0, false, false⟩)
  else ⟨.held, BitVec.ofNat 3 (appliedReact s e), entryPerm (entryOf s e.src), startsRetry e.src (appliedReact s e)⟩

/-- The class that the latch and the log name: F for a reaction of SAFE (07 R187). -/
def loggedClass (e : Ev) (s : State) : BitVec 2 := if appliedReact s e = 6 then 2 else classOf s e.src

/-- The collector's state between an event's sticky bit and record and its latch. -/
def marked (e : Ev) (s : State) : State :=
  s.onFlt fun f => { f with sticky := setBit f.sticky e.src, records := f.records.modify e.src (recordFor e s) }

/-- An event recorded, latched and logged, before its reaction is issued. -/
def recorded (e : Ev) (s : State) : State :=
  event 24 (logPut (eventRec e (noStrobe s) (loggedClass e s) (appliedReact s e)) (latchEvent e (loggedClass e s) (appliedReact s e) (marked e s)))

/-- Recording an event of class U or F: its marks, and outside the safe state its reaction. -/
theorem recordEvent_eq {e : Ev} {s : State} (hc : classOf s e.src ≠ 0) : recordEvent e s =
    if s.flt.safe then recorded e s else issue e (appliedReact s e) (entryPerm (entryOf s e.src)) (recorded e s) := by
  have h0 : (classOf s e.src == 0) = false := beq_eq_false_iff_ne.mpr hc
  have hcls : (if (appliedReact s e == 6) = true then (2 : BitVec 2) else classOf s e.src) = loggedClass e s := by simp [loggedClass]
  have hperm : (decide (classOf s e.src ≠ 0) && !false && entryPerm (entryOf s e.src)) = entryPerm (entryOf s e.src) := by
    rw [decide_eq_true hc]
    rfl
  unfold recordEvent recorded marked
  dsimp only
  rw [h0, hcls]
  cases hs : s.flt.safe with
  | true =>
    have hrec : recordFor e s = fun r => if inForce r then { r with state := .held } else ⟨.held, 0, false, false⟩ :=
      funext fun r => if_pos hs
    rw [hrec]
    simp only [if_true, Bool.false_eq_true, if_false]
    rfl
  | false =>
    have hrec : recordFor e s = fun _ =>
        ⟨.held, BitVec.ofNat 3 (appliedReact s e), entryPerm (entryOf s e.src), startsRetry e.src (appliedReact s e)⟩ :=
      funext fun r => if_neg (by simp [hs])
    rw [hrec]
    simp only [hperm, Bool.false_eq_true, if_false]
    rfl

theorem recorded_flt (e : Ev) (s : State) :
    (recorded e s).flt = (latchEvent e (loggedClass e s) (appliedReact s e) (marked e s)).flt := by
  simp only [recorded, flt_event, flt_logPut]

/-- A part of the collector that a reaction leaves alone is as the marks have left it. -/
theorem recordEvent_keeps {α : Type} (g : Flt → α) (hg : ∀ f : Flt, g f.unissued = g f) {e : Ev} {s : State} (hc : classOf s e.src ≠ 0) :
    g (recordEvent e s).flt = g (latchEvent e (loggedClass e s) (appliedReact s e) (marked e s)).flt := by
  rw [recordEvent_eq hc, ← recorded_flt]
  split
  · rfl
  · rw [← hg, issue_unissued, hg]

/-- A free latch takes the event; a taken one counts it as overflow (07 R188, R189). -/
theorem latchEvent_first (e : Ev) (cls : BitVec 2) (react : Nat) (s : State) :
    (s.flt.first.valid = false → (latchEvent e cls react s).flt.first =
        ⟨true, s.flt.first.ovf, e.forced, noStrobe s, cls, e.cause, BitVec.ofNat 3 react, e.src, s.dtime⟩ ∧
      (latchEvent e cls react s).flt.ovfcnt = s.flt.ovfcnt) ∧
    (s.flt.first.valid = true → (latchEvent e cls react s).flt.first = { s.flt.first with ovf := true } ∧
      (latchEvent e cls react s).flt.ovfcnt = sat 255 (s.flt.ovfcnt + 1)) := by
  constructor <;> intro h <;> simp only [latchEvent, onFlt_flt, h, if_true, Bool.false_eq_true, if_false] <;> split <;> exact ⟨rfl, rfl⟩

theorem latchEvent_fsrc (e : Ev) (cls : BitVec 2) (react : Nat) (s : State) :
    (latchEvent e cls react s).flt.fsrc = if cls = 2 ∧ s.flt.fsrc = 0x7F then e.src else s.flt.fsrc := by
  simp only [latchEvent, onFlt_flt]
  (repeat' split) <;> simp_all

theorem latchEvent_sticky (e : Ev) (cls : BitVec 2) (react : Nat) (s : State) :
    (latchEvent e cls react s).flt.sticky = s.flt.sticky ∧ (latchEvent e cls react s).flt.conseq = s.flt.conseq := by
  simp only [latchEvent, onFlt_flt]
  (repeat' split) <;> exact ⟨rfl, rfl⟩

/-- The record of an event of class U or F. -/
theorem recordEvent_recordFor {e : Ev} {s : State} (hc : classOf s e.src ≠ 0) (hl : e.src < s.flt.records.length) :
    (recordEvent e s).flt.records.getD e.src Record.reset = recordFor e s (s.flt.records.getD e.src Record.reset) := by
  rw [recordEvent_keeps Flt.records (fun _ => rfl) hc, latchEvent_records]
  simp [marked, List.getD, hl]

theorem recordFor_held (e : Ev) (s : State) (r : Record) : (recordFor e s r).state = .held := by
  unfold recordFor
  (repeat' split) <;> rfl

/-- A record that is not CLEAR holds HEALTH low (07 R201). -/
theorem healthAllowed_of_outstanding {src : Nat} {s : State} (h : (s.flt.records.getD src Record.reset).state ≠ .clear) :
    healthAllowed s = false := by
  by_contra hh
  obtain ⟨-, -, hclear⟩ := (healthAllowed_iff s).mp (Bool.not_eq_false _ ▸ hh)
  by_cases hl : src < s.flt.records.length
  · exact h (by simpa [List.getD, hl] using hclear _ (List.getElem_mem hl))
  · exact h (by simp [List.getD, hl, Record.reset])

/-- With room and nothing dropped, a record goes behind those of the open image (15 R394). -/
theorem logPut_image {r0 : Nat} {s : State} (hd : s.nvs.dropped = 0) (hl : s.nvs.image.length < 15) :
    (logPut r0 s).nvs.image = s.nvs.image ++ [mkRec s r0] := by
  simp [logPut, hd, logStore, hl]

/-- An event of class U or F is logged. -/
theorem recordEvent_image {e : Ev} {s : State} (hc : classOf s e.src ≠ 0) (hd : s.nvs.dropped = 0) (hl : s.nvs.image.length < 15) :
    (recordEvent e s).nvs.image = s.nvs.image ++ [mkRec s (eventRec e (noStrobe s) (loggedClass e s) (appliedReact s e))] := by
  have hrec : (recordEvent e s).nvs = (recorded e s).nvs := by
    rw [recordEvent_eq hc]
    split
    · rfl
    · exact issue_nvs ..
  rw [hrec, recorded, nvs_event]
  exact logPut_image hd hl

end Sys2Proof.Machine

/-! The close of a sillage window, drydown, and the reactions of 07 R190, R191, R202 to R207. -/

namespace Sys2Proof.Machine

/-! ### Closing the last window (07 R205) -/

theorem ranked_nil (s : State) : ranked s [] = [] := by simp [ranked]

/-- The state in which the last window has closed. -/
def windowless (s : State) : State := { s with flt := { s.flt with windows := [] } }

/-- The close of the last window raises what is still present and forgets the rest. -/
theorem closeWindow_last {w : Window} {s : State} (h : s.flt.windows = [w]) : closeWindow w s =
    forEach (ranked (windowless s) (w.seen.filter fun e => present s e.src)) recordEvent (windowless s) := by
  have hx : (s.onFlt fun f => { f with windows := f.windows.drop 1 }) = windowless s := by simp [State.onFlt, windowless, h]
  unfold closeWindow
  rw [hx]
  have hno : ∀ e : Ev, ((windowless s).flt.windows.any fun w' => lists (windowless s).flt w' e.src) = false := fun _ => rfl
  have hpres : ∀ e : Ev, present (windowless s) e.src = present s e.src := fun _ => rfl
  simp [hno, hpres]

theorem sillageClose_gives {w : Window} {s : State} (h : s.flt.windows = [w]) (hc : w.closeAt ≤ guardNow s) (hg : s.clk.guardStop = false) :
    Gives .sillageClose s (closeWindow w s) := by
  refine gives_of_eq rfl ?_
  simp [h, hc, hg]

/-- A listed event whose source is still present leaves its sticky bit. -/
theorem closeWindow_sticky {w : Window} {s : State} (h : s.flt.windows = [w]) {e : Ev} (he : e ∈ w.seen) (hl : e.src < 120)
    (hp : present s e.src = true) : (closeWindow w s).flt.sticky.getLsbD e.src = true := by
  obtain ⟨x, hx, hsrc⟩ := ranked_mem (windowless s) (List.mem_filter.mpr ⟨he, hp⟩ : e ∈ w.seen.filter fun e => present s e.src) hl
  rw [closeWindow_last h, ← hsrc]
  exact forEach_reaches (I := fun _ => True) (Q := fun t => t.flt.sticky.getLsbD x.src = true) (fun _ _ _ => trivial)
    (fun a t ht => (grows_recordEvent a t).sticky _ ht) hx (fun t _ => recordEvent_sticky x t (hsrc ▸ hl)) trivial

/-- Where no listed source is present, nothing is raised. -/
theorem closeWindow_forgets {w : Window} {s : State} (h : s.flt.windows = [w]) (hp : ∀ e ∈ w.seen, present s e.src = false) :
    closeWindow w s = windowless s := by
  have hdue : (w.seen.filter fun e => present s e.src) = [] := List.filter_eq_nil_iff.mpr fun e he => by simp [hp e he]
  rw [closeWindow_last h, hdue, ranked_nil, forEach_nil]

/-! ### Drydown (07 R206, R207) -/

theorem drydownExpiry_gives {src : Fin 120} {t0 : Nat} {s : State} (h : (s.flt.records.getD src Record.reset).state = .drying t0)
    (ht : t0 ≤ guardNow s) (hg : s.clk.guardStop = false) : Gives (.drydownExpiry src) s (dried src s) := by
  refine gives_of_eq rfl ?_
  simp only [h]
  exact if_pos (by simp [ht, hg])

theorem dried_record {src : Nat} {s : State} (h : src < s.flt.records.length) :
    ((dried src s).flt.records.getD src Record.reset).state = .lifted :=
  (setRecState_record src src .lifted (liftHolds src s)).trans (if_pos ⟨rfl, h⟩)

theorem dried_holds {src : Nat} {s : State} {h : Hold} (hm : h ∈ (dried src s).flt.holds) (hs : h.src = src) : h.retryHeld = true := by
  obtain ⟨-, hkept⟩ := List.mem_filter.mp (show h ∈ s.flt.holds.filter fun h => h.src ≠ src || h.retryHeld from hm)
  simpa [hs] using hkept

/-- A record after GUARD, which alone does so, has looked whether its source is present (07 R206, 13 R344). -/
def dryStep (s : State) (src : Nat) (r : Record) : Record :=
  if s.clk.guardStop then r else match r.state with
    | .held => if !present s src && dryApplies s src r then { r with state := .drying (guardNow s + dryUs s src) } else r
    | .drying _ => if present s src then { r with state := .held } else r
    | _ => r

theorem settleRecords_eq (s : State) : settleRecords s = s.onFlt fun f => { f with records := f.records.mapIdx (dryStep s) } := rfl

theorem settleRecords_record {src : Nat} {s : State} (h : src < s.flt.records.length) :
    (settleRecords s).flt.records.getD src Record.reset = dryStep s src (s.flt.records.getD src Record.reset) := by
  simp [settleRecords_eq, List.getD, h]

theorem dryStep_stopped {s : State} (hg : s.clk.guardStop = true) (src : Nat) (r : Record) : dryStep s src r = r := if_pos hg

theorem dryStep_held {src : Nat} {s : State} {r : Record} (hg : s.clk.guardStop = false) (hr : r.state = .held) : (dryStep s src r).state =
    if present s src = false ∧ dryApplies s src r = true then .drying (guardNow s + dryUs s src) else .held := by
  unfold dryStep
  rw [hg, hr]
  cases present s src <;> cases dryApplies s src r <;> simp [hr]

theorem dryStep_drying {src t0 : Nat} {s : State} {r : Record} (hg : s.clk.guardStop = false) (hr : r.state = .drying t0) :
    (dryStep s src r).state = if present s src = true then .held else .drying t0 := by
  unfold dryStep
  rw [hg, hr]
  cases present s src <;> simp [hr]

/-! ### Scopes of a reaction (07 R191) -/

theorem extend_bit {s : State} {m : Mask12} {k : Nat} (hk : k < 12) : (extend s m).getLsbD k = true ↔
    ∃ j, j < 12 ∧ m.getLsbD j = true ∧ (j = k ∨ (s.ch k).baseMode = 3 ∧ leader s j = leader s k) := by
  rw [extend, getLsbD_maskOf _ hk]
  simp [List.any_eq_true]

theorem chanMask_bit {n j : Nat} (hj : j < 12) : (chanMask n).getLsbD j = true ↔ j = n := by
  rw [chanMask, getLsbD_maskOf _ hj, beq_iff_eq]

theorem pairMask_bit {n j : Nat} (hj : j < 12) : (pairMask n).getLsbD j = true ↔ j / 2 = n / 2 := by
  rw [pairMask, getLsbD_maskOf _ hj, beq_iff_eq]

theorem bankMask_bit {n j : Nat} (hj : j < 12) : (bankMask n).getLsbD j = true ↔ j / 6 = n / 6 := by
  rw [bankMask, getLsbD_maskOf _ hj, beq_iff_eq]

/-- A mask with the members of its parallel groups: outside a group a channel is its own, in one all its members are. -/
theorem extend_scope {s : State} {m : Mask12} {p : Nat → Prop} {k : Nat} (hm : ∀ j, j < 12 → (m.getLsbD j = true ↔ p j)) (hk : k < 12) :
    ((s.ch k).baseMode ≠ 3 → ((extend s m).getLsbD k = true ↔ p k)) ∧
    ((s.ch k).baseMode = 3 → ((extend s m).getLsbD k = true ↔ ∃ j, j < 12 ∧ p j ∧ (j = k ∨ leader s j = leader s k))) := by
  rw [extend_bit hk]
  constructor
  · intro h3
    constructor
    · rintro ⟨j, hj, hb, rfl | ⟨h, -⟩⟩
      · exact (hm j hj).mp hb
      · exact absurd h h3
    · exact fun hp => ⟨k, hk, (hm k hk).mpr hp, .inl rfl⟩
  · intro h3
    constructor
    · rintro ⟨j, hj, hb, hl⟩
      exact ⟨j, hj, (hm j hj).mp hb, hl.imp_right And.right⟩
    · rintro ⟨j, hj, hp, hl⟩
      exact ⟨j, hj, (hm j hj).mpr hp, hl.imp_right fun h => ⟨h3, h⟩⟩

theorem reactScope_channel {react : Nat} (h : react = 1 ∨ react = 2) (s : State) (owner : Nat) : reactScope s react owner = extend s (chanMask owner) := by
  rcases h with rfl | rfl <;> rfl

/-- The scope of a reaction on one channel: the channel, and of a parallel group all members. -/
theorem reactScope_single {s : State} {k owner react : Nat} (ho : owner < 12) (hk : k < 12) (hr : react = 1 ∨ react = 2) :
    ((s.ch k).baseMode = 3 → (reactScope s react owner).getLsbD k = decide (k = owner ∨ leader s k = leader s owner)) ∧
    ((s.ch k).baseMode ≠ 3 → (reactScope s react owner).getLsbD k = decide (k = owner)) := by
  obtain ⟨halone, hgroup⟩ := extend_scope (s := s) (fun j hj => chanMask_bit (n := owner) hj) hk
  rw [reactScope_channel hr]
  refine ⟨fun h3 => Bool.eq_iff_iff.mpr ?_, fun h3 => Bool.eq_iff_iff.mpr ?_⟩
  · rw [hgroup h3, decide_eq_true_iff]
    constructor
    · rintro ⟨j, -, rfl, hl⟩
      exact hl.imp Eq.symm Eq.symm
    · exact fun hl => ⟨owner, ho, rfl, hl.imp Eq.symm Eq.symm⟩
  · rw [halone h3, decide_eq_true_iff]

/-- The scope of a reaction on a pair or a bank. -/
theorem reactScope_wide {s : State} {k owner react : Nat} {m : Mask12} {p : Nat → Bool} (hk : k < 12) (hr : reactScope s react owner = extend s m)
    (hm : ∀ j, j < 12 → (m.getLsbD j = true ↔ p j = true)) :
    ((s.ch k).baseMode ≠ 3 → (reactScope s react owner).getLsbD k = p k) ∧
    ((s.ch k).baseMode = 3 → ((reactScope s react owner).getLsbD k = true ↔ ∃ j, j < 12 ∧ p j = true ∧ (j = k ∨ leader s j = leader s k))) := by
  obtain ⟨halone, hgroup⟩ := extend_scope (s := s) hm hk
  rw [hr]
  exact ⟨fun h3 => Bool.eq_iff_iff.mpr (halone h3), hgroup⟩

/-! ### One reaction on one channel (07 R190, R193, R202) -/

theorem reactOn_flt (src : Nat) (cause : BitVec 3) (react : Nat) (perm : Bool) (owner : Nat) (s : State) :
    (reactOn src cause react perm owner s).flt = (holdStep src react perm owner s).flt := by
  have hlimp : (limped react (holdStep src react perm owner s)).flt = (holdStep src react perm owner s).flt := by
    rw [limped]
    split
    · exact enterLimp_flt _
    · rfl
  rw [reactOn_eq]
  split
  · exact hlimp
  · exact hlimp

/-- A reaction below channel off runs no retry, and so leaves every channel as it is. -/
theorem reactOn_chans {src : Nat} {cause : BitVec 3} {react : Nat} {perm : Bool} {owner : Nat} {s : State} (h : react < 2) :
    (reactOn src cause react perm owner s).chans = s.chans := by
  have hno : startsRetry src react = false := by simp [startsRetry]; omega
  obtain ⟨hs, ws, he⟩ := holdStep_eq src react perm owner s
  have h5 : (react == 5) = false := beq_eq_false_iff_ne.mpr (by omega)
  rw [reactOn_eq, hno, limped, h5, he]
  rfl

/-- A hold that does not stand yet is taken, with its windows. -/
theorem holdStep_new {src react : Nat} {perm : Bool} {owner : Nat} {s : State} (h1 : react ≠ 1) (hh : holdsOff react = true ∨ perm = true)
    (hn : holdFor src react perm owner s ∉ s.flt.holds) :
    holdStep src react perm owner s = takeHold (holdFor src react perm owner s) react (reactScope s react owner) s := by
  have h1' : (react == 1) = false := beq_eq_false_iff_ne.mpr h1
  have hany : (holdsOff react || perm) = true := by simpa using hh
  unfold holdStep
  rw [h1']
  exact if_neg (by simp [hany, hn])

/-- A hold that stands is not taken again. -/
theorem holdStep_again {src react : Nat} {perm : Bool} {owner : Nat} {s : State} (h1 : react ≠ 1)
    (hn : holdFor src react perm owner s ∈ s.flt.holds) : holdStep src react perm owner s = s := by
  unfold holdStep
  simp [h1, hn]

/-- A CUT opens its window and takes no hold. -/
theorem holdStep_cut (src owner : Nat) (s : State) : holdStep src 1 false owner s = openWindow 0 (reactScope s 1 owner) s := rfl

/-- A reaction of LIMP enters limp-home. -/
theorem reactOn_limp {src : Nat} {cause : BitVec 3} {perm : Bool} {owner : Nat} {s : State} (h : s.dev.struct = true) :
    (reactOn src cause 5 perm owner s).limp.active = true := by
  have hno : startsRetry src 5 = false := by simp [startsRetry]
  obtain ⟨hs, ws, he⟩ := holdStep_eq src 5 perm owner s
  rw [reactOn_eq, hno, he]
  exact enterLimp_active h

/-- A retry is started for a source of a retry class with a reaction of channel, pair or bank off (06 R159). -/
theorem startsRetry_iff (src react : Nat) : startsRetry src react = true ↔ (∃ c, retryClass src = some c) ∧ 2 ≤ react ∧ react ≤ 4 := by
  simp [startsRetry, Option.isSome_iff_exists, and_assoc]

/-- The hold of a reaction that holds channels off. -/
theorem holdFor_eq {src react : Nat} {perm : Bool} {owner : Nat} {s : State} (h2 : 2 ≤ react) (h5 : react ≤ 5) : holdFor src react perm owner s =
    ⟨src, owner, reactScope s react owner, react == 5, perm, decide (react ≤ 4) && (retryClass src).isSome⟩ := by
  have hretry : startsRetry src react = (decide (react ≤ 4) && (retryClass src).isSome) := by
    simp [startsRetry, h2, Bool.and_comm]
  rw [holdFor, hretry, if_pos (by simp [holdsOff, h2, h5])]

/-- The hold of REPORT with PERM. -/
theorem holdFor_report (src owner : Nat) (s : State) : holdFor src 0 true owner s = ⟨src, owner, 0, false, true, false⟩ := by
  have hno : startsRetry src 0 = false := by simp [startsRetry]
  rw [holdFor, hno]
  rfl

/-! ### What holds bar -/

theorem rank3_of_hold {h : Hold} {m : Nat} {s : State} (hm : h ∈ s.flt.holds) (hb : h.scope.getLsbD m = true) : rank3 s m = true := by
  have : (s.flt.holds.any fun h => h.scope.getLsbD m) = true := List.any_eq_true.mpr ⟨h, hm, hb⟩
  simp [rank3, this]

theorem permits_of_hold {h : Hold} {s : State} (hm : h ∈ s.flt.holds) (hp : h.perm = true) : permitsAllowed s = false := by
  have : permHold s.flt = true := List.any_eq_true.mpr ⟨h, hm, hp⟩
  simp [permitsAllowed, this]

theorem exitOk_of_hold {h : Hold} {s : State} (hm : h ∈ s.flt.holds) (hl : h.limp = true) : exitOk s = false := by
  have : limpHold s.flt = true := List.any_eq_true.mpr ⟨h, hm, hl⟩
  simp [exitOk, this]

end Sys2Proof.Machine

/-! The collector's obligation (07 R187 to R207), assembled from the recording, the reactions, the windows and drydown. -/

namespace Sys2Proof.Machine

/-! ### One event alone -/

/-- An event alone that somebody records and an open window lists is only marked (07 R204). -/
theorem raise_marks {e : Ev} {s : State} (h : e.src < 120) (hu : unrecorded s e.src = false)
    (hw : ((openWindows s).any fun w => lists s.flt w e.src) = true) : raise [e] s = conseqEvent e (lasted e s) := by
  have hlists : ((openWindows s).any fun w => lists (lasted e s).flt w e.src) = true := by
    rw [← hw]
    unfold lasted
    split <;> rfl
  have hf : ([e].filter fun e => !unrecorded s e.src) = [e] := by simp [hu]
  unfold raise
  dsimp only
  rw [hf, ranked_single h]
  exact if_pos (by rw [← lasted, hlists])

/-- The mark of a lasting source, where it has one. -/
theorem lasted_eq (e : Ev) (s : State) : lasted e s =
    { s with flt := { s.flt with lasting := if lastingSource e.src then setBit s.flt.lasting e.src else s.flt.lasting } } := by
  unfold lasted
  split <;> rfl

theorem conseqEvent_lasted (e : Ev) (s : State) : conseqEvent e (lasted e s) = { s with flt := { s.flt with
    conseq := setBit s.flt.conseq e.src, lasting := if lastingSource e.src then setBit s.flt.lasting e.src else s.flt.lasting,
    windows := s.flt.windows.map fun w => if lists s.flt w e.src then w.note e else w } } := by
  rw [lasted_eq]
  rfl

/-- An event of class C sets its sticky bit alone. -/
theorem recordEvent_classC {e : Ev} {s : State} (hc : classOf s e.src = 0) :
    recordEvent e s = s.onFlt fun f => { f with sticky := setBit f.sticky e.src } := by
  unfold recordEvent
  simp [hc]

/-- What an event alone of class U or F leaves of the collector, as its recording in the state with its lasting mark does. -/
theorem raise_recorded {e : Ev} {s : State} (h : e.src < 120) (hu : unrecorded s e.src = false)
    (hw : ((openWindows s).any fun w => lists s.flt w e.src) = false) (hc : classOf s e.src ≠ 0) :
    (raise [e] s).flt.sticky = setBit s.flt.sticky e.src ∧ (raise [e] s).flt.conseq = s.flt.conseq ∧
    (s.flt.first.valid = false → (raise [e] s).flt.first =
        ⟨true, s.flt.first.ovf, e.forced, noStrobe s, loggedClass e s, e.cause, BitVec.ofNat 3 (appliedReact s e), e.src, s.dtime⟩ ∧
      (raise [e] s).flt.ovfcnt = s.flt.ovfcnt) ∧
    (s.flt.first.valid = true → (raise [e] s).flt.first = { s.flt.first with ovf := true } ∧ (raise [e] s).flt.ovfcnt = sat 255 (s.flt.ovfcnt + 1)) ∧
    (raise [e] s).flt.fsrc = (if loggedClass e s = 2 ∧ s.flt.fsrc = 0x7F then e.src else s.flt.fsrc) ∧
    (e.src < s.flt.records.length → (raise [e] s).flt.records.getD e.src Record.reset = recordFor e s (s.flt.records.getD e.src Record.reset)) ∧
    (s.nvs.dropped = 0 → s.nvs.image.length < 15 → (raise [e] s).nvs.image =
      s.nvs.image ++ [mkRec s (eventRec e (noStrobe s) (loggedClass e s) (appliedReact s e))]) := by
  rw [raise_records h hu hw, lasted_eq]
  generalize (if lastingSource e.src = true then setBit s.flt.lasting e.src else s.flt.lasting) = m
  have hm : classOf { s with flt := { s.flt with lasting := m } } e.src ≠ 0 := hc
  have hkeep {α : Type} (g : Flt → α) (hg : ∀ f : Flt, g f.unissued = g f) := recordEvent_keeps g hg hm
  obtain ⟨hfree, htaken⟩ := latchEvent_first e (loggedClass e s) (appliedReact s e) (marked e { s with flt := { s.flt with lasting := m } })
  obtain ⟨hsticky, hconseq⟩ := latchEvent_sticky e (loggedClass e s) (appliedReact s e) (marked e { s with flt := { s.flt with lasting := m } })
  refine ⟨(hkeep Flt.sticky fun _ => rfl).trans hsticky, (hkeep Flt.conseq fun _ => rfl).trans hconseq, fun hv => ?_, fun hv => ?_, ?_,
    fun hl => recordEvent_recordFor hm hl, fun hd hl => recordEvent_image hm hd hl⟩
  · exact (hfree hv).imp (hkeep Flt.first fun _ => rfl).trans (hkeep Flt.ovfcnt fun _ => rfl).trans
  · exact (htaken hv).imp (hkeep Flt.first fun _ => rfl).trans (hkeep Flt.ovfcnt fun _ => rfl).trans
  · exact (hkeep Flt.fsrc fun _ => rfl).trans (latchEvent_fsrc ..)

/-- The record's reaction and the retry that it starts, in the order of 07 R187. -/
theorem recordFor_eq (e : Ev) (s : State) (r : Record) : recordFor e s r =
    if s.flt.safe then (if inForce r then { r with state := .held } else ⟨.held, 0, false, false⟩)
    else ⟨.held, BitVec.ofNat 3 (appliedReact s e), entryPerm (entryOf s e.src),
      decide (2 ≤ appliedReact s e) && decide (appliedReact s e ≤ 4) && (retryClass e.src).isSome⟩ := by
  have hretry : startsRetry e.src (appliedReact s e) =
      (decide (2 ≤ appliedReact s e) && decide (appliedReact s e ≤ 4) && (retryClass e.src).isSome) := by
    rw [startsRetry, Bool.and_assoc, Bool.and_comm]
  rw [recordFor, hretry]

/-- A record is stored in the log's image or queue, or counted as dropped. -/
theorem logStore_eq (r : Rec) (s : State) : ∃ v, logStore r s = { s with nvs := v } := by
  unfold logStore
  (repeat' split) <;> exact ⟨_, rfl⟩

/-- A log record changes the store's controller alone. -/
theorem logPut_eq (r0 : Nat) (s : State) : ∃ v, logPut r0 s = { s with nvs := v } := by
  unfold logPut
  dsimp only
  split
  · obtain ⟨u, hu⟩ := logStore_eq (mkRec s (at_ 24 4 + at_ 8 (sat 65535 s.nvs.dropped))) s
    rw [hu]
    exact logStore_eq _ _
  · exact logStore_eq _ s

theorem latchEvent_books (e : Ev) (cls : BitVec 2) (react : Nat) (s : State) : (latchEvent e cls react s).flt.holds = s.flt.holds ∧
    (latchEvent e cls react s).flt.windows = s.flt.windows ∧ (latchEvent e cls react s).flt.rx = s.flt.rx := by
  simp only [latchEvent, onFlt_flt]
  (repeat' split) <;> exact ⟨rfl, rfl, rfl⟩

/-- Before its reaction is issued an event has changed the collector's books, the log and the event tags alone. -/
theorem recorded_eq (e : Ev) (s : State) : ∃ f v u, recorded e s = { s with flt := f, nvs := v, ses := u } ∧
    f.holds = s.flt.holds ∧ f.windows = s.flt.windows ∧ f.rx = s.flt.rx := by
  obtain ⟨v, hv⟩ := logPut_eq (eventRec e (noStrobe s) (loggedClass e s) (appliedReact s e))
    (latchEvent e (loggedClass e s) (appliedReact s e) (marked e s))
  obtain ⟨u, hu⟩ := event_eq 24 { latchEvent e (loggedClass e s) (appliedReact s e) (marked e s) with nvs := v }
  refine ⟨(latchEvent e (loggedClass e s) (appliedReact s e) (marked e s)).flt, v, u, by rw [recorded, hv, hu]; rfl, ?_⟩
  exact latchEvent_books ..

/-- The channels on which a reaction acts are named by the event and its matrix entry. -/
theorem owners_congr {s t : State} (h : t.flt.rx = s.flt.rx) (e : Ev) (r : Nat) : owners t e r = owners s e r := by
  unfold owners entryOf
  rw [h]

/-- Outside the safe state an event alone, recorded, has its reaction issued for its channels. -/
theorem raise_issues {e : Ev} {s : State} (h : e.src < 120) (hu : unrecorded s e.src = false)
    (hw : ((openWindows s).any fun w => lists s.flt w e.src) = false) (hc : classOf s e.src ≠ 0) (hs : s.flt.safe = false) (hr : appliedReact s e ≠ 6) :
    ∃ y : State, raise [e] s = forEach (owners s e (appliedReact s e)) (reactOn e.src e.cause (appliedReact s e) (entryPerm (entryOf s e.src)))
        (if appliedReact s e = 1 then forEach (cutUnits y (owners s e (appliedReact s e))) cutUnit y else y) ∧
      y.flt.holds = s.flt.holds ∧ y.flt.windows = s.flt.windows ∧ y.chans = s.chans ∧ y.now = s.now ∧ y.clk = s.clk ∧ y.limp = s.limp := by
  rw [raise_records h hu hw, lasted_eq]
  generalize (if lastingSource e.src = true then setBit s.flt.lasting e.src else s.flt.lasting) = m
  obtain ⟨f, v, u, hy, hh, hwin, hrx⟩ := recorded_eq e { s with flt := { s.flt with lasting := m } }
  have hm : classOf { s with flt := { s.flt with lasting := m } } e.src ≠ 0 := hc
  refine ⟨{ s with flt := f, nvs := v, ses := u }, ?_, hh, hwin, rfl, rfl, rfl, rfl⟩
  have ho : owners { s with flt := f, nvs := v, ses := u } e (appliedReact s e) = owners s e (appliedReact s e) := owners_congr hrx e _
  have hsafe : { s with flt := { s.flt with lasting := m } }.flt.safe = false := hs
  have hreact : appliedReact { s with flt := { s.flt with lasting := m } } e = appliedReact s e := rfl
  have hentry : entryOf { s with flt := { s.flt with lasting := m } } e.src = entryOf s e.src := rfl
  rw [recordEvent_eq hm, hsafe, hy, hreact, hentry, issue]
  simp only [ho, hr, beq_iff_eq, Bool.false_eq_true, if_false]

/-- DRY of a source's matrix entry: bits 9:6 of its tagged word, or bits 23:20 (07 R207). -/
theorem entryDry_entryOf (s : State) (src : Nat) : entryDry (entryOf s src) =
    if src % 2 = 0 then fld (s.flt.rx.getD (src / 2) 0) 9 6 else fld (s.flt.rx.getD (src / 2) 0) 23 20 := by
  simp only [entryOf, entryDry, fld, beq_iff_eq]
  split <;> omega

/-- A source is present by its force bit, until the next start, or by its own condition (07 R182, R183, R215). -/
theorem present_iff (s : State) (src : Nat) : present s src = true ↔ s.flt.force.getLsbD src = true ∨ s.flt.lasting.getLsbD src = true ∨
    (src < 96 ∧ chanPresent s (src / 8) (src % 8) = true) ∨ (96 ≤ src ∧ globalPresent s src = true) := by
  unfold present
  by_cases h : src < 96
  · simp [h, or_assoc, Nat.not_le.mpr h]
  · simp [h, or_assoc, Nat.not_lt.mp h]

/-- Settles O23: one event by whether a window lists it and by its class, its reaction hold by hold, the windows' close, drydown, and the scopes. -/
theorem windowCloseAndDrydown : Obligations.WindowCloseAndDrydown := by
  unfold Obligations.WindowCloseAndDrydown
  refine ⟨fun w s hw hc hg => ?closes, fun w s hw hc hg hp => ?forgets, fun src t0 s hr ht hg => ?dries,
    fun src s hl => ⟨dried_record hl, fun h => dried_holds⟩, fun e s h hu hw => ?marks, fun e s h hu hw hc => ?classC,
    fun e r cls s x h hu hw hc hx hr hcls => ?records, fun e s h hu hw hc hr => ?safe, fun e r s h hu hw hc hs hr h6 => ?issues,
    fun src owner react cause perm h s x h2 h5 hh hx => ?holds, fun src owner cause s x hx => ?cut, fun src owner cause s x hx hn => ?perm,
    fun h m s hm => ⟨rank3_of_hold hm, permits_of_hold hm, exitOk_of_hold hm⟩, fun src s hg hl hr => ?held,
    fun src t0 s hg hl hr => ?drying, fun s => rfl, fun src s hg hl hr _ hp hd => ?drySafe, fun r => ?inForce,
    fun s k owner react ho hk hr => reactScope_single ho hk hr, fun s k owner ho hk => ?wide, fun s owner => ⟨rfl, rfl, rfl⟩, fun src s => ?dryUs,
    fun src r s => ?applies, fun src s => ?present, fun src s hg hl => ?stopped, startsRetry_iff⟩
  case closes =>
    refine ⟨sillageClose_gives hw hc hg, _, sillageClose_gives hw hc hg, fun e he hl hp => ?_⟩
    exact (grows_settle _).sticky _ (closeWindow_sticky hw he hl hp)
  case forgets =>
    have hx := sillageClose_gives hw hc hg
    rwa [closeWindow_forgets hw hp] at hx
  case dries =>
    have hx := drydownExpiry_gives hr ht hg
    exact ⟨hx, _, hx, still_keeps (fun t => t.flt.recovSrc) (fun _ => rfl) (still_settle _),
      still_keeps (fun t => t.flt.recov) (fun _ => rfl) (still_settle _)⟩
  case marks => rw [raise_marks h hu hw, conseqEvent_lasted]
  case classC =>
    rw [raise_records h hu hw, recordEvent_classC ((lasted_keeps (fun t => classOf t e.src) (fun _ _ => rfl) e s).trans hc), lasted_eq]
    rfl
  case records =>
    subst hx hr
    obtain rfl : cls = loggedClass e s := hcls
    obtain ⟨hsticky, hconseq, hfree, htaken, hfsrc, hrec, himage⟩ := raise_recorded h hu hw hc
    refine ⟨hsticky, hconseq, hfree, htaken, hfsrc, fun hl => ⟨?_, ?_⟩, himage⟩
    · refine healthAllowed_of_outstanding (src := e.src) ?_
      rw [hrec hl, recordFor_held]
      exact fun h => nomatch h
    · rw [hrec hl, recordFor_eq]
  case safe =>
    rw [raise_records h hu hw]
    refine recordEvent_safe_of_react ?_ ((lasted_keeps (fun t => appliedReact t e) (fun _ _ => rfl) e s).trans hr)
    rwa [lasted_keeps (fun t => classOf t e.src) fun _ _ => rfl]
  case issues =>
    subst hr
    exact raise_issues h hu hw hc hs h6
  case holds =>
    subst hx
    have hoff : holdsOff react = true := by simp [holdsOff, h2, h5]
    have h1 : react ≠ 1 := by omega
    rw [← holdFor_eq h2 h5] at hh
    subst hh
    refine ⟨fun hn => ?_, fun hn => ?_, fun h hst => ?_⟩
    · rw [reactOn_flt, holdStep_new h1 (.inl hoff) hn, takeHold_eq, hoff]
      exact ⟨rfl, rfl⟩
    · rw [reactOn_flt, holdStep_again h1 hn]
      exact ⟨rfl, rfl⟩
    · subst h
      exact reactOn_limp hst
  case cut =>
    subst hx
    rw [reactOn_flt, reactOn_chans (by decide), holdStep_cut]
    exact ⟨rfl, rfl, rfl⟩
  case perm =>
    subst hx
    rw [← holdFor_report src owner s] at hn ⊢
    rw [reactOn_flt, reactOn_chans (by decide), holdStep_new (by decide) (.inr rfl) hn]
    exact ⟨rfl, rfl, rfl⟩
  case held => rw [settleRecords_record hl, dryStep_held hg hr]
  case drying => rw [settleRecords_record hl, dryStep_drying hg hr]
  case drySafe => rw [settleRecords_record hl, dryStep_held hg hr, if_pos ⟨hp, hd⟩]
  case stopped => rw [settleRecords_record hl, dryStep_stopped hg]
  case inForce => cases hr : r.state <;> simp [inForce, hr]
  case wide =>
    obtain ⟨hpair, hpairs⟩ := reactScope_wide (s := s) (owner := owner) (p := fun j => decide (j / 2 = owner / 2)) hk (react := 3) rfl
      (fun j hj => (pairMask_bit hj).trans decide_eq_true_iff.symm)
    obtain ⟨hbank, hbanks⟩ := reactScope_wide (s := s) (owner := owner) (p := fun j => decide (j / 6 = owner / 6)) hk (react := 4) rfl
      (fun j hj => (bankMask_bit hj).trans decide_eq_true_iff.symm)
    simp only [decide_eq_true_iff] at hpairs hbanks
    exact ⟨fun h3 => ⟨hpair h3, hbank h3⟩, fun h3 => ⟨hpairs h3, hbanks h3⟩⟩
  case dryUs => exact ⟨fun _ => rfl, entryDry_entryOf s src⟩
  case applies =>
    simp only [dryApplies, Bool.and_eq_true, Bool.or_eq_true, decide_eq_true_eq, Bool.not_eq_true', and_assoc]
  case present => exact present_iff s src

end Sys2Proof.Machine

/-! Clock monitors, heartbeat, keep-alives and first permit (13 R345, R351 to R355, R445, 15 R384): each row by what it finds, and the pins by what the
aftermath drives them from. -/

namespace Sys2Proof.Machine

/-! ### Frequency windows (13 R351, R352) -/

/-- A complete window's count shows, and one in range does no more. -/
theorem monitorWindow_passes {m : Monitor} {count : Nat} {s : State} (hm : monitoring s m = true) (hp : countPasses m count = true) :
    Gives (.clockMonitorWindow m count) s { s with clk := setCount m count s.clk } := by
  refine gives_of_eq rfl ?_
  rw [if_neg (by simp [hm])]
  exact if_pos hp

theorem setCount_flags (m : Monitor) (count : Nat) (c : Clk) : (setCount m count c).flags = c.flags := by cases m <;> rfl

theorem setCount_guardStop (m : Monitor) (count : Nat) (c : Clk) : (setCount m count c).guardStop = c.guardStop := by cases m <;> rfl

theorem freqFault_lt (m : Monitor) : (freqFault m).2 < 120 := by cases m <;> decide

/-- A count out of range sets its flag and raises its source. -/
theorem monitorWindow_fails {m : Monitor} {count : Nat} {s : State} (hm : monitoring s m = true) (hp : countPasses m count = false)
    (hg : s.clk.guardStop = false) : Raises (.clockMonitorWindow m count) s
      { s with clk := { setCount m count s.clk with flags := setBit s.clk.flags (freqFault m).1 } } [(freqFault m).2] := by
  have hy : clkFlag (freqFault m).1 (onClk (setCount m count) s) =
      { s with clk := { setCount m count s.clk with flags := setBit s.clk.flags (freqFault m).1 } } := by
    simp only [clkFlag, onClk, setCount_flags]
  have hx : exec (.clockMonitorWindow m count) s = done (raise [ev (freqFault m).2] (clkFlag (freqFault m).1 (onClk (setCount m count) s))) := by
    refine congrArg done ?_
    rw [if_neg (by simp [hm])]
    exact if_neg (by simp [hp])
  rw [hy] at hx
  exact raises_event hx rfl rfl (freqFault_lt m) (unrecorded_guarded ((setCount_guardStop m count s.clk).trans hg) _)

/-! ### Stopped clocks (13 R353) -/

theorem stopFault_lt (d : Domain) : (stopFault d).2 < 120 := by cases d <;> decide

theorem stopped_setStopped (now : Nat) (d : Domain) (c : Clk) : stopped (setStopped now d c) d = true := by cases d <;> rfl

theorem setStopped_flags (now : Nat) (d : Domain) (c : Clk) : (setStopped now d c).flags = c.flags := by cases d <;> rfl

/-- The clocks in the state in which a stop's event is recorded. -/
theorem stopNoted_clk (d : Domain) (late : Bool) (s : State) : (stopNoted d late s).clk =
    { (if stopFirst d late then setStopped s.now d s.clk else s.clk) with flags := setBit s.clk.flags (stopFault d).1 } := by
  have hnow : (if d == .guard then holdPresent s else s).now = s.now ∧ (if d == .guard then holdPresent s else s).clk = s.clk := by
    unfold holdPresent
    (repeat' split) <;> exact ⟨rfl, rfl⟩
  unfold stopNoted clkFlag
  dsimp only
  split <;> simp only [onClk, hnow, setStopped_flags]

/-- A stop's event reaches the collector: GUARD's own is the shadow collector's (07 R198). -/
theorem stopNoted_recorded {d : Domain} {late : Bool} {s : State} (hw : watching s d = true) (hg : s.clk.guardStop = false) :
    unrecorded (stopNoted d late s) (stopFault d).2 = false := by
  by_cases hd : d = .guard
  · subst hd
    obtain ⟨-, -, hcore⟩ : s.clk.armed = true ∧ s.clocked = true ∧ s.clk.coreStop = false := by simpa [watching, State.coreRuns] using hw
    exact unrecorded_lit (by decide) (by simp [lightsOut, stopNoted_clk, stopFirst, setStopped, hcore])
  · refine unrecorded_guarded ?_ _
    rw [stopNoted_clk]
    cases d with
    | guard => exact absurd rfl hd
    | _ => split <;> exact hg

theorem settle_clk (s : State) : (settle s).clk = s.clk := still_keeps State.clk (fun _ => rfl) (still_settle s)

theorem stopFound_clk (d : Domain) (late : Bool) (s : State) : (stopFound d late s).clk = setStopped s.now d (stopNoted d late s).clk :=
  congrArg (setStopped s.now d) (still_keeps State.clk (fun _ => rfl) (still_raise _ _))

theorem stopFound_flags (d : Domain) (late : Bool) (s : State) : (stopFound d late s).clk.flags = setBit s.clk.flags (stopFault d).1 := by
  rw [stopFound_clk, setStopped_flags, stopNoted_clk]

theorem stopFound_seen {d : Domain} {late : Bool} {s : State} (hw : watching s d = true) (hg : s.clk.guardStop = false) :
    seen (stopFound d late s) (stopFault d).2 :=
  raise_seen (List.mem_singleton_self _) (stopFault_lt d) (stopNoted_recorded hw hg)

/-- TIME's stop found late is recorded without the strobe (07 R189). -/
theorem timeStop_late {s : State} (hw : watching s .time = true) (hg : s.clk.guardStop = false) (hv : s.flt.first.valid = false)
    (hl : ((openWindows s).any fun w => lists s.flt w 113) = false) :
    (settle (stopFound .time true s)).flt.first.src = 113 ∧ (settle (stopFound .time true s)).flt.first.tsusp = true := by
  have hnoted : stopNoted .time true s = { s with clk := { s.clk with timeStop := true, flags := setBit s.clk.flags 3 } } := rfl
  obtain ⟨-, -, hfree, -⟩ := raise_recorded (e := ev 113) (s := stopNoted .time true s) (by decide) (stopNoted_recorded hw hg) hl
    (show (2 : BitVec 2) ≠ 0 by decide)
  obtain ⟨hfirst, -⟩ := hfree hv
  have hstop : noStrobe (stopNoted .time true s) = true := by rw [hnoted]; rfl
  rw [hstop] at hfirst
  have hkept := (grows_settle (stopFound .time true s)).first (congrArg First.valid hfirst)
  rw [hkept]
  exact ⟨congrArg First.src hfirst, congrArg First.tsusp hfirst⟩

/-! ### Pins without their keep-alives -/

theorem permit0_of_lost {s : State} (h : s.pins.lost0 = true) : (settle s).pins.permit0 = false := by
  obtain ⟨-, ⟨hp, -, -, -⟩, -⟩ := safe_settle s
  rw [hp, still_keeps (fun t => t.pins.lost0) (fun _ => rfl) (still_settle s), h, Bool.not_true, Bool.and_false]

theorem permit1_of_lost {s : State} (h : s.pins.lost1 = true) : (settle s).pins.permit1 = false := by
  obtain ⟨-, ⟨-, hp, -, -⟩, -⟩ := safe_settle s
  rw [hp, still_keeps (fun t => t.pins.lost1) (fun _ => rfl) (still_settle s), h, Bool.not_true, Bool.and_false]

theorem health_of_lost {s : State} (h : s.pins.lostHG = true ∨ s.pins.lostHC = true) : (settle s).flt.health = false := by
  obtain ⟨-, ⟨-, -, hp, -⟩, -⟩ := safe_settle s
  rw [hp, still_keeps (fun t => t.pins.lostHG) (fun _ => rfl) (still_settle s), still_keeps (fun t => t.pins.lostHC) (fun _ => rfl) (still_settle s)]
  rcases h with h | h <;> simp [h]

/-- Without the heartbeat the aftermath leaves no high side on (13 R345). -/
theorem hs_of_heart {s : State} (h : s.pins.heart = true) {c : Chan} (hc : c ∈ (settle s).chans) : c.hs = 0 := by
  have hh : (settle s).pins.heart = true := (still_keeps (fun t => t.pins.heart) (fun _ => rfl) (still_settle s)).trans h
  exact hs_settle_of_barred (by simp [gatesBarred, hh]) hc

/-- What the loss of a keep-alive leaves: both domains stopped together where those of both are lost together (13 R445). -/
def keepLost (k : KeepAlive) (s : State) : State :=
  let x := { s with pins := loseKeepAlive k s.pins }
  if lostTogether x.pins x.clk then stopTogether x else x

theorem keepaliveLoss_gives {k : KeepAlive} {s : State} (hp : s.dev.phase ≠ .reset) : Gives (.keepaliveLoss k) s (keepLost k s) :=
  gives_of_eq rfl (if_neg (by simpa using hp))

/-- A pin flag that the loss sets is set whether the domains stop or not. -/
theorem keepLost_pins {g : Pins → Bool} {k : KeepAlive} {s : State} (h : g (loseKeepAlive k s.pins) = true) (hall : ∀ now p, g (losePins now p) = true) :
    g (keepLost k s).pins = true := by
  unfold keepLost
  dsimp only
  split
  · exact hall _ _
  · exact h

/-- Both domains stopped together: no pin is high, and no gate is on. -/
theorem stopTogether_pins (x : State) : (settle (stopTogether x)).clk.guardStop = true ∧ (settle (stopTogether x)).clk.coreStop = true ∧
    (settle (stopTogether x)).pins.permit0 = false ∧ (settle (stopTogether x)).pins.permit1 = false ∧ (settle (stopTogether x)).flt.health = false ∧
    ∀ c ∈ (settle (stopTogether x)).chans, c.hs = 0 := by
  rw [settle_clk]
  exact ⟨rfl, rfl, permit0_of_lost rfl, permit1_of_lost rfl, health_of_lost (.inl rfl), fun c => hs_of_heart rfl⟩

theorem keepaliveLoss_together {k : KeepAlive} {s : State} (hp : s.dev.phase ≠ .reset) (ht : lostTogether (loseKeepAlive k s.pins) s.clk = true) :
    Gives (.keepaliveLoss k) s (stopTogether { s with pins := loseKeepAlive k s.pins }) := by
  have h : keepLost k s = stopTogether { s with pins := loseKeepAlive k s.pins } := if_pos ht
  exact h ▸ keepaliveLoss_gives hp

theorem lostTogether_iff (p : Pins) (c : Clk) : lostTogether p c = true ↔
    ((p.lost0 = true ∧ p.back0 ≤ 2) ∨ (p.lostHG = true ∧ p.backHG ≤ 2) ∨ c.guardStop = true) ∧
    ((p.lost1 = true ∧ p.back1 ≤ 3) ∨ (p.lostHC = true ∧ p.backHC ≤ 3) ∨ c.coreStop = true) := by
  simp [lostTogether, stands, or_assoc]

/-- A lost keep-alive that runs again: nine more ticks, then the pin is free. -/
theorem tickKeep_lost (k : Nat) : (tickKeep true (true, k)).1 = decide (k < 9) ∧ (k < 9 → (tickKeep true (true, k)).2 = k + 1) := by
  by_cases h : k < 9
  · have h10 : ¬10 ≤ k + 1 := by omega
    simp [tickKeep, h, h10]
  · have h10 : 10 ≤ k + 1 := by omega
    simp [tickKeep, h, h10]

/-! ### The heartbeat (13 R345) -/

theorem heartbeatLoss_gives {s : State} (hp : s.dev.phase ≠ .reset) :
    Gives .heartbeatLoss s { s with pins := { s.pins with heart := true, heartAt := guardNow s } } :=
  gives_of_eq rfl (if_neg (by simpa using hp))

theorem heartbeatRestore_gives {s : State} (hg : s.clk.guardStop = false) (hh : s.pins.heart = true) (ht : guardSince s s.pins.heartAt 10 = true) :
    Gives .heartbeatRestore s (forEach (leaders s) heartUnit { s with pins := { s.pins with heart := false } }) :=
  gives_of_eq rfl (if_pos (by simp [hg, hh, ht]))

theorem heartbeatRestore_idle {s : State} (ht : guardSince s s.pins.heartAt 10 = false) : Gives .heartbeatRestore s s :=
  gives_of_eq rfl (if_neg (by simp [ht]))

/-- The units that are still on turn on with every segment that is not retired. -/
theorem heartUnit_hs {u : Nat} {s : State} (hd : (s.ch u).drive = .steady) (hb : blocked (s.ch u) = false) (hdt : (s.ch u).dt ≠ .toHigh)
    (hoff : ∀ m ∈ legs s u, (s.ch m).hs = 0) {m : Nat} (hm : m ∈ legs s u) (hl : m < s.chans.length) :
    ((heartUnit u s).ch m).hs = ~~~(s.ch m).retired := by
  have hres : heartUnit u s = resume true u s := if_pos (by simpa [hdt] using hoff)
  rw [hres, resume_hs hb (by simp [driveAsks, hd]) hm hl, onSet_base (by simp [hd])]

/-- A gate that the lost heartbeat holds off counts as on when its unit turns off (04 R93). -/
theorem gatesOff_heart {u : Nat} {s : State} (hu : u < s.chans.length) (hh : s.pins.heart = true) (ha : driveAsks (s.ch u) = true)
    (hb : blocked (s.ch u) = false) (hdt : (s.ch u).dt ≠ .toHigh) (hf : (s.ch u).fwOpt ≠ 0) : ((gatesOff u s).ch u).dt = .toFreewheel := by
  have hlit : lit s u = true := by simp [lit, hh, ha, hb, hdt]
  have hkeep : ((forEach (legs s u) (fun n s => s.onCh n fun c => { c with hs := 0 }) s).ch u).fwOpt = (s.ch u).fwOpt :=
    forEachCh_keep Chan.fwOpt (F := fun _ _ c => { c with hs := 0 }) (fun _ _ _ => rfl) _ s u
  have hlen := forEachCh_length (F := fun _ _ c => { c with hs := 0 }) (legs s u) s
  have hset : ∀ x : State, u < x.chans.length → (x.ch u).fwOpt ≠ 0 → ((x.onCh u fun c =>
      { c with dt := if c.fwOpt == 0 then .none else if lit s u || c.dt == .toHigh then .toFreewheel else c.dt }).ch u).dt = .toFreewheel := fun x hx hf => by
    rw [ch_onCh x u _ hx]
    simp [hlit, hf]
  exact hset _ (hlen ▸ hu) (hkeep ▸ hf)

/-! ### First permit (15 R384) -/

theorem firstPermitOk_iff (s : State) : firstPermitOk s = true ↔ s.dev.phase = .arming ∧ s.dev.struct = true ∧ s.dev.stok = true ∧ leaseOk s = true ∧
    s.flt.safe = false ∧ s.clk.coreStop = false := by
  simp [firstPermitOk, and_assoc]

theorem leaseOk_iff (s : State) : leaseOk s = true ↔ ∃ p, s.auth.holder = some p ∧ (s.ses.get p).leaseSeen = true := by
  unfold leaseOk
  cases s.auth.holder <;> simp

/-- First permit is given. -/
def permitted (s : State) : State := { s with dev := { s.dev with fpermit := true, phase := .service } }

theorem firstPermit_gives {s : State} (h : firstPermitOk s = true) : Gives .firstPermit s (permitted s) := gives_of_eq rfl (if_pos h)

theorem firstPermit_idle {s : State} (h : firstPermitOk s = false) : Gives .firstPermit s s := gives_of_eq rfl (if_neg (by simp [h]))

/-- Limp-home is none of what drives the gates. -/
theorem limp_undriven : Undriven State.limp := ⟨fun _ _ _ => rfl, fun _ _ => rfl, fun _ _ => rfl, fun _ _ => rfl, fun _ _ => rfl⟩

/-- After the records, the aftermath moves gates, timers, self-tests, pins, HEALTH and the event tags alone. -/
theorem settle_keeps_of_records {α : Type} {g : State → α} (hu : Undriven g) (hses : ∀ (s : State) e, g { s with ses := e } = g s)
    (hpins : ∀ (s : State) p, g { s with pins := p } = g s) (hchans : ∀ (s : State) l, g { s with chans := l } = g s)
    (hhealth : ∀ (s : State) b, g { s with flt := { s.flt with health := b } } = g s) (s : State) :
    g (settle s) = g (settleRecords (settleLease (warnLease .h1 (warnLease .h0 s)))) := by
  have hdrive : ∀ x, g (drivePads (drivePermits (driveHealth x))) = g x := fun x => by
    obtain ⟨e, he⟩ := driveHealth_eq x
    rw [drivePads, drivePermits, hpins, hpins, he]
    exact (hses { x with flt := { x.flt with health := healthAllowed x && !x.pins.lostHG && !x.pins.lostHC } } e).trans (hhealth x _)
  unfold settle
  rw [hdrive, noteQuiet, hu.bist]
  refine (hchans _ _).trans ((hchans _ _).trans ?_)
  rw [hu.settleTimers, hu.settleUnits]

/-- With LEASE_LOST's condition absent the lease raises nothing. -/
theorem settleLease_quiet {s : State} (h : leaseLost s = false) : settleLease s = s.onFlt fun f => { f with leaseLost := false } := by
  simp [settleLease, h]

theorem warnLease_eq (p : Port) (s : State) : ∃ e, warnLease p s = { s with ses := e } := by
  unfold warnLease
  dsimp only
  split
  · obtain ⟨e, he⟩ := eventAt_eq p 27 (s.onSes p fun e => { e with leaseWarn := true })
    exact ⟨e, he⟩
  · exact ⟨s.ses, rfl⟩

/-- What the leases' judgement leaves, where LEASE_LOST's condition is absent. -/
theorem settleLease_keeps {α : Type} {g : State → α} (hses : ∀ (s : State) e, g { s with ses := e } = g s)
    (hlost : ∀ (s : State) b, g { s with flt := { s.flt with leaseLost := b } } = g s) {s : State} (h : leaseLost s = false) :
    g (settleLease (warnLease .h1 (warnLease .h0 s))) = g s := by
  have hl : leaseLost (warnLease .h1 (warnLease .h0 s)) = false :=
    (leaseLost_of_still ((still_warnLease .h1 _).trans (still_warnLease .h0 s))).trans h
  obtain ⟨e0, h0⟩ := warnLease_eq .h0 s
  obtain ⟨e1, h1⟩ := warnLease_eq .h1 (warnLease .h0 s)
  rw [settleLease_quiet hl, h1, h0]
  exact (hlost _ false).trans ((hses _ e1).trans (hses s e0))

theorem all_mapIdx {β : Type} {p : β → Bool} {f : Nat → β → β} (h : ∀ i a, p (f i a) = p a) (l : List β) : (l.mapIdx f).all p = l.all p := by
  rw [Bool.eq_iff_iff, List.all_eq_true, List.all_eq_true]
  constructor
  · intro hall a ha
    obtain ⟨i, hi, rfl⟩ := List.mem_iff_getElem.mp ha
    exact h i l[i] ▸ hall _ (List.mem_mapIdx.mpr ⟨i, hi, rfl⟩)
  · intro hall b hb
    obtain ⟨i, hi, rfl⟩ := List.mem_mapIdx.mp hb
    exact (h i l[i]).trans (hall _ (List.getElem_mem hi))

/-- A record that is CLEAR stays so, and one that is not does not become so (07 R206). -/
theorem dryStep_clear (s : State) (i : Nat) (r : Record) : ((dryStep s i r).state == .clear) = (r.state == .clear) := by
  cases hg : s.clk.guardStop with
  | true => rw [dryStep_stopped hg]
  | false =>
    cases hr : r.state with
    | held => rw [dryStep_held hg hr]; split <;> rfl
    | drying t => rw [dryStep_drying hg hr]; split <;> rfl
    | _ => simp [dryStep, hg, hr]

theorem settleRecords_none (s : State) : noneOutstanding (settleRecords s).flt = noneOutstanding s.flt := all_mapIdx (dryStep_clear s) s.flt.records

/-- First permit with LEASE_LOST's condition absent: the permits rise where no PERM hold and no limp-home bars them, HEALTH where no source is outstanding. -/
theorem firstPermit_pins {s : State} (hs : s.flt.safe = false) (hp : permHold s.flt = false) (hl : s.limp.active = false ∨ s.limp.permKeep = true)
    (hlost : leaseLost s = false) : (settle (permitted s)).pins.permit0 = (!s.pins.lost0) ∧ (settle (permitted s)).pins.permit1 = (!s.pins.lost1) ∧
      (settle (permitted s)).flt.health = (noneOutstanding s.flt && !s.pins.lostHG && !s.pins.lostHC) := by
  have hkeep {α : Type} (g : Flt → α) (hg : ∀ f b l, g { f with health := b, leaseLost := l } = g f) :
      g (settle (permitted s)).flt = g (settleRecords (settleLease (warnLease .h1 (warnLease .h0 (permitted s))))).flt :=
    settle_keeps_of_records (g := fun t => g t.flt) ⟨fun _ _ _ => rfl, fun _ _ => rfl, fun _ _ => rfl, fun _ _ => rfl, fun _ _ => rfl⟩ (fun _ _ => rfl)
      (fun _ _ => rfl) (fun _ _ => rfl) (fun x b => hg x.flt b x.flt.leaseLost) _
  have hlease {α : Type} (g : Flt → α) (hg : ∀ f b l, g { f with health := b, leaseLost := l } = g f) :
      g (settleLease (warnLease .h1 (warnLease .h0 (permitted s)))).flt = g s.flt :=
    settleLease_keeps (g := fun t => g t.flt) (fun _ _ => rfl) (fun x l => hg x.flt x.flt.health l) (s := permitted s) hlost
  have hsafe : (settle (permitted s)).flt.safe = false := (hkeep Flt.safe fun _ _ _ => rfl).trans ((hlease Flt.safe fun _ _ _ => rfl).trans hs)
  have hperm : permHold (settle (permitted s)).flt = false := (hkeep permHold fun _ _ _ => rfl).trans ((hlease permHold fun _ _ _ => rfl).trans hp)
  have hnone : noneOutstanding (settle (permitted s)).flt = noneOutstanding s.flt :=
    (hkeep noneOutstanding fun _ _ _ => rfl).trans ((settleRecords_none _).trans (hlease noneOutstanding fun _ _ _ => rfl))
  have hlimp : (settle (permitted s)).limp = s.limp :=
    (settle_keeps_of_records limp_undriven (fun _ _ => rfl) (fun _ _ => rfl) (fun _ _ => rfl) (fun _ _ => rfl) _).trans
      (settleLease_keeps (g := State.limp) (fun _ _ => rfl) (fun _ _ => rfl) (s := permitted s) hlost)
  have hdev : (settle (permitted s)).dev.fpermit = true := still_keeps (fun t => t.dev.fpermit) (fun _ => rfl) (still_settle _)
  have hpin (g : Pins → Bool) (hg : ∀ p : Pins, g { p with permit0 := false, permit1 := false, pads := Pads.reset } = g p) :
      g (settle (permitted s)).pins = g s.pins := still_keeps (s := permitted s) (fun t => g t.pins) (fun t => hg t.pins) (still_settle _)
  have hallowed : permitsAllowed (settle (permitted s)) = true := by
    rcases hl with hl | hl <;> simp [permitsAllowed, hdev, hsafe, hperm, hlimp, hl]
  obtain ⟨-, ⟨h0, h1, hh, -⟩, -⟩ := safe_settle (permitted s)
  rw [h0, h1, hh, hallowed, hpin Pins.lost0 fun _ => rfl, hpin Pins.lost1 fun _ => rfl, hpin Pins.lostHG fun _ => rfl, hpin Pins.lostHC fun _ => rfl]
  simp [healthAllowed, hdev, hsafe, hnone]

/-! ### The microsecond clock beside them -/

/-- A microsecond leaves reset to reset. -/
theorem tickPhase_ne_reset {s : State} (h : s.dev.phase ≠ .reset) : tickPhase s ≠ .reset := by
  unfold tickPhase
  split
  · split <;> decide
  · decide
  · exact h

/-- CORE's keep-alive lost, a microsecond, and GUARD's lost: both domains have stopped together (13 R445). -/
theorem tick_then_loss {s : State} (ht : s.clk.timeStop = false) (hcore : s.clk.coreStop = false) (hc : s.clocked = true)
    (hl : s.pins.lost1 = true) (hb : s.pins.back1 ≤ 2) : Gives .microsecondTick s (tick s) ∧ Gives (.keepaliveLoss .permit0) (settle (tick s))
      (stopTogether { settle (tick s) with pins := loseKeepAlive .permit0 (settle (tick s)).pins }) := by
  have hreset := phase_ne_reset_of_clocked hc
  have htick := microsecondTick_gives hreset
  rw [if_pos (by simp [hc, ht])] at htick
  have hphase : (settle (tick s)).dev.phase = tickPhase s := still_keeps (fun t => t.dev.phase) (fun _ => rfl) (still_settle (tick s))
  have hruns : s.coreRuns = true := by simp [State.coreRuns, hc, hcore]
  have hkeep : (tickKeep s.coreRuns (s.pins.lost1, s.pins.back1)).1 = true ∧ (tickKeep s.coreRuns (s.pins.lost1, s.pins.back1)).2 ≤ 3 := by
    obtain ⟨hlost, hback⟩ := tickKeep_lost s.pins.back1
    rw [hruns, hl, hlost, hback (by omega)]
    exact ⟨decide_eq_true (by omega), by omega⟩
  have hlost : (settle (tick s)).pins.lost1 = true := (still_keeps (fun t => t.pins.lost1) (fun _ => rfl) (still_settle (tick s))).trans hkeep.1
  have hback : (settle (tick s)).pins.back1 ≤ 3 :=
    (still_keeps (fun t => t.pins.back1) (fun _ => rfl) (still_settle (tick s))).trans_le hkeep.2
  exact ⟨htick, keepaliveLoss_together (hphase ▸ tickPhase_ne_reset hreset)
    ((lostTogether_iff _ _).mpr ⟨.inl ⟨rfl, Nat.zero_le 2⟩, .inl ⟨hlost, hback⟩⟩)⟩

/-- The pins are none of what drives the gates. -/
theorem pins_undriven : Undriven State.pins := ⟨fun _ _ _ => rfl, fun _ _ => rfl, fun _ _ => rfl, fun _ _ => rfl, fun _ _ => rfl⟩

/-- Before the PLL's lock GUARD counts the heartbeat's 10 µs by its own clock (13 R344). -/
theorem guardTick_then_restore {s : State} (hp : s.dev.phase = .clocks) (hg : s.clk.guardStop = false) (hh : s.pins.heart = true)
    (ht : s.pins.heartAt + 9 ≤ guardNow s) : ∃ t u, exec .microsecondTick s = .next t ∧ exec .heartbeatRestore t = .next u ∧ u.pins.heart = false := by
  have htick := microsecondTick_gives (s := s) (by simp [hp])
  rw [if_neg (by simp [State.clocked, hp])] at htick
  have hstop : (settle (guardTick s)).clk.guardStop = false := (congrArg Clk.guardStop (settle_clk _)).trans hg
  have hheart : (settle (guardTick s)).pins.heart = true := (still_keeps (fun t => t.pins.heart) (fun _ => rfl) (still_settle (guardTick s))).trans hh
  have hat : (settle (guardTick s)).pins.heartAt = s.pins.heartAt := still_keeps (s := guardTick s) (fun t => t.pins.heartAt) (fun _ => rfl) (still_settle _)
  have hnow : guardNow (settle (guardTick s)) = guardNow s + 1 :=
    (still_keeps guardNow (fun _ => rfl) (still_settle (guardTick s))).trans (guardNow_guardTick hg)
  have hx := heartbeatRestore_gives hstop hheart (decide_eq_true (by omega))
  refine ⟨_, _, htick, hx, (still_keeps (fun t => t.pins.heart) (fun _ => rfl) (still_settle _)).trans ?_⟩
  exact congrArg Pins.heart (pins_undriven.run pins_undriven.heartUnit _ _)

/-- Settles O28: each monitor by its count or its stop, the heartbeat and the keep-alives by the time since their loss, first permit by its conditions and
the pins that follow from them. -/
theorem clockMonitorsAndKeepAlives : Obligations.ClockMonitorsAndKeepAlives := by
  unfold Obligations.ClockMonitorsAndKeepAlives
  refine ⟨fun m count s => monitorWindow_passes, fun m count s => monitorWindow_fails, fun d late s hw hs hg => ?stop, by decide, fun s hp => ?heartLost,
    fun s => heartbeatRestore_gives, fun k s hp hl => ?lost, fun s hp => ?permit0, fun s hp => ?permit1, fun s hp => ?healthG, fun s hp => ?healthC,
    fun s h1 h2 h3 h4 h5 h6 => ?permit, by decide, by decide, fun u s hd hb hdt hoff m hm hl => heartUnit_hs hd hb hdt hoff hm hl,
    fun s hg => ⟨fun hl => ?back0, fun hl => ?backG⟩, fun s hr => ⟨fun hl => ?back1, fun hl => ?backC⟩, fun k s hp ht => ?together,
    fun es h s hl => ?lights, fun s hw hs hg hv hl => ?late, fun u s => gatesOff_heart, fun s h1 h2 h3 h4 h5 h6 hp hl hlost => ?pins, fun s hc => ?coreStop,
    fun s hw hs => ?senseAt, fun s hw hs => ?guardAt, lostTogether_iff, fun s hh ht => heartbeatRestore_idle ht, fun s hg hcore ht hc hl hb => ?tickLoss,
    firstPermitOk_iff, fun s => ⟨leaseOk_iff s, firstPermit_idle⟩, fun s hp _ hg hh ht => guardTick_then_restore hp hg hh ht⟩
  case stop =>
    refine ⟨_, clockStop_gives hw hs, ?_, ?_, settle_seen (stopFound_seen hw hg)⟩
    · rw [settle_clk]
      exact stopped_setStopped s.now d _
    · rw [settle_clk]
      exact stopFound_flags d late s
  case heartLost =>
    exact ⟨_, heartbeatLoss_gives hp, still_keeps (fun t => t.pins.heart) (fun _ => rfl) (still_settle _), fun c => hs_of_heart rfl, still_settle _⟩
  case lost =>
    have h : keepLost k s = { s with pins := loseKeepAlive k s.pins } := if_neg (by simpa using hl)
    exact h ▸ keepaliveLoss_gives hp
  case permit0 => exact ⟨_, keepaliveLoss_gives hp, permit0_of_lost (keepLost_pins (g := Pins.lost0) rfl fun _ _ => rfl)⟩
  case permit1 => exact ⟨_, keepaliveLoss_gives hp, permit1_of_lost (keepLost_pins (g := Pins.lost1) rfl fun _ _ => rfl)⟩
  case healthG => exact ⟨_, keepaliveLoss_gives hp, health_of_lost (.inl (keepLost_pins (g := Pins.lostHG) rfl fun _ _ => rfl))⟩
  case healthC => exact ⟨_, keepaliveLoss_gives hp, health_of_lost (.inr (keepLost_pins (g := Pins.lostHC) rfl fun _ _ => rfl))⟩
  case permit => exact firstPermit_gives ((firstPermitOk_iff s).mpr ⟨h1, h2, h3, h4, h5, h6⟩)
  case back0 =>
    have h := tickKeep_lost s.pins.back0
    simpa [tick, tickPins, hg, hl] using h
  case backG =>
    have h := tickKeep_lost s.pins.backHG
    simpa [tick, tickPins, hg, hl] using h
  case back1 =>
    have h := tickKeep_lost s.pins.back1
    simpa [tick, tickPins, hr, hl] using h
  case backC =>
    have h := tickKeep_lost s.pins.backHC
    simpa [tick, tickPins, hr, hl] using h
  case together =>
    have hx := keepaliveLoss_together hp ht
    exact ⟨hx, _, hx, stopTogether_pins _⟩
  case lights =>
    have hcore : s.coreRuns = false := by
      simp only [lightsOut, Bool.and_eq_true] at hl
      simp [State.coreRuns, hl.2]
    refine ⟨?_, by simp [linkUp, hcore], by simp [receiving, hcore], by simp [recoveryServed, hcore]⟩
    have hnone : (es.filter fun e => !unrecorded s e.src) = [] := List.filter_eq_nil_iff.mpr fun e _ => by simp [unrecorded, hl]
    unfold raise
    rw [hnone, ranked_nil]
    rfl
  case late => exact ⟨_, clockStop_gives hw hs, timeStop_late hw hg hv hl⟩
  case pins => exact ⟨_, firstPermit_gives ((firstPermitOk_iff s).mpr ⟨h1, h2, h3, h4, h5, h6⟩), firstPermit_pins h5 hp hl hlost⟩
  case coreStop => exact firstPermit_idle (by simp [firstPermitOk, hc])
  case senseAt => exact ⟨_, clockStop_gives hw hs, congrArg Clk.senseAt (settle_clk _)⟩
  case guardAt => exact ⟨_, clockStop_gives hw hs, congrArg Clk.guardAt (settle_clk _)⟩
  case tickLoss =>
    obtain ⟨htick, hloss⟩ := tick_then_loss ht hcore hc hl hb
    obtain ⟨hgs, hcs, hp0, hp1, hh, -⟩ := stopTogether_pins { settle (tick s) with pins := loseKeepAlive .permit0 (settle (tick s)).pins }
    exact ⟨_, _, htick, hloss, hgs, hcs, hp0, hp1, hh⟩

end Sys2Proof.Machine

/-! The OTP never goes back (09 R254, R255, R257). What the operations behind the rows leave of the owner key's programming: with the OTP locked,
all of it. Each operation has one frame lemma, as for the OTP itself. -/

namespace Sys2Proof.Machine

/-- The owner key's programming stands in `t` as in `s`. -/
@[simp] abbrev ProvStands (s t : State) : Prop := t.trust.prov = s.trust.prov ∧ t.trust.provKey = s.trust.provKey

theorem ProvStands.trans {s t u : State} (h : ProvStands t u) (k : ProvStands s t) : ProvStands s u :=
  ⟨h.1.trans k.1, h.2.trans k.2⟩

theorem provStands_of_still {s t : State} (h : t.still = s.still) : ProvStands s t :=
  have hk := still_keeps State.trust (fun _ => rfl) h
  ⟨congrArg Trust.prov hk, congrArg Trust.provKey hk⟩

@[simp] theorem ite_prov {b : Prop} [Decidable b] (x y : State) :
    (if b then x else y).trust.prov = (if b then x.trust.prov else y.trust.prov) ∧
    (if b then x else y).trust.provKey = (if b then x.trust.provKey else y.trust.provKey) := by
  split <;> simp

@[simp] theorem ite_snd_prov {α : Type} {b : Prop} [Decidable b] (x y : α × State) :
    (if b then x else y).2.trust.prov = (if b then x.2.trust.prov else y.2.trust.prov) ∧
    (if b then x else y).2.trust.provKey = (if b then x.2.trust.provKey else y.2.trust.provKey) := by
  split <;> simp

@[simp] theorem forEach_prov {α : Type} {f : α → State → State} (h : ∀ a t, ProvStands t (f a t)) (l : List α) (s : State) :
    ProvStands s (forEach l f s) := by
  induction l generalizing s with
  | nil => simp [forEach_nil]
  | cons a l ih => rw [forEach_cons]; exact (ih _).trans (h a s)

/-! ### Named bits, event tags, the fault log and the programs that wait -/

@[simp] theorem namedBits_prov (k pos : Nat) (w : W36) (s : State) : ProvStands s (namedBits k pos w s).2 := by
  unfold namedBits
  split <;> simp [State.draw]

@[simp] theorem namedAddr_prov (pos : Nat) (w : W36) (s : State) : ProvStands s (namedAddr pos w s).2 := by simp [namedAddr]

@[simp] theorem eventAt_prov (p : Port) (tag : Nat) (s : State) : ProvStands s (eventAt p tag s) := provStands_of_still (still_eventAt _ _ _)

@[simp] theorem event_prov (tag : Nat) (s : State) : ProvStands s (event tag s) := provStands_of_still (still_event _ _)

@[simp] theorem logPut_prov (r0 : Nat) (s : State) : ProvStands s (logPut r0 s) := provStands_of_still (still_logPut _ _)

@[simp] theorem choosePage_prov (p : Program) (page : Option Nat) (s : State) : ProvStands s (choosePage p page s) := by simp [choosePage]

@[simp] theorem deferProgram_prov (s : State) : ProvStands s (deferProgram s) := by simp [deferProgram]

@[simp] theorem tryProgram_prov (s : State) : ProvStands s (tryProgram s) := by
  unfold tryProgram
  (repeat' split) <;> simp

@[simp] theorem bistIncomplete_prov (l : Lane) (detail : BitVec 2) (s : State) : ProvStands s (bistIncomplete l detail s) :=
  provStands_of_still (still_bistIncomplete _ _ _)

@[simp] theorem bistPreempt_prov (hit : Running → Bool) (s : State) : ProvStands s (bistPreempt hit s) :=
  provStands_of_still (still_bistPreempt _ _)

/-! ### Gates, ladders and periods -/

@[simp] theorem gatesOn_prov (blank : Bool) (u : Nat) (s : State) : ProvStands s (gatesOn blank u s) := provStands_of_still (still_gatesOn _ _ _)

@[simp] theorem gatesOff_prov (u : Nat) (s : State) : ProvStands s (gatesOff u s) := provStands_of_still (still_gatesOff _ _)

@[simp] theorem resume_prov (blank : Bool) (u : Nat) (s : State) : ProvStands s (resume blank u s) := provStands_of_still (still_resume _ _ _)

@[simp] theorem ladderChop_prov (u : Nat) (s : State) : ProvStands s (ladderChop u s) := provStands_of_still (still_ladderChop _ _)

@[simp] theorem unitOff_prov (u : Nat) (s : State) : ProvStands s (unitOff u s) := provStands_of_still (still_unitOff _ _)

@[simp] theorem proceed_prov (u : Nat) (s : State) : ProvStands s (proceed u s) := provStands_of_still (still_proceed _ _)

@[simp] theorem attempt_prov (u : Nat) (s : State) : ProvStands s (attempt u s) := provStands_of_still (still_attempt _ _)

@[simp] theorem startRefresh_prov (u : Nat) (s : State) : ProvStands s (startRefresh u s) := provStands_of_still (still_startRefresh _ _)

@[simp] theorem applyLatch_prov (t : Nat) (s : State) : ProvStands s (applyLatch t s) := provStands_of_still (still_applyLatch _ _)

@[simp] theorem trigger_prov (t : Nat) (edgeB : Bool) (s : State) : ProvStands s (trigger t edgeB s) := provStands_of_still (still_trigger _ _ _)

@[simp] theorem beginPeriod_prov (t : Nat) (below : Mask12) (near : BitVec 20) (s : State) : ProvStands s (beginPeriod t below near s) :=
  provStands_of_still (still_beginPeriod _ _ _ _)

/-! ### The safe state, limp-home and the recording of an event -/

@[simp] theorem endFreeze_prov (s : State) : ProvStands s (endFreeze s) := provStands_of_still (still_endFreeze _)

@[simp] theorem safeUnit_prov (u : Nat) (s : State) : ProvStands s (safeUnit u s) := provStands_of_still (still_safeUnit _ _)

@[simp] theorem enterSafe_prov (s : State) : ProvStands s (enterSafe s) := provStands_of_still (still_enterSafe _)

@[simp] theorem enterLimp_prov (s : State) : ProvStands s (enterLimp s) := provStands_of_still (still_enterLimp _)

@[simp] theorem releaseRetry_prov (n : Nat) (s : State) : ProvStands s (releaseRetry n s) := by simp [releaseRetry]

@[simp] theorem liftHolds_prov (src : Nat) (s : State) : ProvStands s (liftHolds src s) := by simp [liftHolds]

@[simp] theorem recordEvent_prov (e : Ev) (s : State) : ProvStands s (recordEvent e s) := provStands_of_still (still_recordEvent _ _)

@[simp] theorem raise_prov (evs : List Ev) (s : State) : ProvStands s (raise evs s) := provStands_of_still (still_raise _ _)

@[simp] theorem retryRest_prov (n : Nat) (s : State) : ProvStands s (retryRest n s) := by
  unfold retryRest
  split <;> simp

/-! ### Segments and the gate supply -/

@[simp] theorem retire_prov (n i : Nat) (s : State) : ProvStands s (retire n i s) := by simp [retire, requestMap, barIfDead]

@[simp] theorem criterion_prov (n i : Nat) (why : BitVec 2) (s : State) : ProvStands s (criterion n i why s) := by simp [criterion]

@[simp] theorem onSeg_prov (n i : Nat) (f : SegMon → SegMon) (s : State) : ProvStands s (onSeg n i f s) := by simp [onSeg]

@[simp] theorem setProt_prov (n i : Nat) (s : State) : ProvStands s (setProt n i s) := by simp [setProt]

@[simp] theorem desatClose_prov (n : Nat) (s : State) : ProvStands s (desatClose n s) := by
  unfold desatClose
  split <;> simp [soloClose]

@[simp] theorem desatTrip_prov (n i ns : Nat) (s : State) : ProvStands s (desatTrip n i ns s) := by
  unfold desatTrip
  split <;> simp

@[simp] theorem raiseBstUv_prov (chs : List Nat) (s : State) : ProvStands s (raiseBstUv chs s) := by simp [raiseBstUv]

@[simp] theorem setBank_prov (s : State) (x : Bank) (ok : Bool) : ProvStands s (setBank s x ok) := by
  unfold setBank
  split <;> simp

@[simp] theorem dipUnit_prov (u : Nat) (s : State) : ProvStands s (dipUnit u s) := by
  unfold dipUnit
  split <;> simp

/-! ### Steps, cuts and refresh -/

@[simp] theorem countCut_prov (n : Nat) (s : State) : ProvStands s (countCut n s) := by simp [countCut]

@[simp] theorem reengage_prov (u : Nat) (s : State) : ProvStands s (reengage u s) := by simp [reengage]

@[simp] theorem stepEnd_prov (u : Nat) (s : State) : ProvStands s (stepEnd u s) := by simp [stepEnd, ladderEnd, enterBase]

@[simp] theorem placeRefresh_prov (n : Nat) (s : State) : ProvStands s (placeRefresh n s) := by
  simp only [placeRefresh]
  (repeat' split) <;> simp

@[simp] theorem refresh_prov (n : Nat) (s : State) : ProvStands s (refresh n s) := by simp [refresh]

/-! ### Conversions and samples -/

@[simp] theorem nearest_prov (q : Rat) (s : State) : ProvStands s (nearest q s).2 := by simp [nearest]

@[simp] theorem clampTo_prov (lo hi : Int) (q : Rat) (s : State) : ProvStands s (clampTo lo hi q s).2.2 := by
  simp only [clampTo]
  (repeat' split) <;> simp

@[simp] theorem putRushes_prov (i : Nat) (w : SampleOpt) (s : State) : ProvStands s (putRushes i w s) := by simp [putRushes]

@[simp] theorem imean_prov (n : Nat) (s : State) : ProvStands s (imean n s) := by simp [imean]

@[simp] theorem lostIpri_prov (n : Nat) (s : State) : ProvStands s (lostIpri n s) := by
  unfold lostIpri
  split <;> simp

@[simp] theorem isecValue_prov (s : State) (n : Nat) (raw : Int) : ProvStands s (isecValue s n raw).2.2 := by
  unfold isecValue
  split <;> simp [State.draw]

@[simp] theorem crossCheck_prov (n : Nat) (isec : Int) (q : BitVec 2) (quiet : Bool) (s : State) :
    ProvStands s (crossCheck n isec q quiet s) := by
  simp only [crossCheck]
  split <;> simp

@[simp] theorem recordIsec_prov (n : Nat) (raw : Int) (quiet : Quiet) (diff : BitVec 8) (s : State) :
    ProvStands s (recordIsec n raw quiet diff s) := by
  simp [recordIsec]

@[simp] theorem recordVolt_prov (gain offs i : Nat) (lsb : Rat) (top : Int) (place : Nat) (raw : Int) (diff : BitVec 8) (s : State) :
    ProvStands s (recordVolt gain offs i lsb top place raw diff s) := by
  simp [recordVolt]

@[simp] theorem recordVout_prov (n : Nat) (raw : Int) (diff : BitVec 8) (s : State) : ProvStands s (recordVout n raw diff s) := by
  simp [recordVout]

@[simp] theorem recordVbst_prov (n : Nat) (raw : Int) (diff : BitVec 8) (s : State) : ProvStands s (recordVbst n raw diff s) := by
  simp [recordVbst]

@[simp] theorem recordVbat_prov (x : Nat) (raw : Int) (diff : BitVec 8) (s : State) : ProvStands s (recordVbat x raw diff s) := by
  simp [recordVbat]

@[simp] theorem sweepEnd_prov (n : Nat) (s : State) : ProvStands s (sweepEnd n s) := by simp [sweepEnd]

@[simp] theorem warmCheck_prov (n : Nat) (s : State) : ProvStands s (warmCheck n s) := by simp [warmCheck]

@[simp] theorem noteSweep_prov (k : Nat) (s : State) : ProvStands s (noteSweep k s) := by simp [noteSweep]

@[simp] theorem diodeFw_prov (n : Nat) (v : Int) (o : Bool) (diff : BitVec 8) (s : State) : ProvStands s (diodeFw n v o diff s) := by
  simp only [diodeFw]
  (repeat' split) <;> simp

@[simp] theorem setSnap_prov (p : Port) (x : Option Snap) (s : State) : ProvStands s (setSnap p x s) := by simp [setSnap]

/-! ### Trips -/

@[simp] theorem scTrip_prov (n ns : Nat) (s : State) : ProvStands s (scTrip n ns s) := by simp [scTrip]

@[simp] theorem setTrip_prov (j : Nat) (b : Bool) (s : State) : ProvStands s (setTrip j b s) := by simp [setTrip]

/-! ### The injection's force -/

@[simp] theorem defer_prov (e : Ev) (s : State) : ProvStands s (defer e s) := by simp [defer]

@[simp] theorem setRecState_prov (src : Nat) (x : RecState) (s : State) : ProvStands s (setRecState src x s) := by simp [setRecState]

@[simp] theorem injEnd_prov (s : State) : ProvStands s (injEnd s) := by simp [injEnd]

@[simp] theorem injLeave_prov (h : Port) (s : State) : ProvStands s (injLeave h s) := by
  unfold injLeave
  split <;> simp

@[simp] theorem forceLatch_prov (src : Nat) (acc : List Ev × State) : ProvStands acc.2 (forceLatch src acc).2 := by
  simp [forceLatch]

@[simp] theorem forceLatches_prov (l : List Nat) (acc : List Ev × State) : ProvStands acc.2 (l.foldl (fun acc i => forceLatch i acc) acc).2 := by
  induction l generalizing acc with
  | nil => simp
  | cons i l ih => simp [ih]

@[simp] theorem writeForce_prov (w : Nat) (d : D28) (s : State) : ProvStands s (writeForce w d s).2 := by
  simp [writeForce]

/-! ### The store, the flacon's energy and last rites -/

@[simp] theorem holdEnergy_prov (s : State) : ProvStands s (holdEnergy s) := by simp [holdEnergy, judgeLow]

@[simp] theorem startCounters_prov (s : State) : ProvStands s (startCounters s) := by simp [startCounters]

@[simp] theorem capOf_prov (sum1 sum2 : Nat) (s : State) : ProvStands s (capOf sum1 sum2 s).2 := by
  unfold capOf
  split <;> simp [State.draw]

@[simp] theorem nextImage_prov (s : State) : ProvStands s (nextImage s) := by simp [nextImage]

@[simp] theorem stored_prov (p : Program) (s : State) : ProvStands s (stored p s) := by
  unfold stored
  (repeat' split) <;> simp [mapStored]

@[simp] theorem programWaits_prov (p : Program) (out : Bool) (s : State) : ProvStands s (programWaits p out s) := by
  unfold programWaits
  split <;> simp [mapMissed]

@[simp] theorem programDone_prov (reads : Bool) (s : State) : ProvStands s (programDone reads s) := by
  unfold programDone
  split <;> simp [programFailed]

@[simp] theorem scanStore_prov (s : State) : ProvStands s (scanStore s) := by simp [scanStore]

@[simp] theorem ritesStop_prov (s : State) : ProvStands s (ritesStop s) := by simp [ritesStop]

@[simp] theorem ritesAbandon_prov (s : State) : ProvStands s (ritesAbandon s) := by simp [ritesAbandon]

@[simp] theorem ritesPlace_prov (cause : BitVec 3) (s : State) : ProvStands s (ritesPlace cause s) := by simp [ritesPlace]

@[simp] theorem setSup_prov (x : Supply) (b : Bool) (s : State) : ProvStands s (setSup x b s) := by
  unfold setSup
  split <;> simp

/-! ### Self-tests -/

@[simp] theorem takeUnits_prov (crypto march later : Bool) (s : State) : ProvStands s (takeUnits crypto march later s) := by simp [takeUnits]

@[simp] theorem unitsServed_prov (march : Bool) (s : State) : ProvStands s (unitsServed march s) := by simp [unitsServed]

@[simp] theorem testResult_prov (r : Running) (fail : Option (Nat × BitVec 2)) (s : State) : ProvStands s (testResult r fail s) := by
  simp [testResult, setEnd]

@[simp] theorem sliceDone_prov (l : Lane) (r : Running) (bad : Bool) (s : State) : ProvStands s (sliceDone l r bad s) := by
  unfold sliceDone
  split <;> simp

@[simp] theorem testEnds_prov (l : Lane) (r : Running) (found : TestEnd) (s : State) : ProvStands s (testEnds l r found s) := by
  unfold testEnds
  split <;> simp [keepCommand]

@[simp] theorem ite_trustProv {b : Prop} [Decidable b] (x y : Trust) :
    (if b then x else y).prov = (if b then x.prov else y.prov) ∧ (if b then x else y).provKey = (if b then x.provKey else y.provKey) := by
  split <;> simp

@[simp] theorem overwriteAperture_prov (t : Trust) : (overwriteAperture t).prov = t.prov ∧ (overwriteAperture t).provKey = t.provKey := by
  simp [overwriteAperture]

@[simp] theorem startSet_prov (s : State) : ProvStands s (startSet s) := by simp [startSet]

@[simp] theorem abortQueued_prov (test : Nat) (s : State) : ProvStands s (abortQueued test s) := by simp [abortQueued]

@[simp] theorem abortTests_prov (s : State) : ProvStands s (abortTests s) := by
  have hlane (l : Lane) (t : State) : ProvStands t (match t.bist.lane l with
      | some r => if r.origin == 0 then t else bistIncomplete l 2 t
      | none => t) := by split <;> simp
  have hq := forEach_prov abortQueued_prov s.bist.queue s
  exact (forEach_prov hlane _ _).trans hq

/-! ### Start and load -/

@[simp] theorem generateKey_prov (rbgOk : Bool) (s : State) : ProvStands s (generateKey rbgOk s) := by
  unfold generateKey
  split <;> simp [State.draw]

@[simp] theorem clkFlag_prov (i : Nat) (s : State) : ProvStands s (clkFlag i s) := by simp [clkFlag]

@[simp] theorem applyPlan_prov (p : Plan) (ws : List D28) (s : State) : ProvStands s (applyPlan p ws s) := by simp [applyPlan]

@[simp] theorem applyStructure_prov (p : Plan) (ws : List D28) (s : State) : ProvStands s (applyStructure p ws s) := by simp [applyStructure]

@[simp] theorem recordLoad_prov (reel : BitVec 2) (v : Verdict) (s : State) : ProvStands s (recordLoad reel v s) := by
  simp only [recordLoad, onDev]
  split <;> simp

@[simp] theorem noteDqs_prov (missed : Bool) (s : State) : ProvStands s (noteDqs missed s) := by simp [noteDqs]

@[simp] theorem reelDone_prov (r : ReelRead) (s : State) : ProvStands s (reelDone r s) := by
  simp only [reelDone]
  split <;> simp

/-! ### Register reads -/

@[simp] theorem putLatch_prov (p : Path) (q : Quantity) (x : Option (BitVec 20)) (s : State) : ProvStands s (putLatch p q x s) := by
  unfold putLatch
  split <;> simp

@[simp] theorem readLow_prov (p : Path) (q : Quantity) (s : State) : ProvStands s (readLow p q s).2 := by simp [readLow]

@[simp] theorem readHigh_prov (p : Path) (q : Quantity) (s : State) : ProvStands s (readHigh p q s).2 := by
  unfold readHigh
  split <;> simp

@[simp] theorem readReg_prov (p : Path) (a : Nat) (s : State) : ProvStands s (readReg p a s).2 := by
  unfold readReg
  split <;> simp

@[simp] theorem readRun_prov (p : Path) (a k : Nat) (s : State) : ProvStands s (readRun p a k s).2 := by
  induction k generalizing s with
  | zero => simp [readRun]
  | succ k ih => simp [readRun, ih]

/-! ### The TAP and provisioning -/

/-- With the OTP locked no key is provisioned (09 R255). -/
theorem writeProv_locked (key : D28) (r : ReelRead) {s : State} (hl : s.otp.okhlock = true) : writeProv key r s = (sDenied, s) := by
  simp [writeProv, hl]

@[simp] theorem loadOpcode_prov (opcode : BitVec 8) (s : State) : ProvStands s (loadOpcode opcode s) := by simp [loadOpcode]

@[simp] theorem scanBypass_prov (bits : List Bool) (s : State) : ProvStands s (scanBypass bits s) := by simp [scanBypass]

@[simp] theorem scanCells_prov (pins bits : List Bool) (s : State) : ProvStands s (scanCells pins bits s) := by simp [scanCells]

/-! ### Register writes -/

@[simp] theorem tmrWrite_prov (t k : Nat) (d : D28) (s : State) : ProvStands s (tmrWrite t k d s).2 := by
  unfold tmrWrite
  split <;> simp [writePer, writeDuty, writePhase, writeEdge]

@[simp] theorem chWrite_prov (n o : Nat) (d : D28) (s : State) : ProvStands s (chWrite n o d s).2 := by
  unfold chWrite
  split <;> simp [writeCtl, requestOn, requestOff, writeRetire, writeIlim, writeScth, writeI2t]

@[simp] theorem fltWrite_prov (a : Access) (o : Nat) (d : D28) (s : State) : ProvStands s (fltWrite a o d s).2 := by
  unfold fltWrite
  (repeat' split) <;> simp [writeAck, ackSource, writeInjen]

@[simp] theorem measWrite_prov (a : Access) (o : Nat) (d : D28) (s : State) : ProvStands s (measWrite a o d s).2 := by
  unfold measWrite
  (repeat' split) <;> simp [writeZero, writeCalsel, writeFresh, writeMeasCtl]

@[simp] theorem clkWrite_prov (o : Nat) (d : D28) (s : State) : ProvStands s (clkWrite o d s).2 := by
  unfold clkWrite
  split <;> simp

@[simp] theorem ownEffect_prov (a : Access) (addr : Nat) (d : D28) (s : State) : ProvStands s (ownEffect a addr d s).2 := by
  simp [ownEffect, writeLimpExit, leaveLimp, writeBistCmd, queueTest, writeArb, tbaseWrite, writeClap, clapTimer, clapUnrouted,
    nvsWrite, writeLogsel, portWrite, writeFpage, writeLen]

@[simp] theorem holdWord_prov (addr : Nat) (d : D28) (s : State) : ProvStands s (holdWord addr d s) := by simp [holdWord]

@[simp] theorem effect_prov (a : Access) (addr : Nat) (d : D28) (s : State) : ProvStands s (effect a addr d s).2 := by
  simp [effect, heldEffect]

@[simp] theorem commitPair_prov (h : Port) (addr : Nat) (d : D28) (s : State) : ProvStands s (commitPair h addr d s).2 := by
  unfold commitPair
  (repeat' split) <;> simp

@[simp] theorem writeWord_prov (h : Port) (addr : Nat) (d : D28) (s : State) : ProvStands s (writeWord h addr d s).2 := by
  unfold writeWord
  split <;> simp

@[simp] theorem dbgWord_prov (addr : Nat) (d : D28) (s : State) : ProvStands s (dbgWord addr d s).2 := by
  unfold dbgWord
  split <;> simp

@[simp] theorem noteLast_prov (h : Port) (src addr : Nat) (st : BitVec 8) (s : State) : ProvStands s (noteLast h src addr st s) := by
  simp [noteLast]

@[simp] theorem hostWrite_prov (h : Port) (addr : Nat) (d : D28) (s : State) : ProvStands s (hostWrite h addr d s).2 := by simp [hostWrite]

@[simp] theorem hostCommit_prov (h : Port) (addr : Nat) (d : D28) (s : State) : ProvStands s (hostCommit h addr d s).2 := by simp [hostCommit]

@[simp] theorem armCommit_prov (h : Port) (addr : Nat) (d : D28) (s : State) : ProvStands s (armCommit h addr d s).2 := by
  unfold armCommit
  split <;> simp

@[simp] theorem accessWord_prov (a : Access) (addr : Nat) (d : D28) (s : State) : ProvStands s (accessWord a addr d s).2 := by
  unfold accessWord
  split <;> simp

@[simp] theorem writeRow_prov (a : Access) (addr : Nat) (d : D28) (s : State) : ProvStands s (writeRow a addr d s) := by simp [writeRow]

/-! ### Frames -/

@[simp] theorem queueFrame_prov (h : Port) (ws : List W36) (s : State) : ProvStands s (queueFrame h ws s) := by simp [queueFrame]

@[simp] theorem sendMac_prov (h : Port) (header : D28) (payload : List W36) (refused overrun : Bool) (s : State) :
    ProvStands s (sendMac h header payload refused overrun s) := by
  simp only [sendMac]
  split <;> simp

@[simp] theorem sendCrc_prov (h : Port) (header : D28) (payload : List W36) (seq : Nat) (refused : Bool) (s : State) :
    ProvStands s (sendCrc h header payload seq refused s) := by
  simp [sendCrc]

@[simp] theorem answer_prov (h : Port) (d : D28) (payload : List D28) (overrun : Bool) (s : State) :
    ProvStands s (answer h d payload overrun s) := by
  simp [answer]

@[simp] theorem refuse_prov (h : Port) (d : D28) (reason : BitVec 8) (s : State) : ProvStands s (refuse h d reason s) := by simp [refuse]

@[simp] theorem teardown_prov (h : Port) (s : State) : ProvStands s (teardown h s) := by simp [teardown]

@[simp] theorem sessionError_prov (h : Port) (s : State) : ProvStands s (sessionError h s) := by simp [sessionError]

@[simp] theorem seqEnd_prov (h : Port) (s : State) : ProvStands s (seqEnd h s) := by simp [seqEnd]

@[simp] theorem refuseFormat_prov (h : Port) (k : FrameKind) (d : D28) (s : State) : ProvStands s (refuseFormat h k d s) := by
  simp [refuseFormat, refuseCrc]

theorem judgeFrame_prov (h : Port) (k : FrameKind) (ws : List W36) {serve : D28 → State → State} (hs : ∀ d t, ProvStands t (serve d t))
    (s : State) : ProvStands s (judgeFrame h k ws serve s) := by
  simp only [judgeFrame, serveFormat]
  (repeat' split) <;> simp [hs]

@[simp] theorem receive_prov (h : Port) (k : FrameKind) (ws : List W36) {serve : D28 → State → State} (hs : ∀ d t, ProvStands t (serve d t))
    (s : State) : ProvStands s (receive h k ws serve s) := by
  simp [receive, hear, judgeFrame_prov h k ws hs]

@[simp] theorem setCtx_prov (h : Port) (t : Nat) (c : Ctx) (s : State) : ProvStands s (setCtx h t c s) := by simp [setCtx]

@[simp] theorem newOp_prov (h : Port) (d : D28) {serve : State → State} (hs : ∀ t, ProvStands t (serve t)) (s : State) :
    ProvStands s (newOp h d serve s) := by
  simp [newOp, hs]

@[simp] theorem discardArms_prov (h : Port) (s : State) : ProvStands s (discardArms h s) := by simp [discardArms]

/-! ### Ports and the recovery service -/

@[simp] theorem windowOver_prov (h : Port) (w : WindowEnd) (s : State) : ProvStands s (windowOver h w s) := by simp [windowOver]

@[simp] theorem recoveryRun_prov (a count : Nat) (s : State) : ProvStands s (recoveryRun a count s).2 := by
  simp [recoveryRun]

theorem recoveryWrite_prov (w : RecoveryWrite) (r : ReelRead) {s : State} (hl : s.otp.okhlock = true) : ProvStands s (recoveryWrite w r s).2 := by
  unfold recoveryWrite
  split <;> simp [writeProv_locked, hl]

/-! ### Sessions -/

@[simp] theorem setFail_prov (h : Port) (code : BitVec 4) (s : State) : ProvStands s (setFail h code s) := by simp [setFail]

@[simp] theorem serveHello_prov (h : Port) (ws : List W36) (d : D28) (s : State) : ProvStands s (serveHello h ws d s) := by
  simp only [serveHello]
  split
  · simp
  · simp
  · split <;> simp [State.draw]

@[simp] theorem keyComplete_prov (h : Port) (s : State) : ProvStands s (keyComplete h s) := by
  unfold keyComplete
  (repeat' split) <;> simp [establish, takeKeys, m4Authority, freshSession, startingEvents]

@[simp] theorem serveRead_prov (h : Port) (d : D28) (s : State) : ProvStands s (serveRead h d s) := by simp [serveRead]

@[simp] theorem mapState_prov {α β : Type} {f : Nat → α → State → β × State} (hf : ∀ i a t, ProvStands t (f i a t).2) (i : Nat)
    (l : List α) (s : State) : ProvStands s (mapState f i l s).2 := by
  induction l generalizing i s with
  | nil => simp [mapState]
  | cons a l ih => simp [mapState, ih, hf]

@[simp] theorem serveWrite_prov (h : Port) (ws : List W36) (d : D28) (s : State) : ProvStands s (serveWrite h ws d s) := by
  simp [serveWrite, writePayload]

@[simp] theorem serveArm_prov (h : Port) (ws : List W36) (d : D28) (s : State) : ProvStands s (serveArm h ws d s) := by simp [serveArm, armPair]

@[simp] theorem expireArm_prov (h : Port) (t : Nat) (s : State) : ProvStands s (expireArm h t s) := by simp [expireArm]

@[simp] theorem serveCommit_prov (h : Port) (ws : List W36) (d : D28) (s : State) : ProvStands s (serveCommit h ws d s) := by
  simp only [serveCommit]
  (repeat' split) <;> simp [commitPayload]

@[simp] theorem moveAuthority_prov (h : Port) (s : State) : ProvStands s (moveAuthority h s) := by
  unfold moveAuthority
  split <;> simp

@[simp] theorem actionEffect_prov (h : Port) (a : Nat) (s : State) : ProvStands s (actionEffect h a s) := by
  unfold actionEffect
  split <;> simp

@[simp] theorem handover_prov (a : Nat) (h : Port) (ws : List W36) (s : State) : ProvStands s (handover a h ws s) := by
  simp [handover, serveHandover]

@[simp] theorem sendEvent_prov (h : Port) (i : Nat) (s : State) : ProvStands s (sendEvent h i s) := by simp [sendEvent]

/-! ### The rows -/

/-- Whatever next state the command answers, the key's programming stands in it. -/
def LeavesProv (s : State) (o : Host.Outcome State Fault Refusal) : Prop := ∀ t, o = .next t → ProvStands s t

/-- The aftermath leaves the key's programming. -/
@[simp] theorem leavesProv_done {s x : State} : LeavesProv s (done x) ↔ ProvStands s x := by
  have h : ProvStands x (settle x) := provStands_of_still (still_settle x)
  simp [LeavesProv, done, h]

/-- With the OTP locked, every row that does not reach the OTP leaves the key's programming. -/
theorem exec_leavesProv {i : Instr} (hi : reachesCore i = false) {s : State} (hl : s.otp.okhlock = true) : LeavesProv s (exec i s) := by
  cases i
  case microsecondTick | pllLock | firstPermit | provisionDone | arbFusesDone | powerOnReset | rstNFall | supFail | pageProgramDone =>
    exact absurd hi (by simp [reachesCore])
  case dbgChal =>
    simp only [exec, execDbgChal]
    split <;> simp [State.draw]
  case desatTrip | desatEventClose | gateLeakEval | stuckDetect | vbatDip | fwZeroCurrent | bstUvRecovery =>
    simp [exec, execDesatTrip, execDesatEventClose, execGateLeakEval, execStuckDetect, execVbatDip, execFwZeroCurrent, execBstUvRecovery, leakEval]
  case chRetire | ctlOn | ctlOff | brcmdWrite | clapper | clapUnr | tmrPerWrite | tmrEdgeWrite | lowWordRead | highWordRead | measZero | measCalsel |
      snapshot | snapshotRelease | freshCommit | limpExit | ilimWrite | scthCommit | i2tCommit | fltAck | injUnlock | fltForce | logFetch | arbAdvance
      | fpageSelect | portLenCommit | bistStartup | bistAbort | bistRun | registerWrite =>
    simp [exec, execChRetire, execCtlOn, execCtlOff, execBrcmdWrite, execClapper, execClapUnr, execTmrPerWrite, execTmrEdgeWrite, execLowWordRead,
      execHighWordRead, execMeasZero, execMeasCalsel, execSnapshot, execSnapshotRelease, execFreshCommit, execLimpExit, execIlimWrite, execScthCommit,
      execI2tCommit, execFltAck, execInjUnlock, execFltForce, execLogFetch, execArbAdvance, execFpageSelect, execPortLenCommit, execBistStartup,
      execBistAbort, execBistRun, execRegisterWrite]
  case bstReady | bstwaitTimeout =>
    simp only [exec, execBstReady, execBstwaitTimeout]
    split <;> simp
  case vbatReturn =>
    simp only [exec, execVbatReturn]
    (repeat' split) <;> simp [batteryBack]
  case ladderChop | offtExpiry | rotationTick | stepDwellEnd | stepEarlyEnd | refreshPulse | refreshRecheck | refreshPulseEnd | refreshSpacingExpiry
      =>
    simp [exec, execLadderChop, execOfftExpiry, execRotationTick, execStepDwellEnd, execStepEarlyEnd, execRefreshPulse, execRefreshRecheck,
      execRefreshPulseEnd, execRefreshSpacingExpiry]
  case bstUvTurnoff =>
    simp only [exec, execBstUvTurnoff]
    split <;> simp
  case periodBoundary | requestFall | syncHoldover | debugHalt | debugHaltRelease =>
    simp [exec, execPeriodBoundary, execRequestFall, execSyncHoldover, execDebugHalt, execDebugHaltRelease, requestFall, triggerB, releaseHalt]
  case deadTimeExpiry =>
    simp only [exec, execDeadTimeExpiry]
    split <;> simp [freewheelOn]
  case syncEdge =>
    simp only [exec, execSyncEdge]
    (repeat' split) <;> simp
  case ipriConversion | sarConversion | diodeSlot | zeroWaitMet =>
    simp [exec, execIpriConversion, execSarConversion, execDiodeSlot, execZeroWaitMet, sarSlot, diodeSeg, judgeSeg, hotSeg]
  case trigConversion =>
    simp only [exec, execTrigConversion]
    (repeat' split) <;> simp
  case zeroDone | zeroTimeout | snapshotExpiry =>
    simp only [exec, execZeroDone, execZeroTimeout, execSnapshotExpiry]
    split <;> simp
  case i2tUpdate | cycleLimitCut | chopRestart | cutMsBoundary | scTrip | blankWindowClose | blankCapExpiry | hsTrip | probeRecovery | trycntClear |
      cutExpiry | tripAssert | tripRelease | lhAssert | lhRelease | lhDisagree | lhLineEdge =>
    simp [exec, execI2tUpdate, execCycleLimitCut, execChopRestart, execCutMsBoundary, execScTrip, execBlankWindowClose, execBlankCapExpiry,
      execHsTrip, execProbeRecovery, execTrycntClear, execCutExpiry, execTripAssert, execTripRelease, execLhAssert, execLhRelease, execLhDisagree,
      execLhLineEdge, i2tUpdate, cycleCut, cutMsBoundary, hsTrip, retryRecover, lhEdge]
  case retryWaitExpiry =>
    simp only [exec, execRetryWaitExpiry]
    split <;> simp [retryTurnOn]
  case sillageClose | drydownExpiry | injTimeout =>
    simp only [exec, execSillageClose, execDrydownExpiry, execInjTimeout]
    split <;> simp [closeWindow, dried]
  case collectorSelfCheck =>
    simp only [exec, execCollectorSelfCheck]
    (repeat' split) <;> simp [defaultEntryOf]
  case resetRelease | rbgRetry | pllLockLoss | pllLockTimeout | senseMonitorArm | clockMonitorWindow | clockStopDetect | heartbeatLoss |
      heartbeatRestore | flashDetect | reelLoadDone =>
    simp [exec, execResetRelease, execRbgRetry, execPllLockLoss, execPllLockTimeout, execSenseMonitorArm, execClockMonitorWindow, execClockStopDetect,
      execHeartbeatLoss, execHeartbeatRestore, execFlashDetect, execReelLoadDone, holdPresent, heartUnit]
  case keepaliveLoss =>
    simp only [exec, execKeepaliveLoss]
    (repeat' split) <;> simp [stopTogether]
  case startChargeEnd | chargeTimeout | flaconTestComplete | vholdConversion | programRetry | logProgramDue | logFetchDone =>
    simp [exec, execStartChargeEnd, execChargeTimeout, execFlaconTestComplete, execVholdConversion, execProgramRetry, execLogProgramDue,
      execLogFetchDone]
  case provision =>
    simp [exec, execProvision, writeProv_locked, hl]
  case wrreg =>
    simp [exec, execWrreg, recoveryWrite_prov, hl]
  case extest | samplePreload | bypass | dbgToken | trstAssert =>
    simp [exec, execExtest, execSamplePreload, execBypass, execDbgToken, execTrstAssert]
  case apertureVerifyDone =>
    simp only [exec, execApertureVerifyDone]
    (repeat' split) <;> simp
  case dbgAcc | selectFall | selectRise | rxOverrun | txUnderrun | rdreg | rdstat | recoveryOtherCommand =>
    simp [exec, execDbgAcc, execSelectFall, execSelectRise, execRxOverrun, execTxUnderrun, execRdreg, execRdstat, execRecoveryOtherCommand,
      dbgAccess, dbgCapture, bitsReached, selectRise]
  case hello | key | keyComplete | read | write | arm | commit | retire | lease | leaseExpiry | give | take | request | refuse | handoverLapse |
      eventSend | eventResend | hostEventFrame =>
    simp [exec, execHello, execKey, execKeyComplete, execRead, execWrite, execArm, execCommit, execRetire, execLease, execLeaseExpiry, execGive,
      execTake, execRequest, execRefuse, execHandoverLapse, execEventSend, execEventResend, execHostEventFrame, serveKey, serveRetire, retireEntry,
      serveLease, renewLease]
  case exchangeTimeout | oldKeyWindowEnd | armExpiry =>
    simp only [exec, execExchangeTimeout, execOldKeyWindowEnd, execArmExpiry]
    split <;> simp
  case bistTestStart =>
    simp [exec, execBistTestStart, startTest]
  case bistTestDone | bistTestTimeout =>
    simp only [exec, execBistTestDone, execBistTestTimeout]
    split <;> simp

end Sys2Proof.Machine

/-! The rows that reach the OTP: the PLL's lock completes an advance (09 R258), the fuses' end and the programming's end write it (09 R255, R257), and a
reset keeps it (15 R381). -/

namespace Sys2Proof.Machine

/-- From `s` to `x` the OTP only grows, and a locked one has no programming under way (09 R254 to R257). -/
def OtpGrows (s x : State) : Prop :=
  ProvSound x ∧ s.otp.arbfuse ≤ x.otp.arbfuse ∧ (s.otp.okhlock = true → x.otp.okhlock = true ∧ x.otp.okh = s.otp.okh)

/-- The aftermath reaches neither the OTP nor the key's programming. -/
theorem otpGrows_done {s x : State} (h : OtpGrows s x) {t : State} (ht : done x = .next t) : OtpGrows s t := by
  obtain ⟨-, -, -, ho⟩ := leaves_done.mpr (by simp : Untouched x x) t ht
  obtain ⟨hp, hk⟩ := leavesProv_done.mpr (by simp : ProvStands x x) t ht
  rwa [OtpGrows, ProvSound, ho, hp, hk]

theorem otpGrows_of_frames {s x : State} (h : ProvSound s) (ho : x.otp = s.otp) (hp : s.otp.okhlock = true → ProvStands s x) : OtpGrows s x := by
  refine ⟨fun hl hx => ?_, by simp [ho], fun hl => by simp [ho, hl]⟩
  rw [ho] at hl
  obtain ⟨h1, h2⟩ := hp hl
  exact h2.trans (h hl (h1 ▸ hx))

/-- Where no programming stands, as after a reset. -/
theorem otpGrows_of_idle {s x : State} (ho : x.otp = s.otp) (hp : x.trust.prov = 0) : OtpGrows s x :=
  ⟨fun _ h1 => by simp [hp] at h1, by simp [ho], fun hl => by simp [ho, hl]⟩

@[simp] theorem interrupted_otp (s : State) : (interrupted s).otp = s.otp := by
  unfold interrupted
  (repeat' split) <;> rfl

@[simp] theorem ritesProgram_otp (p : Program) (reads : Bool) (s : State) : (ritesProgram p reads s).otp = s.otp := by
  unfold ritesProgram
  split <;> simp

@[simp] theorem ritesEnd_otp (cause : BitVec 3) (env : RitesEnv) (s : State) : (ritesEnd cause env s).otp = s.otp := by
  simp [ritesEnd, toReset, State.start, ritesLog, ritesFill, ritesMap]

/-- Last rites leave OTP and programming until they end in reset, which keeps the OTP (15 R381). -/
theorem otpGrows_lastRites (cause : BitVec 3) (env : RitesEnv) {s x : State} (h : ProvSound s) (ho : x.otp = s.otp) (hp : ProvStands s x) :
    OtpGrows s (lastRites cause env x) := by
  simp only [lastRites]
  (repeat' split)
  · exact otpGrows_of_frames h ho fun _ => hp
  · exact otpGrows_of_idle (by simp [toReset, State.start, ho]) rfl
  · exact otpGrows_of_frames h (by simp [ho]) fun _ => by simpa using hp
  · exact otpGrows_of_idle (by simp [ho]) rfl

theorem microsecondTick_otpGrows {s t : State} (h : ProvSound s) (ht : exec .microsecondTick s = .next t) : OtpGrows s t := by
  refine otpGrows_done (otpGrows_of_frames h ?_ fun _ => ?_) ht
  all_goals (repeat' split) <;> simp [tick, guardTick]

/-- The advance that the shadow completes raises the fuses (09 R258). -/
theorem otpGrows_completeAdvance {s x : State} (h : ProvSound s) (ho : x.otp = s.otp) (hp : ProvStands s x) : OtpGrows s (completeAdvance x) := by
  have hx : OtpGrows s x := otpGrows_of_frames h ho fun _ => hp
  unfold completeAdvance
  split
  · split
    next hlt =>
      obtain ⟨hsound, hle, hlock⟩ := hx
      exact ⟨hsound, hle.trans hlt.le, hlock⟩
    next => exact hx
  · exact hx

theorem pllLock_otpGrows {b : Bool} {s t : State} (h : ProvSound s) (ht : exec (.pllLock b) s = .next t) : OtpGrows s t := by
  have frames {x : State} (ho : x.otp = s.otp) (hp : ProvStands s x) : OtpGrows s x := otpGrows_of_frames h ho fun _ => hp
  refine otpGrows_done ?_ ht
  (repeat' split)
  · exact frames rfl (by simp)
  · simpa [OtpGrows, ProvSound, readOtp] using otpGrows_completeAdvance h (x := onClk (fun c => { c with locked := true, armed := true })
      { s with now := 0, dev := { s.dev with phase := .otp } }) rfl (by simp)
  · exact frames rfl (by simp)

theorem firstPermit_otpGrows {s t : State} (h : ProvSound s) (ht : exec .firstPermit s = .next t) : OtpGrows s t :=
  otpGrows_done (otpGrows_of_frames h (by simp) fun _ => by simp) ht

/-- The programming that ends here is under way, so the OTP was not locked; it ends with the lock. -/
theorem provisionDone_otpGrows {s t : State} (h : ProvSound s) (ht : exec .provisionDone s = .next t) : OtpGrows s t := by
  refine otpGrows_done ?_ ht
  have kept : OtpGrows s s := otpGrows_of_frames h rfl fun _ => by simp
  split
  next k hk =>
    split
    next hp =>
      simp only [Bool.and_eq_true, decide_eq_true_eq] at hp
      exact ⟨fun _ h2 => by simp at h2, le_refl _, fun hl => absurd (h hl hp.1) (by simp [hk])⟩
    next => exact kept
  next => exact kept

theorem arbFusesDone_otpGrows {s t : State} (h : ProvSound s) (ht : exec .arbFusesDone s = .next t) : OtpGrows s t := by
  refine otpGrows_done ?_ ht
  have kept : OtpGrows s s := otpGrows_of_frames h rfl fun _ => by simp
  split
  · split
    · exact kept
    · exact ⟨h, le_max_left _ _, fun hl => ⟨hl, rfl⟩⟩
  · exact kept

theorem powerOnReset_otpGrows {s t : State} (ht : exec .powerOnReset s = .next t) : OtpGrows s t :=
  otpGrows_done (otpGrows_of_idle (by simp [toReset, State.start]) rfl) ht

theorem rstNFall_otpGrows {env : RitesEnv} {s t : State} (h : ProvSound s) (ht : exec (.rstNFall env) s = .next t) : OtpGrows s t := by
  refine otpGrows_done ?_ ht
  split
  · exact otpGrows_of_frames h rfl fun _ => by simp
  · exact otpGrows_lastRites 1 env h rfl (by simp)

theorem supFail_otpGrows {x : Supply} {env : RitesEnv} {s t : State} (h : ProvSound s) (ht : exec (.supFail x env) s = .next t) :
    OtpGrows s t := by
  refine otpGrows_done ?_ ht
  have frames {y : State} (ho : y.otp = s.otp) (hp : ProvStands s y) : OtpGrows s y := otpGrows_of_frames h ho fun _ => hp
  (repeat' split)
  · exact frames (by simp) (by simp)
  · exact frames (by simp) (by simp)
  · exact frames (by simp) (by simp)
  · exact otpGrows_lastRites (supCause x) env h (by simp) (by simp)

theorem pageProgramDone_otpGrows {reads : Bool} {env : RitesEnv} {s t : State} (h : ProvSound s)
    (ht : exec (.pageProgramDone reads env) s = .next t) : OtpGrows s t := by
  refine otpGrows_done ?_ ht
  split
  · exact otpGrows_of_frames h rfl fun _ => by simp
  dsimp only
  split
  · exact otpGrows_of_idle (by simp) rfl
  · exact otpGrows_of_frames h (by simp) fun _ => by simp

/-- Settles O56: the rows that reach the OTP by their own lemmas, every other row by its frames. -/
theorem otpNeverGoesBack : Obligations.OtpNeverGoesBack := by
  unfold Obligations.OtpNeverGoesBack
  intro i s t ht h
  by_cases hi : reachesCore i = false
  · obtain ⟨-, -, -, ho⟩ := exec_leaves hi s t ht
    exact otpGrows_of_frames h ho fun hl => exec_leavesProv hi hl t ht
  · cases i with
    | microsecondTick => exact microsecondTick_otpGrows h ht
    | pllLock b => exact pllLock_otpGrows h ht
    | firstPermit => exact firstPermit_otpGrows h ht
    | provisionDone => exact provisionDone_otpGrows h ht
    | arbFusesDone => exact arbFusesDone_otpGrows h ht
    | powerOnReset => exact powerOnReset_otpGrows ht
    | rstNFall env => exact rstNFall_otpGrows h ht
    | supFail x env => exact supFail_otpGrows h ht
    | pageProgramDone reads env => exact pageProgramDone_otpGrows h ht
    | _ => exact absurd rfl hi

end Sys2Proof.Machine

/-! Power-up (13 R343, R354, 15 R380, R383, 09 R258, R260): each row by what it finds. -/

namespace Sys2Proof.Machine

/-- The aftermath leaves all that `State.still` keeps. -/
theorem settle_keeps {α : Type} (g : State → α) (hg : ∀ x : State, g x.still = g x) (x : State) : g (settle x) = g x :=
  still_keeps g hg (still_settle x)

theorem resetRelease_gives {s : State} (hp : s.dev.phase = .reset) : Gives .resetRelease s { s with
    dev := { s.dev with phase := .clocks }, pins := { s.pins with rstN := true },
    sup := { s.sup with vddc := true, vddio := true, vdrv := true }, hold := { s.hold with state := .charging } } :=
  gives_of_eq rfl (if_neg (not_not_intro hp))

/-! ### The PLL's lock -/

/-- The state that the PLL's lock finds the store and the OTP in: device time starts, and the monitors are armed (13 R343, R354). -/
def clocksUp (s : State) : State :=
  onClk (fun c => { c with locked := true, armed := true }) { s with now := 0, dev := { s.dev with phase := .otp } }

theorem execPllLock_clocks {b : Bool} {s : State} (hp : s.dev.phase = .clocks) :
    exec (.pllLock b) s = done (generateKey b (readOtp (completeAdvance (clocksUp s)))) := by
  simp [exec, execPllLock, hp, clocksUp]

/-- Without a valid shadow no advance was interrupted. -/
theorem completeAdvance_none {s : State} (h : newestShadow s.store = none) : completeAdvance s = s := by
  simp [completeAdvance, h]

/-- A shadow above the fuses completes its advance (09 R258). -/
theorem completeAdvance_above {s : State} {c : Copy Nat} (h : newestShadow s.store = some c) (hlt : s.otp.arbfuse < c.val) :
    completeAdvance s = { s with otp := { s.otp with arbfuse := c.val } } := by
  simp [completeAdvance, h, hlt]

/-- Completing an advance changes the OTP alone. -/
theorem completeAdvance_frame (s : State) : (completeAdvance s).now = s.now ∧ (completeAdvance s).dev = s.dev ∧
    (completeAdvance s).clk = s.clk ∧ (completeAdvance s).free = s.free ∧ (completeAdvance s).trust = s.trust := by
  unfold completeAdvance
  (repeat' split) <;> simp

/-- A draw gives the start key of the free value at the counter (09 R260, log 10). -/
theorem generateKey_true (s : State) : generateKey true s =
    { s with free := s.free + 1, trust := { s.trust with rbgAt := s.now, key := startKey (Config.random s.free) } } := rfl

theorem generateKey_false (s : State) : generateKey false s = { s with trust := { s.trust with rbgAt := s.now } } := rfl

/-- The generator reaches neither the OTP nor start-up. -/
theorem generateKey_frame (b : Bool) (s : State) : (generateKey b s).otp = s.otp ∧ (generateKey b s).otpRead = s.otpRead ∧
    (generateKey b s).dev = s.dev := by
  cases b <;> simp [generateKey_true, generateKey_false]

theorem pllLock_plain {s : State} (hp : s.dev.phase = .clocks) (hn : newestShadow s.store = none) :
    Gives (.pllLock false) s { s with now := 0, dev := { s.dev with phase := .otp }, clk := { s.clk with locked := true, armed := true },
                                      otpRead := s.otp, trust := { s.trust with rbgAt := 0 } } := by
  refine gives_of_eq (execPllLock_clocks hp) ?_
  have hs : newestShadow (clocksUp s).store = none := hn
  rw [completeAdvance_none hs, generateKey_false]
  rfl

theorem pllLock_key {s : State} (hp : s.dev.phase = .clocks) : ∃ t, exec (.pllLock true) s = .next t ∧ t.now = 0 ∧ t.dev.phase = .otp ∧
    t.clk.locked = true ∧ t.clk.armed = true ∧ t.trust.key = startKey (Config.random s.free) := by
  obtain ⟨hnow, hdev, hclk, hfree, -⟩ := completeAdvance_frame (clocksUp s)
  refine ⟨_, execPllLock_clocks hp, ?_⟩
  rw [settle_keeps State.now fun _ => rfl, settle_keeps State.dev fun _ => rfl, settle_keeps State.clk fun _ => rfl, settle_keeps State.trust fun _ => rfl, generateKey_true]
  simp only [readOtp, hnow, hdev, hclk, hfree]
  exact ⟨rfl, rfl, rfl, rfl, rfl⟩

theorem pllLock_advance {b : Bool} {c : Copy Nat} {s : State} (hp : s.dev.phase = .clocks) (hn : newestShadow s.store = some c)
    (hlt : s.otp.arbfuse < c.val) :
    ∃ t, exec (.pllLock b) s = .next t ∧ t.otp = { s.otp with arbfuse := c.val } ∧ t.otpRead = t.otp ∧ t.dev.phase = .otp := by
  have ha : completeAdvance (clocksUp s) = { clocksUp s with otp := { s.otp with arbfuse := c.val } } := completeAdvance_above hn hlt
  obtain ⟨hotp, hread, hdev⟩ := generateKey_frame b (readOtp (completeAdvance (clocksUp s)))
  refine ⟨_, execPllLock_clocks hp, ?_⟩
  rw [settle_keeps State.otp fun _ => rfl, settle_keeps State.otpRead fun _ => rfl, settle_keeps State.dev fun _ => rfl, hotp, hread, hdev, ha]
  exact ⟨rfl, rfl, rfl⟩

theorem pllLock_late {b : Bool} {s : State} (hr : s.dev.phase ≠ .reset) (hc : s.dev.phase ≠ .clocks) :
    Gives (.pllLock b) s { s with clk := { s.clk with locked := true } } :=
  gives_of_eq (by simp [exec, execPllLock, hr, hc]; rfl) rfl

/-! ### The generator's retry, the lock's limit and its loss -/

theorem rbgRetry_due {s : State} (hk : s.trust.key = none) (hc : s.coreRuns = true) (hs : s.since s.trust.rbgAt 100000 = true) (b : Bool) :
    Gives (.rbgRetry b) s (generateKey b s) := gives_of_eq rfl (if_pos (by simp [hk, hc, hs]))

theorem rbgRetry_early (b : Bool) {s : State} (hs : s.since s.trust.rbgAt 100000 = false) : Gives (.rbgRetry b) s s :=
  gives_of_eq rfl (if_neg (by simp [hs]))

theorem pllLockTimeout_raises {s : State} (hp : s.dev.phase = .clocks) (ht : guardSince s 0 2000 = true) (hg : s.clk.guardStop = false) :
    Raises .pllLockTimeout s { s with clk := { s.clk with flags := setBit s.clk.flags 8 } } [112] := by
  have hx : exec .pllLockTimeout s = done (raise [ev 112] (clkFlag 8 s)) := congrArg done (if_pos (by simp [hp, ht, hg]))
  exact raises_event hx rfl rfl (by decide) (unrecorded_guarded hg _)

theorem pllLockTimeout_early {s : State} (h : s.dev.phase ≠ .clocks ∨ guardNow s < 2000) : Gives .pllLockTimeout s s := by
  refine gives_of_eq rfl (if_neg ?_)
  rcases h with h | h
  · simp [h]
  · simp [guardSince, h]

theorem pllLockLoss_raises {s : State} (ha : s.clk.armed = true) (hl : s.clk.locked = true) (hg : s.clk.guardStop = false) :
    Raises .pllLockLoss s { s with clk := { s.clk with locked := false, flags := setBit s.clk.flags 8 } } [112, 113] := by
  have hx : exec .pllLockLoss s = done (raise [ev 112, ev 113] (clkFlag 8 (onClk (fun c => { c with locked := false }) s))) :=
    congrArg done (if_pos (by simp [ha, hl]))
  have hu (src : Nat) : unrecorded (clkFlag 8 (onClk (fun c => { c with locked := false }) s)) src = false := unrecorded_guarded hg src
  refine raises_of_still hx (still_raise _ _) fun k hk => ?_
  obtain rfl | rfl : k = 112 ∨ k = 113 := by simpa using hk
  · exact raise_seen (e := ev 112) (by simp) (by decide) (hu 112)
  · exact raise_seen (e := ev 113) (by simp) (by decide) (hu 113)

/-! ### GUARD's monitor of SENSE (13 R354) -/

theorem senseMonitorArm_due {s : State} (hp : s.dev.phase ≠ .reset) (hr : s.sup.ritesWait = none) (ht : guardSince s 0 100 = true)
    (hg : s.clk.guardStop = false) : Gives .senseMonitorArm s { s with clk := { s.clk with senseArmed := true } } :=
  gives_of_eq rfl (if_pos (by simp [hp, hr, ht, hg]))

theorem senseMonitorArm_idle {s : State} (h : s.dev.phase = .reset ∨ s.sup.ritesWait ≠ none ∨ guardNow s < 100 ∨ s.clk.guardStop = true) :
    Gives .senseMonitorArm s s := by
  refine gives_of_eq rfl (if_neg ?_)
  rcases h with h | h | h | h
  · simp [h]
  · simp [h]
  · simp [guardSince, h]
  · simp [h]

/-! ### Start-up's own steps (15 R383) -/

theorem tick_phase (s : State) : (tick s).dev.phase = match s.dev.phase with
    | .otp => if s.trust.advance = .idle then .flash else .otp
    | .apply => .arming
    | x => x := by
  simp only [tick, tickPhase]
  cases s.dev.phase <;> simp

/-- Settles O26, a lemma for each thing that a row can find. -/
theorem powerUpCommands : Obligations.PowerUpCommands := by
  unfold Obligations.PowerUpCommands
  refine ⟨fun s => resetRelease_gives, fun s => pllLock_plain, fun s => pllLock_key, fun s hk hc hs => ⟨rbgRetry_due hk hc hs true, rbgRetry_due hk hc hs false⟩,
    fun s => pllLockTimeout_raises, fun s => pllLockLoss_raises, fun s => senseMonitorArm_due, fun b c s => pllLock_advance, fun b s => pllLock_late,
    fun b s => rbgRetry_early b, tick_phase, fun s => pllLockTimeout_early, fun s => senseMonitorArm_idle⟩

end Sys2Proof.Machine

/-! Provisioning of the owner key and the anti-rollback advance (09 R255, R257). -/

namespace Sys2Proof.Machine

/-! ### The key word (09 R255, 10 R287) -/

/-- The answer of a served write of TRUST_PROV stands in the recovery service. -/
theorem provision_gives {d : D28} {r : ReelRead} {s y : State} {st : BitVec 8} (hs : recoveryServed s = true) (ht : s.recovery.taken = false)
    (hw : writeProv d r s = (st, y)) : Gives (.provision d r) s { y with recovery := ⟨0x02, st, [], true⟩ } := by
  refine gives_of_eq rfl ((if_pos (by simp [hs, ht])).trans ?_)
  simp only [hw]

theorem provision_closed {d : D28} {r : ReelRead} {s : State} (h : recoveryServed s = false ∨ s.recovery.taken = true) :
    Gives (.provision d r) s s := gives_of_eq rfl (if_neg (by rcases h with h | h <;> simp [h]))

/-- The trust block after it has checked reel A: the programming of the key's hash starts, or has failed. -/
def provTried : Option (Nat × Nat) → Trust → Trust
  | some k, t => { t with prov := 1, provKey := some (keyHash k) }
  | none, t => { t with prov := 3, provKey := none }

theorem writeProv_open {r : ReelRead} {s : State} (hl : s.otp.okhlock = false) (hp : s.trust.prov ≠ 1) :
    writeProv 0x0C3A7E5 r s =
      (sOk, onTrust (provTried (provisionKey (s.flash.mode ≠ 0) s.flash.densLog (readAs r s))) (noteDqs r.dqsTimeout s)) := by
  have hread : provisionKey ((noteDqs r.dqsTimeout s).flash.mode ≠ 0) (noteDqs r.dqsTimeout s).flash.densLog (readAs r (noteDqs r.dqsTimeout s)) =
      provisionKey (s.flash.mode ≠ 0) s.flash.densLog (readAs r s) := rfl
  unfold writeProv
  rw [if_neg (by simp [hl, provKeyWord]), if_neg hp]
  simp only [hread]
  cases provisionKey (s.flash.mode ≠ 0) s.flash.densLog (readAs r s) <;> rfl

theorem provision_starts {r : ReelRead} {k : Nat × Nat} {s : State} (hs : recoveryServed s = true) (ht : s.recovery.taken = false)
    (hl : s.otp.okhlock = false) (hp : s.trust.prov ≠ 1) (hk : provisionKey (s.flash.mode ≠ 0) s.flash.densLog (readAs r s) = some k) :
    Gives (.provision 0x0C3A7E5 r) s { s with
      flash := { s.flash with dqsto := s.flash.dqsto || (r.dqsTimeout && s.flash.mode == 3) },
      trust := { s.trust with prov := 1, provKey := some (keyHash k) }, recovery := ⟨0x02, sOk, [], true⟩ } := by
  have h := provision_gives hs ht (writeProv_open (r := r) hl hp)
  rwa [hk] at h

theorem provision_fails {r : ReelRead} {s : State} (hs : recoveryServed s = true) (ht : s.recovery.taken = false)
    (hl : s.otp.okhlock = false) (hp : s.trust.prov ≠ 1) (hk : provisionKey (s.flash.mode ≠ 0) s.flash.densLog (readAs r s) = none) :
    Gives (.provision 0x0C3A7E5 r) s { s with
      flash := { s.flash with dqsto := s.flash.dqsto || (r.dqsTimeout && s.flash.mode == 3) },
      trust := { s.trust with prov := 3, provKey := none }, recovery := ⟨0x02, sOk, [], true⟩ } := by
  have h := provision_gives hs ht (writeProv_open (r := r) hl hp)
  rwa [hk] at h

theorem writeProv_denied {d : D28} {r : ReelRead} {s : State} (h : d ≠ 0x0C3A7E5 ∨ s.otp.okhlock = true) : writeProv d r s = (sDenied, s) := by
  refine if_pos ((Bool.or_eq_true _ _).mpr ?_)
  exact h.symm.imp_right fun hd => decide_eq_true hd

/-- During the programming a second write changes nothing (log 100). -/
theorem writeProv_running {r : ReelRead} {s : State} (hl : s.otp.okhlock = false) (hp : s.trust.prov = 1) :
    writeProv 0x0C3A7E5 r s = (sOk, s) := by
  simp [writeProv, provKeyWord, hl, hp]

theorem provisionDone_locks {k : BitVec 384} {s : State} (hk : s.trust.provKey = some k) (hp : s.trust.prov = 1) (hc : s.clk.coreStop = false) :
    Gives .provisionDone s { s with otp := { s.otp with okh := k, okhlock := true }, trust := { s.trust with prov := 2 } } := by
  refine gives_of_eq rfl ?_
  simp only [hk]
  exact if_pos (by simp [hp, hc])

/-- The trust block stops with CORE (13 R344). -/
theorem provisionDone_stopped {s : State} (hc : s.clk.coreStop = true) : Gives .provisionDone s s := by
  refine gives_of_eq rfl ?_
  split
  · exact if_neg (by simp [hc])
  · rfl

/-! ### The advance (09 R257) -/

/-- CORE owns TRUST_ARBADV (13 R344). -/
theorem effect_arb (a : Access) (d : D28) (s : State) : effect a 0x781 d s = writeArb (fld d 6 0) s :=
  (effect_own (domainStopped_core (by omega))).trans rfl

theorem arbAdvance_gives {h : Port} {d : D28} {s x : State} {st : BitVec 8} (hm : MayCommit s h 0x781) (h0 : fld d 27 7 = 0)
    (hw : writeArb (fld d 6 0) s = (st, x)) : GivesStatus (.arbAdvance h d) s st (noteLast h 3 0x781 st x) :=
  commit_gives (r := ([.a], 0xFFFFF80)) hm rfl (resv_of_fld h0 (by decide)) rfl ((effect_arb _ d s).trans hw) rfl

theorem writeArb_denied {l : Nat} {s : State} (h : s.dev.struct = false ∨ deviceArb s < l) : writeArb l s = (sDenied, s) := by
  rcases h with h | h <;> simp [writeArb, h]

theorem writeArb_reached {l : Nat} {s : State} (hs : s.dev.struct = true) (ha : l ≤ deviceArb s) (hf : l ≤ s.otp.arbfuse) :
    writeArb l s = (sOk, s) := by
  simp [writeArb, hs, ha.not_gt, hf]

theorem writeArb_deferred {l : Nat} {s : State} (hs : s.dev.struct = true) (ha : l ≤ deviceArb s) (hf : s.otp.arbfuse < l)
    (he : flaconOk s = false) : writeArb l s = (sDeferred, deferProgram s) := by
  simp [writeArb, hs, ha.not_gt, hf.not_ge, he]

/-- The state in which the shadow of an advance to level `l` waits for its program. -/
def shadowWaits (l : Nat) (s : State) : State :=
  onTrust (fun t => { t with advance := .shadow (max l (advanceLevel t.advance)) }) (s.onNvs fun v => { v with shadowPend := true })

theorem writeArb_starts {l : Nat} {s : State} (hs : s.dev.struct = true) (ha : l ≤ deviceArb s) (hf : s.otp.arbfuse < l)
    (he : flaconOk s = true) : writeArb l s = (sOk, tryProgram (shadowWaits l s)) := by
  simp [writeArb, hs, ha.not_gt, hf.not_ge, he, shadowWaits]

/-- With the store free, the shadow's program starts at once (15 R391). -/
theorem tryProgram_shadow {l : Nat} {s : State} (he : flaconOk s = true) (hr : s.nvs.running = none) (hw : s.sup.ritesWait = none)
    (hc : s.clk.coreStop = false) : (tryProgram (shadowWaits l s)).nvs.running = some .shadow ∧
      (tryProgram (shadowWaits l s)).trust = (shadowWaits l s).trust := by
  have hfree : ((shadowWaits l s).nvs.running.isSome || (shadowWaits l s).sup.ritesWait.isSome || (shadowWaits l s).clk.coreStop) = false := by
    simp [shadowWaits, hr, hw, hc]
  have hwait : waiting (shadowWaits l s).nvs = some .shadow := rfl
  have hflacon : flaconOk (shadowWaits l s) = true := he
  simp only [tryProgram, hfree, hwait, hflacon, Bool.false_eq_true, if_false, if_true]
  exact ⟨rfl, rfl⟩

theorem arbAdvance_starts {h : Port} {d : D28} {s : State} (hm : MayCommit s h 0x781) (h0 : fld d 27 7 = 0) (hs : s.dev.struct = true)
    (ha : fld d 6 0 ≤ deviceArb s) (hf : s.otp.arbfuse < fld d 6 0) (he : flaconOk s = true) (hi : s.trust.advance = .idle)
    (hr : s.nvs.running = none) (hw : s.sup.ritesWait = none) :
    ∃ t, exec (.arbAdvance h d) s = .next t ∧ t.status = sOk ∧ t.trust.advance = .shadow (fld d 6 0) ∧ t.nvs.running = some .shadow ∧
      t.otp = s.otp := by
  have hc : s.clk.coreStop = false := by
    obtain ⟨-, hl, -⟩ := hm
    simp only [linkUp, State.coreRuns, Bool.and_eq_true, Bool.not_eq_true'] at hl
    exact hl.1.2
  obtain ⟨hrun, htrust⟩ := tryProgram_shadow (l := fld d 6 0) he hr hw hc
  obtain ⟨-, -, -, hotp⟩ := tryProgram_untouched (shadowWaits (fld d 6 0) s)
  have hx := arbAdvance_gives hm h0 (writeArb_starts hs ha hf he)
  rw [noteLast_ok] at hx
  refine ⟨_, hx, ?_⟩
  rw [settle_status, settle_keeps State.trust fun _ => rfl, settle_keeps (fun t => t.nvs.running) fun _ => rfl, settle_keeps State.otp fun _ => rfl]
  refine ⟨rfl, ?_, hrun, hotp⟩
  dsimp only
  rw [htrust]
  simp [shadowWaits, hi, advanceLevel]

/-! ### The fuses -/

theorem arbFusesDone_blows {l : Nat} {s : State} (ha : s.trust.advance = .fuses l) (hr : s.sup.ritesWait = none) (hc : s.clk.coreStop = false) :
    Gives .arbFusesDone s { s with otp := { s.otp with arbfuse := max s.otp.arbfuse l }, trust := { s.trust with advance := .idle } } := by
  refine gives_of_eq rfl ?_
  simp only [ha]
  exact if_neg (by simp [hr, hc])

/-- Last rites abandon a blow (15 R401), and it stops with CORE (13 R344). -/
theorem arbFusesDone_abandoned {s : State} (h : s.sup.ritesWait.isSome = true ∨ s.clk.coreStop = true) : Gives .arbFusesDone s s := by
  refine gives_of_eq rfl ?_
  split
  · exact if_pos (by rcases h with h | h <;> simp [h])
  · rfl

/-- Settles O34: the writes of TRUST_PROV and TRUST_ARBADV by what they find, and the two ends of programming. -/
theorem otpProgramming : Obligations.OtpProgramming := by
  unfold Obligations.OtpProgramming
  refine ⟨fun r k s => provision_starts, fun r s => provision_fails, fun d r s hs ht hd => provision_gives hs ht (writeProv_denied (.inl hd)),
    fun d r s hs ht hl => provision_gives hs ht (writeProv_denied (.inr hl)), fun k s => provisionDone_locks, fun h d s => arbAdvance_starts,
    fun h d s hm h0 hbad => arbAdvance_gives hm h0 (writeArb_denied hbad), ?reached, ?deferred, fun l s => arbFusesDone_blows,
    fun s h => arbFusesDone_abandoned (.inl h), fun d r s => provision_closed,
    fun r s hs ht hl hp => provision_gives hs ht (writeProv_running hl hp), fun s hc => ⟨provisionDone_stopped hc, arbFusesDone_abandoned (.inr hc)⟩,
    flaconOk_iff⟩
  case reached =>
    intro h d s hm h0 hs ha hf
    simpa using arbAdvance_gives hm h0 (writeArb_reached hs ha hf)
  case deferred =>
    intro h d s hm h0 hs ha hf he
    have hx := arbAdvance_gives hm h0 (writeArb_deferred hs ha hf he)
    rwa [noteLast_deferred] at hx

end Sys2Proof.Machine

/-! The flash aperture (09 R268, 10 R296 to R299) and the digital units that it takes from the self-test (16 R417, R419). -/

namespace Sys2Proof.Machine

/-! ### A word that one register takes or turns away -/

theorem store_done {i : Instr} {a : Access} {k : Nat} {d : D28} {s x : State} {r : RegInfo} (hm : MayStore s a k) (hi : baseInfo s k = some r)
    (hr : resv r.2 d = false) (hd : hasDirect r.1 = true) (he : effect a k d s = (sOk, x)) (hx : exec i s = done (writeRow a k d s)) :
    exec i s = done { x with status := sOk } := by
  have hres : resv (reservedAt s k) d = false := by rw [reservedAt, hi]; exact hr
  rw [hx, writeRow_stores hm (by rw [hi]; rfl) hres hd he]

theorem storeTurned_gives {i : Instr} {h : Port} {k : Nat} {d : D28} {s x : State} {st : BitVec 8} {r : RegInfo} (hm : MayStore s (.write h) k)
    (hi : baseInfo s k = some r) (hr : resv r.2 d = false) (hd : hasDirect r.1 = true) (he : effect (.write h) k d s = (st, x))
    (hx : exec i s = done (writeRow (.write h) k d s)) : GivesStatus i s st (noteLast h 1 k st x) := by
  have hres : resv (reservedAt s k) d = false := by rw [reservedAt, hi]; exact hr
  rw [GivesStatus, Gives, hx, writeRow_turned hm (by rw [hi]; rfl) hres hd he]
  rfl

/-! ### The digital units (16 R417, R419) -/

/-- A digital test runs. -/
def unitRuns (test : Nat) (s : State) : Bool := (runningTests s.bist).any fun r => r.test == test

/-- A running digital test whose unit is taken is pre-empted, and waits for it. -/
theorem still_takeUnits (crypto march later : Bool) (s : State) : (takeUnits crypto march later s).still = { s with
    bist := { s.bist with yieldCrypto := s.bist.yieldCrypto || (later && crypto && unitRuns 30 s),
                          yieldMarch := s.bist.yieldMarch || (later && march && unitRuns 31 s) } }.still := by
  have hp := still_bistPreempt (fun r => (crypto && r.test == 30) || (march && r.test == 31)) s
  have hc := congrArg (fun x : State => x.bist.yieldCrypto) hp
  have hm := congrArg (fun x : State => x.bist.yieldMarch) hp
  have h := congrArg (fun x : State => { x with bist := { x.bist with
    yieldCrypto := x.bist.yieldCrypto || (later && crypto && unitRuns 30 s),
    yieldMarch := x.bist.yieldMarch || (later && march && unitRuns 31 s) } }) hp
  exact h

/-- The waits that the units' return starts, each of a test that waits for its unit (16 R419). -/
theorem unitsServed_waits (march : Bool) (s : State) :
    (unitsServed march s).bist.again = (if s.bist.yieldCrypto && !enginesAsked s then s.now + 10000 else s.bist.again) ∧
    (unitsServed march s).bist.againMarch = (if s.bist.yieldMarch && march then s.now + 10000 else s.bist.againMarch) := by
  cases hc : s.bist.yieldCrypto && !enginesAsked s <;> cases hm : s.bist.yieldMarch && march <;>
    simp only [unitsServed, hc, hm, if_true, if_false, Bool.false_eq_true, and_self]

theorem unitsServed_march {march : Bool} {s : State} (h : s.bist.yieldMarch = true) :
    (unitsServed march s).bist.againMarch = if march then s.now + 10000 else s.bist.againMarch := by
  simp [unitsServed_waits, h]

theorem unitsServed_crypto {march : Bool} {s : State} (h : s.bist.yieldCrypto = true) :
    (unitsServed march s).bist.again = if enginesAsked s then s.bist.again else s.now + 10000 := by
  cases he : enginesAsked s <;> simp [unitsServed_waits, h, he]

theorem unitsServed_idle {march : Bool} {s : State} (h : s.bist.yieldCrypto = false) : (unitsServed march s).bist.again = s.bist.again := by
  simp [unitsServed_waits, h]

/-! ### The page (10 R296 to R299) -/

/-- CORE owns PORT_FPAGE (13 R344). -/
theorem effect_fpage (a : Access) (d : D28) (s : State) : effect a 0x740 d s = writeFpage d s :=
  (effect_own (domainStopped_core (by omega))).trans rfl

theorem writeFpage_selects {d : D28} {s : State} (h : fld d 10 0 ≤ s.flash.lastPg) : writeFpage d s =
    (sOk, onTrust (fun t => { t with apState := 1, apPage := fld d 10 0, apWords := [] }) (takeUnits true true true s)) :=
  if_neg h.not_gt

theorem writeFpage_format {d : D28} {s : State} (h : s.flash.lastPg < fld d 10 0) : writeFpage d s = (sFormat, s) := if_pos h

theorem fpageSelect_starts {a : Access} {d : D28} {s : State} (hm : MayStore s a 0x740) (h0 : fld d 27 11 = 0) (hp : fld d 10 0 ≤ s.flash.lastPg) :
    CompletesStatus (.fpageSelect a d) s sOk { s with
      trust := { s.trust with apState := 1, apPage := fld d 10 0, apWords := [] },
      bist := { s.bist with yieldCrypto := s.bist.yieldCrypto || unitRuns 30 s, yieldMarch := s.bist.yieldMarch || unitRuns 31 s } } := by
  have hx := store_done (i := .fpageSelect a d) (r := ([.x], 0xFFFF800)) hm rfl (resv_of_fld h0 (by decide)) rfl
    ((effect_fpage a d s).trans (writeFpage_selects hp)) rfl
  refine completes_of_still hx ?_
  exact congrArg (fun x : State => { x with
    trust := { x.trust with apState := 1, apPage := fld d 10 0, apWords := [] }, status := sOk }) (still_takeUnits true true true s)

theorem fpageSelect_format {h : Port} {d : D28} {s : State} (hm : MayStore s (.write h) 0x740) (h0 : fld d 27 11 = 0)
    (hp : s.flash.lastPg < fld d 10 0) : GivesStatus (.fpageSelect (.write h) d) s sFormat (noteLast h 1 0x740 sFormat s) :=
  storeTurned_gives (r := ([.x], 0xFFFF800)) hm rfl (resv_of_fld h0 (by decide)) rfl ((effect_fpage _ d s).trans (writeFpage_format hp)) rfl

/-- What the read of a page leaves of the aperture. -/
def pageJudged (p : PageRead) (s : State) : State :=
  match p with
  | .words ws => onTrust (fun t => if pageVerifies s ws then { t with apState := 2, apWords := ws } else { t with apState := 3 }) s
  | .failed dqs => onTrust (fun t => { t with apState := 3 }) (noteDqs dqs { s with flash := { s.flash with rdfail := true } })

/-- The check's end judges the page and serves the units. -/
theorem apertureVerifyDone_gives {p : PageRead} {s : State} (ha : s.trust.apState = 1) (hc : s.coreRuns = true) :
    Gives (.apertureVerifyDone p) s (unitsServed true (pageJudged p s)) := by
  refine gives_of_eq rfl ((if_neg (by simp [ha, hc])).trans ?_)
  cases p <;> rfl

theorem pageJudged_words (ws : List W36) (s : State) : pageJudged (.words ws) s =
    if pageVerifies s ws then { s with trust := { s.trust with apState := 2, apWords := ws } }
    else { s with trust := { s.trust with apState := 3 } } := by
  simp only [pageJudged, onTrust]
  split <;> rfl

theorem pageVerifies_iff (ws : List W36) (s : State) : pageVerifies s ws = true ↔
    ∃ e, s.trust.digests.find? (fun e => e.1 == s.trust.apPage) = some e ∧ e.1 = s.trust.apPage ∧ sha384 (pack ws) = e.2 := by
  unfold pageVerifies
  cases hf : s.trust.digests.find? fun e => e.1 == s.trust.apPage with
  | none => simp
  | some e =>
    have he : e.1 = s.trust.apPage := by simpa using List.find?_some hf
    simp [he]

/-- Settles O35: the selection of a page by the word it takes, the check's end by what the read finds, and the units that wait for it. -/
theorem apertureCommands : Obligations.ApertureCommands := by
  unfold Obligations.ApertureCommands
  refine ⟨fun a d s => fpageSelect_starts, fun h d s => fpageSelect_format, fun ws s ha hc hv => ?_, fun ws s ha hc hv => ?_,
    fun dqs s ha hc => apertureVerifyDone_gives ha hc, fun march s => unitsServed_march, fun march s => unitsServed_crypto,
    fun march s => unitsServed_idle, pageVerifies_iff⟩
  · simpa [pageJudged_words, hv] using apertureVerifyDone_gives (p := .words ws) ha hc
  · simpa [pageJudged_words, hv] using apertureVerifyDone_gives (p := .words ws) ha hc

end Sys2Proof.Machine

/-! The TAP: boundary scan, the challenge, the token and DBG_ACC (09 R269, R270, 14 R371, R372). -/

namespace Sys2Proof.Machine

/-! ### Opcodes (09 R269) -/

theorem scanAllowed_iff (s : State) : scanAllowed s = true ↔ s.pins.rstN = false ∧ ∀ c ∈ s.chans, c.hs = 0 ∧ c.fw = .off := by
  simp [scanAllowed]

theorem scanOpcode_iff (op : BitVec 8) : scanOpcode op = true ↔ op = 0x00 ∨ op = 0x01 := by
  unfold scanOpcode tapInstr
  (repeat' split) <;> simp_all

theorem tapActs_allowed {s : State} (ha : scanAllowed s = true) (ho : s.tap.opcode = 0x00 ∨ s.tap.opcode = 0x01) :
    tapActs s = tapInstr s.tap.opcode ∧ scanActs s = true := by
  have h := (scanOpcode_iff s.tap.opcode).mpr ho
  simp [tapActs, scanActs, ha, h]

/-- Where boundary scan may not act, its opcodes act as BYPASS. -/
theorem tapActs_barred {s : State} (ha : scanAllowed s = false) (ho : s.tap.opcode = 0x00 ∨ s.tap.opcode = 0x01) :
    tapActs s = .bypass ∧ scanActs s = false := by
  have h := (scanOpcode_iff s.tap.opcode).mpr ho
  simp [tapActs, scanActs, ha, h]

theorem tapActs_other {s : State} (h0 : s.tap.opcode ≠ 0x00) (h1 : s.tap.opcode ≠ 0x01) :
    tapActs s = tapInstr s.tap.opcode ∧ scanActs s = false := by
  have h : scanOpcode s.tap.opcode = false := Bool.eq_false_iff.mpr fun h => ((scanOpcode_iff _).mp h).elim h0 h1
  simp [tapActs, scanActs, h]

/-- The opcodes of the five instructions beside BYPASS (14 R371). -/
theorem tapInstr_bypass_iff (op : BitVec 8) : tapInstr op = .bypass ↔ op ∉ [0x00, 0x01, 0x10, 0x11, 0x12] := by
  unfold tapInstr
  (repeat' split) <;> simp_all

/-! ### Scans of a data register -/

/-- The bypass register after a scan that captured a zero: the bit that entered last stands in it. -/
theorem scanBypass_eq {bits : List Bool} (hb : bits ≠ []) (s : State) : scanBypass bits s = { s with tap := { s.tap with
    bypass := bits.getLast?.getD false, tdo := (false :: bits).take bits.length } } := by
  have hlast : (shiftIn bits [false]).getD 0 false = bits.getLast?.getD false := by
    rcases List.eq_nil_or_concat bits with rfl | ⟨l, b, rfl⟩
    · exact absurd rfl hb
    · simp [shiftIn]
  have hempty : bits.isEmpty = false := by simp [hb]
  simp only [scanBypass, hempty, hlast, onTap, Bool.false_eq_true, if_false]
  rfl

theorem scanCells_acts {pins bits : List Bool} {s : State} (ha : scanActs s = true) (hb : bits ≠ []) : scanCells pins bits s =
    { s with tap := { s.tap with cells := shiftIn bits (capturedCells pins s), tdo := shiftOut bits (capturedCells pins s) } } := by
  simp [scanCells, ha, hb, onTap]

theorem scanCells_bypass {pins bits : List Bool} {s : State} (ha : scanActs s = false) : scanCells pins bits s = scanBypass bits s := by
  simp [scanCells, ha]

theorem scanCells_nil (pins : List Bool) (s : State) : scanCells pins [] s = s := by
  simp [scanCells, scanBypass]

theorem scanRow_exec {pins bits : List Bool} {i : Instr} {op : BitVec 8} {x s : State}
    (hi : (i = .extest pins bits ∧ op = 0x00) ∨ (i = .samplePreload pins bits ∧ op = 0x01))
    (hx : x = { s with tap := { s.tap with opcode := op } }) : exec i s = done (scanCells pins bits x) := by
  subst hx
  rcases hi with ⟨rfl, rfl⟩ | ⟨rfl, rfl⟩ <;> rfl

theorem scanRow_gives {pins bits : List Bool} {i : Instr} {op : BitVec 8} {x s : State}
    (hi : (i = .extest pins bits ∧ op = 0x00) ∨ (i = .samplePreload pins bits ∧ op = 0x01))
    (hx : x = { s with tap := { s.tap with opcode := op } }) :
    (scanActs x = true → bits ≠ [] → Gives i s { x with tap := { x.tap with
      cells := shiftIn bits (capturedCells pins s), tdo := shiftOut bits (capturedCells pins s) } }) ∧
    (scanActs x = false → bits ≠ [] → Gives i s { x with tap := { x.tap with
      bypass := bits.getLast?.getD false, tdo := (false :: bits).take bits.length } }) ∧
    (bits = [] → Gives i s x) := by
  have hcap : capturedCells pins x = capturedCells pins s := by subst hx; rfl
  refine ⟨fun ha hb => ?_, fun ha hb => ?_, fun hb => ?_⟩
  · exact gives_of_eq (scanRow_exec hi hx) (by rw [scanCells_acts ha hb, hcap])
  · exact gives_of_eq (scanRow_exec hi hx) (by rw [scanCells_bypass ha, scanBypass_eq hb])
  · subst hb
    exact gives_of_eq (scanRow_exec hi hx) (scanCells_nil pins x)

theorem bypass_gives {op : BitVec 8} {bits : List Bool} {s : State} (hop : op ∉ [0x00, 0x01, 0x10, 0x11, 0x12]) :
    Gives (.bypass op bits) s (scanBypass bits { s with tap := { s.tap with opcode := op } }) :=
  gives_of_eq rfl (if_pos (by simp [(tapInstr_bypass_iff op).mpr hop]))

/-- Another instruction's opcode is another row's command. -/
theorem bypass_other {op : BitVec 8} {bits : List Bool} {s : State} (hop : op ∈ [0x00, 0x01, 0x10, 0x11, 0x12]) :
    Gives (.bypass op bits) s s := by
  have hb : tapInstr op ≠ .bypass := fun h => (tapInstr_bypass_iff op).mp h hop
  exact gives_of_eq rfl (if_neg (by simp [hb]))

theorem shiftIn_length (bits reg : List Bool) : (shiftIn bits reg).length = reg.length := by simp [shiftIn]

theorem shiftOut_length (bits reg : List Bool) : (shiftOut bits reg).length = bits.length := by simp [shiftOut]

/-- What entered stands nearest TDI, the latest first; behind it what the register held. -/
theorem getElem?_shiftIn {bits reg : List Bool} {k : Nat} (hk : k < reg.length) :
    (shiftIn bits reg)[k]? = if k < bits.length then bits[bits.length - 1 - k]? else reg[k - bits.length]? := by
  rw [shiftIn, List.getElem?_take_of_lt hk, List.getElem?_append, List.length_reverse]
  split
  next h => rw [List.getElem?_reverse h]
  next => rfl

/-- At TDO leaves what the register held, the last cell first, and then what entered. -/
theorem getElem?_shiftOut {bits reg : List Bool} {k : Nat} (hk : k < bits.length) :
    (shiftOut bits reg)[k]? = if k < reg.length then reg[reg.length - 1 - k]? else bits[k - reg.length]? := by
  rw [shiftOut, List.getElem?_take_of_lt hk, List.getElem?_append, List.length_reverse]
  split
  next h => rw [List.getElem?_reverse h]
  next => rfl

theorem getElem?_capturedCells {pins : List Bool} {i : Nat} {c : ScanCell} {s : State} (h : scanOrder[i]? = some c) :
    (capturedCells pins s)[i]? = some (if c = .rstN then s.pins.rstN else pins.getD i false) := by
  simp [capturedCells, h]

/-! ### Boundary scan in reset (15 R385) -/

/-- A reset leaves every channel off. -/
theorem scanAllowed_toReset {s : State} (hr : s.pins.rstN = false) : scanAllowed (toReset s) = true := by
  refine (scanAllowed_iff _).mpr ⟨hr, fun c hc => ?_⟩
  obtain rfl : c = Chan.reset := List.eq_of_mem_replicate hc
  exact ⟨rfl, rfl⟩

theorem toReset_scans {s : State} (ho : s.tap.opcode = 0x00 ∨ s.tap.opcode = 0x01) (hr : s.pins.rstN = false) :
    scanActs (toReset s) = true ∧ tapActs (toReset s) = tapInstr s.tap.opcode :=
  (tapActs_allowed (s := toReset s) (scanAllowed_toReset hr) ho).symm

theorem padsOf_scan {s : State} (ha : scanActs s = true) (hp : s.dev.phase = .reset) : padsOf s = scanPads s.tap.cells := by
  simp [padsOf, ha, hp]

/-! ### The challenge and the token (09 R270) -/

theorem dbgChal_key {k : Nat × (Nat × Nat)} {s : State} (hk : s.trust.key = some k) :
    Gives .dbgChal s { s with tap := { s.tap with opcode := 0x10, out := words384 (keyHash k.2) } } := by
  refine gives_of_eq (y := onTap (fun t => { t with out := words384 (keyHash k.2) }) (loadOpcode 0x10 s)) ?_ rfl
  simp only [exec, execDbgChal, hk]

theorem dbgChal_free {s : State} (hk : s.trust.key = none) : Gives .dbgChal s { s with
    free := s.free + 1, tap := { s.tap with opcode := 0x10, out := words384 (Config.random s.free) } } := by
  refine gives_of_eq (y := onTap (fun t => { t with out := words384 (Config.random s.free) }) (loadOpcode 0x10 s.draw.2)) ?_ rfl
  simp only [exec, execDbgChal, hk, State.draw]

/-- The rights of a token that is accepted. -/
def tokenRights (ws : List W36) (s : State) : Option (BitVec 3) :=
  if tokenOk s ws then some (BitVec.ofNat 3 (fld (wData (ws.getD 0 0)) 2 0)) else none

/-- A scan drops the token before; CRYPTO gives way to its check, which waits for nothing (16 R417). -/
theorem dbgToken_completes {ws : List W36} {s : State} (hc : s.clk.coreStop = false) : Completes (.dbgToken ws) s { s with
    tap := { s.tap with opcode := 0x11 }, trust := { s.trust with token := tokenRights ws s } } := by
  have hx : exec (.dbgToken ws) s =
      done (onTrust (fun t => { t with token := tokenRights ws s }) (takeUnits true false false (loadOpcode 0x11 s))) :=
    congrArg done (if_neg (by simp [loadOpcode, hc]))
  have hunits : (takeUnits true false false (loadOpcode 0x11 s)).still = (loadOpcode 0x11 s).still := by
    rw [still_takeUnits]
    simp only [Bool.false_and, Bool.or_false]
  exact completes_of_still hx (congrArg (fun x : State => { x with trust := { x.trust with token := tokenRights ws s } }) hunits)

/-- With CORE stopped the trust block checks no token (13 R344). -/
theorem dbgToken_stopped {ws : List W36} {s : State} (hc : s.clk.coreStop = true) :
    Gives (.dbgToken ws) s { s with tap := { s.tap with opcode := 0x11 } } :=
  gives_of_eq rfl (if_pos (by simp [loadOpcode, hc]))

theorem tokenFormat_iff (ws : List W36) (ds : List D28) (hds : ds = ws.map wData) : tokenFormat ws = true ↔
    ws.length = 44 ∧ (∀ i, i < 44 → isData i (ws.getD i 0) = true) ∧
      fld (dw ds 0) 27 12 = 0xDB61 ∧ fld (dw ds 0) 11 8 = 1 ∧ fld (dw ds 0) 7 3 = 0 ∧ fld (dw ds 1) 13 0 = 0 ∧
      fld (dw ds 1) 27 21 ≤ 64 ∧ fld (dw ds 1) 20 14 ≤ 64 ∧ fld (dw ds 1) 27 21 ≤ fld (dw ds 1) 20 14 ∧
      fld (dw ds 15) 7 0 = 0 ∧ fld (dw ds 29) 7 0 = 0 ∧ fld (dw ds 43) 7 0 = 0 := by
  subst hds
  simp only [tokenFormat, arbFormat, Bool.and_eq_true, beq_iff_eq, decide_eq_true_eq, List.all_eq_true, List.mem_range, List.forall_mem_cons,
    List.not_mem_nil, false_imp_iff, implies_true, and_true]
  tauto

theorem tokenOk_iff (ws : List W36) (ds : List D28) (s : State) (hds : ds = ws.map wData) : tokenOk s ws = true ↔
    tokenFormat ws = true ∧ fld (dw ds 1) 27 21 ≤ deviceArb s ∧ deviceArb s ≤ fld (dw ds 1) 20 14 ∧
      ∃ k owner, s.trust.key = some k ∧ s.trust.owner = some owner ∧ join384 (group14 ds 2 0) = (keyHash k.2).toNat ∧
        ecdsaVerify owner (packData (ds.take 16)) (join384 (group14 ds 16 0)) (join384 (group14 ds 16 1)) = true := by
  subst hds
  unfold tokenOk
  cases s.trust.key <;> cases s.trust.owner <;> simp [arbAdmits]
  tauto

/-! ### DBG_ACC (14 R372) -/

theorem dbgAcc_gives {w0 w1 : W36} {s : State} (hc : s.coreRuns = true) :
    Gives (.dbgAcc w0 w1) s (dbgAccess w0 w1 { s with tap := { s.tap with opcode := 0x12 } }) := gives_of_eq rfl (if_pos hc)

theorem dbgAcc_stopped {w0 w1 : W36} {s : State} (hc : s.coreRuns = false) :
    Gives (.dbgAcc w0 w1) s { s with tap := { s.tap with opcode := 0x12 } } :=
  gives_of_eq rfl (if_neg (Bool.eq_false_iff.mp hc))

theorem namedAddr_data {w : W36} {pos : Nat} (h : isData pos w = true) (s : State) : namedAddr pos w s = (fld (wData w) 11 0, s) := by
  simp [namedAddr, namedBits, h, fld]

theorem namedAddr_free {w : W36} {pos : Nat} (h : isData pos w = false) (s : State) :
    namedAddr pos w s = ((Config.random s.free).toNat % 4096, { s with free := s.free + 1 }) := by
  simp [namedAddr, namedBits, h, State.draw]

theorem dbgAccess_format {w0 w1 : W36} {s : State} (h : isData 0 w0 = false ∨ isData 1 w1 = false) :
    dbgAccess w0 w1 s = dbgCapture (namedAddr 0 w0 s).1 sFormat (dataWord 1 0) (namedAddr 0 w0 s).2 :=
  if_pos (by rcases h with h | h <;> simp [h])

theorem dbgAccess_judged {w0 w1 : W36} {s : State} (h0 : isData 0 w0 = true) (h1 : isData 1 w1 = true) : dbgAccess w0 w1 s =
    if fld (wData w0) 26 12 ≠ 0 || !tokenRight s (if bitAt (wData w0) 27 then 2 else 1) then
      dbgCapture (fld (wData w0) 11 0) sDenied (dataWord 1 0) s
    else if bitAt (wData w0) 27 then
      dbgCapture (fld (wData w0) 11 0) (dbgWord (fld (wData w0) 11 0) (wData w1) s).1 (dataWord 1 0)
        (dbgWord (fld (wData w0) 11 0) (wData w1) s).2
    else
      dbgCapture (fld (wData w0) 11 0) sOk (asWord 1 (readReg .dbg (fld (wData w0) 11 0) s).1) (readReg .dbg (fld (wData w0) 11 0) s).2 := by
  simp only [dbgAccess, namedAddr_data h0, h0, h1, Bool.not_true, Bool.or_self, Bool.false_eq_true, if_false]

theorem dbgAcc_format {w0 w1 : W36} {s : State} (hc : s.coreRuns = true) (h0 : isData 0 w0 = true) (h1 : isData 1 w1 = false) :
    Gives (.dbgAcc w0 w1) s { s with tap := { s.tap with
      opcode := 0x12, out := [dataWord 0 (pack28 [(16, fld (wData w0) 11 0), (0, 9)]), dataWord 1 0] } } := by
  have h := dbgAcc_gives (w0 := w0) (w1 := w1) hc
  rwa [dbgAccess_format (.inr h1), namedAddr_data h0] at h

theorem dbgAcc_free {w0 w1 : W36} {s : State} (hc : s.coreRuns = true) (h0 : isData 0 w0 = false) : Gives (.dbgAcc w0 w1) s { s with
    free := s.free + 1,
    tap := { s.tap with opcode := 0x12, out := [dataWord 0 (pack28 [(16, (Config.random s.free).toNat % 4096), (0, 9)]), dataWord 1 0] } } := by
  have h := dbgAcc_gives (w0 := w0) (w1 := w1) hc
  rwa [dbgAccess_format (.inl h0), namedAddr_free h0] at h

/-- The access is judged on the token that stands, whatever the instruction register holds. -/
theorem tokenRight_tap (s : State) (t : Tap) (i : Nat) : tokenRight { s with tap := t } i = tokenRight s i := rfl

section Judged

variable {w0 w1 : W36} {s : State} (hc : s.coreRuns = true) (h0 : isData 0 w0 = true) (h1 : isData 1 w1 = true)
include hc h0 h1

theorem dbgAcc_denied (hbad : fld (wData w0) 26 12 ≠ 0 ∨ tokenRight s (if bitAt (wData w0) 27 then 2 else 1) = false) :
    Gives (.dbgAcc w0 w1) s { s with tap := { s.tap with
      opcode := 0x12, out := [dataWord 0 (pack28 [(16, fld (wData w0) 11 0), (0, 3)]), dataWord 1 0] } } := by
  have h := dbgAcc_gives (w0 := w0) (w1 := w1) hc
  rwa [dbgAccess_judged h0 h1, tokenRight_tap, if_pos (by rcases hbad with hb | hb <;> simp [hb])] at h

variable {x : State} (hz : fld (wData w0) 26 12 = 0) (hx : x = { s with tap := { s.tap with opcode := 0x12 } })
include hz hx

theorem dbgAcc_reads (hb : bitAt (wData w0) 27 = false) (ht : tokenRight s 1 = true) : Gives (.dbgAcc w0 w1) s
    (dbgCapture (fld (wData w0) 11 0) sOk (asWord 1 (readReg .dbg (fld (wData w0) 11 0) x).1) (readReg .dbg (fld (wData w0) 11 0) x).2) := by
  subst hx
  simpa [dbgAccess_judged h0 h1, tokenRight_tap, hz, hb, ht] using dbgAcc_gives (w0 := w0) (w1 := w1) hc

theorem dbgAcc_writes (hb : bitAt (wData w0) 27 = true) (ht : tokenRight s 2 = true) : Gives (.dbgAcc w0 w1) s
    (dbgCapture (fld (wData w0) 11 0) (dbgWord (fld (wData w0) 11 0) (wData w1) x).1 (dataWord 1 0)
      (dbgWord (fld (wData w0) 11 0) (wData w1) x).2) := by
  subst hx
  simpa [dbgAccess_judged h0 h1, tokenRight_tap, hz, hb, ht] using dbgAcc_gives (w0 := w0) (w1 := w1) hc

end Judged

/-- Settles O36: the rows of the TAP by their opcodes, the scans by what they shift, the token and DBG_ACC by what each is judged on. -/
theorem tapAndDebugAccess : Obligations.TapAndDebugAccess := by
  unfold Obligations.TapAndDebugAccess
  refine ⟨fun s => ⟨gives_of_eq rfl (scanCells_nil _ _), gives_of_eq rfl (scanCells_nil _ _), fun ha ho => ?_, fun ha ho => ?_⟩,
    fun s => tapActs_barred, fun op s => bypass_gives, fun k s => dbgChal_key, fun ws s hok hc => ?_, fun ws s hok hc => ?_,
    fun s => gives_of_eq rfl rfl, fun w0 w1 s => dbgAcc_format, fun w0 w1 s => dbgAcc_denied,
    fun w0 w1 s x hc h0 h1 hz hb ht hx => dbgAcc_reads hc h0 h1 hz hx hb ht, fun w0 w1 s x hc h0 h1 hz hb ht hx => dbgAcc_writes hc h0 h1 hz hx hb ht,
    fun s => dbgChal_free, fun op s => bypass_other, fun w0 w1 s => dbgAcc_stopped, fun ws s => dbgToken_stopped, scanAllowed_iff,
    fun s => tapActs_other, fun op => (tapInstr_bypass_iff op).mpr, fun s => ⟨rfl, rfl, rfl, toReset_scans⟩, fun s ha hp => ?_,
    fun w0 w1 s => dbgAcc_free, fun ws ds s hds => ?_, fun s => rfl, fun pins bits i op x s => scanRow_gives,
    fun op bits s hop hb => ?_,
    fun bits reg k => ⟨shiftIn_length bits reg, shiftOut_length bits reg, getElem?_shiftIn, getElem?_shiftOut⟩,
    fun pins i c s => getElem?_capturedCells⟩
  · have h := tapActs_allowed ha (.inl ho)
    rwa [ho] at h
  · have h := tapActs_allowed ha (.inr ho)
    rwa [ho] at h
  · simpa [tokenRights, hok] using dbgToken_completes (ws := ws) hc
  · simpa [tokenRights, hok] using dbgToken_completes (ws := ws) hc
  · rw [padsOf_scan ha hp]
    exact ⟨rfl, rfl, rfl⟩
  · rw [tokenOk_iff ws ds s hds, tokenFormat_iff ws ds hds]
    simp only [and_assoc]
  · have h := bypass_gives (bits := bits) (s := s) hop
    rwa [scanBypass_eq hb] at h

end Sys2Proof.Machine

/-! Frames out, and host frames that break off, fail or repeat (09 R266, 11 R302 to R316). -/

namespace Sys2Proof.Machine

/-! ### Frames out (11 R306 to R308) -/

@[simp] theorem queueFrame_ses (h : Port) (ws : List W36) (s : State) : (queueFrame h ws s).ses = s.ses := rfl

/-- Header, payload and trailer of a device's MAC frame that leaves now. -/
def macBody (h : Port) (hd : D28) (pl : List W36) (ref ovr : Bool) (s : State) : List W36 :=
  frameBody hd pl (trailer s h (s.ses.get h).txseq ref ovr)

theorem sendMac_keyed {h : Port} {hd : D28} {pl : List W36} {ref ovr : Bool} {ks : Keys} {s : State} (hk : (s.ses.get h).keys = some ks) :
    sendMac h hd pl ref ovr s =
      (queueFrame h (frameOf (macBody h hd pl ref ovr s) (macHalves (mac56 ks.kdh (pack (macBody h hd pl ref ovr s))))) s).onSes h
        fun e => { e with txseq := e.txseq + 1 } := by
  simp only [sendMac, hk, macBody]

theorem sendMac_keyless {h : Port} {hd : D28} {pl : List W36} {ref ovr : Bool} {s : State} (hk : (s.ses.get h).keys = none) :
    sendMac h hd pl ref ovr s = s := by
  simp only [sendMac, hk]

theorem sendMac_frame {h : Port} {hd : D28} {pl : List W36} {ref ovr : Bool} {ks : Keys} {s : State} (hk : (s.ses.get h).keys = some ks) :
    ∃ body, body = dataWord 0 hd :: pl ++ [dataWord (pl.length + 1) (trailer s h (s.ses.get h).txseq ref ovr)] ∧
      ((sendMac h hd pl ref ovr s).ports.get h).stream = (s.ports.get h).stream ++
        (body ++ [dataWord body.length (macHalves (mac56 ks.kdh (pack body))).1,
                  dataWord (body.length + 1) (macHalves (mac56 ks.kdh (pack body))).2]) ∧
      ((sendMac h hd pl ref ovr s).ses.get h).txseq = (s.ses.get h).txseq + 1 := by
  refine ⟨macBody h hd pl ref ovr s, rfl, ?_, ?_⟩
  · rw [sendMac_keyed hk, onSes_ports, queueFrame_stream]
    rfl
  · rw [sendMac_keyed hk, onSes_get, queueFrame_ses]

/-! ### The rows that bring a session frame -/

/-- The row brings a frame of the kind under the session's keys. -/
inductive BringsMac (h : Port) (ws : List W36) : FrameKind → Instr → Prop
  | lease : BringsMac h ws .lease (.lease h ws)
  | read : BringsMac h ws .read (.read h ws)
  | write : BringsMac h ws .write (.write h ws)
  | arm : BringsMac h ws .arm (.arm h ws)
  | commit : BringsMac h ws .commit (.commit h ws)
  | retire : BringsMac h ws .retire (.retire h ws)
  | event : BringsMac h ws .event (.hostEventFrame h ws)
  | give (ha : fld (payloadAt ws 0) 1 0 = 0) : BringsMac h ws .handover (.give h ws)
  | take (ha : fld (payloadAt ws 0) 1 0 = 1) : BringsMac h ws .handover (.take h ws)
  | request (ha : fld (payloadAt ws 0) 1 0 = 2) : BringsMac h ws .handover (.request h ws)
  | refuse (ha : fld (payloadAt ws 0) 1 0 = 3) : BringsMac h ws .handover (.refuse h ws)

/-- The row brings a HELLO or a KEY. -/
inductive BringsCrc (h : Port) (ws : List W36) : FrameKind → Instr → Prop
  | hello : BringsCrc h ws .hello (.hello h ws)
  | key : BringsCrc h ws .key (.key h ws)

/-- The row receives a frame of the kind and serves it by some rule. -/
def Receives (h : Port) (ws : List W36) (k : FrameKind) (i : Instr) : Prop := ∃ serve, ∀ s, exec i s = done (receive h k ws serve s)

theorem BringsMac.receives {h : Port} {ws : List W36} {k : FrameKind} {i : Instr} (hb : BringsMac h ws k i) : Receives h ws k i := by
  cases hb with
  | lease | read | write | arm | commit | retire | event => exact ⟨_, fun _ => rfl⟩
  | give ha | take ha | request ha | refuse ha => exact ⟨_, fun _ => congrArg done (if_pos ha)⟩

theorem BringsMac.noCrc {h : Port} {ws : List W36} {k : FrameKind} {i : Instr} (hb : BringsMac h ws k i) : carriesCrc k = false := by
  cases hb <;> rfl

theorem BringsCrc.receives {h : Port} {ws : List W36} {k : FrameKind} {i : Instr} (hb : BringsCrc h ws k i) : Receives h ws k i := by
  cases hb <;> exact ⟨_, fun _ => rfl⟩

theorem BringsCrc.crc {h : Port} {ws : List W36} {k : FrameKind} {i : Instr} (hb : BringsCrc h ws k i) : carriesCrc k = true := by
  cases hb <;> rfl

theorem BringsCrc.payloadLen {h : Port} {ws : List W36} {k : FrameKind} {i : Instr} (hb : BringsCrc h ws k i) (d : D28) :
    payloadLen k d = hdCount d := by
  cases hb <;> rfl

/-! ### The orders of 11 R312, each where it turns the frame away -/

section Judged

variable {h : Port} {k : FrameKind} {ws : List W36} {serve : D28 → State → State} {s : State} {p : Nat}
  (hp : p = payloadLen k (wData (ws.getD 0 0)))
include hp

theorem judgeFrame_short (hl : ws.length < p + 4) :
    judgeFrame h k ws serve s = sessionError h (s.onSes h fun e => { e with partialCnt := e.partialCnt + 1 }) := by
  subst hp
  exact if_pos hl

variable (hl : p + 4 ≤ ws.length)
include hl

theorem judgeFrame_oldKey (ha : authCheck s (s.ses.get h) k ws p = .oldKey) : judgeFrame h k ws serve s = s := by
  subst hp
  simp only [judgeFrame, hl.not_gt, if_false, ha]

theorem judgeFrame_bad (ha : authCheck s (s.ses.get h) k ws p = .bad) :
    judgeFrame h k ws serve s = sessionError h (s.onSes h fun e => { e with authfail := e.authfail + 1 }) := by
  subst hp
  simp only [judgeFrame, hl.not_gt, if_false, ha]

variable (ha : authCheck s (s.ses.get h) k ws p = .ok)
include ha

/-- A HELLO or KEY has no place in the numbering. -/
theorem judgeFrame_crc (hc : carriesCrc k = true) : judgeFrame h k ws serve s = serveFormat h k ws p serve s := by
  subst hp
  simp only [judgeFrame, hl.not_gt, if_false, ha, hc, if_true]

variable (hc : carriesCrc k = false)
include hc

theorem judgeFrame_duplicate (hq : seqOf (s.ses.get h) ws p = .duplicate) :
    judgeFrame h k ws serve s = s.onSes h fun e => { e with dup := e.dup + 1 } := by
  subst hp
  simp only [judgeFrame, hl.not_gt, if_false, ha, hc, Bool.false_eq_true, hq]

theorem judgeFrame_outOfWindow (hq : seqOf (s.ses.get h) ws p = .outOfWindow) :
    judgeFrame h k ws serve s = sessionError h (s.onSes h fun e => { e with oow := e.oow + 1 }) := by
  subst hp
  simp only [judgeFrame, hl.not_gt, if_false, ha, hc, Bool.false_eq_true, hq]

theorem judgeFrame_accepted {r : Nat} {m : BitVec 32} (hq : seqOf (s.ses.get h) ws p = .accepted r m) :
    judgeFrame h k ws serve s = serveFormat h k ws p serve (noted s h r m) := by
  subst hp
  simp only [judgeFrame, hl.not_gt, if_false, ha, hc, Bool.false_eq_true, hq, noted]

end Judged

theorem serveFormat_refused {h : Port} {k : FrameKind} {ws : List W36} {p : Nat} {serve : D28 → State → State} {s : State}
    (hf : formatOk (s.ses.get h) s.now k ws p = false) : serveFormat h k ws p serve s = refuseFormat h k (wData (ws.getD 0 0)) s :=
  if_neg (Bool.eq_false_iff.mp hf)

/-- The format is judged on the exchange alone, whatever the numbering. -/
theorem formatOk_noted (h : Port) (r : Nat) (m : BitVec 32) (s : State) (now : Nat) (k : FrameKind) (ws : List W36) (p : Nat) :
    formatOk ((noted s h r m).ses.get h) now k ws p = formatOk (s.ses.get h) now k ws p := by
  simp only [formatOk, typeOk, noted_ses_get]

/-- A frame that starts is judged on the state that has heard its words. -/
theorem Receives.gives {h : Port} {ws : List W36} {k : FrameKind} {i : Instr} {s x : State} (hi : Receives h ws k i)
    (hr : receiving s h = true) (hs : startsFrame k (ws.getD 0 0) = true) (hx : ∀ serve, judgeFrame h k ws serve (hear h ws s) = x) :
    Gives i s (seqEnd h x) := by
  obtain ⟨serve, hi⟩ := hi
  refine gives_of_eq (hi s) ?_
  simp only [receive, hr, hs, if_true, hx]

/-- A frame whose words nobody takes, or that does not start one. -/
theorem Receives.unserved {h : Port} {ws : List W36} {k : FrameKind} {i : Instr} {s : State} (hi : Receives h ws k i) :
    (undrained s h = true → Gives i s (s.onPort h fun q => ws.foldl arriveWord q)) ∧
    (undrained s h = false → startsFrame k (ws.getD 0 0) = false → Gives i s (if receiving s h then hear h ws s else s)) := by
  obtain ⟨serve, hi⟩ := hi
  refine ⟨fun hu => gives_of_eq (hi s) (receive_queues hu), fun hu hs => gives_of_eq (hi s) ?_⟩
  cases hr : receiving s h with
  | true => exact receive_skips hr hs
  | false => exact receive_unheard hr hu

/-! ### What a refusal counts -/

theorem sendMac_fmterr (h : Port) (hd : D28) (pl : List W36) (ref ovr : Bool) (s : State) :
    ((sendMac h hd pl ref ovr s).ses.get h).fmterr = (s.ses.get h).fmterr ∧
    ((sendMac h hd pl ref ovr s).ses.get h).established = (s.ses.get h).established := by
  cases hk : (s.ses.get h).keys with
  | none => simp [sendMac_keyless hk]
  | some ks => simp [sendMac_keyed hk]

/-- A port without a session takes no session error (11 R318). -/
theorem sessionError_unestablished {h : Port} {s : State} (he : (s.ses.get h).established = false) : sessionError h s = s := by
  simp [sessionError, he]

theorem refuseFormat_fmterr {h : Port} {k : FrameKind} {d : D28} {s : State} (he : (s.ses.get h).established = false) :
    ((refuseFormat h k d s).ses.get h).fmterr = (s.ses.get h).fmterr + 1 := by
  unfold refuseFormat
  rw [sessionError_unestablished]
  · split <;> simp [refuseCrc, sendCrc, refuse, sendMac_fmterr]
  · split <;> simp [refuseCrc, sendCrc, refuse, sendMac_fmterr, he]

/-! ### The old key of a renewal (11 R316) -/

theorem authCheck_renewed {k : FrameKind} {ks : Keys} {old : BitVec 128} {t0 p : Nat} {ws : List W36} {e : Ses} {s : State}
    (hc : carriesCrc k = false) (he : e.established = true) (hk : e.keys = some ks) (ho : e.oldKhd = some (old, t0))
    (hn : authIs ws p (macHalves (mac56 ks.khd (authInput ws p))) = false) :
    authCheck s e k ws p = if s.now < t0 ∧ authIs ws p (macHalves (mac56 old (authInput ws p))) = true then .oldKey else .bad := by
  simp only [authCheck, hc, he, hk, ho, hn, Bool.false_eq_true, if_false, Bool.and_eq_true, decide_eq_true_eq]

theorem authCheck_crc {k : FrameKind} {p : Nat} {ws : List W36} {e : Ses} {s : State} (hc : carriesCrc k = true) :
    authCheck s e k ws p = if authIs ws p (crcHalves (crc32 (authInput ws p))) then .ok else .bad := by
  simp only [authCheck, hc, if_true]

/-! ### The warnings of SEQ (11 R311) -/

theorem onSes_congr {h : Port} {f g : Ses → Ses} {s : State} (hfg : f (s.ses.get h) = g (s.ses.get h)) : s.onSes h f = s.onSes h g := by
  simp only [State.onSes, Two.modify, hfg]

section Numbering

variable {h : Port} {s : State} (he : (s.ses.get h).established = true) (hr : (s.ses.get h).rxseq < 0xFFFFFF)
  (ht : (s.ses.get h).txseq ≤ 0xFFFFFF)
include he hr ht

/-- Short of its end, a numbering has no more to bring than a warning. -/
theorem seqEnd_running : seqEnd h s =
    if (decide (0xF00000 < (s.ses.get h).rxseq) && !(s.ses.get h).rxWarn) || (decide (0xF00001 < (s.ses.get h).txseq) && !(s.ses.get h).txWarn) then
      eventAt h 27 (s.onSes h fun e => { e with rxWarn := e.rxWarn || decide (0xF00000 < (s.ses.get h).rxseq),
                                                txWarn := e.txWarn || decide (0xF00001 < (s.ses.get h).txseq) })
    else s := by
  have hend : ¬(0xFFFFFF ≤ (s.ses.get h).rxseq ∨ 0xFFFFFF < (s.ses.get h).txseq) := by omega
  simp only [seqEnd, he, Bool.not_true, Bool.false_eq_true, if_false, Bool.or_eq_true, decide_eq_true_eq, hend]

theorem seqEnd_rxWarns (hx : 0xF00000 < (s.ses.get h).rxseq) (hw : (s.ses.get h).rxWarn = false)
    (hq : (s.ses.get h).txseq ≤ 0xF00001 ∨ (s.ses.get h).txWarn = true) :
    seqEnd h s = eventAt h 27 (s.onSes h fun e => { e with rxWarn := true }) := by
  rw [seqEnd_running he hr ht, if_pos (by simp [hx, hw])]
  refine congrArg (eventAt h 27) (onSes_congr ?_)
  rcases hq with hq | hq <;> simp [hx, hq]

theorem seqEnd_txWarns (hx : 0xF00001 < (s.ses.get h).txseq) (hw : (s.ses.get h).txWarn = false)
    (hq : (s.ses.get h).rxseq ≤ 0xF00000 ∨ (s.ses.get h).rxWarn = true) :
    seqEnd h s = eventAt h 27 (s.onSes h fun e => { e with txWarn := true }) := by
  rw [seqEnd_running he hr ht, if_pos (by simp [hx, hw])]
  refine congrArg (eventAt h 27) (onSes_congr ?_)
  rcases hq with hq | hq <;> simp [hx, hq]

theorem seqEnd_warned (hq : (s.ses.get h).rxseq ≤ 0xF00000 ∨ (s.ses.get h).rxWarn = true)
    (hq' : (s.ses.get h).txseq ≤ 0xF00001 ∨ (s.ses.get h).txWarn = true) : seqEnd h s = s := by
  rw [seqEnd_running he hr ht, if_neg]
  rcases hq with hq | hq <;> rcases hq' with hq' | hq' <;> simp [hq, hq']

end Numbering

/-- A trailer that is no data word has no SEQ to judge (log 136). -/
theorem seqOf_cases (e : Ses) (ws : List W36) (p : Nat) :
    (isData (p + 1) (ws.getD (p + 1) 0) = true → seqOf e ws p = seqCheck e.rxseq e.marks (trSeq (wData (ws.getD (p + 1) 0)))) ∧
    (isData (p + 1) (ws.getD (p + 1) 0) = false → seqOf e ws p = .accepted e.rxseq e.marks) :=
  ⟨fun h => if_pos h, fun h => if_neg (Bool.eq_false_iff.mp h)⟩

/-- Settles O40: a frame out by its parts; a frame in by the order of 11 R312 that turns it away. -/
theorem framesOutAndBadFramesIn : Obligations.FramesOutAndBadFramesIn := by
  unfold Obligations.FramesOutAndBadFramesIn
  refine ⟨fun h hd pl ref ovr ks s => sendMac_frame, ?macFrames, ?crcFrames, ?unserved, fun h k d s => refuseFormat_fmterr, ?oldKey,
    fun k ks old t0 p ws e s => authCheck_renewed, ?warnings, seqOf_cases⟩
  case macFrames =>
    intro h k i ws p s hi hr hs hp
    have hb : BringsMac h ws k i := by
      rcases hi with ⟨rfl, rfl⟩ | ⟨rfl, rfl⟩ | ⟨rfl, rfl⟩ | ⟨rfl, rfl⟩ | ⟨rfl, rfl⟩ | ⟨rfl, rfl⟩ |
        ⟨rfl, ⟨rfl, ha⟩ | ⟨rfl, ha⟩ | ⟨rfl, ha⟩ | ⟨rfl, ha⟩⟩
      exacts [.lease, .read, .write, .arm, .commit, .retire, .give ha, .take ha, .request ha, .refuse ha]
    refine ⟨fun hl => ?_, fun hl ha => ?_, fun hl ha hq => ?_, fun hl ha hq => ?_, fun r m hl ha hq hf => ?_⟩
    · exact hb.receives.gives hr hs fun serve => judgeFrame_short hp hl
    · exact hb.receives.gives hr hs fun serve => judgeFrame_bad hp hl (by simpa using ha)
    · exact hb.receives.gives hr hs fun serve => judgeFrame_duplicate hp hl (by simpa using ha) hb.noCrc (by simpa using hq)
    · exact hb.receives.gives hr hs fun serve => judgeFrame_outOfWindow hp hl (by simpa using ha) hb.noCrc (by simpa using hq)
    · refine hb.receives.gives hr hs fun serve => ?_
      rw [judgeFrame_accepted hp hl (by simpa using ha) hb.noCrc (by simpa using hq)]
      exact serveFormat_refused (by rw [formatOk_noted]; simpa [noted] using hf)
  case crcFrames =>
    intro h k i ws p s hi hr hs hp
    have hb : BringsCrc h ws k i := by
      rcases hi with ⟨rfl, rfl⟩ | ⟨rfl, rfl⟩
      exacts [.hello, .key]
    rw [← hb.payloadLen] at hp
    refine ⟨fun hl => ?_, fun hl ha => ?_, fun hl ha hf => ?_⟩
    · exact hb.receives.gives hr hs fun serve => judgeFrame_short hp hl
    · exact hb.receives.gives hr hs fun serve => judgeFrame_bad hp hl (by simp [authCheck_crc hb.crc, ha])
    · refine hb.receives.gives hr hs fun serve => ?_
      rw [judgeFrame_crc hp hl (by simp [authCheck_crc hb.crc, ha]) hb.crc]
      exact serveFormat_refused (by simpa using hf)
  case unserved =>
    intro h k i ws s hi
    have hb : Receives h ws k i := by
      rcases hi with ⟨rfl, rfl⟩ | ⟨rfl, rfl⟩ | ⟨rfl, rfl⟩ | ⟨rfl, rfl⟩ | ⟨rfl, rfl⟩ | ⟨rfl, rfl⟩ | ⟨rfl, rfl⟩ | ⟨rfl, rfl⟩
      exacts [BringsCrc.hello.receives, BringsCrc.key.receives, BringsMac.lease.receives, BringsMac.read.receives, BringsMac.write.receives,
        BringsMac.arm.receives, BringsMac.commit.receives, BringsMac.retire.receives]
    exact hb.unserved
  case oldKey =>
    intro h k i ws s hi hr hs hl ha
    have hb : BringsMac h ws k i := by
      rcases hi with ⟨rfl, rfl⟩ | ⟨rfl, rfl⟩ | ⟨rfl, rfl⟩ | ⟨rfl, rfl⟩ | ⟨rfl, rfl⟩ | ⟨rfl, rfl⟩ | ⟨rfl, rfl⟩ |
        ⟨rfl, ⟨rfl, ha⟩ | ⟨rfl, ha⟩ | ⟨rfl, ha⟩ | ⟨rfl, ha⟩⟩
      exacts [.lease, .read, .write, .arm, .commit, .retire, .event, .give ha, .take ha, .request ha, .refuse ha]
    exact hb.receives.gives hr hs fun serve => judgeFrame_oldKey rfl hl (by simpa using ha)
  case warnings =>
    rintro h e s rfl he hr ht
    exact ⟨seqEnd_rxWarns he hr ht, seqEnd_txWarns he hr ht, seqEnd_warned he hr ht⟩

end Sys2Proof.Machine

/-! The exchange's first half: HELLO and KEY, and what lapses (09 R261, R263, 11 R315, R316). -/

namespace Sys2Proof.Machine

/-! ### The units that an exchange takes (16 R417) -/

/-- Taking the digital units changes the test controller alone. -/
theorem takeUnits_eq (crypto march later : Bool) (s : State) : ∃ b, takeUnits crypto march later s = { s with bist := b } := by
  have hpre (hit : Running → Bool) : ({ bistPreempt hit s with bist := s.bist } : State) = s := by
    refine forEach_keeps (g := fun x : State => { x with bist := s.bist }) (fun l t => ?_) _ s
    split
    · split
      · obtain ⟨b, hb⟩ := bistIncomplete_eq l 1 t
        rw [hb]
      · rfl
    · rfl
  exact ⟨_, congrArg (fun x : State => { x with bist := (takeUnits crypto march later s).bist }) (hpre _)⟩

theorem unitsServed_eq (march : Bool) (s : State) : ∃ b, unitsServed march s = { s with bist := b } := ⟨_, rfl⟩

/-! ### What the numbering's end and an event leave -/

/-- The port's numbering asks for no warning and no end. -/
def SeqQuiet (e : Ses) : Prop := e.established = true → e.rxseq ≤ 0xF00000 ∧ e.txseq ≤ 0xF00000

theorem seqQuiet_of_closed {e : Ses} (he : e.established = false) : SeqQuiet e := fun h => by simp [he] at h

theorem seqEnd_quiet {h : Port} {s : State} (hq : SeqQuiet (s.ses.get h)) : seqEnd h s = s := by
  cases he : (s.ses.get h).established with
  | false => simp [seqEnd, he]
  | true =>
    obtain ⟨hr, ht⟩ := hq he
    exact seqEnd_warned he (by omega) (by omega) (.inl hr) (.inl (by omega))

/-- A cause of an event changes the port's tags alone. -/
theorem eventAt_get (p q : Port) (tag : Nat) (s : State) : ∃ v, (eventAt p tag s).ses.get q = { s.ses.get q with evs := v } := by
  unfold eventAt
  split
  · cases p <;> cases q <;> exact ⟨_, rfl⟩
  · exact ⟨_, rfl⟩

theorem event_get (q : Port) (tag : Nat) (s : State) : ∃ v, (event tag s).ses.get q = { s.ses.get q with evs := v } := by
  obtain ⟨v0, h0⟩ := eventAt_get .h0 q tag s
  obtain ⟨v1, h1⟩ := eventAt_get .h1 q tag (eventAt .h0 tag s)
  exact ⟨v1, by rw [event, h1, h0]⟩

@[simp] theorem eventAt_ports (p : Port) (tag : Nat) (s : State) : (eventAt p tag s).ports = s.ports := by
  obtain ⟨e, he⟩ := eventAt_eq p tag s
  rw [he]

@[simp] theorem injLeave_sesPorts (h : Port) (s : State) : (injLeave h s).ses = s.ses ∧ (injLeave h s).ports = s.ports := by
  unfold injLeave injEnd
  (repeat' split) <;> exact ⟨rfl, rfl⟩

@[simp] theorem putLatch_sesPorts (p : Path) (q : Quantity) (x : Option (BitVec 20)) (s : State) :
    (putLatch p q x s).ses = s.ses ∧ (putLatch p q x s).ports = s.ports := by
  cases q <;> exact ⟨rfl, rfl⟩

/-- Teardown ends an exchange and keeps its failure's code. -/
theorem teardown_get (h : Port) (s : State) : ((teardown h s).ses.get h).xch = none ∧
    ((teardown h s).ses.get h).fail = (s.ses.get h).fail ∧ (teardown h s).ports = s.ports := by
  simp [teardown, setSnap]

/-- The numbering brings a warning at the most, and then its end or nothing. -/
theorem seqEnd_shape (h : Port) (s : State) : ∃ y, (seqEnd h s = teardown h y ∨ seqEnd h s = y) ∧ y.ports = s.ports ∧
    (y.ses.get h).xch = (s.ses.get h).xch ∧ (y.ses.get h).fail = (s.ses.get h).fail := by
  have hwarn (f : Ses → Ses) (hf : ∀ e, (f e).xch = e.xch ∧ (f e).fail = e.fail) : (eventAt h 27 (s.onSes h f)).ports = s.ports ∧
      ((eventAt h 27 (s.onSes h f)).ses.get h).xch = (s.ses.get h).xch ∧
      ((eventAt h 27 (s.onSes h f)).ses.get h).fail = (s.ses.get h).fail := by
    obtain ⟨v, hv⟩ := eventAt_get h h 27 (s.onSes h f)
    simp [hv, hf]
  simp only [seqEnd]
  (repeat' split)
  · exact ⟨s, .inr rfl, rfl, rfl, rfl⟩
  · exact ⟨_, .inl rfl, hwarn _ fun _ => ⟨rfl, rfl⟩⟩
  · exact ⟨_, .inl rfl, rfl, rfl, rfl⟩
  · exact ⟨_, .inr rfl, hwarn _ fun _ => ⟨rfl, rfl⟩⟩
  · exact ⟨s, .inr rfl, rfl, rfl, rfl⟩

/-- Whatever the numbering asks for, no exchange begins and no word is sent. -/
theorem seqEnd_get {h : Port} {s : State} (hx : (s.ses.get h).xch = none) : ((seqEnd h s).ses.get h).xch = none ∧
    ((seqEnd h s).ses.get h).fail = (s.ses.get h).fail ∧ (seqEnd h s).ports = s.ports := by
  obtain ⟨y, hy, hports, hyx, hyf⟩ := seqEnd_shape h s
  obtain ⟨h1, h2, h3⟩ := teardown_get h y
  rcases hy with hy | hy
  · rw [hy]
    exact ⟨h1, h2.trans hyf, h3.trans hports⟩
  · rw [hy]
    exact ⟨hyx.trans hx, hyf, hports⟩

/-! ### What the aftermath leaves of a session -/

/-- The aftermath reaches a session's event tags and its lease's warning alone. -/
theorem settle_get (h : Port) (s : State) : ∃ v w, (settle s).ses.get h = { s.ses.get h with evs := v, leaseWarn := w } := by
  have hs : ((settle s).ses.get h).still = (s.ses.get h).still := by
    have hses := congrArg State.ses (still_settle s)
    cases h
    · exact congrArg Two.h0 hses
    · exact congrArg Two.h1 hses
  exact ⟨((settle s).ses.get h).evs, ((settle s).ses.get h).leaseWarn, congrArg (fun e : Ses =>
    { e with evs := ((settle s).ses.get h).evs, leaseWarn := ((settle s).ses.get h).leaseWarn }) hs⟩

@[simp] theorem settle_ports (s : State) : (settle s).ports = s.ports := settle_keeps State.ports (fun _ => rfl) s

@[simp] theorem settle_auth (s : State) : (settle s).auth = s.auth := settle_keeps State.auth (fun _ => rfl) s

/-! ### HELLO (09 R263) -/

/-- The exchange that M2 opens. -/
def opened (h : Port) (m1 : List D28) (priv : Nat) (pub : Nat × Nat) (s : State) : Exchange :=
  ⟨m1, m2Payload h (Config.random s.free) pub, ecdh priv (helloKey m1), BitVec.ofNat 384 (join384 (group14 m1 1 0)), Config.random s.free, s.now, none⟩

theorem hello_exec {h : Port} {ws : List W36} {s : State} (hp : PassesCrc s h .hello ws) :
    exec (.hello h ws) s = done (seqEnd h (serveHello h ws (wData (ws.getD 0 0)) (hear h ws s))) :=
  congrArg done (receive_passesCrc hp (serveHello h ws))

theorem serveHello_ownerless {h : Port} {ws : List W36} {d : D28} {s : State} (ho : s.trust.owner = none) :
    serveHello h ws d s = s.onSes h fun e => { e with xch := none, fail := 8 } := by
  simp only [serveHello, onSes_trust, ho, setFail, onSes_onSes]

section Keyed

variable {h : Port} {ws : List W36} {d : D28} {s : State} {o pub : Nat × Nat} {priv : Nat} {m1 : List D28}
  (ho : s.trust.owner = some o) (hk : s.trust.key = some (priv, pub)) (hm : m1 = (payloadOf ws 43).map wData)
include ho hk hm

theorem serveHello_offCurve (hc : onCurve (helloKey m1) = false) :
    ∃ b, serveHello h ws d s = { s with bist := b }.onSes h fun e => { e with xch := none, fail := 1 } := by
  obtain ⟨b, hb⟩ := takeUnits_eq true false false (s.onSes h fun e => { e with xch := none })
  refine ⟨b, ?_⟩
  subst hm
  simp only [serveHello, onSes_trust, ho, hk, hb, hc, Bool.not_false, if_true, setFail]
  exact onSes_onSes { s with bist := b } h (fun e => { e with xch := none }) _

theorem serveHello_opens (hc : onCurve (helloKey m1) = true) :
    ∃ b, serveHello h ws d s = sendCrc h (answerHeader d 43) (dataWords (m2Payload h (Config.random s.free) pub)) 0 false
      ({ s with bist := b, free := s.free + 1 }.onSes h fun e => { e with xch := some (opened h m1 priv pub s) }) := by
  obtain ⟨b, hb⟩ := takeUnits_eq true false false (s.onSes h fun e => { e with xch := none })
  refine ⟨b, ?_⟩
  subst hm
  simp only [serveHello, onSes_trust, ho, hk, hb, hc, Bool.not_true, Bool.false_eq_true, if_false, State.draw]
  exact congrArg (sendCrc h _ _ 0 false) (onSes_onSes { s with bist := b, free := s.free + 1 } h (fun e => { e with xch := none }) _)

end Keyed

theorem length_split384 (x : Nat) : (split384 x).length = 14 := by simp [split384]

theorem length_m2Payload (h : Port) (nd : BitVec 384) (qd : Nat × Nat) : (m2Payload h nd qd).length = 43 := by
  simp [m2Payload, length_split384]

/-- A frame under CRC-32 joins the stream, its payload behind its header. -/
theorem sendCrc_stream (h : Port) (hd : D28) (pl : List W36) (seq : Nat) (ref : Bool) (s : State) :
    ((sendCrc h hd pl seq ref s).ports.get h).stream.length = (s.ports.get h).stream.length + (pl.length + 4) ∧
    (((sendCrc h hd pl seq ref s).ports.get h).stream.drop ((s.ports.get h).stream.length + 1)).take pl.length = pl := by
  rw [sendCrc, queueFrame_stream]
  refine ⟨by simp [frameOf, frameBody], ?_⟩
  rw [List.drop_append, List.drop_eq_nil_of_le (by simp)]
  simp [frameOf, frameBody, List.append_assoc]

/-- A HELLO that opens an exchange is answered by M2. -/
theorem hello_opens {h : Port} {ws : List W36} {o pub : Nat × Nat} {priv : Nat} {m1 : List D28} {s : State} (hp : PassesCrc s h .hello ws)
    (hq : SeqQuiet (s.ses.get h)) (ho : s.trust.owner = some o) (hk : s.trust.key = some (priv, pub)) (hm : m1 = (payloadOf ws 43).map wData)
    (hc : onCurve (helloKey m1) = true) : ∃ t v w, exec (.hello h ws) s = .next t ∧
      t.ses.get h = { s.ses.get h with xch := some (opened h m1 priv pub s), evs := v, leaseWarn := w } ∧
      (t.ports.get h).stream.length = ((hear h ws s).ports.get h).stream.length + 47 ∧
      ((t.ports.get h).stream.drop (((hear h ws s).ports.get h).stream.length + 1)).take 43 =
        dataWords (m2Payload h (Config.random s.free) pub) := by
  obtain ⟨b, hb⟩ := serveHello_opens (h := h) (d := wData (ws.getD 0 0)) (s := hear h ws s) ho hk hm hc
  have hget : (serveHello h ws (wData (ws.getD 0 0)) (hear h ws s)).ses.get h = { s.ses.get h with xch := some (opened h m1 priv pub s) } := by
    rw [hb, sendCrc, queueFrame_ses, onSes_get]
    rw [← hear_ses h ws s]
    rfl
  have hx := hello_exec hp
  rw [seqEnd_quiet (by rw [hget]; exact hq)] at hx
  obtain ⟨v, w, hv⟩ := settle_get h (serveHello h ws (wData (ws.getD 0 0)) (hear h ws s))
  obtain ⟨hlen, htake⟩ := sendCrc_stream h (answerHeader (wData (ws.getD 0 0)) 43) (dataWords (m2Payload h (Config.random s.free) pub)) 0 false
    ({ hear h ws s with bist := b, free := s.free + 1 }.onSes h fun e => { e with xch := some (opened h m1 priv pub s) })
  have h43 : (dataWords (m2Payload h (Config.random s.free) pub)).length = 43 := by simp [dataWords, length_m2Payload]
  rw [h43] at hlen htake
  refine ⟨_, v, w, hx, by rw [hv, hget], ?_, ?_⟩
  · rw [settle_ports, hb]
    exact hlen
  · rw [settle_ports, hb]
    exact htake

/-- A frame that fails with a code opens no exchange. -/
theorem fails_with {i : Instr} {h : Port} {s y : State} (hi : exec i s = done (seqEnd h y)) (hx : (y.ses.get h).xch = none) :
    ∃ t, exec i s = .next t ∧ (t.ses.get h).fail = (y.ses.get h).fail ∧ (t.ses.get h).xch = none ∧ t.ports = y.ports := by
  obtain ⟨hnone, hf, hports⟩ := seqEnd_get hx
  obtain ⟨v, w, hv⟩ := settle_get h (seqEnd h y)
  refine ⟨_, hi, ?_, ?_, (settle_ports _).trans hports⟩
  · rw [hv]
    exact hf
  · rw [hv]
    exact hnone

theorem hello_ownerless {h : Port} {ws : List W36} {s : State} (hp : PassesCrc s h .hello ws) (ho : s.trust.owner = none) :
    ∃ t, exec (.hello h ws) s = .next t ∧ (t.ses.get h).fail = 8 ∧ (t.ses.get h).xch = none := by
  have hserve : serveHello h ws (wData (ws.getD 0 0)) (hear h ws s) = (hear h ws s).onSes h fun e => { e with xch := none, fail := 8 } :=
    serveHello_ownerless ho
  obtain ⟨t, ht, hf, hx, -⟩ := fails_with ((hello_exec hp).trans (by rw [hserve])) (by simp)
  exact ⟨t, ht, by simpa using hf, hx⟩

theorem hello_offCurve {h : Port} {ws : List W36} {o pub : Nat × Nat} {priv : Nat} {m1 : List D28} {s : State} (hp : PassesCrc s h .hello ws)
    (ho : s.trust.owner = some o) (hk : s.trust.key = some (priv, pub)) (hm : m1 = (payloadOf ws 43).map wData)
    (hc : onCurve (helloKey m1) = false) : ∃ t, exec (.hello h ws) s = .next t ∧ (t.ses.get h).fail = 1 ∧ (t.ses.get h).xch = none ∧
      (t.ports.get h).stream.length = ((hear h ws s).ports.get h).stream.length := by
  obtain ⟨b, hb⟩ := serveHello_offCurve (h := h) (d := wData (ws.getD 0 0)) (s := hear h ws s) ho hk hm hc
  obtain ⟨t, ht, hf, hx, hports⟩ := fails_with ((hello_exec hp).trans (by rw [hb])) (by simp)
  exact ⟨t, ht, by simpa using hf, hx, by rw [hports, onSes_ports]⟩

/-! ### KEY and what ends an exchange (11 R315, R316) -/

/-- A KEY's certificate waits for its check, which takes CRYPTO's unit (16 R417). -/
theorem key_waits {h : Port} {ws : List W36} {x : Exchange} {s : State} (hp : PassesCrc s h .key ws) (hq : SeqQuiet (s.ses.get h))
    (hx : (s.ses.get h).xch = some x) : Completes (.key h ws) s (takeUnits true false true ((hear h ws s).onSes h fun e =>
      { e with xch := some { x with cert := some ((payloadOf ws 87).map wData) } })) := by
  have hserve : serveKey h ws (wData (ws.getD 0 0)) (hear h ws s) = takeUnits true false true ((hear h ws s).onSes h fun e =>
      { e with xch := some { x with cert := some ((payloadOf ws 87).map wData) } }) :=
    congrArg (takeUnits true false true) (onSes_congr (by simp [hx]))
  obtain ⟨b, hb⟩ := takeUnits_eq true false true ((hear h ws s).onSes h fun e =>
    { e with xch := some { x with cert := some ((payloadOf ws 87).map wData) } })
  have hexec : exec (.key h ws) s = done (seqEnd h (serveKey h ws (wData (ws.getD 0 0)) (hear h ws s))) :=
    congrArg done (receive_passesCrc hp (serveKey h ws))
  rw [hserve, seqEnd_quiet (by simpa [hb, SeqQuiet] using hq)] at hexec
  exact completes_of_still hexec rfl

theorem exchangeTimeout_ends {h : Port} {x : Exchange} {s : State} (hx : (s.ses.get h).xch = some x) (hc : x.cert = none)
    (ht : s.since x.at_ 1000000 = true) (hr : s.clk.coreStop = false) :
    Gives (.exchangeTimeout h) s (s.onSes h fun e => { e with xch := none }) := by
  refine gives_of_eq rfl ?_
  simp only [hx]
  exact if_pos (by simp [hc, ht, hr])

theorem exchangeTimeout_idle {h : Port} {s : State} (hn : (s.ses.get h).xch = none ∨ s.clk.coreStop = true) : Gives (.exchangeTimeout h) s s := by
  refine gives_of_eq rfl ?_
  rcases hn with hn | hn
  · simp only [hn]
  · split
    · exact if_neg (by simp [hn])
    · rfl

theorem oldKeyWindowEnd_ends {h : Port} {k : BitVec 128} {t0 : Nat} {s : State} (ho : (s.ses.get h).oldKhd = some (k, t0))
    (ht : s.since t0 0 = true) (hr : s.clk.coreStop = false) : Gives (.oldKeyWindowEnd h) s (s.onSes h fun e => { e with oldKhd := none }) := by
  refine gives_of_eq rfl ?_
  simp only [ho]
  exact if_pos (by simp [ht, hr])

theorem oldKeyWindowEnd_idle {h : Port} {s : State} (hn : (s.ses.get h).oldKhd = none ∨ s.clk.coreStop = true) :
    Gives (.oldKeyWindowEnd h) s s := by
  refine gives_of_eq rfl ?_
  rcases hn with hn | hn
  · simp only [hn]
  · split
    · exact if_neg (by simp [hn])
    · rfl

end Sys2Proof.Machine

/-! The exchange's second half: KEY's check, M4 and write authority (09 R262, R264, R265, 11 R316, R317, R330). -/

namespace Sys2Proof.Machine

/-! ### What M4's events and discarded arms leave of a session -/

/-- `f` differs from the session `e` in its event tags, its arms and the tags of the ARMEXP event alone. -/
def Alike (e f : Ses) : Prop := ∃ v cs m, cs.length = e.ctxs.length ∧ f = { e with evs := v, ctxs := cs, armexp := m }

theorem alike_refl (e : Ses) : Alike e e := ⟨e.evs, e.ctxs, e.armexp, rfl, rfl⟩

theorem Alike.trans {e f g : Ses} (hef : Alike e f) (hfg : Alike f g) : Alike e g := by
  obtain ⟨_, _, _, hlen, rfl⟩ := hef
  obtain ⟨v, cs, m, hlen', rfl⟩ := hfg
  exact ⟨v, cs, m, hlen'.trans hlen, rfl⟩

theorem Alike.counted {e f : Ses} (hef : Alike e f) : Alike { e with txseq := e.txseq + 1 } { f with txseq := f.txseq + 1 } := by
  obtain ⟨v, cs, m, hlen, rfl⟩ := hef
  exact ⟨v, cs, m, hlen, rfl⟩

theorem eventAt_alike (p h : Port) (tag : Nat) (s : State) : Alike (s.ses.get h) ((eventAt p tag s).ses.get h) := by
  obtain ⟨v, hv⟩ := eventAt_get p h tag s
  exact ⟨v, _, _, rfl, hv⟩

theorem event_alike (h : Port) (tag : Nat) (s : State) : Alike (s.ses.get h) ((event tag s).ses.get h) :=
  (eventAt_alike .h0 h tag s).trans (eventAt_alike .h1 h tag (eventAt .h0 tag s))

theorem discardArms_alike (h : Port) (s : State) : Alike (s.ses.get h) ((discardArms h s).ses.get h) := by
  simp only [discardArms]
  split
  · exact alike_refl _
  · refine Alike.trans ?_ (eventAt_alike h h 28 _)
    rw [onSes_get]
    exact ⟨_, _, _, List.length_map _, rfl⟩

/-- The session of port `h` may have write authority at its M4 (11 R317). -/
def MayTake (h : Port) (fresh certAuth : Bool) (s : State) : Prop :=
  fresh = true ∧ certAuth = true ∧ (s.auth.holder = some h ∨ (s.auth.holder = none ∧ h = if bitAt s.auth.cfg 16 then .h1 else .h0))

theorem m4Authority_releases {h : Port} {fresh : Bool} {s : State} (hh : s.auth.holder = some h) :
    m4Authority h fresh false s = event 26 (discardArms h { s with auth := { s.auth with holder := none } }) := by
  simp [m4Authority, hh]

theorem m4Authority_grants {h : Port} {fresh certAuth : Bool} {s : State} (hm : MayTake h fresh certAuth s) :
    m4Authority h fresh certAuth s = event 26 (injLeave (otherPort h) { s with auth := { s.auth with holder := some h, granted := true } }) := by
  obtain ⟨rfl, rfl, hh⟩ := hm
  simp [m4Authority, hh]

theorem m4Authority_stands {h : Port} {fresh certAuth : Bool} {s : State} (hh : ¬(s.auth.holder = some h ∧ certAuth = false))
    (hm : ¬MayTake h fresh certAuth s) : m4Authority h fresh certAuth s = s := by
  simp only [m4Authority, MayTake, ← and_assoc] at hh hm ⊢
  rw [if_neg (by simpa using hh), if_neg (by simpa [and_assoc] using hm)]

theorem m4Authority_alike (h : Port) (fresh certAuth : Bool) (s : State) : Alike (s.ses.get h) ((m4Authority h fresh certAuth s).ses.get h) := by
  by_cases hh : s.auth.holder = some h ∧ certAuth = false
  · obtain ⟨hh, rfl⟩ := hh
    rw [m4Authority_releases hh]
    exact (discardArms_alike h { s with auth := { s.auth with holder := none } }).trans (event_alike h 26 _)
  · by_cases hm : MayTake h fresh certAuth s
    · rw [m4Authority_grants hm]
      refine Alike.trans ?_ (event_alike h 26 _)
      rw [(injLeave_sesPorts _ _).1]
      exact alike_refl _
    · rw [m4Authority_stands hh hm]
      exact alike_refl _

theorem startingEvents_alike (h : Port) (s : State) : Alike (s.ses.get h) ((startingEvents h s).ses.get h) := by
  have hfirst : Alike (s.ses.get h) ((if s.flt.first.valid then eventAt h 24 s else s).ses.get h) := by
    split
    · exact eventAt_alike h h 24 s
    · exact alike_refl _
  have hlimp (x : State) : Alike (x.ses.get h) ((if x.limp.active then eventAt h 25 x else x).ses.get h) := by
    split
    · exact eventAt_alike h h 25 x
    · exact alike_refl _
  exact hfirst.trans (hlimp _)

/-! ### Write authority at M4 (11 R316, R317) -/

@[simp] theorem eventAt_auth (p : Port) (tag : Nat) (s : State) : (eventAt p tag s).auth = s.auth := by
  obtain ⟨e, he⟩ := eventAt_eq p tag s
  rw [he]

@[simp] theorem event_auth (tag : Nat) (s : State) : (event tag s).auth = s.auth := by simp [event]

@[simp] theorem discardArms_auth (h : Port) (s : State) : (discardArms h s).auth = s.auth := by
  simp only [discardArms]
  split
  · rfl
  · exact eventAt_auth h 28 _

@[simp] theorem injLeave_auth (h : Port) (s : State) : (injLeave h s).auth = s.auth := by
  unfold injLeave injEnd
  (repeat' split) <;> rfl

@[simp] theorem startingEvents_auth (h : Port) (s : State) : (startingEvents h s).auth = s.auth := by
  simp only [startingEvents]
  (repeat' split) <;> simp

@[simp] theorem sendMac_auth (h : Port) (hd : D28) (pl : List W36) (ref ovr : Bool) (s : State) : (sendMac h hd pl ref ovr s).auth = s.auth := by
  simp only [sendMac]
  split <;> rfl

theorem m4Authority_auth (h : Port) (fresh certAuth : Bool) (s : State) : (m4Authority h fresh certAuth s).auth =
    if s.auth.holder = some h ∧ certAuth = false then { s.auth with holder := none }
    else if fresh = true ∧ certAuth = true ∧ (s.auth.holder = some h ∨ (s.auth.holder = none ∧ h = if bitAt s.auth.cfg 16 then .h1 else .h0))
      then { s.auth with holder := some h, granted := true } else s.auth := by
  by_cases hh : s.auth.holder = some h ∧ certAuth = false
  · rw [if_pos hh]
    obtain ⟨hh, rfl⟩ := hh
    simp [m4Authority_releases hh]
  · rw [if_neg hh]
    by_cases hm : MayTake h fresh certAuth s
    · refine Eq.trans ?_ (if_pos hm).symm
      simp [m4Authority_grants hm]
    · refine Eq.trans ?_ (if_neg hm).symm
      rw [m4Authority_stands hh hm]

/-- No arm stands on port `h`. -/
def Unarmed (e : Ses) : Prop := ∀ t : Fin 24, ctxArmed (ctxAt e t) = false

/-- A context's arm, where it holds one, ends. -/
def ended (c : Ctx) : Ctx := if ctxArmed c then { c with state := .done } else c

theorem ctxArmed_ended (c : Ctx) : ctxArmed (ended c) = false := by
  unfold ended
  split
  · rfl
  · exact Bool.eq_false_iff.mpr ‹_›

theorem unarmed_of_ended {e : Ses} {cs : List Ctx} (he : e.ctxs = cs.map ended) : Unarmed e := by
  intro t
  rw [ctxAt, he, List.getD_eq_getElem?_getD, List.getElem?_map]
  cases cs[t.val]? with
  | none => rfl
  | some c => exact ctxArmed_ended c

/-- The tags of a port's arms, which the ARMEXP event names when they are discarded. -/
def armTags (e : Ses) : BitVec 24 := maskOf 24 fun t => ctxArmed (ctxAt e t)

theorem discardArms_eq (h : Port) (s : State) : discardArms h s = if armTags (s.ses.get h) = 0 then s else
    eventAt h 28 (s.onSes h fun e => { e with ctxs := e.ctxs.map ended, armexp := e.armexp ||| armTags (s.ses.get h) }) := rfl

theorem discardArms_unarmed (h : Port) (s : State) : Unarmed ((discardArms h s).ses.get h) := by
  rw [discardArms_eq]
  split
  next htags =>
    intro t
    have hbit : (armTags (s.ses.get h)).getLsbD t = ctxArmed (ctxAt (s.ses.get h) t) := getLsbD_maskOf _ t.isLt
    rw [← hbit, htags]
    exact BitVec.getLsbD_zero
  next =>
    obtain ⟨v, hv⟩ := eventAt_get h h 28 (s.onSes h fun e =>
      { e with ctxs := e.ctxs.map ended, armexp := e.armexp ||| armTags (s.ses.get h) })
    rw [hv, onSes_get]
    exact unarmed_of_ended rfl

theorem m4Authority_unarmed {h : Port} {s : State} (fresh : Bool) (hh : s.auth.holder = some h) :
    Unarmed ((m4Authority h fresh false s).ses.get h) := by
  rw [m4Authority_releases hh]
  obtain ⟨v, hv⟩ := event_get h 26 (discardArms h { s with auth := { s.auth with holder := none } })
  rw [hv]
  exact discardArms_unarmed h { s with auth := { s.auth with holder := none } }

/-! ### M4 (09 R265, 11 R316, R330) -/

/-- New keys, and all else of a fresh session, before M4 is sent. -/
def rekeyed (h : Port) (x : Exchange) (c : List D28) (s : State) : State :=
  if (s.ses.get h).established then takeKeys h x c s else freshSession h (takeKeys h x c s)

theorem rekeyed_renewal {h : Port} {x : Exchange} {c : List D28} {s : State} (he : (s.ses.get h).established = true) :
    rekeyed h x c s = takeKeys h x c s := if_pos he

theorem rekeyed_fresh {h : Port} {x : Exchange} {c : List D28} {s : State} (he : (s.ses.get h).established = false) :
    rekeyed h x c s = freshSession h (takeKeys h x c s) := if_neg (by simp [he])

@[simp] theorem rekeyed_auth (h : Port) (x : Exchange) (c : List D28) (s : State) : (rekeyed h x c s).auth = s.auth := by
  unfold rekeyed
  split <;> rfl

/-- What M4 gives a session, a renewal's and a fresh one's. -/
theorem rekeyed_get (h : Port) (x : Exchange) (c : List D28) (s : State) : ((rekeyed h x c s).ses.get h).established = true ∧
    ((rekeyed h x c s).ses.get h).keys = some (sessionKeys x c) ∧ ((rekeyed h x c s).ses.get h).xch = none ∧
    ((rekeyed h x c s).ses.get h).rxseq = 1 ∧ ((rekeyed h x c s).ses.get h).txseq = 1 ∧
    ((rekeyed h x c s).ses.get h).auth = bitAt (dw c 1) 11 ∧ ((rekeyed h x c s).ses.get h).inj = bitAt (dw c 1) 10 := by
  unfold rekeyed
  split <;> simp [takeKeys, freshSession]

/-- M4 leaves under the new key from the session that it gives. -/
def answered (h : Port) (x : Exchange) (c : List D28) (s : State) : State :=
  let y := m4Authority h (!(s.ses.get h).established) (bitAt (dw c 1) 11) (rekeyed h x c s)
  sendMac h (pack28 [(26, 3), (22, 1), (0, 1)])
    (dataWords [pack28 [(27, b2n (y.auth.holder == some h)), (16, fld y.auth.cfg 27 17)]]) false false y

theorem establish_eq (h : Port) (x : Exchange) (c : List D28) (s : State) :
    establish h x c s = if (s.ses.get h).established then answered h x c s else startingEvents h (answered h x c s) := by
  cases he : (s.ses.get h).established <;> simp [establish, answered, rekeyed, he]

theorem answered_auth (h : Port) (x : Exchange) (c : List D28) (s : State) :
    (answered h x c s).auth = (m4Authority h (!(s.ses.get h).established) (bitAt (dw c 1) 11) s).auth := by
  rw [answered, sendMac_auth, m4Authority_auth, m4Authority_auth, rekeyed_auth]

theorem establish_auth (h : Port) (x : Exchange) (c : List D28) (s : State) :
    (establish h x c s).auth = (m4Authority h (!(s.ses.get h).established) (bitAt (dw c 1) 11) s).auth := by
  rw [establish_eq]
  split <;> simp [answered_auth]

theorem answered_alike (h : Port) (x : Exchange) (c : List D28) (s : State) :
    Alike { (rekeyed h x c s).ses.get h with txseq := 2 } ((answered h x c s).ses.get h) := by
  obtain ⟨-, hkeys, -, -, htx, -⟩ := rekeyed_get h x c s
  have hm := m4Authority_alike h (!(s.ses.get h).established) (bitAt (dw c 1) 11) (rekeyed h x c s)
  have hk : ((m4Authority h (!(s.ses.get h).established) (bitAt (dw c 1) 11) (rekeyed h x c s)).ses.get h).keys = some (sessionKeys x c) := by
    obtain ⟨v, cs, m, -, hv⟩ := hm
    rw [hv, ← hkeys]
  rw [answered, sendMac_keyed hk, onSes_get, queueFrame_ses]
  have := hm.counted
  rwa [htx] at this

theorem establish_alike (h : Port) (x : Exchange) (c : List D28) (s : State) :
    Alike { (rekeyed h x c s).ses.get h with txseq := 2 } ((establish h x c s).ses.get h) := by
  rw [establish_eq]
  split
  · exact answered_alike h x c s
  · exact (answered_alike h x c s).trans (startingEvents_alike h _)

/-! ### The check of a KEY (09 R262, R264) -/

section Checked

variable {h : Port} {x : Exchange} {c : List D28} {s : State} (hr : s.coreRuns = true) (hx : (s.ses.get h).xch = some x) (hc : x.cert = some c)
include hr hx hc

theorem keyComplete_passes (hv : keyVerdict s h x c = 0) : exec (.keyComplete h) s = done (unitsServed false (establish h x c s)) := by
  simp [exec, execKeyComplete, hr, keyComplete, hx, hc, hv]

/-- What the session is after its M4, and the authority. -/
theorem keyComplete_session (hv : keyVerdict s h x c = 0) : ∃ t e v w, exec (.keyComplete h) s = .next t ∧
    Alike { (rekeyed h x c s).ses.get h with txseq := 2 } e ∧ t.ses.get h = { e with evs := v, leaseWarn := w } ∧
    t.auth = (m4Authority h (!(s.ses.get h).established) (bitAt (dw c 1) 11) s).auth := by
  obtain ⟨b, hb⟩ := unitsServed_eq false (establish h x c s)
  obtain ⟨v, w, hget⟩ := settle_get h (unitsServed false (establish h x c s))
  refine ⟨_, _, v, w, keyComplete_passes hr hx hc hv, establish_alike h x c s, ?_, ?_⟩
  · rw [hget, hb]
  · rw [settle_auth, hb]
    exact establish_auth h x c s

theorem keyComplete_established (hv : keyVerdict s h x c = 0) : ∃ t, exec (.keyComplete h) s = .next t ∧ (t.ses.get h).established = true ∧
    (t.ses.get h).keys = some (sessionKeys x c) ∧ (t.ses.get h).xch = none ∧ (t.ses.get h).rxseq = 1 ∧
    (t.ses.get h).auth = bitAt (dw c 1) 11 ∧ (t.ses.get h).inj = bitAt (dw c 1) 10 := by
  obtain ⟨t, _, v, w, ht, ⟨_, _, _, -, rfl⟩, hget, -⟩ := keyComplete_session hr hx hc hv
  obtain ⟨he, hkeys, hnone, hrx, -, hauth, hinj⟩ := rekeyed_get h x c s
  refine ⟨t, ht, ?_⟩
  rw [hget]
  exact ⟨he, hkeys, hnone, hrx, hauth, hinj⟩

theorem keyComplete_renewed {ks : Keys} (hv : keyVerdict s h x c = 0) (he : (s.ses.get h).established = true)
    (hk : (s.ses.get h).keys = some ks) : ∃ t, exec (.keyComplete h) s = .next t ∧ (t.ses.get h).oldKhd = some (ks.khd, s.now + 1000) ∧
      (t.ses.get h).txseq = 2 ∧ (t.ses.get h).leaseAt = (s.ses.get h).leaseAt ∧ (t.ses.get h).ctxs.length = (s.ses.get h).ctxs.length := by
  obtain ⟨t, _, v, w, ht, ⟨_, cs, _, hlen, rfl⟩, hget, -⟩ := keyComplete_session hr hx hc hv
  refine ⟨t, ht, ?_⟩
  rw [hget]
  rw [rekeyed_renewal he] at hlen ⊢
  rw [takeKeys, onSes_get] at hlen ⊢
  exact ⟨by simp [he, hk], rfl, rfl, hlen⟩

theorem keyComplete_authority (hv : keyVerdict s h x c = 0) : ∃ t, exec (.keyComplete h) s = .next t ∧
    t.auth = (m4Authority h (!(s.ses.get h).established) (bitAt (dw c 1) 11) s).auth ∧
    ((s.ses.get h).established = false → (t.ses.get h).leaseValid = (!s.clk.guardStop) ∧ (t.ses.get h).leaseAt = guardNow s) := by
  obtain ⟨t, _, v, w, ht, ⟨_, _, _, -, rfl⟩, hget, hauth⟩ := keyComplete_session hr hx hc hv
  refine ⟨t, ht, hauth, fun he => ?_⟩
  rw [hget, rekeyed_fresh he]
  simp only [freshSession, onSes_get]
  exact ⟨rfl, rfl⟩

/-- A failed check ends the exchange with its code, and is a session error of an established session. -/
theorem keyComplete_fails (hv : keyVerdict s h x c ≠ 0) : Gives (.keyComplete h) s (unitsServed false (sessionError h
    (s.onSes h fun e => { e with fail := keyVerdict s h x c, xch := none, authfail := e.authfail + 1 }))) := by
  refine gives_of_eq rfl ?_
  simp only [hr, if_true, keyComplete, hx, hc]
  rw [if_neg hv]

end Checked

theorem keyComplete_unasked {h : Port} {s : State} (hn : ∀ x, (s.ses.get h).xch = some x → x.cert = none) (hr : s.coreRuns = true) :
    Gives (.keyComplete h) s (unitsServed false s) := by
  refine gives_of_eq rfl ?_
  have hs : keyComplete h s = s := by
    unfold keyComplete
    split
    next x hx => rw [hn x hx]
    next => rfl
  rw [if_pos hr, hs]

theorem keyComplete_stopped {h : Port} {s : State} (hn : s.clk.coreStop = true) : Gives (.keyComplete h) s s :=
  gives_of_eq rfl (if_neg (by simp [State.coreRuns, hn]))

section Verdicts

variable {h : Port} {x : Exchange} {c : List D28} {s : State}

theorem keyVerdict_format (hf : certFormat c = false) : keyVerdict s h x c = 2 := by simp [keyVerdict, hf]

theorem keyVerdict_key (hf : certFormat c = true) (hk : onCurve (certKey c) = false) : keyVerdict s h x c = 3 := by simp [keyVerdict, hf, hk]

theorem keyVerdict_ownerless (hf : certFormat c = true) (hk : onCurve (certKey c) = true) (ho : s.trust.owner = none) :
    keyVerdict s h x c = 4 := by
  simp [keyVerdict, hf, hk, ho]

variable {owner : Nat × Nat} (hf : certFormat c = true) (hk : onCurve (certKey c) = true) (ho : s.trust.owner = some owner)
include hf hk ho

theorem keyVerdict_unsigned (hs : ecdsaVerify owner (packData (c.take 31)) (join384 (group14 c 31 0)) (join384 (group14 c 31 1)) = false) :
    keyVerdict s h x c = 4 := by
  simp [keyVerdict, hf, hk, ho, hs]

variable (hs : ecdsaVerify owner (packData (c.take 31)) (join384 (group14 c 31 0)) (join384 (group14 c 31 1)) = true)
include hs

theorem keyVerdict_arb (ha : deviceArb s < fld (dw c 1) 27 21 ∨ fld (dw c 1) 20 14 < deviceArb s) : keyVerdict s h x c = 5 := by
  have hadm : arbAdmits s (dw c 1) = false := by
    rw [← Bool.not_eq_true]
    simp only [arbAdmits, Bool.and_eq_true, decide_eq_true_eq]
    omega
  simp [keyVerdict, hf, hk, ho, hs, hadm]

variable (hlo : fld (dw c 1) 27 21 ≤ deviceArb s) (hhi : deviceArb s ≤ fld (dw c 1) 20 14)
include hlo hhi

theorem keyVerdict_port (hp : bitAt (dw c 1) (if h = .h0 then 12 else 13) = false) : keyVerdict s h x c = 6 := by
  have hadm : arbAdmits s (dw c 1) = true := by simp [arbAdmits, hlo, hhi]
  simp [keyVerdict, hf, hk, ho, hs, hadm, hp]

theorem keyVerdict_transcript (hp : bitAt (dw c 1) (if h = .h0 then 12 else 13) = true) : keyVerdict s h x c =
    if ecdsaVerify (certKey c) (packData (x.m1 ++ x.m2 ++ c.take 59)) (join384 (group14 c 59 0)) (join384 (group14 c 59 1)) then 0 else 7 := by
  have hadm : arbAdmits s (dw c 1) = true := by simp [arbAdmits, hlo, hhi]
  simp only [keyVerdict, hf, hk, ho, hs, hadm, hp, Bool.not_true, Bool.false_eq_true, if_false]
  rw [show packData (x.m1 ++ x.m2 ++ c.take 59) = transcript x c from rfl]
  cases ecdsaVerify (certKey c) (transcript x c) (join384 (group14 c 59 0)) (join384 (group14 c 59 1)) <;> rfl

end Verdicts

theorem certFormat_iff (c : List D28) : certFormat c = true ↔ fld (dw c 0) 27 12 = 0xC3A7 ∧ fld (dw c 0) 11 8 = 1 ∧ fld (dw c 0) 7 0 = 0 ∧
    fld (dw c 1) 27 21 ≤ 64 ∧ fld (dw c 1) 20 14 ≤ 64 ∧ fld (dw c 1) 27 21 ≤ fld (dw c 1) 20 14 ∧ fld (dw c 1) 9 0 = 0 ∧
    fld (dw c 2) 7 0 = 0 ∧ fld (dw c 16) 7 0 = 0 ∧ fld (dw c 30) 7 0 = 0 ∧ fld (dw c 44) 7 0 = 0 ∧ fld (dw c 58) 7 0 = 0 := by
  simp [certFormat, arbFormat, and_assoc]

/-- Settles O42: HELLO and KEY by the receiver's rule for a frame that its check passes, M4 by what each of its steps leaves of the session,
the verdicts by the order of the checks. -/
theorem exchangeCommands : Obligations.ExchangeCommands := by
  refine ⟨?_, ?_, ?_, ?_, ?_, ?_, ?_, ?_, ?_, ?_, ?_, ?_, ?_, ?_, ?_, ?_, ?_, ?_, ?_, ?_, ?_, ?_⟩
  · intro h ws o pub qh priv m1 m2 s hp he ho hk hm hqh hc hm2
    subst hqh hm2
    obtain ⟨t, v, w, ht, hget, hlen, htake⟩ := hello_opens hp (seqQuiet_of_closed he) ho hk hm hc
    exact ⟨t, ht, by rw [hget]; rfl, hlen, htake⟩
  · exact fun h ws s hp _ ho => hello_ownerless hp ho
  · exact fun h ws x s hp he hx => key_waits hp (seqQuiet_of_closed he) hx
  · exact fun h x c s hr hx hc hv => ⟨gives_of_eq (keyComplete_passes hr hx hc hv) rfl, keyComplete_established hr hx hc hv⟩
  · intro h x c s hr hx hc hv he
    have hfail := keyComplete_fails hr hx hc hv
    rwa [sessionError_unestablished (by simpa using he)] at hfail
  · exact fun h x s hx hc ht hr => exchangeTimeout_ends hx hc ht hr
  · exact fun h k t0 s ho ht hr => oldKeyWindowEnd_ends ho ht hr
  · exact fun h ws o k priv m1 s hp ho hk hm hc => hello_offCurve hp ho hk hm hc
  · intro h ws o pub priv m1 s hp he hrx htx ho hk hm hc
    obtain ⟨t, v, w, ht, hget, -, -⟩ := hello_opens hp (fun _ => ⟨hrx, htx⟩) ho hk hm hc
    refine ⟨t, ht, ?_⟩
    rw [hget]
    exact ⟨he, rfl, rfl, rfl, rfl⟩
  · exact fun h ws x s hp _ hrx htx hx => key_waits hp (fun _ => ⟨hrx, htx⟩) hx
  · exact fun h x c ks s hr hx hc hv he hk => keyComplete_renewed hr hx hc hv he hk
  · exact fun h x c s hr hx hc hv _ => keyComplete_fails hr hx hc hv
  · exact fun h s hn hr => keyComplete_unasked hn hr
  · exact fun h s hn => exchangeTimeout_idle (.inl hn)
  · exact fun h s hn => oldKeyWindowEnd_idle (.inl hn)
  · exact fun h x c s hr hx hc hv => keyComplete_authority hr hx hc hv
  · exact m4Authority_auth
  · exact fun h fresh t s hh => m4Authority_unarmed fresh hh t
  · exact fun h s hn => ⟨exchangeTimeout_idle (.inr hn), oldKeyWindowEnd_idle (.inr hn), keyComplete_stopped hn⟩
  · exact fun h x c s => ⟨keyVerdict_format, keyVerdict_key, keyVerdict_ownerless⟩
  · intro h x c owner s hf hk ho
    refine ⟨keyVerdict_unsigned hf hk ho, fun hs => ⟨keyVerdict_arb hf hk ho hs, fun hlo hhi => ⟨keyVerdict_port hf hk ho hs hlo hhi, ?_⟩⟩⟩
    exact keyVerdict_transcript hf hk ho hs hlo hhi
  · exact certFormat_iff

end Sys2Proof.Machine
